-- ==== Sys2Proof/Word.lean ====
section
/-! DEFINITION. The word and byte types, and the sparse table every store of the model is kept in. -/

namespace Sys2Proof

/-- A byte (R8). -/
abbrev Byte := BitVec 8

/-- A register is 32 bits wide (R4). -/
abbrev Word := BitVec 32

/-- A sparse table: key and value pairs, keys rising, no entry equal to what an unlisted key
reads as. The operations and the invariant stand in Machine/Ops.lean. -/
abbrev Tbl (α : Type) := List (Nat × α)

end Sys2Proof
end

