-- ==== Sys2Proof/Syntax.lean ====
section
/-! DEFINITION. The commands of the block, one constructor per row of spec/opcode_table.json, with
the operands the rule of the row gives it: the unit it concerns, and what the world outside the
module supplies (measured values, frames, levels). -/

namespace Sys2Proof

/-- Who makes a bus access or writes a register (R29 to R34, R42). -/
inductive Initiator where
  | ap0 | ap1 | cope | saf | pour | cru | ldl | pln | can | evr | save | runner | pmc | mgd
  /-- Pourline in an acyclic service, whose traffic has a class of its own (Table SYS-8). -/
  | plnAcyclic
  deriving DecidableEq, Repr

/-- What a cell's converters measured for one result. Numbers are binary64 encodings. -/
structure Meas where
  /-- Primary mean over the window, in the quantity of the mode: V, mA, ohm, µV. -/
  prim : BitVec 64
  /-- Secondary value; in an output mode the readback in mA or V. -/
  sec : BitVec 64
  /-- Lead pair A-B, ohm. -/
  rab : BitVec 64
  /-- Cold-junction sensor, degrees Celsius. -/
  cj : BitVec 64
  /-- V(A-D). -/
  vad : BitVec 64
  /-- V(A-B). -/
  vab : BitVec 64
  /-- AO_I headroom in V, AO_V load current in mA, DO switch current in A. -/
  head : BitVec 64
  /-- Monitor measurement, mA or V. -/
  mon : BitVec 64
  /-- The current limit of an AO_V stage acts. -/
  limited : Bool
  /-- The sense voltage has the wrong sign. -/
  senseRev : Bool
  /-- The loop supply is in regulation. -/
  loopOk : Bool
  deriving DecidableEq, Repr

/-- What the counter cells counted since the last window end beyond what the commands of the model show:
counter and amount; fabric port, read and written bytes; class 0 and 1 bytes of ports 10 and 11. -/
structure PmcAdds where
  counts : List (BitVec 7 × Nat)
  ports : List (BitVec 4 × Nat × Nat)
  c10 : Nat
  c11 : Nat
  deriving DecidableEq, Repr

/-- The regions that a fault resets (R16). -/
inductive Region where
  | field | network | cope
  deriving DecidableEq, Repr

/-- The clocks that the power/clock controller monitors (Table SYS-4). -/
inductive Clock where
  | aon | app | fab | fld | net | tim | cop
  deriving DecidableEq, Repr

/-- The origins of a module fault that no other command stands for (R16, Table SYS-3). -/
inductive FaultOrigin where
  /-- The drag region as a whole: cause 0x01, location 0xE7F. -/
  | drag
  /-- The safety region: cause 0x02, location 0xF7F. -/
  | safety
  /-- The power/clock controller's self-check: cause 0x07. -/
  | selfCheck
  deriving DecidableEq, Repr

/-- What a memory word holds when it is read: no error, or an error that has come up since (R34). -/
inductive Ecc where
  | none | single | double
  deriving DecidableEq, Repr

/-- Where a command of the cope processor comes from (R452, R453): at the service port, the body, from VER to its CRC-32C, of
an untagged frame of EtherType 0x88B6 addressed to NET_MAC, or any frame, from its DA on; or the entry at the head of Q52 or
Q53. -/
inductive CopeSrc where
  | port (body : List Byte)
  | frame (bytes : List Byte)
  | q52
  | q53
  deriving DecidableEq, Repr

/-- A service request (Table PLN-12): the station that sends it, REQ_ID, TARGET as the word of the table, ARG and
the data; and of its frame the sender's MAC address, station status word and SRC_TS, and the port of arrival (Tables PLN-4
and PLN-9). -/
structure SvcReq where
  mac : BitVec 48
  status : Word
  ts : Word
  p2 : Bool
  sender : BitVec 10
  reqId : BitVec 16
  target : BitVec 12
  arg : Word
  data : List Byte
  deriving DecidableEq, Repr

/-- What the partner last reported of itself over CTRL (R311, R325). -/
structure Partner where
  role : Nat
  sstate : Nat
  sideA : Bool
  own : Bool
  mode : Nat
  /-- PAT_DIGEST, identity of the image in force, cope firmware version, MAC address. -/
  digest : Nat
  image : Nat
  fw : Nat
  mac : Nat
  /-- Offers PRIMARY while resolving. -/
  offer : Bool
  deriving DecidableEq, Repr

/-- What a CTRL frame carries (R311, R318, R320, R321, R325, R328, R393). -/
inductive CtrlMsg where
  /-- The partner's status, its MGD_STAT.SYNC, and the measured time offset in ns (R339). -/
  | status (p : Partner) (sync : Bool) (theta : Int)
  /-- A force table entry of the primary: the ts32 of the stack at which the change took effect, ID, CTL, two location
  words, value. -/
  | force (stack : Word) (n : BitVec 9) (id ctl loc0 loc1 vlo vhi : Word)
  /-- A station mode change of the primary: old and new mode and its cause. -/
  | mode (old new cause : BitVec 4)
  /-- Live state and epoch of a remote station. -/
  | epoch (station : BitVec 10) (live : Bool) (value : Word)
  /-- An entry written into Q16 to Q27 and its data buffer. -/
  | queueEntry (q : BitVec 6) (idx : Word) (entry data : List Byte)
  /-- TAKE: cause and cell of the switchover. -/
  | take (cause : BitVec 8) (cell : BitVec 5)
  /-- The partner requests self-checks after a vector or a field mismatch. -/
  | selfCheck (vector : Bool) (cell : BitVec 5)
  | switchReq
  | fieldLoss
  /-- A cell fault of an output stage of the primary; `pass`: the standby's stage test of the cell. -/
  | cellFault (cell : BitVec 5) (pass : Bool)
  /-- The standby starts a resynchronisation (R314). -/
  | resync
  | download (image : List Byte)
  | downloadResult (result : BitVec 2) (reason : BitVec 16)
  deriving DecidableEq, Repr

/-- A bus access: a read of `n` bytes, or a write of bytes; of AP0 and AP1 also what its cache does to the lines of
`n` bytes: the runtime's cache calls, and `cleanInval` for an eviction as well (R144). -/
inductive BusOp where
  | read (n : Nat)
  | write (data : List Byte)
  | clean (n : Nat)
  | inval (n : Nat)
  | cleanInval (n : Nat)
  deriving DecidableEq, Repr

/-- The pattern key as it answers at power good: its identification and its two slots. -/
structure KeyIn where
  ident : BitVec 24
  slot0 : List Byte
  slot1 : List Byte
  deriving DecidableEq, Repr

/-- The data of a received CAN frame, and whether its arbitration field ended before the last swap of the filter lists
(R379). -/
structure CanRx where
  data : List Byte
  former : Bool
  deriving DecidableEq, Repr

/-- How an attempt to send a CAN frame ends (R383, R391). `uncounted`: an error by which ISO 11898-1 leaves TEC as it is,
such as a missing acknowledgement of an error passive transmitter that sees no dominant bit in its error flag. -/
inductive TxEnd where
  | valid | lost | error | uncounted
  deriving DecidableEq, Repr

/-- An attempt to send a CAN frame that ends: how, and how many ns ago its start of frame was sent. -/
structure TxOutcome where
  age : Word
  how : TxEnd
  deriving DecidableEq, Repr

/-- What an Announce message carries for the data set comparison of IEEE 1588-2019 (R332). Identities are
read with byte 0 lowest. -/
structure AnnounceMsg where
  domain : BitVec 8
  prio1 : BitVec 8
  cls : BitVec 8
  acc : BitVec 8
  var : BitVec 16
  prio2 : BitVec 8
  gm : BitVec 64
  steps : BitVec 16
  sender : BitVec 64
  deriving DecidableEq, Repr

/-- A line of a COPY unit: its address and its 64 bytes (Table RUN-4). -/
structure CopyLine where
  addr : BitVec 36
  bytes : List Byte
  deriving DecidableEq, Repr

/-- A loop state record of a COPY unit: the loop, its sample count, its registers; in a resynchronisation also the model
history, whether FALLBACK acts by SUBST, and the failure window, newest first (R312, R314). -/
structure LoopCopy where
  loop : BitVec 8
  sample : Word
  words : List Word
  hist : List Word
  subst : Bool
  win : List Bool
  deriving DecidableEq, Repr

/-- What a COPY unit is of: the task, and the ts32 of the primary's commit (R313). -/
structure CopyHead where
  task : BitVec 8
  commit : Word
  deriving DecidableEq, Repr

/-- A self-check of the module itself: the lockstep core test, and the readings of the two converters (R318). -/
structure OwnCheck where
  core : Bool
  reading : BitVec 64
  second : BitVec 64
  deriving DecidableEq, Repr

/-- The commands, in the order of spec/opcode_table.json; each docstring names the rule of the row. -/
inductive Instr where
  /-- R4. A byte or halfword access to a register window leaves the register unchanged, reads 0 and completes with a
  slave error. A byte (or, with `half`, halfword) access; `write`: the value written, none for a read. -/
  | subWordAccess (who : Initiator) (half : Bool) (write : Option (BitVec 16)) (addr : BitVec 36)
  /-- R5. A write to a register that has no row of its own acts according to its access code. A word written by `who`;
  `priv`: by privileged code, or by the cope processor with the management privilege. -/
  | registerWrite (who : Initiator) (priv : Bool) (addr : BitVec 36) (value : Word)
  /-- R34. An initiator reads or writes memory, with ECC checking and domain and partition tests. A read, a write, or an
  operation of a core's cache; `ecc`: an error that has come up in the first ECC word since it was last read, or in the
  core's cache where that holds the data. -/
  | memoryAccess (who : Initiator) (priv : Bool) (addr : BitVec 36) (op : BusOp) (ecc : Ecc)
  /-- R34. The background scrubber reads a memory word, writes back corrected errors and records uncorrectable ones. The
  scrubber reads the ECC word at `addr`; `ecc`: what has come up in it. -/
  | scrubRead (addr : BitVec 36) (ecc : Ecc)
  /-- R17. The drag plane stops, outputs go to substitute states, SDOs de-energise, ALIVE_OUT drops, the fault is
  recorded and the module halts. -/
  | moduleFault (origin : FaultOrigin)
  /-- R15. A block fault isolates the block, resets its region, or raises a module fault, according to Table SYS-2. -/
  | blockFault (block : Fin 27)
  /-- R16. A region is held in reset; transactions targeting it fail and its blocks are re-initialised from the pattern.
  -/
  | regionReset (region : Region)
  /-- R16. Re-initialisation of a reset region completes and the region runs again. `fault`: the key address from which
  reads fault. -/
  | regionResetComplete (region : Region) (fault : Option (BitVec 24))
  /-- R19. No edge of a monitored clock arrives within 4 AON periods; a module fault or region reset follows. -/
  | clockLoss (clock : Clock)
  /-- R19. The safety watchdog clock monitor sees no SAF edge within 4 AON periods, opens the high-side switches and
  raises a module fault. -/
  | safClockLoss
  /-- R17. A fabric transaction not completed within 10 ms raises a module fault with cause 0x04. -/
  | fabricTimeout
  /-- R30. A class 2 or class 3 request that has waited 512 FAB cycles takes the next grant as class 1. -/
  | fabricPromotion (port : Fin 10) (cls : BitVec 2)
  /-- R20. A domain's window ends; the domain is gated, or enters DRAINING if transactions are in flight. `busy`:
  transactions are in flight. -/
  | domainGate (domain : Fin 14) (busy : Bool)
  /-- R21. The sequencer wakes a gated domain 2 µs before its window. -/
  | domainWake (domain : Fin 14)
  /-- R24. The last in-flight transaction of a draining domain completes, and the domain becomes GATED or OFF. -/
  | drainComplete (domain : Fin 14)
  /-- R26. A domain's next window falls due while its gating drain is incomplete; the domain stays awake. -/
  | drainLapse (domain : Fin 14)
  /-- R28. A write of SYS_PDREQ requests OFF or ON per domain; a request for a referenced domain is refused and sets
  SYS_PDERR. `busy`: domains with transactions in flight. -/
  | pdreqWrite (who : Initiator) (off : BitVec 14) (busy : BitVec 14)
  /-- R27. A domain powered up from OFF completes power-up and its blocks are cold-initialised. -/
  | domainPowerUpDone (domain : Fin 14)
  /-- R38. A producer index write is tested by distance and accepted, treated as a full ring, or ignored with IDXERR. -/
  | queuePidxWrite (who : Initiator) (queue : BitVec 6) (value : Word)
  /-- R38. A consumer index write is accepted when it lies within the fill, and is otherwise ignored with IDXERR. -/
  | queueCidxWrite (who : Initiator) (queue : BitVec 6) (value : Word)
  /-- R43. A write of SYS_BLKRST in STOP re-initialises isolated blocks from the pattern. -/
  | blkrstWrite (who : Initiator) (mask : BitVec 26)
  /-- R459. V_IN holds at 17.5 V or more for 20 ms and start-up begins. The levels of ID9 to ID0, ID_PAR and
  PAIR_PRESENT, the side, and the key as it is in place. -/
  | powerGood (straps : BitVec 10) (idPar : Bool) (present : Bool) (sideA : Bool) (key : Option KeyIn)
  /-- R67. The cope processor finishes booting a verified bank, and pattern loading and the event recorder start. -/
  | copeBootComplete
  /-- R55. A slot has been staged and verified, and is accepted or refused; a fallback may follow. `fault`: the key
  address from which reads fault. -/
  | patternLoadComplete (fault : Option (BitVec 24))
  /-- R75. The consistency check ends with acceptance or refusal, and REASON and PAT_RSNARG are set. `readback`: the
  lattice returns what was written to it; `wpHigh`: KEY_WP# reads high while driven low. -/
  | checkComplete (readback : Bool) (wpHigh : Bool)
  /-- R67. The power/clock controller sets domains from SYSTEM.PDREQ, initialises blocks and configures queues. -/
  | dragPlaneStart
  /-- R325. The pair role is resolved at start from the straps, the link and the pair lines. -/
  | roleResolve
  /-- R61. RST_IN# low for 10.0 µs or longer starts a save with cause RST_IN and resets the module. RST_IN# has been low
  for `low` tenths of a µs. -/
  | rstIn (low : Word)
  /-- R71. SYS_RUNCTL.RUN_REQ in STOP starts the consistency check. -/
  | runReq (who : Initiator) (checkOnly : Bool)
  /-- R130. SYS_RUNCTL.STOP_REQ in RUN starts an orderly STOP, or cancels a check in progress. -/
  | stopReq (who : Initiator)
  /-- R73. SYS_RUNCTL.RELOAD in STOP or NONE loads a slot without disturbing the pattern in force. -/
  | reload (who : Initiator) (slot : BitVec 2)
  /-- R73. A reload ends: on acceptance the drag plane restarts cold from the new pattern; on refusal the pattern in
  force stays. The operands are those of PATTERN_LOAD_COMPLETE and CHECK_COMPLETE. -/
  | reloadComplete (fault : Option (BitVec 24)) (readback : Bool) (wpHigh : Bool)
  /-- R130. When no pour remains in progress the runtime writes the state save and MODE becomes STOP. `writeError`: the
  copy of the state save could not be written. -/
  | orderlyStopComplete (writeError : Bool)
  /-- R79. At a snapshot instant the inputs are latched and copied, with a pour header, into the task's input region. -/
  | snapshot (task : BitVec 5)
  /-- R79. The snapshot transfer of a task ends and its pour is released on its pair. -/
  | pourRelease (task : BitVec 5)
  /-- R89. The runtime writes POUR_DONE to end the execution; a write for a task that is not executing sets BADDONE. -/
  | pourDone (who : Initiator) (task : BitVec 5)
  /-- R88. A pour's consumed execution time reaches its budget C and the pour is demoted. -/
  | budgetExhausted (task : BitVec 5)
  /-- R89. At a commit stack the sequencer cleans, forces, filters and stages outputs, and they take effect at the
  commit instant. -/
  | commit (task : BitVec 5)
  /-- R92. The sequencer takes a trigger entry from Q56–Q59 and accepts, holds, coalesces or discards it. -/
  | triggerEntry
  /-- R92. A held trigger becomes conforming and is accepted, fixing its pour's snapshot and commit instants. -/
  | heldTriggerAccept (task : BitVec 5)
  /-- R91. A write of POUR_SWTRIG produces one software trigger entry in Q59 per bit set. -/
  | pourSwtrig (who : Initiator) (mask : Word)
  /-- R81. A hyperperiod begins; a pending re-anchor takes effect. -/
  | hyperperiodStart
  /-- R81. |POUR_OFFSET| falls below 4 ns and slewing ends. -/
  | slewComplete
  /-- R108. At a swap boundary each pending table is swapped, refused or deferred. -/
  | swapBoundary
  /-- R107. A write of POUR_SWAPDONE bit 4–7 declares a shadow complete and sets READY. -/
  | pourSwapdone (who : Initiator) (mask : BitVec 8)
  /-- R108. A write of POUR_SWAPREQ marks a table pending, or refuses it at once when its block is not enabled. -/
  | pourSwapreq (who : Initiator) (mask : BitVec 8)
  /-- R113. The sequencer watchdog expires and causes reset cause 5. -/
  | sequencerWatchdog
  /-- R127. PRG_MODECTL.SAFE_REQ in RUN enters SAFE. `priv`: the cope processor has the management privilege. -/
  | safeReq (who : Initiator) (priv : Bool)
  /-- R129. PRG_MODECTL.RESUME in SAFE returns to RUN when no safety demand is active, and otherwise sets RESUMEREF.
  `priv`: the cope processor has the management privilege. -/
  | resume (who : Initiator) (priv : Bool)
  /-- R128. PRG_MODECTL.TO_STOP starts an orderly STOP from SAFE, or leaves a HALT not caused by a module fault to STOP.
  `priv`: the cope processor has the management privilege. -/
  | toStop (who : Initiator) (priv : Bool)
  /-- R128. PRG_MODECTL.HALT_REQ enters HALT from RUN or SAFE. `priv`: the cope processor has the management privilege.
  -/
  | haltReq (who : Initiator) (priv : Bool)
  /-- R142. Task code raises a trap; the trap registers are written and the station enters HALT. `pair`: AP1. -/
  | programTrap (task : BitVec 5) (pair : Bool) (cause : BitVec 8) (pc : BitVec 36) (addr : BitVec 36)
  /-- R132. The application watchdog expires and causes reset cause 3. `pair`: AP1. -/
  | applicationWatchdog (pair : Bool) (task : BitVec 5)
  /-- R137. A write of PRG_FnCTL applies the force entry, with its value, from the next stack. -/
  | forceCtlWrite (who : Initiator) (entry : BitVec 9) (value : Word)
  /-- R140. PRG_DLCTL.START opens a download in STOP when nothing is busy. -/
  | dlctlStart (who : Initiator)
  /-- R140. PRG_DLCTL.APPLY verifies and checks the staged image. -/
  | dlctlApply (who : Initiator)
  /-- R140. PRG_DLCTL.ABORT discards the staged image. -/
  | dlctlAbort (who : Initiator)
  /-- R140. Verification and check of a staged image end, with acceptance, refusal or a NOFORCE conflict. The operands
  are those of CHECK_COMPLETE. -/
  | dlCheckComplete (readback : Bool) (wpHigh : Bool)
  /-- R140. Segments are loaded and variables initialised, and the downloaded image comes into force. -/
  | dlLoadComplete
  /-- R147. At a CRUCIBLE occurrence the stage phase writes each loop's previous output towards its destination.
  `entry`: the index of the CRUCIBLE entry in the timetable. -/
  | crucibleStage (entry : BitVec 9)
  /-- R147. At the sample instant staged outputs take effect, sources are latched and the loops are evaluated. The first
  `done` loops of the group complete in time. -/
  | crucibleSample (entry : BitVec 9) (done : BitVec 9)
  /-- R166. A write of CRU_LCTL.MODE places a pending mode request for the next sample. -/
  | loopModeWrite (who : Initiator) (loop : BitVec 8) (mode : BitVec 3)
  /-- R171. Writing 1 to LnSTAT.PLAUS clears it and reseeds the model. -/
  | plausClear (who : Initiator) (loop : BitVec 8)
  /-- R151. A read of CRU_LI_LO pairs the next read of CRU_LI_HI with the same integrator value. -/
  | integratorRead (who : Initiator) (loop : BitVec 8)
  /-- R192. A cell powers its converters and excitation 20 µs before its window. -/
  | cellPowerOn (cell : BitVec 5)
  /-- R194. At a ready instant a cell forms its result, value and status word. `m`: what the converters measured. -/
  | cellResult (cell : BitVec 5) (m : Meas)
  /-- R215. A ready instant passes without a result and STALE is set; three in a row make a cell fault. -/
  | resultMissing (cell : BitVec 5)
  /-- R215. A faulted cell re-initialises itself once per second. -/
  | cellReinit (cell : BitVec 5)
  /-- R203. A DI level that has held for DEBOUNCE_US is accepted and DI_STATE changes. `v`: the terminal voltage at the
  comparison that ends that time, binary64. -/
  | diAccept (cell : BitVec 5) (v : BitVec 64)
  /-- R203. Every 100 µs a DI cell reports its terminal voltage as a result. `v`: the terminal voltage, binary64. -/
  | diRawReport (cell : BitVec 5) (v : BitVec 64)
  /-- R205. A WAVE cell processes a sample, tracking DC and detecting crossings. The samples of the primary and the
  secondary converter, binary64. -/
  | waveSample (cell : BitVec 5) (x : BitVec 64) (xs : BitVec 64)
  /-- R205. Without a crossing for 100 ms, the cell sets NOCYCLE and makes a result every 100 ms. -/
  | nocycleResult (cell : BitVec 5)
  /-- R236. Once per second an AI_V or TC cell drives a 2 µA test and sets OPEN on a change above 50 mV. The terminal
  voltage before and during the test, binary64 V. -/
  | openWireTest (cell : BitVec 5) (before : BitVec 64) (after : BitVec 64)
  /-- R227. Every 100 µs a DO cell makes a result of its switch state and current. -/
  | doResult (cell : BitVec 5) (m : Meas)
  /-- R235. A field fault condition given in time persists for its duration, or is absent for 1 s. `flag`: OPEN, SHORT,
  REV, OVERV, LEAD; `present`: it has persisted, else it has been absent. -/
  | fieldFaultTimeout (cell : BitVec 5) (flag : Fin 5) (present : Bool)
  /-- R237. A DO switch current above 0.8 A turns the switch off within 10 µs. -/
  | doShort (cell : BitVec 5)
  /-- R237. After DO_RETRY_MS the short-protected switch turns on again while commanded. -/
  | doRetry (cell : BitVec 5)
  /-- R238. A disconnected output stage is tested once per second and reconnects after eight passes. The readback at
  P_LO and P_HI, or the switch states; `cool`: the stage is 20 K below its limit. -/
  | stageTest (cell : BitVec 5) (lo : BitVec 64) (hi : BitVec 64) (swOn : Bool) (swOff : Bool) (cool : Bool)
  /-- R238. The output stage temperature exceeds its limit and the stage has a cell fault. -/
  | stageOvertemp (cell : BitVec 5)
  /-- R231. A write of CHB_CnTRIM.POINT starts or ends trim drive under its conditions. -/
  | trimDrive (who : Initiator) (cell : BitVec 5) (point : BitVec 2)
  /-- R216. A channel block fault isolates the block, and its eight cells take substitute states. -/
  | channelBlockFault (block : Fin 4)
  /-- R257. A safety channel regulator leaves ±10 % and its switches open within 100 µs. `lattice`: the supervisor of
  the lattice, else that of the safety processor. -/
  | supplySupervisorTrip (lattice : Bool)
  /-- R257. The regulator has been within limits for 10 ms and the channel's switches are released. -/
  | supplySupervisorRecover (lattice : Bool)
  /-- R260. A change at a Foxglove source propagates to every sink within 10 µs. The SDI comparators [15:0], FOX_IN_A
  and FOX_IN_B as they are now. -/
  | latticeSourceChange (src : BitVec 18)
  /-- R259. A Foxglove RC timer reaches its time and its output changes. -/
  | latticeTimerExpiry (timer : BitVec 4)
  /-- R262. Every 1 ms the safety processor latches inputs, runs the program, writes outputs and runs a self-test slice.
  The processor comparators, the read-backs of Qn+, Qn- and TP, L+F in mV, a failed self-test slice, a mirror that
  differs from the configuration. -/
  | safetyCycle (sdi : BitVec 16) (qp : BitVec 8) (qn : BitVec 8) (tp : BitVec 4) (lf : BitVec 16) (testFail : Bool) (mirrorBad : Bool)
  /-- R264. The safety watchdog expires, opens the high-side switches and causes reset cause 4. -/
  | safetyWatchdog
  /-- R265. The safety processor start-up self-test ends, moving to CONFIG or FAILSAFE. `fail`: the number of the test
  that failed. -/
  | safetySelftestDone (fail : Option (BitVec 8))
  /-- R273. Every 10 ms each test-pulse source goes off for 300 µs in its slot, and read-back and SDI tests are
  evaluated. The raw comparators in the window of each TP, and the read-backs that were wrong. -/
  | tpSchedule (w0 : BitVec 16) (w1 : BitVec 16) (w2 : BitVec 16) (w3 : BitVec 16) (bad : BitVec 4)
  /-- R278. After 200 µs with the low-side switch closed, the high-side switch closes or an output fault is declared. -/
  | preEnergiseTest (out : BitVec 3) (qpLow : Bool) (qnLow : Bool)
  /-- R280. An off-pulse opens the high-side or low-side switch of an energised output for OP_WIDTH_US. `low`: on the
  low-side switch. -/
  | offPulse (out : BitVec 3) (low : Bool)
  /-- R280. The off-pulse ends and its verdict is taken; a failure is an output fault. The read-back changed during the
  pulse, and came back after it. -/
  | offPulseEnd (changed : Bool) (restored : Bool)
  /-- R281. Current above 2.6 A for 20 ms, or the limit acting for 10 ms, is an output fault. -/
  | overcurrent (out : BitVec 3)
  /-- R288. L+F below 18 V for 10 ms sets LFLOW and suspends test verdicts. -/
  | lfLow
  /-- R288. Test verdicts resume 100 ms after L+F returns above 18 V. -/
  | lfRestored
  /-- R293. Q60 AUTHORISE sets the authorised CRC, and the password if none is set. -/
  | authorise
  /-- R293. Q60 SET_PASSWORD checks the old password ahead of the new-password entry. -/
  | setPassword
  /-- R293. The Q60 entry with CMD 0x03 supplies the new password, or is refused when no SET_PASSWORD precedes it. -/
  | setPasswordNew
  /-- R293. Q60 READ_LOG returns a change-log entry by SEQ. -/
  | readLog
  /-- R293. The 60 s password lockout ends. -/
  | pwlockExpiry
  /-- R301. ALIVE_IN settles into ALIVE, DYING or OPEN, and the standby reacts. 0 ALIVE, 1 DYING, 2 OPEN. -/
  | aliveInChange (cls : Fin 3)
  /-- R301. OWN_IN settles into OWNED, RELEASED or OPEN. 0 OWNED, 1 RELEASED, 2 OPEN. -/
  | ownInChange (cls : Fin 3)
  /-- R302. A claimable module raises OWN_OUT and gains ownership. -/
  | ownershipClaim
  /-- R303. The releasing module disconnects its output cells 50 µs after OWN_IN OWNED, or 1.0 ms after its OWN_OUT
  fell. `timer`: by the 1.0 ms bound. -/
  | dualDriveEnd (timer : Bool)
  /-- R304. The runner link comes up with both lanes. -/
  | linkTrained
  /-- R304. No valid frame for LINK_LOSS_US, or 8 CRC failures, takes the runner link down. The lanes that still train.
  -/
  | linkLoss (l0 : Bool) (l1 : Bool)
  /-- R304. While the link is lost, it retrains once per second. -/
  | linkRetrain
  /-- R311. A CTRL frame carries force changes, mode changes, epochs, queue entries and requests between the modules.
  `good`: the CRC is right, here and in the other frames of the link. -/
  | ctrlFrame (m : CtrlMsg) (good : Bool)
  /-- R310. A LATCH unit gives the standby's Crucible the primary's latched values. -/
  | latchFrame (payload : List Byte) (good : Bool)
  /-- R309. A SNAP unit is written into the standby task's input region. -/
  | snapFrame (task : BitVec 5) (no : BitVec 24) (region : List Byte) (good : Bool)
  /-- R316. An OVEC unit arrives, and the standby compares it with its own commit. -/
  | ovecFrame (vector : List Byte) (good : Bool)
  /-- R313. A COPY unit is applied at the standby's own commit of the same pour. The task and the ts32 of the
  primary's commit, the dirty lines and the loop state records of the unit. -/
  | copyFrame (unit : CopyHead) (lines : List CopyLine) (loops : List LoopCopy) (good : Bool)
  /-- R308. The standby releases a pour at the latest replay release. -/
  | replayRelease (task : BitVec 5)
  /-- R314. RUN_CTL.RESYNC starts resynchronisation, or leaves OFFLINE for SYNCING. -/
  | resync (who : Initiator) (priv : Bool)
  /-- R314. After the pass and one hyperperiod of copies the standby becomes SYNCED. -/
  | resyncComplete
  /-- R319. The self-check results arrive and Table RUN-7 decides the outcome. What the self-checks were started
  by, with the cell or, after a vector mismatch, the task; the lockstep core test, or the readings of the two converters,
  of the module itself; the partner's result. -/
  | selfCheckResult (vector : Bool) (cell : BitVec 5) (own : OwnCheck) (partner : Bool)
  /-- R320. RUN_CTL.SWITCH requests a switchover, or is refused with SWREF. -/
  | switch (who : Initiator) (priv : Bool)
  /-- R335. A Sync gives an offset measurement, and the servo adjusts rate or steps. `raw`: local time minus the
  master's at a Sync on P1, or P2 with `p2`, in ns. -/
  | offsetMeasurement (p2 : Bool) (raw : Int)
  /-- R334. An Announce runs the BMCA and may change the Marigold state. -/
  | announce (p2 : Bool) (a : AnnounceMsg)
  /-- R334. announceReceiptTimeout expires and Marigold enters HOLDOVER or FREERUN. -/
  | announceTimeout (p2 : Bool)
  /-- R334. HOLD_SYNC_MS ends in holdover and SYNC falls to 0. -/
  | syncHoldExpiry
  /-- R346. MGD_CTL.SET steps Marigold to the set registers, or is refused with SETREF. -/
  | mgdSet (who : Initiator) (priv : Bool)
  /-- R337. REF10M_IN is lost and the PLL moves to the module's own oscillator. -/
  | ref10mLost
  /-- R337. The reference has been valid for 1 s and the PLL returns to it. -/
  | ref10mRestored
  /-- R337. A PPS_IN edge is timestamped and may serve as an offset measurement. -/
  | ppsInEdge
  /-- R337. PPS_IN missing for 1.1 s sets PPSLOST and holds the rate. -/
  | ppsLost
  /-- R344. A write of MGD_ALMaCTL with ARM arms an alarm, which fires at once if late. -/
  | alarmArm (who : Initiator) (priv : Bool) (alarm : BitVec 2) (value : Word)
  /-- R344. Marigold time reaches an alarm target and places a trigger in Q58. -/
  | alarmFire (alarm : BitVec 2)
  /-- R346. A read of MGD_TNS captures the seconds registers. -/
  | tnsRead (who : Initiator)
  /-- R354. At a PLN_PUB occurrence the window opens and the cyclic frame is sent. `entry`: the index of the PLN_PUB
  entry in the timetable. -/
  | publication (entry : BitVec 9)
  /-- R357. A cyclic Pourline frame arrives and is accepted into a subscription buffer or rejected. -/
  | cyclicFrameRx (p2 : Bool) (frame : List Byte)
  /-- R358. TO_COUNT periods pass without an accepted frame and the subscription becomes stale. -/
  | subscriptionStale (sub : BitVec 8)
  /-- R362. A safety connection watchdog expires and its input bits read 0. -/
  | safetyMsgWatchdog (conn : BitVec 8)
  /-- R347. P1 or P2 gains or loses link. -/
  | portLinkChange (p2 : Bool) (linked : Bool)
  /-- R350. A PRP LAN or HSR path is lost or restored. -/
  | redundantPathChange (pathB : Bool) (ok : Bool)
  /-- R364. Pourline takes an entry from Q40–Q46 and sends, admits or refuses its frame. -/
  | txQueueEntry (cls : Fin 7)
  /-- R363. A received frame is written to its buffer and to a receive queue entry of Q32–Q38. -/
  | rxFrame (p2 : Bool) (frame : List Byte)
  /-- R365. Service READ returns symbol values at the last commit. -/
  | read (q : SvcReq)
  /-- R365. Service FORCE SET sets a force, or is refused under R136. -/
  | forceSet (q : SvcReq)
  /-- R365. Service FORCE RELEASE releases a force. -/
  | forceRelease (q : SvcReq)
  /-- R365. Service FORCE LIST returns force entries. -/
  | forceList (q : SvcReq)
  /-- R365. Service DOWNLOAD START opens a download through the cope processor. -/
  | downloadStart (q : SvcReq)
  /-- R365. Service DOWNLOAD DATA stages image bytes. -/
  | downloadData (q : SvcReq)
  /-- R365. Service DOWNLOAD APPLY applies the staged image. -/
  | downloadApply (q : SvcReq)
  /-- R365. Service DOWNLOAD ABORT discards the staged image. -/
  | downloadAbort (q : SvcReq)
  /-- R365. Service DOWNLOAD STATUS returns the download state. -/
  | downloadStatus (q : SvcReq)
  /-- R365. Service RUNCTL STOP_REQ requests an orderly STOP. -/
  | runctlStopReq (q : SvcReq)
  /-- R365. Service RUNCTL RUN_REQ requests a check and RUN. -/
  | runctlRunReq (q : SvcReq)
  /-- R365. Service RUNCTL RESUME requests SAFE to RUN. -/
  | runctlResume (q : SvcReq)
  /-- R365. Service RUNCTL TO_STOP requests STOP from SAFE or HALT. -/
  | runctlToStop (q : SvcReq)
  /-- R365. Service DIAG STATUS returns the module status block. -/
  | diagStatus (q : SvcReq)
  /-- R365. Service DIAG EVENTS returns event records from a SEQ. -/
  | diagEvents (q : SvcReq)
  /-- R365. A request of an unknown SVC is answered with RESULT 0x0002. -/
  | unknownService (q : SvcReq) (svc : BitVec 8) (sub : BitVec 8)
  /-- R378. A received CAN frame is filtered and written to a receive FIFO. -/
  | canFrameRx (n : BitVec 2) (ident : BitVec 29) (xtd : Bool) (rtr : Bool) (fdf : Bool) (brs : Bool) (esi : Bool) (dlc : BitVec 4) (rx : CanRx)
  /-- R377. A detection candidate's dwell ends or errors and the next candidate is applied. -/
  | detectDwellEnd (n : BitVec 2)
  /-- R391. CAN_CTL.RECOVER starts bus-off recovery. -/
  | recover (who : Initiator) (n : BitVec 2)
  /-- R376. CAN_CTL.GO_NORMAL moves a controller from LISTEN to NORMAL. -/
  | goNormal (who : Initiator) (n : BitVec 2)
  /-- R376. CAN_CTL.REDETECT restarts bit-rate detection. -/
  | redetect (who : Initiator) (n : BitVec 2)
  /-- R379. A write of CAN_FLTCTL with DONE declares the shadow filter list complete. -/
  | canFltctl (who : Initiator) (n : BitVec 2) (value : Word)
  /-- R379. The scan in the former filter list ends after a swap and SHFREE becomes 1. -/
  | filterScanEnd (n : BitVec 2)
  /-- R382. A write of CAN_TXREQ requests transmission of a buffer. -/
  | canTxreq (who : Initiator) (n : BitVec 2) (mask : Word)
  /-- R384. A write of CAN_TXCANCEL cancels a pending transmission. `sof`: buffers whose start of frame has been sent.
  -/
  | canTxcancel (who : Initiator) (n : BitVec 2) (mask : Word) (sof : Word)
  /-- R382. A write of CAN_TBbCTL commits the buffer contents. -/
  | canTbctlWrite (who : Initiator) (n : BitVec 2) (buf : BitVec 5) (value : Word)
  /-- R385. A transmission request ends, and a transmit event entry is produced. -/
  | canTxEnd (n : BitVec 2) (buf : BitVec 5) (outcome : TxOutcome)
  /-- R388. At a CAN_TX occurrence the staging copy enters arbitration. -/
  | canTxOccurrence (n : BitVec 2) (buf : BitVec 5)
  /-- R388. A scheduled frame not started by the end of its slot is withdrawn. -/
  | canSlotEnd (n : BitVec 2) (buf : BitVec 5) (started : Bool)
  /-- R391. 128 occurrences of 11 recessive bits complete the recovery. -/
  | busoffRecoveryComplete (n : BitVec 2)
  /-- R399. A LADLE entry occurs and the scheduled channel becomes pending. -/
  | ladleOccurrence (ch : BitVec 5)
  /-- R405. LDL_CnCTL.START of an acyclic channel is admitted or refused. -/
  | start (who : Initiator) (ch : BitVec 5)
  /-- R400. LDL_CnCTL.ABORT ends a pending or active chain. -/
  | abort (who : Initiator) (ch : BitVec 5)
  /-- R400. The engine takes the head of the run order once free. -/
  | chainTake
  /-- R402. A descriptor ends with its status and the chain continues or ends. -/
  | descriptorEnd
  /-- R407. A slave error to a Ladle access stops the engine and ends every chain ENGINE_STOP. A slave error at `addr`
  after `done` bytes of the descriptor. -/
  | ladleBusError (addr : BitVec 36) (done : Word)
  /-- R408. LDL_CTL.CLRHALT clears the engine halt. -/
  | clrhalt (who : Initiator)
  /-- R419. The recorder takes an ingest entry, rate-limits it and assigns SEQ. -/
  | ingestEntry
  /-- R418. EVR_POSTi.GO posts the buffer as a record. -/
  | post (who : Initiator) (buf : Fin 3) (keepTs : Bool)
  /-- R422. A class with suppressed records and 10 s since acceptance gets a summary record. -/
  | summaryRecord (cls : BitVec 6)
  /-- R423. A staged record is copied to the MRAM staging tail, or lost. -/
  | tailCopy
  /-- R423. Records are written from the tail to flash. `n` records; `bad`: the flash block written to fails. -/
  | flashWrite (n : BitVec 16) (bad : Bool)
  /-- R426. Cursor command OLDEST moves to the oldest record. -/
  | oldest (who : Initiator) (k : Fin 4) (part : BitVec 2)
  /-- R426. Cursor command SEQ moves to the record at or after a SEQ. -/
  | seq (who : Initiator) (k : Fin 4) (part : BitVec 2)
  /-- R426. Cursor command TIME moves to the first record at or after a TS_S. -/
  | time (who : Initiator) (k : Fin 4) (part : BitVec 2)
  /-- R426. Cursor command NEWEST moves to the newest record. -/
  | newest (who : Initiator) (k : Fin 4) (part : BitVec 2)
  /-- R426. Cursor command ADVANCE moves past the records shown. -/
  | advance (who : Initiator) (k : Fin 4)
  /-- R426. The cursor window is filled and READY is set. `bad`: a bit for each record shown whose CRC fails. -/
  | cursorFillDone (k : Fin 4) (bad : Nat)
  /-- R428. A write of EVR_CLR clears a partition and writes a 0x0151 record. -/
  | partitionClear (who : Initiator) (priv : Bool) (mask : BitVec 4)
  /-- R437. At a window end all counters are latched into the snapshot. -/
  | pmcWindowEnd (x : PmcAdds)
  /-- R440. A write of PMC_WIN or PMC_CnSEL is staged to the next window end. -/
  | pmcStagedWrite (who : Initiator) (priv : Bool) (off : BitVec 16) (value : Word)
  /-- R441. A task-code access to the PMC window is granted or denied by PMC_ACCESS. `write`: the value written, none
  for a read. -/
  | pmcTaskAccess (off : BitVec 16) (write : Option Word)
  /-- R444. A read of PMC_CnLO captures PMC_CnHI. -/
  | pmcCounterRead (who : Initiator) (counter : BitVec 7)
  /-- R446. At each tick the sensors are sampled and classified. S00 to S28 and the three axes of S29; none: no reading.
  -/
  | copeTick (readings : List (Option (BitVec 16)))
  /-- R445. The cope watchdog expires after 2 s and resets the cope region. -/
  | copeWatchdog
  /-- R452. LOGIN opens a service-port session on a correct password. -/
  | login (src : CopeSrc)
  /-- R452. LOGOUT ends the session. -/
  | logout (src : CopeSrc)
  /-- R452. SET_PW sets or changes the management password. -/
  | setPw (src : CopeSrc)
  /-- R453. The HEALTH command returns the latest health body. -/
  | health (src : CopeSrc)
  /-- R61. The RESET command saves state and resets the module with cause 2. -/
  | reset (src : CopeSrc)
  /-- R453. RUNCTL with code 0x1 writes STOP_REQ. -/
  | copeStopReq (src : CopeSrc)
  /-- R453. RUNCTL with code 0x2 writes RUN_REQ. -/
  | copeRunReq (src : CopeSrc)
  /-- R453. RUNCTL with code 0x3 requests RESUME. -/
  | copeResume (src : CopeSrc)
  /-- R453. RUNCTL with code 0x4 requests TO_STOP. -/
  | copeToStop (src : CopeSrc)
  /-- R453. RUNCTL with code 0x5 requests RELOAD of a slot. -/
  | copeReload (src : CopeSrc)
  /-- R46. KEYWS_OPEN opens a key write session. -/
  | keywsOpen (src : CopeSrc)
  /-- R46. KEYWS_WRITE erases and programs key sectors of the slot not in force. `fault`: the key does not answer. -/
  | keywsWrite (src : CopeSrc) (fault : Bool)
  /-- R46. KEYWS_CLOSE closes the key write session. -/
  | keywsClose (src : CopeSrc)
  /-- R140. Cope command DL_START writes PRG_DLCTL.START. -/
  | dlStart (src : CopeSrc)
  /-- R140. Cope command DL_DATA stages image bytes. -/
  | dlData (src : CopeSrc)
  /-- R140. Cope command DL_APPLY writes PRG_DLCTL.APPLY. -/
  | dlApply (src : CopeSrc)
  /-- R140. Cope command DL_ABORT writes PRG_DLCTL.ABORT. -/
  | dlAbort (src : CopeSrc)
  /-- R450. FW_BEGIN opens a firmware transfer. -/
  | fwBegin (src : CopeSrc)
  /-- R450. FW_DATA writes the bank that is not in force. -/
  | fwData (src : CopeSrc)
  /-- R450. FW_INSTALL verifies the new bank, marks it ACTIVE and optionally resets. -/
  | fwInstall (src : CopeSrc)
  /-- R451. KEY_INSTALL writes an EMPTY key slot. -/
  | keyInstall (src : CopeSrc)
  /-- R451. KEY_REVOKE permanently revokes a VALID key slot. -/
  | keyRevoke (src : CopeSrc)
  /-- R451. KEY_LIST returns the key store state. -/
  | keyList (src : CopeSrc)
  /-- R428. The EVR_CLEAR command writes EVR_CLR. -/
  | evrClear (src : CopeSrc)
  /-- R426. The EVR_READ command runs a cursor C2 command and returns the window. -/
  | evrRead (src : CopeSrc)
  /-- R452. A session ends after 600 s without a command. -/
  | sessionTimeout
  /-- R452. Loss of link at the service port ends the session. -/
  | serviceLinkLoss
  /-- R452. The 60 s LOGIN lockout ends. -/
  | loginLockExpiry
  /-- R457. A feed crosses 18 V or falls below −1 V. The feed now stands at `mv` millivolts. -/
  | feedChange (feedB : Bool) (mv : Int)
  /-- R457. V_IN above 36 V for 10 ms sets OVER. -/
  | overvoltage
  /-- R474. A feed above 40 V opens its input disconnect within 10 µs. -/
  | inputDisconnect (feedB : Bool)
  /-- R474. The disconnect closes after the feed has been at or below 36 V for 10 ms. -/
  | inputReconnect (feedB : Bool)
  /-- R464. V_IN below 16.5 V for 50 µs enters HOLDUP. -/
  | holdupEntry
  /-- R464. V_IN at 17.5 V or more for 10 ms returns to NORMAL and recharges the bank. -/
  | feedRestored
  /-- R465. V_R at or below 24.0 V starts the Riser save with cause 0x01. V_R in mV. -/
  | saveTrigger (vr : BitVec 16)
  /-- R467. The save completes, or 10 ms pass, and the module turns OFF or resets. `done` false: 10 ms have passed;
  `vinGood`: V_IN is at power good. -/
  | saveComplete (done : Bool) (vinGood : Bool)
  /-- R460. The Riser bank reaches 47.0 V and becomes CHARGED. -/
  | bankCharged
  /-- R460. The bank fails to charge in time, or sags below 44.0 V, and the charger enters FAULT. -/
  | chargerFault
  /-- R460. A charger in FAULT retries every 10 s. -/
  | chargerRetry
  /-- R461. PWR_CTL.RTEST in STOP with the bank CHARGED starts a health test, and is otherwise refused. -/
  | rtest (who : Initiator)
  /-- R461. The bank health test ends with capacitance and ESR and sets RISEROK. The voltage step and the further fall,
  µV. -/
  | healthTestComplete (step : Word) (fall : Word)
  /-- R462. The Riser extension reaches 47.0 V and EXTOK is set. Its capacitance in 10 µF. -/
  | extensionCharged (cap : BitVec 16)
  /-- R462. The extension is reversed, or does not rise above 1 V within 2 s. -/
  | extensionFault
  /-- R470. Every 10 ms the controller updates measurements, the ride-through estimate and the charging limit. V_IN in
  mV, the feeds in 10 mV, V_R and the extension in mV, input and charging power in 10 mW. -/
  | pwrMeasure (vin : BitVec 16) (feedA : Int) (feedB : Int) (vr : BitVec 16) (vext : BitVec 16) (pin : BitVec 16) (chg : BitVec 16)
  /-- R61. RST_IN# rises after being held low and the start-up timeline begins. -/
  | rstInRelease
  /-- R297. A read of FOX_SRC captures FOX_SRC, FOX_ELEM0, FOX_ELEM1, FOX_TMR and FOX_SINK together for later reads. -/
  | foxSrcRead (who : Initiator)
  /-- R376. A controller waiting for 11 recessive bits or bus idle sees them and enters NORMAL or LISTEN, or its MODE
  after a switchover. -/
  | canBusIdle (n : BitVec 2)
  /-- R391. An error on the CAN bus updates TEC or REC, counts receive errors, and may lead into error passive or bus-
  off. `tx`: as transmitter; `eight`: an error that counts 8 at a receiver. -/
  | canBusError (n : BitVec 2) (tx : Bool) (eight : Bool)
  /-- R347. The switch receives a frame at a port and forwards it by MAC address and VID, learning its source, with
  transparent-clock correction for PTP. `residence`: the residence time in ns; `good`: no FCS, length or symbol
  error. -/
  | frameForward (port : Fin 3) (frame : List Byte) (residence : Word) (good : Bool)
  /-- R347. A learned forwarding entry ages out after 300 s. -/
  | learnedEntryAgeOut (mac : BitVec 48) (vid : BitVec 12)
  /-- R349. A transit class 7 frame that has waited one Pourline cycle is dropped and counted in NET_PpDROP. -/
  | transitFrameDrop (p2 : Bool)
  /-- R334. A completed Delay_Req/Delay_Resp or Pdelay exchange updates the measured path delay MGD_MPD. The measured
  path delay on P1, or P2 with `p2`, in ns. -/
  | pathDelayMeasurement (p2 : Bool) (delay : Word)
  /-- R390. An admitted acyclic CAN frame not started by the end of its allocated time ends WITHDRAWN. -/
  | canAllocationEnd (n : BitVec 2) (buf : BitVec 5) (started : Bool)
  /-- R428. A partition clear finishes freeing its blocks and its CLRBUSY bit returns to 0. -/
  | partitionClearDone (part : BitVec 2)
  deriving DecidableEq, Repr

end Sys2Proof
end

