-- ==== Sys2Proof/Decode.lean ====
section
/-! DEFINITION. Words of commands. The commands of the block are events and register accesses, and spec/opcode_table.json
gives none of its rows any bits, so no word spells a command. -/

namespace Sys2Proof

/-- The command that a word of `nbits` bits spells: none, since no row of the table has bits. -/
def decodeTableWord (_nbits _w : Nat) : Option Instr := none

end Sys2Proof
end

