-- ==== Sys2Proof/Config.lean ====
section
/-! DEFINITION. What one module fixes and the manual leaves open, and the free values. A constant
here has no body: no proof can see what it is. -/

namespace Sys2Proof.Config

/-- A free value of a word, numbered by State.free. UNVERIFIED: log 3. -/
opaque freeWord : Nat → BitVec 64

/-- The factory MAC address, NET_MAC (Table PLN-15 gives "factory"). DESIGN CHOICE: log 5. -/
opaque factoryMac : BitVec 48

/-- The IPv4 address that Marigold's UDP messages carry as their source, which no register holds. UNVERIFIED: log 69. -/
opaque ipv4 : BitVec 32

/-- The payload of a NaN that an operation produces. UNVERIFIED: log 8. -/
opaque nanPayload : BitVec 64

/-- The factory trim M_LO and M_HI of each cell, binary64, written at manufacture (R230). UNVERIFIED:
log 5. -/
opaque factoryTrimLo : Nat → BitVec 64
opaque factoryTrimHi : Nat → BitVec 64

/-- The firmware banks A and B as programmed at manufacture (R449). UNVERIFIED: log 5. -/
opaque factoryBank : Nat → List Byte

/-- The two Falfaler firmware keys fused into the cope processor: point X, Y, 64 bytes big-endian. UNVERIFIED:
log 5. -/
opaque firmwareKey : Nat → BitVec 512

/-- The safety runtime version in the safety processor's store. UNVERIFIED: log 5. -/
opaque safetyRuntime : BitVec 16

/-- The event codes of a slot fallback (R56) and of a warm restart that becomes cold (R66): the manual gives
none, so each is one of 0x0001 to 0x007F, one less than the code. UNVERIFIED: log 21. -/
opaque fallbackCode : Fin 127
opaque coldCode : Fin 127

end Sys2Proof.Config
end

