-- ==== Sys2Proof/Machine/State.lean ====
section
/-! DEFINITION. The machine's state as plain data, the reasons a step can stop, and the state right
after reset. Every register of the manual's register tables lives in State.regs at its physical
address; the structures below hold what the manual gives the machine beyond its registers. -/

namespace Sys2Proof.Machine

/-- Why a step stops: the manual gives every command an effect, so there is no reason. -/
inductive Fault where
  deriving DecidableEq, Repr

/-- Why a command has no meaning. -/
inductive Refusal where
  /-- Answered by an arm of exec whose command has no meaning yet. Safe. -/
  | notModelled (mnemonic : String)
  deriving DecidableEq, Repr

/-- A record of the event recorder (Table EVR-1); LEN and CRC follow from the fields. -/
structure Record where
  code : Nat
  src : Nat
  sev : Nat
  flags : Nat
  supp : Nat
  tsS : Nat
  tsNs : Nat
  seq : Nat
  payload : List Byte
  part : Nat
  deriving DecidableEq, Repr

/-- A token bucket of a class (R421). -/
structure Bucket where
  tok : Nat
  last : Nat
  supp : Nat
  acc : Nat
  lastCode : Nat
  deriving DecidableEq, Repr

/-- One flash partition (R424): the first half of a KEEP_FIRST partition, and the ring as its
256 KiB blocks, oldest first. Records are numbered in the order in which they entered the partition:
`base` is the number of the first, `freed` counts the ring records freed since the last clear. -/
structure Partition where
  base : Nat
  first : List Record
  freed : Nat
  ring : List (List Record)
  /-- Blocks that a bad block took for good when no spare was left, from the first half and from the ring (R425). -/
  lostFirst : Nat
  lostRing : Nat
  deriving DecidableEq, Repr

/-- A read cursor (R426): the number of the record at the cursor in its partition, the records shown in
the window, and a command waiting for its window fill. -/
structure Cursor where
  ord : Nat
  shown : Nat
  filling : Bool
  deriving DecidableEq, Repr

/-- The event recorder (R415 to R434). -/
structure Evr where
  staging : List Record
  tail : List Record
  parts : Tbl Partition
  /-- Partition sizes in MiB as the layout in flash holds them (R430). -/
  layout : List Nat
  /-- Code table and rate table in force, 2,560 bytes of the EVENTS section; none: the default (R430). -/
  codeTbl : Option (List Byte)
  buckets : Tbl (Option Bucket)
  /-- The next accepted record carries LOSS. -/
  lossPending : Bool
  /-- Records lost in the present run of losses (R423). -/
  lossRun : Nat
  /-- Entries waiting in the block 26 port (R417). -/
  port : List (List Byte)
  /-- Whose turn it is among Q48 to Q51, the port and the post buffers (R419). -/
  turn : Nat
  cursors : Tbl Cursor
  /-- Spare flash blocks left (R425). -/
  spares : Nat
  /-- The next SEQ as kept without power, until the recorder starts with it (R429). -/
  next : Option Nat
  /-- Records are held in staging until a pattern is accepted or the load ends without one (R430). -/
  hold : Bool
  /-- Posts in progress by buffer: Marigold ns and MGD_STAT.SYNC at their GO (R418). -/
  posts : Tbl (Option (Nat × Bool))
  /-- SEQ of records in flash that have failed their CRC (R426). -/
  badSeq : List Nat
  deriving DecidableEq, Repr

/-- The answer to the last bus access: the bytes read and whether it completed with a slave error (R4). -/
structure BusResp where
  data : List Byte
  err : Bool
  deriving DecidableEq, Repr

/-- What leaves the module. -/
inductive Out where
  /-- An Ethernet frame, without FCS, at switch port 0 (service), 1 or 2. -/
  | frame (port : Nat) (bytes : List Byte)
  /-- A CAN frame of a controller: identifier, buffer control word, ESI, data. -/
  | can (controller ident ctl : Nat) (esi : Bool) (data : List Byte)
  /-- A frame on the runner link: its TYPE, and its bytes with header and CRC (R305). -/
  | link (kind : Nat) (bytes : List Byte)
  /-- An answer at the service port. -/
  | answer (bytes : List Byte)
  deriving DecidableEq, Repr

/-- Regions, power domains, fabric and ECC (01_architecture.md). -/
structure Sys where
  /-- Region resets as region and monotonic ns, newest first (R18). -/
  rgnHist : List (Nat × Nat)
  /-- Regions whose re-initialisation waits for the end of the cope boot (R16). -/
  rgnWait : List Nat
  /-- Domains whose drain ends in OFF; the other draining domains are gating (R24). -/
  drainOff : List Nat
  /-- Domains that admitted activity references (R28). -/
  admitted : List Nat
  /-- Domains powering up from OFF (R27). -/
  powering : List Nat
  /-- Fabric ports whose waiting request takes the next grant as class 1 (R30). -/
  promoted : List Nat
  /-- ECC words, by address / 16, that hold a single-bit error (R34). -/
  eccCe : List Nat
  /-- ECC words that hold an uncorrectable error (R34). -/
  eccUe : List Nat
  deriving DecidableEq, Repr

/-- A pattern as the machine holds it: the slot it came from and its bytes. -/
structure Slot where
  slot : Nat
  bytes : List Byte
  deriving DecidableEq, Repr

/-- Pattern key, loading and the pattern in force (02_pattern_and_startup.md). -/
structure Pat where
  /-- The two slots of the key; bytes beyond a list's end are erased, 0xFF. -/
  key0 : List Byte
  key1 : List Byte
  /-- Identification the key answers; 0x00_0000 or 0xFF_FFFF: no key (R45). -/
  keyId : Nat
  /-- Key address from which reads fault, if any (R45). -/
  keyFault : Option Nat
  /-- KEY_WP# reads high while driven low (0x0A05). -/
  wpHigh : Bool
  /-- ID0 to ID9 and ID_PAR as latched (R75). -/
  straps : Nat
  strapParity : Bool
  /-- The slot staged and verified, waiting for its check. -/
  staged : Option Slot
  /-- The pattern in force. -/
  force : Option Slot
  /-- Slots tried in this load, first tried first, with their refusals (R55). -/
  tried : List (Nat × Nat × Nat)
  /-- Slots that the load may still try (R55). -/
  toTry : List Nat
  /-- A slot refused with 0x0501 alone: slot, section CRC (R58). -/
  unauth : Option Slot
  deriving DecidableEq, Repr

/-- A trigger taken from Q56 to Q59 (Table POUR-6); `ts` in ns. -/
structure Trig where
  ts : Nat
  kind : Nat
  src : Nat
  arg : Nat
  deriving DecidableEq, Repr

/-- One output staged at a commit stack: I/O map KIND and OBJECT, and the value's encoding. -/
structure OutVal where
  kind : Nat
  object : Nat
  fmt : Nat
  val : Nat
  deriving DecidableEq, Repr

/-- What the sequencer holds of a task beyond its registers (03_pour_sequencer.md). -/
structure TaskSt where
  snapAt : Nat
  commitAt : Nat
  relAt : Nat
  pourNo : Nat
  prevAccept : Option Nat
  held : Option Trig
  /-- The accepted trigger of the event pour that waits or runs. -/
  trig : Option Trig
  heldPour : Bool
  /-- Epoch of each remote station at the snapshot (R103). -/
  epochs : List (Nat × Nat)
  /-- The next pour is the first since entry to RUN. -/
  first : Bool
  /-- A skipped pour's commit instant is still to come. -/
  skipped : Bool
  /-- The previous commit instant committed nothing. -/
  prevEmpty : Bool
  /-- The outputs of the task's last commit, and the values of its symbols then: SYM_ID, value, bad quality. -/
  last : List OutVal
  vals : List (Nat × Nat × Bool)
  deriving DecidableEq, Repr

/-- The Pour sequencer. -/
structure Pour where
  /-- Sequencer time minus Marigold time in ps (R81). -/
  offsetPs : Int
  tasks : Tbl TaskSt
  /-- ACYCLIC time allocated: start in sequencer ns, length (R100). -/
  acyclic : List (Nat × Nat)
  /-- Station and epoch pairs whose discard has been recorded (R104). -/
  staleSeen : List (Nat × Nat)
  /-- Sequencer time before which no snapshot is taken: 4 µs after entry to RUN or after a re-anchor (R69, R81). -/
  openAt : Nat
  deriving DecidableEq, Repr

/-- A line of a pair's cache: its 64 bytes, and whether memory lacks them (R144). -/
structure CacheLine where
  bytes : List Byte
  dirty : Bool
  deriving DecidableEq, Repr

/-- A force entry as a stack takes it: PRG_FnCTL, PRG_FnOFF, PRG_FnQB and the value that applies (R137). -/
structure ForceEnt where
  ctl : Nat
  off : Nat
  qb : Nat
  val : Nat
  deriving DecidableEq, Repr

/-- The last stack of snapshots or of commits: its instant, the tasks that it has served, and the active forces as they
stood when it began (R137). -/
structure ForceStack where
  instant : Nat
  tasks : List Nat
  ents : List ForceEnt
  deriving DecidableEq, Repr

/-- Program execution (04_program_execution.md). -/
structure Prg where
  /-- The program image in force; empty: none. -/
  image : List Byte
  /-- The image being staged by a download. -/
  staged : List Byte
  /-- The value that applies for each force, taken at its PRG_FnCTL write (R137). -/
  applied : Tbl Nat
  /-- The caches of the pairs: pair * 2^30 + physical address / 64 (R144). -/
  lines : Tbl (Option CacheLine)
  /-- The last snapshot stack and the last commit stack (R137). -/
  snapStack : ForceStack
  commitStack : ForceStack
  /-- Force table entries changed since the last stack began (R311). -/
  forceChg : List Nat
  deriving DecidableEq, Repr

/-- A cycle's result before its ready instant (R205): ready instant, RMS of both converters, FREQ, the crossing as ns
and as half-ns base with offset, where the cycle began, and FREQ_OOR. -/
structure WaveRes where
  ready : Nat
  rms : BitVec 64
  rmsS : BitVec 64
  freq : BitVec 64
  tz : Nat
  base : Nat
  off : BitVec 64
  from_ : Nat
  oor : Bool
  deriving DecidableEq, Repr

/-- What a channel cell holds beyond its registers (06_channel_cells_inputs.md,
07_channel_outputs_diagnostics.md). Numbers are binary64 encodings. -/
structure CellSt where
  /-- When conversion started, Marigold ns (R214). -/
  convAt : Nat
  /-- Post-filter value; none: the filter is reset (R194). -/
  y : Option (BitVec 64)
  divRun : Nat
  divOk : Nat
  missRun : Nat
  recov : Nat
  lastGood : Option Word
  /-- DI: the eight result registers as they stood before the last acceptance, and that acceptance's instant (R203,
  R208). -/
  diPrev : List Word
  diAt : Nat
  diSeen : Bool
  /-- WAVE (R205): DC estimates, arming, last sample, last crossing (half-ns base and offset in ns),
  period, sums of squares and their count since the crossing, squares of the last 100 ms. -/
  dc : BitVec 64
  dcS : BitVec 64
  armed : Bool
  zPrev : Option (BitVec 64)
  crossBase : Option Nat
  crossOff : BitVec 64
  period : Option (BitVec 64)
  sumSq : BitVec 64
  sumSqS : BitVec 64
  sumCnt : Nat
  recent : List (BitVec 64)
  /-- The squares of the secondary converter's last 100 ms (R193, R205). -/
  recentS : List (BitVec 64)
  /-- The crossing before the last one, with the period that ended there (R206), and the result that waits for its
  ready instant (R205). -/
  crossPrev : Option (Nat × BitVec 64 × Option (BitVec 64))
  wavePend : Option WaveRes
  /-- Where the powered time of the converters ends that CELL_POWER_ON began, Marigold ns (R192). -/
  convEnd : Nat
  /-- Threshold trigger armed (R209). -/
  trigArmed : Bool
  /-- Physical target p (R224), the p last driven from line 7, what the stage drives, what it would drive if connected,
  and when either last changed. -/
  p : BitVec 64
  heldP : Option (BitVec 64)
  driven : Option (BitVec 64)
  aim : BitVec 64
  changedAt : Nat
  /-- In the substitute state until the first command after every cause has ended (R241). -/
  sub : Bool
  /-- A command has set p since the start (R241). -/
  taken : Bool
  /-- SUBST fallback of the task that writes the cell (R102). -/
  fbSubst : Bool
  /-- OSTAT.CLAMP, CMDBAD and DOPROT as the next result will report them (R224, R237). -/
  clamp : Bool
  cmdBad : Bool
  doProt : Bool
  devRun : Nat
  /-- Cell fault of the output stage, and its passing tests (R238). -/
  stageFault : Bool
  passRun : Nat
  /-- Field fault qualification and clearing counts for OPEN, SHORT, REV, OVERV, LEAD (R235). -/
  ffSet : List Nat
  ffClr : List Nat
  /-- When 0x00C2 was last recorded (R234). -/
  cmplAt : Option Nat
  /-- Consecutive field mismatches (R317). -/
  monRun : Nat
  deriving DecidableEq, Repr

/-- The channel cells. -/
structure Chan where
  cells : Tbl CellSt
  /-- Input conversion runs (R213). -/
  conv : Bool
  /-- Output stages are powered and under Table CHO-4 lines 2 to 7. -/
  outLive : Bool
  /-- The last dual-excitation interval, Marigold ns; its end when it has ended (R217). -/
  dual : Option (Nat × Option Nat)
  deriving DecidableEq, Repr

/-- The values that one loop takes at a sample instant (R147, R155, R158, R161, R162). -/
structure LoopSrc where
  pv : Word
  pvGood : Bool
  sp : Word
  spGood : Bool
  trk : Word
  trkGood : Bool
  /-- The delivered value while the destination reports saturation. -/
  sat : Option Word
  /-- The substitute value while the destination is in its substitute state. -/
  sub : Option Word
  /-- UEFF_PREV as the primary's record gives it (R310); none: the module's own. -/
  ueff : Option Word
  deriving DecidableEq, Repr

/-- What Crucible holds of a loop beyond its registers (05_crucible_loop_engine.md). -/
structure LoopSt where
  /-- Pending mode request: value, and cause 1 commit or 2 register write (R166). -/
  req : Option (Nat × Nat)
  /-- The output of the last evaluation, held for the next stage phase. -/
  held : Option Word
  /-- The output staged at the destination, to take effect at the sample instant. -/
  staged : Option Word
  /-- The value in effect at the destination. -/
  inEffect : Word
  /-- The evaluation from the previous sample has ended (R173). -/
  done : Bool
  /-- First window after entry to RUN; after a cold start (R177). -/
  first : Bool
  cold : Bool
  /-- The next sample in AUTO or CASC is a transition sample (R165). -/
  trans : Bool
  reseed : Bool
  /-- As an inner loop: the outer loop's output in effect. -/
  linkSp : Option Word
  /-- PV of the last good sample (R175). -/
  heldPv : Option Word
  wasBad : Bool
  /-- PROGRAM values of SRC_TRK and SRC_PV (R155); none: no commit since drag-plane start. -/
  trk : Option Word
  pvin : Option Word
  /-- History of u_eff, newest first, and the failure window, newest first (R169). -/
  hist : List Word
  win : List Bool
  /-- The action in FALLBACK is SUBST (R164, R170). -/
  fbSubst : Bool
  /-- Samples evaluated, modulo 2^32, and the loop state record of a later sample that waits for it (R313). -/
  sample : Nat
  record : Option (Nat × List Word)
  /-- PLAUS and NUMERR cleared by station firmware since the last sample (Table RUN-5). -/
  clrPlaus : Bool
  clrNum : Bool
  deriving DecidableEq, Repr

/-- Crucible. -/
structure Cru where
  loops : Tbl LoopSt
  /-- On a standby: the values the primary latched and the sample that they belong to (R179, R310). -/
  remote : Tbl (Option (Nat × LoopSrc))
  /-- Samples of each CRUCIBLE entry modulo 2^32, by its first loop (Table RUN-5). -/
  samples : Tbl Nat
  /-- The high word paired with the last read of CRU_LI_LO: loop and value (R151). -/
  liPair : Option (Nat × Word)
  deriving DecidableEq, Repr

/-- What the Foxglove lattice holds at the moment (R256 to R261); its configuration and lock stand in the
FOX registers, which otherwise hold what the last read of FOX_SRC captured (R297). -/
structure Fox where
  /-- SDI lattice comparators [15:0], FOX_IN_A and FOX_IN_B (R260). -/
  src : Nat
  elem : Nat
  tmr : Nat
  sink : Nat
  /-- Inputs of the timers as last seen, and the monotonic ns at which a running timer started. -/
  tin : Nat
  started : Tbl (Option Nat)
  /-- A timer that changed before 0.9 T_nom: until when its output differs from the model (R266). -/
  early : Tbl (Option Nat)
  /-- The comparators and loop inputs themselves; `src` is what the lattice sees of them (R287, Table SYS-2). -/
  raw : Nat
  deriving DecidableEq, Repr

/-- The safety processor and the safety I/O front end (R262 to R288). Masks hold one bit per unit, tables
one count in safety cycles per unit. -/
structure Saf where
  /-- The processor's state (Table SAF-7); SAF_STAT shows it from the next output phase on (R296). -/
  st : Nat
  /-- When CONFIG was entered from the self-test, monotonic ns (R287). -/
  cfgAt : Nat
  /-- SAFETY section as loaded in CONFIG (R291); empty: none. -/
  cfg : List Byte
  /-- Group 0x05 was accepted for the pattern that came into force (Table SAF-7). -/
  loaded : Bool
  /-- V000 to V3FF, one bit each. -/
  vars : Nat
  /-- Count of each TON, TOF and RESTART statement. -/
  stmt : Tbl Nat
  sdiFail : Tbl Nat
  sdiPass : Tbl Nat
  sdiFault : Nat
  tpFail : Tbl Nat
  tpPass : Tbl Nat
  tpFault : Nat
  pairCnt : Tbl Nat
  pairFault : Nat
  disc : Tbl Nat
  zero : Tbl Nat
  ack : Tbl Nat
  static : Tbl Nat
  /-- Monotonic ns of the last command change of each output. -/
  chgAt : Tbl Nat
  lock : Nat
  fault : Nat
  ovc : Nat
  /-- HS0 to HS7 as written, and the switches that are closed. -/
  hs : Nat
  hsSw : Nat
  lsSw : Nat
  /-- Since when HSn has been 1 with the low-side switch closed, monotonic ns (R278). -/
  preAt : Tbl (Option Nat)
  /-- The off-pulse that runs: output, and true for the low-side switch (R280). -/
  pulse : Option (Nat × Bool)
  /-- The supervisor of the safety-processor regulator has tripped (R257). -/
  supTrip : Bool
  /-- A module fault, save, reset or watchdog expiry holds the high-side drivers open (R255). -/
  stopped : Bool
  /-- When ownership was last taken, monotonic ns (R286). -/
  ownAt : Nat
  lfLow : Bool
  /-- Cycles for which model and mirror have differed (R266). -/
  mism : Nat
  safeDem : Bool
  /-- Number of the start-up self-test that failed. -/
  test : Nat
  /-- Conditions for SAF_ERR since the last output phase. -/
  err : Nat
  /-- Bytes 0 to 3 of the last Q63 entry and the cycle of it (R295). -/
  q63 : List Byte
  q63At : Nat
  /-- Safety message input bits 0 to 63, and the last accepted SSEQ of each connection (R362). -/
  inBits : Nat
  sseq : Tbl (Option Nat)
  /-- The container as last written for transmission (Table PLN-6). -/
  container : List Byte
  deriving DecidableEq, Repr

/-- The safety processor's records in the safety-owned MRAM partition (R292 to R294). -/
structure SafNv where
  authCrc : Nat
  /-- Salt and hash of the password. -/
  pw : Option (List Byte × List Byte)
  /-- Change log, newest entry first. -/
  log : List (List Byte)
  fails : Nat
  total : Nat
  locked : Bool
  /-- TAG of a SET_PASSWORD whose new-password entry must follow. -/
  setPw : Option Nat
  deriving DecidableEq, Repr

/-- What an Announce says of a clock (IEEE 1588-2019 data set comparison, R332). -/
structure Announce where
  domain : Nat
  prio1 : Nat
  cls : Nat
  acc : Nat
  var : Nat
  prio2 : Nat
  /-- Grandmaster clockIdentity, byte 0 lowest. -/
  gm : Nat
  steps : Nat
  /-- Identity of the sender. -/
  sender : Nat
  deriving DecidableEq, Repr

/-- Marigold beyond its registers (R331 to R339). Rates are in 2^-16 ppb. -/
structure Mgd where
  i : Int
  rate : Int
  /-- Fraction of a ns not yet counted, in 2^-16 * 10^-6 ns. -/
  frac : Int
  /-- Monotonic ns of the last offset measurement. -/
  lastMeas : Option Nat
  /-- Measurements collected towards QUAL_SYNCS, and consecutive ones within SYNC_NS. -/
  qual : Nat
  good : Nat
  everLocked : Bool
  /-- SYNC survives in holdover (R334). -/
  holding : Bool
  /-- I and the ns for which it held, newest first, in LOCKED, MASTER with PPS_IN and PARTNER (R336). -/
  hist : List (Nat × Int)
  holdAt : Nat
  /-- Best Announce of each port; the selected master: port and Announce. -/
  ann : Tbl (Option Announce)
  parent : Option (Nat × Announce)
  /-- The partner's SYNC as CTRL last reported it (Table MGD-3). -/
  partnerSync : Bool
  /-- MASTER, or HOLDOVER out of it, still announcing (Table MGD-3). -/
  announcing : Bool
  /-- When the PPS_OUT pulse ends, monotonic ns (R337). -/
  pps : Option Nat
  /-- Events that occurred while no pattern was in force, so that Q50 was disabled: Marigold time, code, SYNC, payload. They
  are offered once the ring is there (R338, R339). -/
  owed : List (Nat × Nat × Bool × List Byte)
  /-- Marigold's messages: when those of a kind last went, monotonic ns; the next sequenceId per type and port. -/
  ptpAt : Tbl Nat
  ptpSeq : Tbl Nat
  /-- Timestamps produced at P0, P1, P2 and offered to Q31 since power-on (Table MGD-5). -/
  tseq : Tbl Nat
  deriving DecidableEq, Repr

/-- A transmit buffer of a CAN controller as committed (R382), and its request. -/
structure CanBuf where
  ident : Nat
  ctl : Nat
  data : List Byte
  /-- Data committed for a scheduled buffer's next occurrence. -/
  staging : List Byte
  /-- The present request is an occurrence; it was admitted; what happened to it (Table CAN-6). -/
  sched : Bool
  admitted : Bool
  /-- The allocated time of an admitted request: starts and lengths, sequencer ns (R390). -/
  alloc : List (Nat × Nat)
  arbLost : Bool
  /-- An attempt met an error; the frame was sent again after one. -/
  errd : Bool
  retry : Bool
  /-- The frame had started when its slot or its allocated time ended: it is not offered again (R388, R390). -/
  slotOver : Bool
  deriving DecidableEq, Repr

/-- A CAN controller beyond its registers (13_can_controllers.md). -/
structure CanSt where
  bufs : Tbl (Option CanBuf)
  /-- State entered at the next bus idle: 1 NORMAL, 2 LISTEN, 3 DETECT; 0 none. -/
  wait : Nat
  /-- The buffers that the controller has offered since its last attempt ended or the bus was idle, newest first, each
  with the monotonic ns from which on it was the choice: a frame in transmission is the choice of the instant at which
  it started (R383, R388). -/
  offered : List (Option Nat × Nat)
  /-- The former primary completes a frame in transmission and then enters LISTEN (R394). -/
  leaving : Bool
  /-- Elements of the filter list that was active before the last swap (R379). -/
  former : Nat
  tec : Nat
  rxc : Nat
  recovering : Bool
  /-- Detection: candidate, valid frames seen on it, first pass over. -/
  cand : Nat
  good : Nat
  passed : Bool
  /-- Frames offered to FIFO 0 and FIFO 1, and transmit events, since power-on. -/
  rseq0 : Nat
  rseq1 : Nat
  tevseq : Nat
  /-- When 0x0136 was last recorded, monotonic ns. -/
  rxErrAt : Option Nat
  deriving DecidableEq, Repr

/-- The CAN controllers. -/
structure Can where
  ctl : Tbl CanSt
  /-- The active scheduled list (R389). -/
  sched : List Byte
  deriving DecidableEq, Repr

/-- A subscription (R357, R358). -/
structure SubSt where
  fresh : Bool
  seq : Option Nat
  /-- Payload of the last accepted frame. -/
  buf : List Byte
  deriving DecidableEq, Repr

/-- A variable of a publication as staged: its bytes, and written since entry to RUN (R355). -/
structure PubVar where
  val : Nat
  written : Bool
  deriving DecidableEq, Repr

/-- What a frame is to the switch: a frame of software with a timestamp request of identifier `id` (R342), the health
frame (R448), or neither. -/
inductive FrameKind where
  | plain
  | stamped (id : Nat)
  | health
  deriving DecidableEq, Repr

/-- A frame that waits for the gate of its class at an egress port (R349). -/
structure Waiting where
  port : Nat
  cls : Nat
  bytes : List Byte
  kind : FrameKind
  deriving DecidableEq, Repr

/-- The switch and Pourline beyond their registers (12_network_pourline.md). -/
structure Net where
  /-- Forwarding table: MAC, VID, ports, static. -/
  fdb : List (Nat × Nat × Nat × Bool)
  /-- Active publication and subscription lists with their layout entries (R366, R367). -/
  pubList : List Byte
  subList : List Byte
  /-- Publication variables, keyed publication * 4096 + variable. -/
  pubVars : Tbl PubVar
  subs : Tbl SubSt
  /-- MODE of the last frame accepted from each station (R358). -/
  stMode : Tbl Nat
  /-- Sources of duplicate-ID frames already recorded; when one was last seen, monotonic ns (R368). -/
  dupSeen : List Nat
  dupAt : Option Nat
  /-- Frames offered to Q32 to Q38 since power-on (Table PLN-9). -/
  rseq : Tbl Nat
  /-- When 0x0122 was last recorded per port, monotonic ns. -/
  rxErrAt : Tbl (Option Nat)
  /-- Duplicates known to PRP and HSR: SA, sequence number, arrival, path. -/
  dupTab : List (Nat × Nat × Nat × Nat)
  /-- Residence times that a two-step transparent clock owes to messages to come: type, port identity, sequenceId, ns
  (R332). -/
  residues : List (Nat × Nat × Nat × Nat)
  /-- Frames that wait for an egress gate, oldest first (R349). -/
  wait : List Waiting
  /-- HSR frames passed on round the ring: SA, sequence number, port of arrival, when (R350). -/
  ringTab : List (Nat × Nat × Nat × Nat)
  /-- Sequence numbers of PRP and HSR frames and of supervision frames; when the last of these went, monotonic ns. -/
  redSeq : Nat
  supSeq : Nat
  supAt : Option Nat
  deriving DecidableEq, Repr

/-- A frame that waits on the runner link (Table RUN-3). -/
structure LinkFrame where
  type : Nat
  flags : Nat
  arg : Nat
  ts : Nat
  payload : List Byte
  deriving DecidableEq, Repr

/-- The lines of a COPY unit that wait for the own commit: its ts32, lines as address and 64 bytes (R313). -/
structure CopyWait where
  ts : Nat
  lines : List (Nat × List Byte)
  deriving DecidableEq, Repr

/-- A change of the primary's force table: the ts32 of the stack at which it took effect, the entry, and its registers
from PRG_FnID to PRG_FnVHI (R311). -/
structure ForceMsg where
  stack : Nat
  n : Nat
  regs : List Word
  deriving DecidableEq, Repr

/-- The redundancy unit beyond its registers (10_redundancy.md). -/
structure Run where
  /-- ALIVE_OUT: 0 open, 1 toggling, 2 driven low (R300). -/
  aliveOut : Nat
  /-- ALIVE_IN has been DYING since it was last ALIVE; R325 grants SOLO. -/
  dyingSince : Bool
  soloGrant : Bool
  partner : Option Partner
  /-- A takeover waits for ownership: cause, cell, warm. -/
  taking : Option (Nat × Nat × Bool)
  /-- Standby state that the primary takes after a TAKE (Table RUN-7), and the cause and cell of it. -/
  after : Nat
  afterCause : Nat × Nat
  /-- When own OWN_OUT fell with the excitation still on, monotonic ns (R303). -/
  fellAt : Option Nat
  /-- When the link was lost with the standby SYNCED, monotonic ns (R324). -/
  lostSynced : Option Nat
  resync : Bool
  /-- SNAP units that have arrived: task and POUR_NO (R308). -/
  snaps : Tbl (Option Nat)
  /-- OVEC of the own last commit and of the primary's, per task (R316). -/
  ovec : Tbl (List Byte)
  primOvec : Tbl (List Byte)
  excl : Nat
  /-- COPY units that wait for the own commit, per task (R313). -/
  copies : Tbl (List CopyWait)
  /-- Lines not yet sent, per task (R312); under key 32 those that travel with the next copy of any task (R313). -/
  dirty : Tbl (List Nat)
  /-- MON of the last result with MONVALID = 1 of each output cell (R324). -/
  monGood : Tbl (Option Word)
  /-- Refusal of the role resolution: reason code and argument (R325). -/
  refusal : Option (Nat × Nat)
  /-- A warm restart restored role PRIMARY. -/
  offer : Bool
  /-- The sender (R305, R306): frames that wait; whether the last of LATCH and SNAP sent was a LATCH; what the link, in
  1/33 bytes, and CTRL, in bytes, may still send in this µs; the next SEQ. -/
  tx : List LinkFrame
  lastLatch : Bool
  credit : Int
  ctrlCredit : Int
  seq : Nat
  /-- Consecutive frames that failed their CRC (R304). -/
  crcRun : Nat
  /-- Lines that the resynchronisation pass has still to send (R314). -/
  pass : List Nat
  /-- Changes of the primary's force table whose stack is still to come (R311). -/
  forces : List ForceMsg
  /-- Of a forwarded download: accepted by this module, and by the standby (Table RUN-14, PDL). -/
  pdl : Bool × Bool
  deriving DecidableEq, Repr

/-- A Ladle channel beyond its registers (14_ladle_dma.md). Times are sequencer ns. -/
structure LdlCh where
  /-- The instant at which the pending channel may run, and the end of its window or allocation. -/
  runAt : Nat
  endAt : Nat
  /-- ACYCLIC time allocated to it: start and length (R405). -/
  alloc : Option (Nat × Nat)
  /-- The status in which the chain ends at the end of its running descriptor; 0: none (R403, R411). -/
  stop : Nat
  /-- COUNTs of this occurrence (R402 check 4). -/
  used : Nat
  deriving DecidableEq, Repr

/-- The descriptor that the Ladle engine runs: its address, bytes, and the status its checks gave. -/
structure LdlDesc where
  addr : Nat
  bytes : List Byte
  status : Nat
  deriving DecidableEq, Repr

/-- Ladle. -/
structure Ldl where
  chans : Tbl LdlCh
  cur : Option LdlDesc
  deriving DecidableEq, Repr

/-- The counter collector beyond its registers (16_performance_counters.md). -/
structure Pmc where
  /-- Live counts of the 128 counters; a captured PMC_CnHI that the next read returns (R444). -/
  cnt : Tbl Nat
  hi : Tbl (Option Word)
  /-- Bytes read and written per fabric port, and class 0 and 1 bytes of ports 10 and 11. -/
  rd : Tbl Nat
  wr : Tbl Nat
  c01 : Tbl Nat
  /-- The class 0 and 1 bytes at the last snapshot. -/
  c01Snap : Tbl Nat
  /-- Monotonic ns of the last snapshot's end, or of the start. -/
  since : Nat
  /-- Staged WIN_US and selections: counter, EVSEL and MASK (R440). -/
  stWin : Option Nat
  stSel : List (BitVec 7 × Nat)
  /-- When 0x0160 was last recorded, monotonic ns; 0x0161 recorded in this window. -/
  bwAt : Option Nat
  denied : Bool
  deriving DecidableEq, Repr

/-- A reading's runs of consecutive ticks, for each axis of S29: beyond a warning limit, beyond an alarm limit, inside every limit by
the hysteresis, at an end of the range or missing, and valid (R446). -/
structure SensSt where
  warn : Nat
  alarm : Nat
  norm : Nat
  fail : Nat
  valid : Nat
  /-- The classification of the reading, 0 NORMAL to 3 FAILED. -/
  cls : Nat
  deriving DecidableEq, Repr

/-- The cope subsystem beyond its registers (17_cope_management.md). -/
structure Cope where
  /-- Key store slots 0 to 3: 0 EMPTY, 1 VALID, 2 REVOKED, and the point X, Y (R451). -/
  keys : Tbl (Nat × List Byte)
  /-- Firmware banks A and B, and the bank marked ACTIVE (R449, R450). -/
  bankA : List Byte
  bankB : List Byte
  active : Nat
  /-- A firmware transfer is open. -/
  fwOpen : Bool
  /-- Salt and hash of the management password; consecutive wrong passwords; LOGIN refused for 60 s (R452). -/
  pw : Option (List Byte × List Byte)
  fails : Nat
  locked : Bool
  sens : Tbl SensSt
  /-- The latest health body, and the health frame that waits in the transmit slot (R448). -/
  body : List Byte
  frame : Option (List Byte)
  /-- A reset has ended a session, whose end is recorded at the next boot (R452). -/
  endOwed : Bool
  deriving DecidableEq, Repr

/-- A save that runs (R465): its cause, its start in monotonic and Marigold ns, V_R in mV at the start, and the
hold-up before it in ms. -/
structure SaveSt where
  cause : Nat
  start : Nat
  ts : Nat
  vr : Nat
  hold : Nat
  deriving DecidableEq, Repr

/-- The power/clock controller beyond its registers (18_power_holdup.md, R61, R474, R479). -/
structure Pwr where
  /-- The module has power; false: OFF. -/
  on : Bool
  /-- A reset has acted and start-up has not begun: RST_IN# is held low, or power good is awaited (R61, R468). -/
  inReset : Bool
  /-- RST_IN# is held low after a recognised reset. -/
  rstHeld : Bool
  /-- Cause index of the start-up that runs or comes next (Table PAT-9). -/
  cause : Nat
  /-- Monotonic ns at the start of the start-up timeline and at the last hold-up entry. -/
  startAt : Nat
  holdAt : Nat
  /-- The bank's health test has run since power good (R461). -/
  tested : Bool
  /-- Monotonic ns at which the extension, while it charges, was measured at 10 V or more (R462). -/
  extAt : Option Nat
  /-- The limit of the charging power in 10 mW, once the drag plane has started (R458). -/
  limit : Option Nat
  /-- Feeds whose input disconnect is open, bit 0 feed A (R474). -/
  disc : Nat
  /-- Monotonic ns at which the lamp test ends; at which NET1 and NET2 last went dark for a frame (R479). -/
  lampEnd : Nat
  blink : Tbl (Option Nat)
  save : Option SaveSt
  deriving DecidableEq, Repr


/-- The state of the module. -/
structure State where
  /-- Every register, by physical address (R4, R32). -/
  regs : Tbl Word
  /-- SRAM, MRAM and LPDDR4X (R32 to R34). -/
  mem : List Host.Cell
  /-- Monotonic ns since power good. -/
  mono : Nat
  /-- Marigold time in ns since the 1970 epoch (R9). -/
  mgdNs : Nat
  /-- The model's own counter of free values (log 3). -/
  free : Nat
  evr : Evr
  /-- Commands' answer to the last bus access. -/
  bus : BusResp
  /-- What has left the module, oldest first. -/
  outbox : List Out
  sys : Sys
  pat : Pat
  pour : Pour
  prg : Prg
  chan : Chan
  cru : Cru
  fox : Fox
  saf : Saf
  safNv : SafNv
  mgd : Mgd
  can : Can
  net : Net
  run : Run
  ldl : Ldl
  pmc : Pmc
  cope : Cope
  pwr : Pwr
  /-- The commands that wait, first in, first out. -/
  pending : List Instr
  deriving DecidableEq, Repr

/-- An empty recorder (R430: a new module holds P0 of 16 MiB and P1 of 1,024 MiB). -/
def Evr.reset : Evr where
  staging := []
  tail := []
  parts := []
  layout := [16, 1024, 0, 0]
  codeTbl := none
  buckets := []
  lossPending := false
  lossRun := 0
  port := []
  turn := 0
  cursors := []
  spares := 256
  next := none
  hold := false
  posts := []
  badSeq := []

def Sys.reset : Sys := ⟨[], [], [], [], [], [], [], []⟩

/-- No key in place (log 6). -/
def Pat.reset : Pat := ⟨[], [], 0xFFFFFF, none, false, 0, true, none, none, [], [], none⟩

def TaskSt.reset : TaskSt := ⟨0, 0, 0, 0, none, none, none, false, [], false, false, false, [], []⟩

def Pour.reset : Pour := ⟨0, [], [], [], 0⟩

def ForceStack.reset : ForceStack := ⟨0, [], []⟩

def Prg.reset : Prg := ⟨[], [], [], [], ForceStack.reset, ForceStack.reset, []⟩

/-- A cell at the start of conversion (R214, R249). -/
def CellSt.reset : CellSt where
  convAt := 0
  y := none
  divRun := 0
  divOk := 0
  missRun := 0
  recov := 0
  lastGood := none
  diPrev := []
  diAt := 0
  diSeen := false
  dc := 0
  dcS := 0
  armed := false
  zPrev := none
  crossBase := none
  crossOff := 0
  period := none
  sumSq := 0
  sumSqS := 0
  sumCnt := 0
  recent := []
  recentS := []
  crossPrev := none
  wavePend := none
  convEnd := 0
  trigArmed := true
  p := 0
  heldP := none
  driven := none
  aim := 0
  changedAt := 0
  sub := true
  taken := false
  fbSubst := false
  clamp := false
  cmdBad := false
  doProt := false
  devRun := 0
  stageFault := false
  passRun := 0
  ffSet := []
  ffClr := []
  cmplAt := none
  monRun := 0

def Chan.reset : Chan := ⟨[], false, false, none⟩

def LoopSt.reset : LoopSt where
  req := none
  held := none
  staged := none
  inEffect := 0
  done := true
  first := false
  cold := true
  trans := false
  reseed := false
  linkSp := none
  heldPv := none
  wasBad := false
  trk := none
  pvin := none
  hist := []
  win := []
  fbSubst := false
  sample := 0
  record := none
  clrPlaus := false
  clrNum := false

def Cru.reset : Cru := ⟨[], [], [], none⟩

def Fox.reset : Fox := ⟨0, 0, 0, 0, 0, [], [], 0⟩

def Saf.reset : Saf where
  st := 0
  cfgAt := 0
  cfg := []
  loaded := false
  vars := 0
  stmt := []
  sdiFail := []
  sdiPass := []
  sdiFault := 0
  tpFail := []
  tpPass := []
  tpFault := 0
  pairCnt := []
  pairFault := 0
  disc := []
  zero := []
  ack := []
  static := []
  chgAt := []
  lock := 0
  fault := 0
  ovc := 0
  hs := 0
  hsSw := 0
  lsSw := 0
  preAt := []
  pulse := none
  supTrip := false
  stopped := true
  ownAt := 0
  lfLow := false
  mism := 0
  safeDem := false
  test := 0
  err := 0
  q63 := []
  q63At := 0
  inBits := 0
  sseq := []
  container := []

/-- A new module: authorised CRC 0, no password, empty log. -/
def SafNv.reset : SafNv := ⟨0, none, [], 0, 0, false, none⟩

def Mgd.reset : Mgd := ⟨0, 0, 0, none, 0, 0, false, false, [], 0, [], none, false, false, none, [], [], [], []⟩

def CanBuf.reset : CanBuf := ⟨0, 0, [], [], false, false, [], false, false, false, false⟩

def CanSt.reset : CanSt := ⟨[], 0, [], false, 0, 0, 0, false, 0, 0, false, 0, 0, 0, none⟩

def Can.reset : Can := ⟨[], []⟩

def SubSt.reset : SubSt := ⟨false, none, []⟩

def Net.reset : Net := ⟨[], [], [], [], [], [], [], none, [], [], [], [], [], [], 0, 0, none⟩

def Run.reset : Run :=
  ⟨0, false, false, none, none, 0, (0, 0), none, none, false, [], [], [], 0, [], [], [], none, false, [], false, 0, 0, 0,
    0, [], [], (false, false)⟩

def LdlCh.reset : LdlCh := ⟨0, 0, none, 0, 0⟩

def Ldl.reset : Ldl := ⟨[], none⟩

def Pmc.reset : Pmc := ⟨[], [], [], [], [], [], 0, none, [], none, false⟩

/-- A new module: every key slot EMPTY, the banks as programmed at manufacture, bank A ACTIVE, no password. -/
def Cope.reset : Cope where
  keys := []
  bankA := Config.factoryBank 0
  bankB := Config.factoryBank 1
  active := 0
  fwOpen := false
  pw := none
  fails := 0
  locked := false
  sens := []
  body := []
  frame := none
  endOwed := false

/-- The module before its first power good. -/
def Pwr.reset : Pwr := ⟨false, false, false, 0, 0, 0, false, none, none, 0, 0, [], none⟩


/-- The module right after power-on reset. -/
def State.reset : State where
  regs := []
  mem := []
  mono := 0
  mgdNs := 0
  free := 0
  evr := Evr.reset
  bus := ⟨[], false⟩
  outbox := []
  sys := Sys.reset
  pat := Pat.reset
  pour := Pour.reset
  prg := Prg.reset
  chan := Chan.reset
  cru := Cru.reset
  fox := Fox.reset
  saf := Saf.reset
  safNv := SafNv.reset
  mgd := Mgd.reset
  can := Can.reset
  net := Net.reset
  run := Run.reset
  ldl := Ldl.reset
  pmc := Pmc.reset
  cope := Cope.reset
  pwr := Pwr.reset
  pending := []

end Sys2Proof.Machine
end

