-- ==== Sys2Proof/Machine/Ops.lean ====
section
/-! DEFINITION. The named operations over the sparse tables, bytes, the register store, memory,
time, the hardware queues and the event sources (R4 to R12, R31 to R42, R417). -/

namespace Sys2Proof.Machine

/-! ### Sparse tables -/

/-- The non-default entries of values `vs` at keys from `a` up. -/
def tblRun {α : Type} [DecidableEq α] (d : Nat → α) : Nat → List α → Tbl α
  | _, [] => []
  | a, v :: vs => if v = d a then tblRun d (a + 1) vs else (a, v) :: tblRun d (a + 1) vs

/-- Values `vs` written at keys `a`, `a + 1`, …; an entry equal to the default is not listed. -/
def tblPut {α : Type} [DecidableEq α] (d : Nat → α) (t : Tbl α) (a : Nat) (vs : List α) : Tbl α :=
  t.filter (fun e => decide (e.1 < a)) ++ tblRun d a vs
    ++ t.filter (fun e => decide (a + vs.length ≤ e.1))

/-- What key `k` reads as. -/
def tblGet {α : Type} (d : Nat → α) : Tbl α → Nat → α
  | [], k => d k
  | (j, v) :: r, k => if j = k then v else tblGet d r k

/-- One key written. -/
def tblSet {α : Type} [DecidableEq α] (d : Nat → α) (t : Tbl α) (k : Nat) (v : α) : Tbl α :=
  tblPut d t k [v]

/-- The canonical form: keys strictly rising, no listed default. -/
def tblWf {α : Type} [DecidableEq α] (d : Nat → α) : Tbl α → Bool
  | [] => true
  | (k, v) :: r => decide (v ≠ d k) && r.all (fun e => decide (k < e.1)) && tblWf d r

/-! ### Bytes and words (R8) -/

/-- `n` bytes of `v`, lowest first. -/
def leBytes : Nat → Nat → List Byte
  | 0, _ => []
  | n + 1, v => BitVec.ofNat 8 v :: leBytes n (v / 256)

/-- The number that bytes spell, lowest first. -/
def leVal : List Byte → Nat
  | [] => 0
  | b :: r => b.toNat + 256 * leVal r

/-- The number that bytes spell, highest first (IEEE 1588 and Ethernet fields, R8). -/
def beVal (bs : List Byte) : Nat := leVal bs.reverse

/-- `n` bytes of `v`, highest first. -/
def beBytes (n v : Nat) : List Byte := (leBytes n v).reverse

/-- `n` bytes from offset `o`; bytes beyond the end read 0. -/
def slice (bs : List Byte) (o n : Nat) : List Byte :=
  let r := (bs.drop o).take n
  r ++ List.replicate (n - r.length) 0

/-- The unsigned little-endian field of `n` bytes at offset `o`. -/
def fieldAt (bs : List Byte) (o n : Nat) : Nat := leVal (slice bs o n)

/-- Bytes `vs` laid over `bs` at offset `o`, inside `bs`. -/
def overlay (bs : List Byte) (o : Nat) (vs : List Byte) : List Byte :=
  bs.take o ++ (vs.take (bs.length - o)) ++ bs.drop (o + vs.length)

/-- `bs` cut or filled with zero bytes to length `n`. -/
def padTo (n : Nat) (bs : List Byte) : List Byte := slice bs 0 n

/-- Bits [hi:lo] of a number. -/
def bitsOf (v hi lo : Nat) : Nat := v / 2 ^ lo % 2 ^ (hi + 1 - lo)

/-- Bit `i` of a number. -/
def bitOf (v i : Nat) : Bool := v.testBit i

/-- 1 for true. -/
def ofBool (b : Bool) : Nat := if b then 1 else 0

/-- The two's complement number held in `w` bits. -/
def signedOf (w v : Nat) : Int :=
  let m := v % 2 ^ w
  if 2 * m < 2 ^ w then (m : Int) else (m : Int) - 2 ^ w

/-- The two's complement encoding of `i` in `w` bits. -/
def unsignedOf (w : Nat) (i : Int) : Nat := (i % (2 ^ w : Int)).toNat

/-- `i` held to the range of a signed `w`-bit field (R346: "saturating"). -/
def satSigned (w : Nat) (i : Int) : Int :=
  let m : Int := 2 ^ (w - 1)
  if i < -m then -m else if i > m - 1 then m - 1 else i

/-! ### The register store (R4) -/

/-- The queue policy of Table SYS-12: 0 DROP_NEWEST, 1 OVERWRITE_OLDEST, 2 HOLD. -/
def queuePolicy (n : Nat) : Nat :=
  if 32 ≤ n ∧ n ≤ 39 then 1
  else if (40 ≤ n ∧ n ≤ 47) ∨ (52 ≤ n ∧ n ≤ 55) ∨ (60 ≤ n ∧ n ≤ 63) then 2
  else 0

/-- The reset value of the register at physical address `a` (the reset columns of the register
tables). The registers whose reset entry is "pattern" read 0 until the loader writes them (R7). -/
def resetWord (a : Nat) : Word :=
  if a = 0x20000000 then 0x96320100
  else if 0x20001000 ≤ a ∧ a < 0x20001800 then
    if a % 0x20 = 0x14 then 8
    else if a % 0x20 = 0x08 then BitVec.ofNat 32 (queuePolicy ((a - 0x20001000) / 0x20) * 256)
    else 0
  else if 0x20031000 ≤ a ∧ a < 0x20035000 then
    if a % 0x20 = 0x0C then 0xFFFFFFFF else 0
  else if 0x20100000 ≤ a ∧ a < 0x20140000 then
    if 0x1000 ≤ a % 0x10000 ∧ a % 0x10000 < 0x1200 ∧ a % 0x40 = 0x08 then 2 else 0
  else if a = 0x20210000 then 2
  else if a = 0x20500008 then BitVec.ofNat 32 Config.factoryMac.toNat &&& 0xFFFFFFFE
  else if a = 0x2050000C then BitVec.ofNat 32 (Config.factoryMac.toNat / 2 ^ 32)
  else if 0x20600000 ≤ a ∧ a < 0x20640000 ∧ a % 0x10000 = 0x24 then 0x200
  else if a = 0x20B00000 then 1
  else 0

/-- What the register at address `a` holds. -/
def State.reg (s : State) (a : Nat) : Word := tblGet resetWord s.regs a

/-- The register at address `a` set to `v`. -/
def State.setReg (s : State) (a : Nat) (v : Word) : State :=
  { s with regs := tblPut resetWord s.regs a [v] }

/-- The register at `a` set to a number modulo 2^32. -/
def State.setRegN (s : State) (a n : Nat) : State := s.setReg a (BitVec.ofNat 32 n)

/-- The register's number. -/
def State.regN (s : State) (a : Nat) : Nat := (s.reg a).toNat

/-- A free-running 32-bit count raised by `n`. -/
def State.bumpBy (s : State) (a n : Nat) : State := s.setReg a (s.reg a + BitVec.ofNat 32 n)

/-- A free-running 32-bit count raised by 1. -/
def State.bump (s : State) (a : Nat) : State := s.bumpBy a 1

/-- A named field NAME[hi:lo] of the register at `addr`. -/
structure Fld where
  addr : Nat
  hi : Nat
  lo : Nat
  deriving DecidableEq, Repr

/-- A word with bits [hi:lo] replaced by `v`. -/
def setBits (w : Word) (hi lo v : Nat) : Word :=
  let m : Word := BitVec.ofNat 32 ((2 ^ (hi + 1 - lo) - 1) * 2 ^ lo)
  (w &&& ~~~m) ||| (BitVec.ofNat 32 (v * 2 ^ lo) &&& m)

/-- The number a field holds. -/
def State.fld (s : State) (f : Fld) : Nat := bitsOf (s.regN f.addr) f.hi f.lo

/-- A field set to a number, the register's other bits kept. -/
def State.setFld (s : State) (f : Fld) (v : Nat) : State :=
  s.setReg f.addr (setBits (s.reg f.addr) f.hi f.lo v)

/-- A one-bit field read as a truth value. -/
def State.flag (s : State) (f : Fld) : Bool := s.fld f != 0

/-- A one-bit field set. -/
def State.setFlag (s : State) (f : Fld) (b : Bool) : State := s.setFld f (ofBool b)

/-- A field raised by 1, stopping at its largest value ("saturates"). -/
def State.bumpSat (s : State) (f : Fld) : State :=
  let top := 2 ^ (f.hi + 1 - f.lo) - 1
  s.setFld f (if s.fld f < top then s.fld f + 1 else top)

/-- Bit `i` of the register at `a`. -/
def State.bit (s : State) (a i : Nat) : Bool := bitOf (s.regN a) i

/-- Bit `i` of the register at `a` set to `b`. -/
def State.setBit (s : State) (a i : Nat) (b : Bool) : State := s.setFld ⟨a, i, i⟩ (ofBool b)

/-- Bits of the register at `a` set where `m` has ones. -/
def State.orReg (s : State) (a m : Nat) : State := s.setReg a (s.reg a ||| BitVec.ofNat 32 m)

/-- Every register with an address from `lo` up to `hi` back at its reset value. -/
def State.clearRegs (s : State) (lo hi : Nat) : State :=
  { s with regs := s.regs.filter (fun e => decide (e.1 < lo ∨ hi ≤ e.1)) }

/-- Words written from address `a` up, four bytes each. -/
def State.putWords (s : State) (a : Nat) : List Word → State
  | [] => s
  | w :: ws => (s.setReg a w).putWords (a + 4) ws

/-- Bytes gathered four to a word, lowest first. -/
def toWords : List Byte → List Word
  | [] => []
  | b0 :: [] => [BitVec.ofNat 32 (leVal [b0])]
  | b0 :: b1 :: [] => [BitVec.ofNat 32 (leVal [b0, b1])]
  | b0 :: b1 :: b2 :: [] => [BitVec.ofNat 32 (leVal [b0, b1, b2])]
  | b0 :: b1 :: b2 :: b3 :: r => BitVec.ofNat 32 (leVal [b0, b1, b2, b3]) :: toWords r

/-- Bytes of `n` registers from address `a` up. -/
def State.regBytes (s : State) (a n : Nat) : List Byte :=
  (List.range n).flatMap (fun i => leBytes 4 (s.regN (a + 4 * i)))

/-! ### Memory (R32 to R34) -/

/-- The three memories of Table SYS-10. -/
inductive MemKind where
  | sram | mram | ddr
  deriving DecidableEq, Repr

/-- Which memory holds the byte at address `a`, if any. -/
def memKind (a : Nat) : Option MemKind :=
  if a < 0x800000 then some .sram
  else if 0x1000000 ≤ a ∧ a < 0x1400000 then some .mram
  else if 0x100000000 ≤ a ∧ a < 0x200000000 then some .ddr
  else none

/-- What a byte of memory that nothing has written reads as. DESIGN CHOICE: log 2. -/
def memDefault (_ : Nat) : Byte := 0

/-- Memory is in its canonical form: addresses strictly rising, no entry equal to what an unlisted address reads as. -/
def Memory.wf (m : List Host.Cell) : Bool := tblWf memDefault m

/-- The byte at address `a`. -/
def State.mget (s : State) (a : Nat) : Byte := tblGet memDefault s.mem a

/-- `n` bytes from address `a`. -/
def State.mread (s : State) (a n : Nat) : List Byte := (List.range n).map (fun i => s.mget (a + i))

/-- The little-endian number of `n` bytes at address `a`. -/
def State.mnat (s : State) (a n : Nat) : Nat := leVal (s.mread a n)

/-- Bytes written from address `a` up. An ECC word that they cover whole gets new check bits, which clears
its error (R34). -/
def State.mput (s : State) (a : Nat) (bs : List Byte) : State :=
  let keep (w : Nat) : Bool := !decide (a ≤ 16 * w ∧ 16 * w + 16 ≤ a + bs.length)
  { s with
    mem := tblPut memDefault s.mem a bs
    sys := { s.sys with eccCe := s.sys.eccCe.filter keep, eccUe := s.sys.eccUe.filter keep } }

/-! ### Time (R9 to R12) -/

/-- Nanoseconds in a second. -/
abbrev NS : Nat := 1000000000

/-- The ts32 of a Marigold time in nanoseconds (R10). -/
def ts32Of (t : Nat) : Nat := t % 2 ^ 32

/-- The stored twelve bytes of a ts80 (R9). -/
def ts80Bytes (t : Nat) : List Byte :=
  leBytes 4 (t / NS % 2 ^ 32) ++ leBytes 2 (t / NS / 2 ^ 32) ++ leBytes 2 0 ++ leBytes 4 (t % NS)

/-- The time that a stored ts80 names. -/
def ts80Val (bs : List Byte) : Nat :=
  NS * (fieldAt bs 0 4 + 2 ^ 32 * fieldAt bs 4 2) + fieldAt bs 8 4

/-- The ts32 extended against a reference time (R11): the time within 2^31 ns of the reference
whose ts32 it is. -/
def extendTs32 (ref v : Nat) : Int := (ref : Int) + signedOf 32 ((v + 2 ^ 32 - ref % 2 ^ 32) % 2 ^ 32)

/-- Marigold time now, ns. -/
def State.now (s : State) : Nat := s.mgdNs

/-- Monotonic microseconds since power good. -/
def State.monoUs (s : State) : Nat := s.mono / 1000

/-! ### Free values (log 3) -/

/-- The next free value of `w` bits; the counter moves on. -/
def State.draw (s : State) (w : Nat) : Nat × State :=
  ((Config.freeWord s.free).toNat % 2 ^ w, { s with free := s.free + 1 })

/-! ### Station mode (Table PAT-15) -/

def RUNSTAT_MODE : Fld := ⟨0x20000014, 3, 0⟩
/-- PRG_STAT.HALT_CAUSE (Table PRG-12). -/
def HALT_CAUSE : Fld := ⟨0x20030000, 11, 8⟩
def RUNSTAT_PHASE : Fld := ⟨0x20000014, 11, 8⟩
def RUNSTAT_RELOAD_BUSY : Fld := ⟨0x20000014, 12, 12⟩
def RUNSTAT_ACCEPTED : Fld := ⟨0x20000014, 13, 13⟩
def RUNSTAT_CANCELLED : Fld := ⟨0x20000014, 14, 14⟩
def RUNSTAT_CHECK_BUSY : Fld := ⟨0x20000014, 15, 15⟩
def RUNSTAT_REASON : Fld := ⟨0x20000014, 31, 16⟩

/-- The modes of SYS_RUNSTAT.MODE (Table PAT-15). -/
abbrev NONE : Nat := 0
abbrev STOP : Nat := 1
abbrev RUN : Nat := 2
abbrev HALT : Nat := 3
abbrev SAFE : Nat := 4
abbrev STARTING : Nat := 5

/-- SYS_RUNSTAT.MODE. -/
def State.mode (s : State) : Nat := s.fld RUNSTAT_MODE

/-- The mode changed. -/
def State.setMode (s : State) (m : Nat) : State := s.setFld RUNSTAT_MODE m

/-- The drag plane has started: STOP, RUN, SAFE or HALT (R28). -/
def State.dragStarted (s : State) : Bool :=
  s.mode == STOP || s.mode == RUN || s.mode == SAFE || s.mode == HALT

/-- DRAG_PLANE_START has run: in one of the modes above, or in STARTING while PHASE 5 lasts (Table PAT-12). -/
def State.dragUp (s : State) : Bool := s.dragStarted || (s.mode == STARTING && s.fld RUNSTAT_PHASE == 5)

/-- A HALT that a module fault caused (R17, Table PRG-12). -/
def State.faultHalt (s : State) : Bool := s.mode == HALT && s.fld HALT_CAUSE == 1

/-- The module runs: it has power, no reset holds it, no save runs. -/
def State.up (s : State) : Bool := s.pwr.on && !s.pwr.inReset && s.pwr.save.isNone

/-! ### Counters and fabric traffic (R29, R30, R435 to R439) -/

def PMC_RUNNING : Fld := ⟨0x20900000, 0, 0⟩

def pmcSel (n : Nat) : Nat := 0x20900800 + 4 * n

def State.pmcIsolated (s : State) : Bool := s.bit 0x20000028 14

/-- The range of MASK for an event of a group; none: the event has no MASK (Table PMC-1). -/
def pmcMask (g ev : Nat) : Option (Nat × Nat) :=
  if g < 2 then (if ev = 0x15 then some (0, 31) else none)
  else match g with
    | 3 => if ev = 0x12 then some (0, 1) else none
    | 7 => some (0, 3)
    | 8 => some (0, 2)
    | 10 => if ev = 0x12 then some (0, 2) else none
    | 11 => some (0, 3)
    | 12 => if ev = 0x10 then some (1, 5) else none
    | 14 => if ev = 0x10 then some (0, 3) else if ev = 0x12 then some (0, 11) else none
    | 15 => some (0, 13)
    | _ => none

def State.pmcCnt (s : State) (n : Nat) : Nat := tblGet (fun _ => 0) s.pmc.cnt n

/-- The domain that holds what counter group `g` observes for unit `m` (Table SYS-5); none: no domain that can be
OFF. -/
def pmcDomain (g m : Nat) : Option Nat :=
  match g with
  | 0 => some 0
  | 1 => some 1
  | 3 => some 2
  | 4 => some 3
  | 6 => some 12
  | 7 => some (4 + m % 4)
  | 11 => some (8 + m % 4)
  | _ => none

/-- The domain is OFF. -/
def State.pmcOff (s : State) (d : Nat) : Bool := s.fld ⟨0x20000044, 2 * d + 1, 2 * d⟩ == 3

/-- Counter `n` holds its value: its selection is Off, or what it counts lies in domains that are OFF (R435, R436). -/
def State.pmcHeld (s : State) (n : Nat) : Bool :=
  let w := s.regN (pmcSel n)
  let g := n / 8
  let all : Bool := bitsOf w 15 8 == 0xFF
  bitsOf w 7 0 == 0 ||
    (if g = 7 ∨ g = 11 then (List.range 4).all (fun m =>
        (!all && bitsOf w 15 8 != m) || (match pmcDomain g m with | some d => s.pmcOff d | none => false))
      else (match pmcDomain g 0 with | some d => s.pmcOff d | none => false))

/-- Counter `n` adds `k`, modulo 2^48 with OVF (R436). -/
def State.pmcAdd (s : State) (n k : Nat) : State :=
  let v := s.pmcCnt n + k
  let s := { s with pmc := { s.pmc with cnt := tblPut (fun _ => 0) s.pmc.cnt n [v % 2 ^ 48] } }
  if v < 2 ^ 48 then s else s.setBit (pmcSel n) 16 true

/-- What counter group `g` observes for unit `m` lies in a domain that is OFF: its counters hold (R436). -/
def State.pmcQuiet (s : State) (g m : Nat) : Bool :=
  if (g = 7 ∨ g = 11) ∧ 4 ≤ m then false
  else match pmcDomain g m with
    | some d => s.pmcOff d
    | none => false

/-- `k` occurrences of event `ev` of group `g` at unit `m` reach the counters that select it (R435, R436). -/
def State.pmcCount (s : State) (g ev m k : Nat) : State :=
  if s.flag PMC_RUNNING && !s.pmcIsolated && !s.pmcQuiet g m then
    (List.range 8).foldl (fun s i =>
      let n := 8 * g + i
      let w := s.regN (pmcSel n)
      let mask := bitsOf w 15 8
      let hit := bitsOf w 7 0 == ev && (mask == 0xFF || mask == m || (pmcMask g ev).isNone)
      if hit then s.pmcAdd n k else s) s
  else s

/-- One occurrence of an event without MASK. -/
def State.pmc1 (s : State) (g ev : Nat) : State := s.pmcCount g ev 0 1

/-- Bytes that crossed fabric port `p`; `hi` tells class 0 or 1, which only ports 10 and 11 count apart (R437). -/
def State.pmcBytes (s : State) (p r w : Nat) (hi : Bool) : State :=
  if s.flag PMC_RUNNING && !s.pmcIsolated then
    let add (t : Tbl Nat) (k v : Nat) : Tbl Nat := tblPut (fun _ => 0) t k [(tblGet (fun _ => 0) t k + v) % 2 ^ 48]
    { s with pmc := { s.pmc with
        rd := add s.pmc.rd p r
        wr := add s.pmc.wr p w
        c01 := if hi then add s.pmc.c01 p (r + w) else s.pmc.c01 } }
  else s

/-- What makes a transaction on the fabric: its port (Table SYS-9), its class (Table SYS-8), its counter group and unit
(Table PMC-1; group 16: none, unit 255: no single one). -/
structure Issuer where
  port : Nat
  cls : Nat
  grp : Nat
  unit : Nat
  deriving DecidableEq, Repr

def issAp (p : Nat) : Issuer := ⟨p, 2, p, 0⟩
def issLadle : Issuer := ⟨2, 1, 4, 0⟩
def issCru : Issuer := ⟨3, 0, 3, 0⟩
def issPour : Issuer := ⟨4, 0, 2, 0⟩
def issField (b : Nat) : Issuer := ⟨5, 1, 7, b⟩
def issSwitch : Issuer := ⟨6, 1, 8, 255⟩
def issPln : Issuer := ⟨6, 1, 9, 0⟩
def issPlnAcyclic : Issuer := ⟨6, 2, 9, 0⟩
def issMgd : Issuer := ⟨6, 1, 10, 0⟩
def issCan (n : Nat) : Issuer := ⟨6, 1, 11, n⟩
def issRunner : Issuer := ⟨6, 0, 12, 0⟩
def issSaf : Issuer := ⟨7, 0, 16, 0⟩
def issEvr : Issuer := ⟨8, 3, 13, 0⟩
def issPmc : Issuer := ⟨8, 3, 16, 0⟩
def issCope : Issuer := ⟨9, 3, 16, 0⟩

/-- The counters of the memories count an access, and that they serve it (Table PMC-1, groups 5 and 6, code 0x02). -/
def State.memCount (s : State) (a : Nat) (write : Bool) : State :=
  match memKind a with
  | some .sram => (s.pmc1 5 (if write then 0x11 else 0x10)).pmc1 5 2
  | some .mram => (s.pmc1 5 (if write then 0x13 else 0x12)).pmc1 5 2
  | some .ddr => (s.pmc1 6 (if write then 0x11 else 0x10)).pmc1 6 2
  | none => s

/-- A promoted request of a class 2 or 3 issuer waits at its port (R30). -/
def State.promotedFor (s : State) (i : Issuer) : Bool := decide (2 ≤ i.cls) && s.sys.promoted.contains i.port

/-- A transaction is granted: its class is counted, class 1 for a promoted request, whose promotion is used (R30, R435). -/
def State.grant (s : State) (i : Issuer) : State :=
  let p := s.promotedFor i
  let s : State := if p then { s with sys := { s.sys with promoted := s.sys.promoted.filter (· != i.port) } } else s
  (s.pmcCount 14 0x10 (if p then 1 else i.cls) 1).pmcCount i.grp 2 i.unit 1

/-- The bytes of a transaction cross the port of its issuer and that of the memory, the latter apart for class 0
and 1 (R437, R439). -/
def State.moveBytes (s : State) (i : Issuer) (a n : Nat) (write : Bool) : State :=
  let r := if write then 0 else n
  let w := if write then n else 0
  ((s.memCount a write).pmcBytes i.port r w false).pmcBytes (if memKind a = some .ddr then 11 else 10) r w
    (decide (i.cls < 2))

/-- A block's transaction with memory: `n` bytes at `a`. -/
def State.transfer (s : State) (i : Issuer) (a n : Nat) (write : Bool) : State :=
  if n = 0 then s else (s.grant i).moveBytes i a n write

/-- A block's transaction with `n` bytes that lie in registers, or in a memory outside the address map: it is granted, and
the bytes cross the block's own port alone (log 42). -/
def State.portMove (s : State) (i : Issuer) (n : Nat) (write : Bool) : State :=
  if n = 0 then s else (s.grant i).pmcBytes i.port (if write then 0 else n) (if write then n else 0) false

/-- The block that produces the entries of a hardware queue (Table SYS-12); Pourline's receive and transmit classes are
acyclic (Table SYS-8). An entry of an ingest queue comes from the block of its event (eventIssuer). The classes of the
completion records of Ladle, the CAN transmit events, the triggers and the ingest entries, which Table SYS-8 does not
name: DESIGN CHOICE, log 42. -/
def queueIssuer (n : Nat) : Issuer :=
  if n < 16 then issLadle
  else if n < 24 then issCan ((n - 16) / 2)
  else if n < 28 then issCan (n - 24)
  else if n < 32 then issSwitch
  else if n < 48 then issPlnAcyclic
  else if n = 48 then { issField 255 with cls := 3 }
  else if n = 49 then { issPour with cls := 3 }
  else if n = 50 then { issSwitch with cls := 3 }
  else if n = 51 then { issSaf with cls := 3 }
  else if n < 56 then issCope
  else if n < 60 then issPour
  else issSaf

/-- The block that offers an event, by its index in Table SYS-2: its entry crosses the port of that block, as event recorder
traffic (class 3: DESIGN CHOICE, log 42). A memory offers none of its own; a region's events cross its port. -/
def eventIssuer (b : Nat) : Issuer :=
  let i :=
    if b < 4 then issField b
    else if b = 4 ∨ b = 27 then issField 255
    else if b = 5 ∨ b = 6 then issAp (b - 5)
    else if b = 7 then issPour
    else if b = 8 then issCru
    else if b = 9 then issLadle
    else if b < 14 then issEvr
    else if b = 14 then issPmc
    else if b = 15 ∨ b = 29 then issSwitch
    else if b = 16 then issPln
    else if b = 17 then issMgd
    else if b < 22 then issCan (b - 18)
    else if b = 22 then issRunner
    else if b = 23 ∨ b = 24 ∨ b = 30 then issSaf
    else if b = 28 then issPour
    else issCope
  { i with cls := 3 }

/-! ### Hardware queues (R35 to R42) -/

/-- The address of register `off` of queue `n` (R43). -/
def qreg (n off : Nat) : Nat := 0x20001000 + n * 0x20 + off

def State.qBase (s : State) (n : Nat) : Nat :=
  s.regN (qreg n 0) + 2 ^ 32 * s.regN (qreg n 4)
def State.qLog (s : State) (n : Nat) : Nat := s.fld ⟨qreg n 8, 4, 0⟩
def State.qEsize (s : State) (n : Nat) : Nat := s.fld ⟨qreg n 8, 6, 5⟩
def State.qEnabled (s : State) (n : Nat) : Bool := s.flag ⟨qreg n 8, 31, 31⟩
def State.pidx (s : State) (n : Nat) : Nat := s.regN (qreg n 0x0C)
def State.cidx (s : State) (n : Nat) : Nat := s.regN (qreg n 0x10)

/-- Entry bytes of an ESIZE code. -/
def esizeBytes (e : Nat) : Nat := 16 * 2 ^ e

/-- fill = (PIDX - CIDX) mod 2^32 (R36). -/
def State.qFill (s : State) (n : Nat) : Nat := (s.reg (qreg n 0x0C) - s.reg (qreg n 0x10)).toNat

/-- Ring size in entries. -/
def State.qSize (s : State) (n : Nat) : Nat := 2 ^ s.qLog n

/-- The ESIZE code that the owner of queue `n` accepts (R35 and the owning chapters: R342, R343,
R363, R380, R385, R409, R417, R453, R90, R295). -/
def queueEsize (n : Nat) : Nat :=
  if 40 ≤ n ∧ n ≤ 47 then 1
  else if (48 ≤ n ∧ n ≤ 55) ∨ n = 60 ∨ n = 62 then 2
  else 0

/-- The ring configuration is one that R35 refuses: LOG2SIZE or ESIZE (0x0903), placement (0x0902). -/
def ringSizeBad (n log esize : Nat) : Bool :=
  decide (log < 4) || decide (16 < log) || esize == 3 || esize != queueEsize n
    || (decide (28 ≤ n ∧ n ≤ 30) && log != 4)

/-- The bytes of a ring; a LOG2SIZE or ESIZE that no queue accepts gives it none (DEDUCED, log 27). -/
def ringBytes (log esize : Nat) : Nat :=
  if 4 ≤ log ∧ log ≤ 16 ∧ esize < 3 then 2 ^ log * esizeBytes esize else 0

/-- The ring lies outside the queue area or its base is misaligned (0x0902). -/
def ringPlaceBad (base log esize : Nat) : Bool :=
  base % 64 != 0 || decide (base < 0x700000) || decide (0x800000 < base + max (ringBytes log esize) 1)

/-- SYS_QnSTAT.CFGBAD: the ring is enabled and R35 would refuse it (R39). -/
def State.qBad (s : State) (n : Nat) : Bool :=
  s.qEnabled n && (ringSizeBad n (s.qLog n) (s.qEsize n) || ringPlaceBad (s.qBase n) (s.qLog n) (s.qEsize n))

/-- Hardware may put entries in and take entries from the ring (R39). -/
def State.qUsable (s : State) (n : Nat) : Bool := s.qEnabled n && !s.qBad n

/-- The address of entry `i` of queue `n` (R36). -/
def State.qEntry (s : State) (n i : Nat) : Nat :=
  s.qBase n + i % s.qSize n * esizeBytes (s.qEsize n)

/-- `k` entries lost: OVF set and SYS_QnDROP raised (R39). A lost entry of an ingest queue sets LOSS
in the next record accepted (R417). -/
def State.qLose (s : State) (n k : Nat) : State :=
  let s := (s.setFlag ⟨qreg n 0x14, 0, 0⟩ true).bumpBy (qreg n 0x18) k
  if 48 ≤ n ∧ n ≤ 51 then { s with evr := { s.evr with lossPending := true } } else s

/-- The producer writes entry(PIDX), which covers whole ECC words. -/
def State.qPut (s : State) (i : Issuer) (n : Nat) (entry : List Byte) : State :=
  let z := esizeBytes (s.qEsize n)
  let a := s.qEntry n (s.pidx n)
  (s.transfer i a z true).mput a (padTo z entry)

/-- A hardware producer offers an entry (R37, R39). -/
def State.qOfferBy (s : State) (i : Issuer) (n : Nat) (entry : List Byte) : State :=
  if !s.qUsable n then s.qLose n 1
  else if s.qFill n < s.qSize n then (s.qPut i n entry).bump (qreg n 0x0C)
  else if queuePolicy n = 1 then (((s.qPut i n entry).bump (qreg n 0x0C)).bump (qreg n 0x10)).qLose n 1
  else s.qLose n 1

/-- The one block that produces the entries of queue `n` offers one. -/
def State.qOffer (s : State) (n : Nat) (entry : List Byte) : State := s.qOfferBy (queueIssuer n) n entry

/-! ### Power domains (Table SYS-5, Table SYS-17) -/

/-- SYS_PDSTAT.ST of domain `n`: 0 ON, 1 GATED, 2 DRAINING, 3 OFF. -/
def PDST (n : Nat) : Fld := ⟨0x20000044, 2 * n + 1, 2 * n⟩
abbrev D_ON : Nat := 0
abbrev D_GATED : Nat := 1
abbrev D_DRAINING : Nat := 2
abbrev D_OFF : Nat := 3

def State.domain (s : State) (n : Nat) : Nat := s.fld (PDST n)

/-- The domain refuses new transactions: OFF or DRAINING (R22, R24). -/
def State.domainShut (s : State) (n : Nat) : Bool := s.domain n == D_OFF || s.domain n == D_DRAINING

/-- The domain that holds an address, if any (Table SYS-5). -/
def domainOf (a : Nat) : Option Nat :=
  if 0x100000000 ≤ a ∧ a < 0x200000000 then some 12
  else if (0x20040000 ≤ a ∧ a < 0x20050000) ∨ (0x20080000 ≤ a ∧ a < 0x20090000) then some 2
  else if 0x20700000 ≤ a ∧ a < 0x20710000 then some 3
  else if 0x20100000 ≤ a ∧ a < 0x20140000 then some (4 + (a - 0x20100000) / 0x10000)
  else if 0x20600000 ≤ a ∧ a < 0x20640000 then some (8 + (a - 0x20600000) / 0x10000)
  else none

/-! ### Location codes (R14) and the offering of events (R417) -/

/-- BLOCK of a location code. -/
def locBlock (loc : Nat) : Nat := bitsOf loc 11 7

/-- The location code of cell `c` of block `b`. -/
def locOf (b c : Nat) : Nat := b * 128 + c

/-- The location code of block `b` as a whole. -/
def locBlockWhole (b : Nat) : Nat := b * 128 + 0x7F

/-- The regions of Table SYS-2 in the order of SYS_RGNSTAT: 0 field, 1 drag, 2 network, 3 safety,
4 cope; 5 stands for block 26, which lies in no region. -/
def regionOfBlock (b : Nat) : Nat :=
  if b ≤ 4 then 0 else if b ≤ 14 then 1 else if b ≤ 22 then 2 else if b ≤ 24 then 3
  else if b = 25 then 4 else if b = 26 then 5 else b - 27

/-- MGD_STAT.SYNC (Table MGD-10). -/
def MGD_STAT_SYNC : Fld := ⟨0x20400000, 3, 3⟩

/-- The 64-byte ingest entry of Table EVR-3. -/
def q50Entry (code src : Nat) (sync : Bool) (t : Nat) (payload : List Byte) : List Byte :=
  leBytes 2 code ++ leBytes 2 src ++ leBytes 1 (min payload.length 44) ++ leBytes 1 (ofBool sync)
    ++ leBytes 2 0 ++ leBytes 4 (t / NS) ++ leBytes 4 (t % NS) ++ padTo 44 payload ++ leBytes 4 0

/-- The block 26 port holds 32 entries; one offered while it is full is lost (R417). -/
def State.portOffer (s : State) (e : List Byte) : State :=
  if s.evr.port.length < 32 then { s with evr := { s.evr with port := s.evr.port ++ [e] } }
  else
    let s := (s.bump 0x20800010).setFlag ⟨0x20800004, 0, 0⟩ true
    { s with evr := { s.evr with lossPending := true } }

/-- A block offers an event to the recorder at Marigold time `t` (R417), SYNC in its FLAGS (Table EVR-3): through the
ingest queue of its region, or for block 26, whose event 0x0010 is too, through the port. -/
def State.eventSync (s : State) (sync : Bool) (t code src : Nat) (payload : List Byte) : State :=
  let e := q50Entry code src sync t payload
  let r := regionOfBlock (locBlock src)
  if r < 4 ∧ code ≠ 0x10 then s.qOfferBy (eventIssuer (locBlock src)) (48 + r) e else s.portOffer e

/-- The same with SYNC as it is. -/
def State.eventAt (s : State) (t code src : Nat) (payload : List Byte) : State :=
  s.eventSync (s.flag MGD_STAT_SYNC) t code src payload

/-- An event stamped with the present time. -/
def State.event (s : State) (code src : Nat) (payload : List Byte) : State :=
  s.eventAt s.now code src payload

end Sys2Proof.Machine
end

