-- ==== Sys2Proof/Machine/Counters.lean ====
section
/-! DEFINITION. The counter collector: selections, counts, windows, access (16_performance_counters.md). -/

namespace Sys2Proof.Machine

def PMC_IRREG : Fld := ⟨0x20900000, 1, 1⟩
def PMC_STAGED : Fld := ⟨0x20900000, 2, 2⟩
/-- PMC_ERR: 0 ADMBW, 1 DENIED, 2 BADCFG. -/
def PMC_ERR (i : Nat) : Fld := ⟨0x20900004, i, i⟩
abbrev PMC_WIN : Nat := 0x20900008
abbrev PMC_ACCESS : Nat := 0x2090000C
abbrev PMC_LOC : Nat := 0x77F

/-- Number of group events from 0x10 (Table PMC-1). -/
def pmcEvents (g : Nat) : Nat := [7, 7, 5, 3, 4, 5, 5, 4, 3, 4, 3, 4, 4, 4, 3, 3].getD g 0

/-- EVSEL and MASK are ones that Table PMC-1 defines for the group; an event without MASK takes 0 or 0xFF
(DEDUCED, log 26). -/
def pmcSelOk (g ev mask : Nat) : Bool :=
  (decide (ev ≤ 3) || decide (0x10 ≤ ev ∧ ev < 0x10 + pmcEvents g)) &&
  (mask == 0xFF || (match pmcMask g ev with
    | some (lo, hi) => decide (lo ≤ mask ∧ mask ≤ hi) || (mask == 0 && decide (ev ≤ 3))
    | none => mask == 0))

/-- A 48-bit number in a LO and HI register pair. -/
def State.put48 (s : State) (a v : Nat) : State := (s.setRegN a v).setRegN (a + 4) (v / 2 ^ 32)
def State.get48 (s : State) (a : Nat) : Nat := s.regN a + 2 ^ 32 * (s.regN (a + 4) % 65536)

/-- MB/s of a byte delta over a window (R439). -/
def mbPerS (now old len : Nat) : Nat := min (2 ^ 32 - 1) ((now + 2 ^ 48 - old) % 2 ^ 48 / max len 1)

/-- The snapshot of R437 and the computations of R439. -/
def State.pmcSnapshot (s : State) (len : Nat) : State :=
  let s := (List.range 128).foldl (fun s n => s.put48 (0x20902000 + 8 * n) (s.pmcCnt n)) s
  let s := (List.range 12).foldl (fun s p =>
    let r := tblGet (fun _ => 0) s.pmc.rd p
    let w := tblGet (fun _ => 0) s.pmc.wr p
    let a := 0x20903000 + 0x10 * p
    let s := s.setRegN (0x20903100 + 8 * p) (mbPerS r (s.get48 a) len)
    let s := s.setRegN (0x20903104 + 8 * p) (mbPerS w (s.get48 (a + 8)) len)
    (s.put48 a r).put48 (a + 8) w) s
  let bw (p : Nat) : Nat := mbPerS (tblGet (fun _ => 0) s.pmc.c01 p) (tblGet (fun _ => 0) s.pmc.c01Snap p) len
  let s := (s.setRegN 0x20903180 (bw 10)).setRegN 0x20903184 (bw 11)
  let excess := decide (7200 < bw 10 ∨ 7200 < bw 11)
  let s := { s with pmc := { s.pmc with c01Snap := s.pmc.c01 } }
  let s := ((s.bump 0x20900010).setRegN 0x20900014 len).setRegN 0x20900018 (ts32Of s.now)
  if !excess then s
  else
    let s := s.setFlag (PMC_ERR 0) true
    match s.pmc.bwAt with
    | some t => if s.mono < t + 10 * NS then s
        else ({ s with pmc := { s.pmc with bwAt := some s.mono } }).event 0x160 PMC_LOC []
    | none => ({ s with pmc := { s.pmc with bwAt := some s.mono } }).event 0x160 PMC_LOC []

/-- Staged writes take effect after the snapshot (R440). -/
def State.pmcApply (s : State) : State :=
  let s := match s.pmc.stWin with
    | some w => s.setRegN PMC_WIN w
    | none => s
  let s := s.pmc.stSel.foldl (fun s e =>
    let n := e.1.toNat
    if s.fld ⟨pmcSel n, 15, 0⟩ = e.2 then s
    else
      let s := { s with pmc := { s.pmc with cnt := tblPut (fun _ => 0) s.pmc.cnt n [0] } }
      (s.setFld ⟨pmcSel n, 15, 0⟩ e.2).setBit (pmcSel n) 17 true) s
  ({ s with pmc := { s.pmc with stWin := none, stSel := [] } }).setFlag PMC_STAGED false

/-- What a window adds to the live counts (R437, R439). -/
def State.pmcSum (s : State) (x : PmcAdds) : State :=
  let s := x.counts.foldl (fun s e => if s.pmcHeld e.1.toNat then s else s.pmcAdd e.1.toNat e.2) s
  let s := x.ports.foldl (fun s e => s.pmcBytes e.1.toNat e.2.1 e.2.2 false) s
  let c10 := (tblGet (fun _ => 0) s.pmc.c01 10 + x.c10) % 2 ^ 48
  let c11 := (tblGet (fun _ => 0) s.pmc.c01 11 + x.c11) % 2 ^ 48
  { s with pmc := { s.pmc with c01 := tblPut (fun _ => 0) s.pmc.c01 10 [c10, c11] } }

/-- A new window begins (R438). -/
def State.pmcOpen (s : State) : State := { s with pmc := { s.pmc with since := s.mono, denied := false } }

/-- PMC_WINDOW_END (R437 to R440). -/
def State.pmcWindowEnd (s : State) (x : PmcAdds) : State :=
  if !s.flag PMC_RUNNING || s.pmcIsolated then s
  else
    let s := s.pmcSum x
    let len := (s.mono - s.pmc.since) / 1000
    if len < 10 then s
    else (((s.setFlag PMC_IRREG (len != s.regN PMC_WIN)).pmcSnapshot len).pmcOpen).pmcApply

/-- A register at window offset `off` written with the right to do so; PMC_WIN and PMC_CnSEL are staged (R440). -/
def State.pmcStage (s : State) (off v : Nat) : State :=
  let bad (s : State) : State := s.setFlag (PMC_ERR 2) true
  if off = 8 then
    if 10 ≤ v ∧ v ≤ 10000000 then
      ({ s with pmc := { s.pmc with stWin := some v } }).setFlag PMC_STAGED true
    else bad s
  else if 0x800 ≤ off ∧ off < 0xA00 then
    let n := (off - 0x800) / 4
    let a := pmcSel n
    if pmcSelOk (n / 8) (bitsOf v 7 0) (bitsOf v 15 8) then
      let s := s.setReg a (s.reg a &&& ~~~(BitVec.ofNat 32 (bitsOf v 17 16 * 65536)))
      let keep := s.pmc.stSel.filter (fun e => e.1 != BitVec.ofNat 7 n)
      ({ s with pmc := { s.pmc with stSel := keep ++ [(BitVec.ofNat 7 n, v % 65536)] } }).setFlag PMC_STAGED true
    else bad s
  else if off = 4 then s.setReg 0x20900004 (s.reg 0x20900004 &&& ~~~BitVec.ofNat 32 (v % 8))
  else if off = 0xC then s.setRegN PMC_ACCESS (v % 2 ^ 17)
  else s

/-- Task code is turned away (R441). -/
def State.pmcDeny (s : State) (off : Nat) : State :=
  let s := (s.setFlag (PMC_ERR 1) true)
  let s := { s with bus := ⟨leBytes 4 0, false⟩ }
  if s.pmc.denied then s
  else
    let s := { s with pmc := { s.pmc with denied := true } }
    let n := if 0x800 ≤ off ∧ off < 0xA00 then some ((off - 0x800) / 4)
      else if 0x1000 ≤ off ∧ off < 0x1400 then some ((off - 0x1000) / 8)
      else if 0x2000 ≤ off ∧ off < 0x2400 then some ((off - 0x2000) / 8)
      else none
    match n with
    | some n => s.event 0x161 (0x700 + n / 8) [BitVec.ofNat 8 n]
    | none => s.event 0x161 PMC_LOC []

/-- The bit of PMC_ACCESS that a read at `off` needs. -/
def pmcGrant (off : Nat) : Nat :=
  if 0x800 ≤ off ∧ off < 0xA00 then (off - 0x800) / 32
  else if 0x1000 ≤ off ∧ off < 0x1400 then (off - 0x1000) / 64
  else if 0x2000 ≤ off ∧ off < 0x2400 then (off - 0x2000) / 64
  else 16

/-- PMC_COUNTER_READ: a read of PMC_CnLO (R444). -/
def State.pmcReadLo (s : State) (n : Nat) : State :=
  let v := s.pmcCnt n
  { s with
    pmc := { s.pmc with hi := tblPut (fun _ => none) s.pmc.hi n [some (BitVec.ofNat 32 (v / 2 ^ 32))] }
    bus := ⟨leBytes 4 v, false⟩ }

/-- A read of a register of the PMC window, its answer in `bus`. -/
def State.pmcRead (s : State) (off : Nat) : State :=
  if s.pmcIsolated then { s with bus := ⟨leBytes 4 0, false⟩ }
  else if 0x1000 ≤ off ∧ off < 0x1400 then
    let n := (off - 0x1000) / 8
    if off % 8 = 0 then s.pmcReadLo n
    else
      match tblGet (fun _ => none) s.pmc.hi n with
      | some w => { s with
          pmc := { s.pmc with hi := tblPut (fun _ => none) s.pmc.hi n [none] }, bus := ⟨leBytes 4 w.toNat, false⟩ }
      | none => { s with bus := ⟨leBytes 4 (s.pmcCnt n / 2 ^ 32), false⟩ }
  else { s with bus := ⟨leBytes 4 (s.regN (0x20900000 + off)), false⟩ }

/-- A read by the initiators that may read the whole window; every other follows R32: a slave error (R441). -/
def State.pmcReadBy (s : State) (who : Initiator) (off : Nat) : State :=
  if who == .ap0 || who == .ap1 || who == .cope then s.pmcRead off else { s with bus := ⟨leBytes 4 0, true⟩ }

/-- PMC_TASK_ACCESS: task code reads (`w` none) or writes a register of the window (R441). -/
def State.pmcTask (s : State) (off : Nat) (w : Option Word) : State :=
  match w with
  | some _ => s.pmcDeny off
  | none => if s.bit PMC_ACCESS (pmcGrant off) then s.pmcRead off else s.pmcDeny off

/-- PMC_STAGED_WRITE by `who`; `priv`: the privileged runtime, or the cope with the management privilege. -/
def State.pmcWrite (s : State) (who : Initiator) (priv : Bool) (off v : Nat) : State :=
  if (who == .ap0 || who == .ap1) && !priv then s.pmcDeny off
  else if (who == .ap0 || who == .ap1 || who == .cope) && priv then
    if s.pmcIsolated then { s with bus := ⟨[], false⟩ } else { s.pmcStage off v with bus := ⟨[], false⟩ }
  else { s with bus := ⟨[], true⟩ }

/-- The collector starts with the COUNTERS section `c`; empty: absent (R442, R443). -/
def State.pmcStart (s : State) (c : List Byte) : State :=
  let s := s.clearRegs 0x20900000 0x20910000
  let s := { s with pmc := { Pmc.reset with since := s.mono } }
  let s := (s.setRegN PMC_WIN (if c.isEmpty then 1000000 else fieldAt c 0 4)).setRegN PMC_ACCESS (fieldAt c 4 4 % 2 ^ 17)
  let s := (List.range 128).foldl (fun s n => s.setRegN (pmcSel n) (fieldAt c (16 + 4 * n) 2)) s
  s.setFlag PMC_RUNNING true

/-- Module fault, save, reset: it stops, its registers hold. -/
def State.pmcStop (s : State) : State := s.setFlag PMC_RUNNING false

/-! ### ECC (R34) -/

abbrev SYS_ECCADDR : Nat := 0x2000005C

/-- SYS_ECC_x of a memory. -/
def eccReg : MemKind → Nat
  | .sram => 0x20000050
  | .mram => 0x20000054
  | .ddr => 0x20000058

/-- ECC word `w` of memory `k` is read: a corrected error is written back and counted, an uncorrectable one is
counted and its address recorded; the answer tells whether the word is uncorrectable. -/
def State.eccRead (s : State) (k : MemKind) (w : Nat) : Bool × State :=
  if s.sys.eccUe.contains w then (true, (s.bumpSat ⟨eccReg k, 31, 16⟩).setRegN SYS_ECCADDR w)
  else if s.sys.eccCe.contains w then
    (false, (({ s with sys := { s.sys with eccCe := s.sys.eccCe.filter (· != w) } }).bumpSat ⟨eccReg k, 15, 0⟩).pmc1
      (if k == MemKind.ddr then 6 else 5) 0x14)
  else (false, s)

/-- ECC words that hold an error and meet the `n` bytes at address `a`. -/
def State.errWords (s : State) (a n : Nat) : List Nat :=
  (s.sys.eccCe ++ s.sys.eccUe).filter (fun w => decide (16 * w < a + n ∧ a < 16 * w + 16))

/-- ECC words of a list read in turn: whether one is uncorrectable. -/
def State.eccReads (s : State) : List Nat → Bool × State
  | [] => (false, s)
  | w :: ws =>
    match memKind (16 * w) with
    | none => s.eccReads ws
    | some k =>
      let (u, s) := s.eccRead k w
      let (v, s) := s.eccReads ws
      (u || v, s)

/-- The `n` bytes at address `a` are read: whether the read meets an uncorrectable error. -/
def State.readRange (s : State) (a n : Nat) : Bool × State := s.eccReads (s.errWords a n)

/-- Parts of a write that cover only part of an ECC word: its first and its last word. -/
def partialEnds (a n : Nat) : List (Nat × Nat) :=
  (if a % 16 = 0 ∧ 16 ≤ n then [] else [(a, 1)]) ++
    (if (a + n) % 16 = 0 ∧ 16 ≤ n then [] else [(a + n - 1, 1)])

/-- The words that a write of `n` bytes at `a` reads first are read: whether one is uncorrectable. -/
def State.readEnds (s : State) (a n : Nat) : Bool × State :=
  s.eccReads ((partialEnds a n).flatMap (fun p => s.errWords p.1 p.2)).eraseDups

/-- A block reads `n` bytes; none: the read meets an uncorrectable error and ends in a slave error. -/
def State.hwRead (s : State) (a n : Nat) : Option (List Byte) × State :=
  match s.readRange a n with
  | (true, s) => (none, s)
  | (false, s) => (some (s.mread a n), s)

/-- A block writes bytes; true: the read of a word that it covers in part meets an uncorrectable error, and the
write is not performed. -/
def State.hwWrite (s : State) (a : Nat) (bs : List Byte) : Bool × State :=
  match s.readEnds a bs.length with
  | (true, s) => (true, s)
  | (false, s) => (false, s.mput a bs)

/-- The block at a port may write the MRAM byte at `a` (Table SYS-11): AP0 and AP1, the save engine at the cope region's
port, the event recorder, the safety processor; and the runner link, which writes the retentive lines of a state copy
(R312; DEDUCED, log 42). -/
def mramPort (port a : Nat) : Bool :=
  if a < 0x1200000 then decide (port ≤ 1) || port == 6
  else if a < 0x1300000 then decide (port ≤ 1) || port == 9
  else if a < 0x13C0000 then port == 8 || port == 9
  else port == 7

/-- The fabric refuses a block's access of `n` bytes at `a`: a byte that no memory holds (R32), LPDDR4X that is OFF or
draining (R22, R24), its pattern area for another than the cope processor (R59), a partition of MRAM that is closed to the
block (R33). -/
def State.fabShut (s : State) (i : Issuer) (a n : Nat) (write : Bool) : Bool :=
  n != 0 &&
  (match memKind a with
    | none => true
    | some .sram => memKind (a + n - 1) != some .sram
    | some .ddr => memKind (a + n - 1) != some .ddr || s.domainShut 12 || (decide (0x1FF000000 < a + n) && i.port != 9)
    | some .mram => memKind (a + n - 1) != some .mram ||
      (if write then !mramPort i.port a || !mramPort i.port (a + n - 1) else decide (0x13C0000 < a + n) && i.port != 7))

/-- A block reads `n` bytes over the fabric. A read that the fabric refuses is granted and returns 0 (R22, R32, R33). -/
def State.busRead (s : State) (i : Issuer) (a n : Nat) : Option (List Byte) × State :=
  if s.fabShut i a n false then (some (List.replicate n 0), s.grant i) else (s.transfer i a n false).hwRead a n

/-- A block writes bytes over the fabric. A write that the fabric refuses is granted and ignored (R22, R32, R33). -/
def State.busWrite (s : State) (i : Issuer) (a : Nat) (bs : List Byte) : Bool × State :=
  if s.fabShut i a bs.length true then (false, s.grant i) else (s.transfer i a bs.length true).hwWrite a bs

/-- A block for which its chapter names no response to an uncorrectable error reads `n` bytes: what it cannot read is 0
(DEDUCED, log 41). -/
def State.blockRead (s : State) (i : Issuer) (a n : Nat) : List Byte × State :=
  let (e, s) := s.busRead i a n
  (e.getD (List.replicate n 0), s)

/-- A block writes bytes word by word: a word that it covers in part keeps an uncorrectable error, and the write of that
word is not performed (R34); a write that the fabric refuses is granted and ignored. -/
def State.blockWrite (s : State) (i : Issuer) (a : Nat) (bs : List Byte) : State :=
  if s.fabShut i a bs.length true then s.grant i
  else
    let part (s : State) (a : Nat) (bs : List Byte) : State := if bs.isEmpty then s else (s.hwWrite a bs).2
    let h := min bs.length ((16 - a % 16) % 16)
    let m := (bs.length - h) / 16 * 16
    let s := part (s.transfer i a bs.length true) a (bs.take h)
    let s := if m = 0 then s else s.mput (a + h) ((bs.drop h).take m)
    part s (a + h + m) (bs.drop (h + m))

/-- Bytes written over the fabric unless a write before met an uncorrectable error. -/
def putBy (i : Issuer) (p : Bool × State) (a : Nat) (bs : List Byte) : Bool × State :=
  if p.1 then p else p.2.busWrite i a bs

/-- The consumer of a queue that hardware empties (Table SYS-12). -/
def queueTaker (n : Nat) : Issuer :=
  if n < 48 then issPlnAcyclic else if n < 52 then issEvr else if n < 56 then issCope
  else if n < 60 then issPour else issSaf

/-- A hardware consumer takes the oldest entry, if there is one (R36, R39); one that meets an uncorrectable error
reads 0 (DEDUCED, log 41). -/
def State.qTake (s : State) (n : Nat) : Option (List Byte) × State :=
  if s.qUsable n && s.qFill n != 0 then
    let z := esizeBytes (s.qEsize n)
    let (e, s) := s.busRead (queueTaker n) (s.qEntry n (s.cidx n)) z
    (some (e.getD (List.replicate z 0)), s.bump (qreg n 0x10))
  else (none, s)

end Sys2Proof.Machine
end

