-- ==== Sys2Proof/Machine/Events.lean ====
section
/-! DEFINITION. The event recorder's acceptance of records: code table, rate limiting, sequence
numbers, post buffers (R415, R418 to R422, R430), shared by every family that reports events. -/

namespace Sys2Proof.Machine

def EVR_RUNNING : Fld := ⟨0x20800000, 0, 0⟩
def EVR_ERR_LOST : Fld := ⟨0x20800004, 0, 0⟩
abbrev EVR_NEXTSEQ : Nat := 0x2080000C
abbrev EVR_LOST : Nat := 0x20800010
abbrev EVR_SUPPTOT : Nat := 0x20800014
abbrev EVR_TAILFILL : Nat := 0x20800018
/-- RUN_STAT.ROLE (Table RUN-14): 0 NONE, 1 SOLO, 2 PRIMARY, 3 STANDBY. -/
def RUN_ROLE : Fld := ⟨0x20300000, 2, 0⟩

/-- RUN_STAT.SSTATE (Table RUN-14): 0 SYNCING, 1 SYNCED, 2 BLIND, 3 OFFLINE. -/
def RUN_SSTATE : Fld := ⟨0x20300000, 4, 3⟩
/-- RUN_STAT.PAIRED: PAIRED of the REDUNDANCY section. -/
def RUN_PAIRED : Fld := ⟨0x20300000, 6, 6⟩
/-- RUN_LINK.UP. -/
def RUN_UP : Fld := ⟨0x20300010, 0, 0⟩

/-- The station is the standby of a pair. -/
def State.isStandby (s : State) : Bool := s.fld RUN_ROLE == 3
def State.isPrimary (s : State) : Bool := s.fld RUN_ROLE == 2
/-- A BLIND standby performs no occurrences (R324). -/
def State.blind (s : State) : Bool := s.isStandby && s.fld RUN_SSTATE == 2

/-! ### Units on the runner link (R305) -/

/-- Bytes cut into pieces of `k`; the last may be shorter, and no bytes are one empty piece. -/
def pieces (k : Nat) (bs : List Byte) : List (List Byte) :=
  (List.range (max 1 ((bs.length + k - 1) / k))).map (fun i => (bs.drop (k * i)).take k)

/-- A unit as frames, one for each payload, each padded to a multiple of 4 bytes. -/
def unitFrames (type arg ts : Nat) (ps : List (List Byte)) : List LinkFrame :=
  ps.zipIdx.map (fun p =>
    ⟨type, ofBool (p.2 == 0) + ofBool (p.2 + 1 == ps.length) * 2, arg, ts, padTo ((p.1.length + 3) / 4 * 4) p.1⟩)

/-- A unit whose reference instant is now waits for the link, which takes it only while it is up. -/
def State.sendUnit (s : State) (type arg : Nat) (ps : List (List Byte)) : State :=
  if s.flag RUN_UP then
    { s with run := { s.run with tx := s.run.tx ++ unitFrames type arg (ts32Of s.now) ps } }
  else s

/-- A unit in the fewest frames. -/
def State.sendLink (s : State) (type arg : Nat) (bs : List Byte) : State := s.sendUnit type arg (pieces 1024 bs)

/-- A CTRL message, in frames of 64 bytes (Table RUN-4; its layout is internal to the module, log 20). -/
def State.sendCtrl (s : State) (bs : List Byte) : State := s.sendUnit 1 0 ((pieces 64 bs).map (padTo 64))

/-- A COPY unit, in frames of at most 15 records of 68 bytes (Table RUN-4). -/
def State.sendCopyUnit (s : State) (task : Nat) (bs : List Byte) : State := s.sendUnit 5 task (pieces 1020 bs)

/-- Entry of the code table in force for a code: CLASS, SEV, PART (R420, R430, R432). -/
def State.codeEntry (s : State) (c : Nat) : Nat × Nat × Nat :=
  match s.evr.codeTbl with
  | none => (bitsOf c 9 4, 2, 0)
  | some t =>
    let e := fieldAt t (2 * (c % 1024)) 2
    (bitsOf e 5 0, bitsOf e 9 6, bitsOf e 11 10)

/-- The codes that belong to class 63 whatever the table says (R421). -/
def forcedCode (c : Nat) : Bool :=
  c == 0x90 || c == 0x91 || c == 0xE0 || c == 0x151 || c == 0x155

/-- Class of a code (R421). -/
def State.codeClass (s : State) (c : Nat) : Nat := if forcedCode c then 63 else (s.codeEntry c).1

/-- RATE_k and BURST_k in force (R421, R430). -/
def State.classRate (s : State) (k : Nat) : Nat × Nat :=
  match s.evr.codeTbl with
  | none => (10000, 20)
  | some t => (fieldAt t (2048 + 8 * k) 4, fieldAt t (2052 + 8 * k) 2)

/-- A bucket that has not been used is full. -/
def State.bucketDefault (s : State) (k : Nat) : Bucket := ⟨(s.classRate k).2 * NS, 0, 0, 0, 0⟩

def State.bucket (s : State) (k : Nat) : Bucket :=
  (tblGet (fun _ => none) s.evr.buckets k).getD (s.bucketDefault k)

def State.setBucket (s : State) (k : Nat) (b : Bucket) : State :=
  { s with evr := { s.evr with buckets := tblPut (fun _ => none) s.evr.buckets k [some b] } }

/-- LEN of a record: the payload padded to a multiple of 4, and 24 bytes (R415). -/
def recLen (payload : List Byte) : Nat := 24 + (payload.length + 3) / 4 * 4

/-- Bytes that a list of records takes. -/
def recsLen (rs : List Record) : Nat := (rs.map (fun r => recLen r.payload)).foldl (· + ·) 0

/-- The partitions that the layout in force has; a record for any other goes to P0 (R430, R433). -/
def State.partUsed (s : State) (p : Nat) : Bool := (s.evr.layout.getD p 0) != 0

/-- The record that acceptance makes, with the next SEQ (R415, R419). -/
def State.newRecord (s : State) (code src sev flags supp tsS tsNs : Nat) (payload : List Byte)
    (part : Nat) : Record :=
  let fl := flags + (if s.isStandby then 4 else 0) + (if s.evr.lossPending then 8 else 0)
  ⟨code, src, sev, fl, supp, tsS, tsNs, s.regN EVR_NEXTSEQ,
    padTo (recLen payload - 24) payload, if s.partUsed part then part else 0⟩

/-- SEQ moves on, LOSS has been reported. -/
def State.countRecord (s : State) : State :=
  (({ s with evr := { s.evr with lossPending := false } }).bump EVR_NEXTSEQ).pmc1 13 0x10

/-- A record enters the staging buffer with the next SEQ (R419, R423). -/
def State.acceptRecord (s : State) (code src sev flags supp tsS tsNs : Nat) (payload : List Byte)
    (part : Nat) : State :=
  let r := s.newRecord code src sev flags supp tsS tsNs payload part
  ({ s with evr := { s.evr with staging := s.evr.staging ++ [r] } }).countRecord

/-- The offer of R421: accepted with its SUPP, or suppressed. -/
def State.offerRecord (s : State) (code src sev flags tsS tsNs : Nat) (payload : List Byte) :
    Bool × State :=
  let k := s.codeClass code
  let part := (s.codeEntry code).2.2
  if k = 63 then (true, s.acceptRecord code src sev flags 0 tsS tsNs payload part)
  else
    let b := s.bucket k
    let (rate, burst) := s.classRate k
    let tok := min (burst * NS) (b.tok + (s.monoUs - b.last) * rate)
    if NS ≤ tok then
      let s := s.setBucket k ⟨tok - NS, s.monoUs, 0, s.monoUs, b.lastCode⟩
      (true, s.acceptRecord code src sev flags (min b.supp 255) tsS tsNs payload part)
    else
      (false, ((s.setBucket k ⟨tok, s.monoUs, b.supp + 1, b.acc, code⟩).bump EVR_SUPPTOT).pmc1 13 0x11)

/-! ### Post buffers (R418) -/

def evrPostReg (i : Nat) : Nat := 0x20800180 + 4 * i
def evrPostBuf (i : Nat) : Nat := 0x20802000 + 0x400 * i
def POST_KEEPTS (i : Nat) : Fld := ⟨evrPostReg i, 1, 1⟩
def POST_BUSY (i : Nat) : Fld := ⟨evrPostReg i, 2, 2⟩
def POST_RESULT (i : Nat) : Fld := ⟨evrPostReg i, 4, 3⟩

/-- SRC that the recorder fills in for post buffer `i`. -/
def postSrc (i : Nat) : Nat := if i = 0 then 0x2FF else if i = 1 then 0x37F else 0xCFF

/-- The codes that the owner of post buffer `i` may post. -/
def postCodeOk (i c : Nat) : Bool :=
  if i < 2 then decide (0x90 ≤ c ∧ c ≤ 0x9F) || decide (0x200 ≤ c ∧ c ≤ 0x3FF)
  else decide (1 ≤ c ∧ c ≤ 0x7F) || decide (0x170 ≤ c ∧ c ≤ 0x1AF) || decide (0x1C0 ≤ c ∧ c ≤ 0x1CF)

/-! ### Round robin over the sources (R419) -/

/-- The block is isolated (R487). -/
def State.evrIsolated (s : State) : Bool := s.bit 0x20000028 13

/-- A code that some owner may record (Table EVR-2). -/
def codeOwned (c : Nat) : Bool :=
  decide ((1 ≤ c ∧ c ≤ 0xEF) ∨ (0x100 ≤ c ∧ c ≤ 0x1AF) ∨ (0x1C0 ≤ c ∧ c ≤ 0x1CF) ∨ (0x200 ≤ c ∧ c ≤ 0x3FF))

/-- A recorder that accepts, with room in its staging buffer for a record of any length (R423). -/
def State.evrAccepts (s : State) : Bool :=
  s.flag EVR_RUNNING && !s.evrIsolated && decide (recsLen s.evr.staging + 1024 ≤ 0x10000)

def State.postAt (s : State) (i : Nat) : Option (Nat × Bool) := tblGet (fun _ => none) s.evr.posts i
def State.setPostAt (s : State) (i : Nat) (x : Option (Nat × Bool)) : State :=
  { s with evr := { s.evr with posts := tblPut (fun _ => none) s.evr.posts i [x] } }

/-- A post ends with a RESULT: 0 accepted, 1 suppressed, 2 BAD, 3 LOST. -/
def State.postEnds (s : State) (i r : Nat) : State :=
  ((s.setPostAt i none).setFlag (POST_BUSY i) false).setFld (POST_RESULT i) r

/-- The recorder takes the post in progress of buffer `i`: with KEEPTS = 0 it carries the time of its GO. -/
def State.postTake (s : State) (i : Nat) (go : Nat × Bool) : State :=
  let img := s.regBytes (evrPostBuf i) 256
  let len := fieldAt img 0 2
  let code := fieldAt img 2 2
  if !postCodeOk i code || decide (len < 24) || decide (1024 < len) || len % 4 != 0 then s.postEnds i 2
  else
    let keep := s.flag (POST_KEEPTS i)
    let tsS := if keep then fieldAt img 8 4 else go.1 / NS % 2 ^ 32
    let tsNs := if keep then fieldAt img 12 4 else go.1 % NS
    let sev := if 0x200 ≤ code then bitsOf (fieldAt img 5 1) 7 4 else (s.codeEntry code).2.1
    let (ok, s) := s.offerRecord code (postSrc i) sev (ofBool go.2 + 2) tsS tsNs (slice img 20 (len - 24))
    s.postEnds i (if ok then 0 else 1)

/-- An ingest entry of Table EVR-3 is offered. Severity of 0x0010 is 6 (R17). -/
def State.offerEntry (s : State) (e : List Byte) : State :=
  let code := fieldAt e 0 2
  if !codeOwned code then s
  else
    let sev := if code = 0x10 then 6 else (s.codeEntry code).2.1
    (s.offerRecord code (fieldAt e 2 2 % 4096) sev (fieldAt e 5 1 % 2) (fieldAt e 8 4) (fieldAt e 12 4)
      (slice e 16 (min (fieldAt e 4 1) 44))).2

/-- Source `i` has something to take: queue 48 + i for i < 4, the port for 4, post buffer i - 5 above. -/
def State.evrHas (s : State) (i : Nat) : Bool :=
  if i < 4 then s.qUsable (48 + i) && s.qFill (48 + i) != 0
  else if i = 4 then !s.evr.port.isEmpty
  else (s.postAt (i - 5)).isSome

/-- The next source from `t` on that has something. -/
def State.evrNext (s : State) (t : Nat) : Option Nat := ((List.range 8).map (fun i => (t + i) % 8)).find? s.evrHas

/-- Source `i` is served: one entry or post. -/
def State.evrServe (s : State) (i : Nat) : State :=
  if i < 4 then
    match s.qTake (48 + i) with
    | (some e, s) => s.offerEntry e
    | (none, s) => s
  else if i = 4 then
    match s.evr.port with
    | e :: r => ({ s with evr := { s.evr with port := r } }).offerEntry e
    | [] => s
  else
    match s.postAt (i - 5) with
    | some go => s.postTake (i - 5) go
    | none => s

/-- INGEST_ENTRY: one turn of the round robin. -/
def State.ingestEntry (s : State) : State :=
  if !s.evrAccepts then s
  else
    match s.evrNext s.evr.turn with
    | none => s
    | some i => ({ s with evr := { s.evr with turn := (i + 1) % 8 } }).evrServe i

/-- Turns are taken until the post in buffer `i` has ended; it comes within eight. -/
def State.servePost (s : State) (i : Nat) : State :=
  (List.range 8).foldl (fun s _ => if (s.postAt i).isSome then s.ingestEntry else s) s

/-- The GO of post buffer `i`: the record image in the buffer is in progress until its turn comes; ignored while BUSY is
1 (R418). A recorder that does not run ends the post LOST (R429, R487). -/
def State.postGo (s : State) (i : Nat) : State :=
  if s.flag (POST_BUSY i) then s
  else if !s.flag EVR_RUNNING then s.postEnds i 3
  else (s.setPostAt i (some (s.now, s.flag MGD_STAT_SYNC))).setFlag (POST_BUSY i) true

/-- A write to EVR_POSTi: KEEPTS and GO; a write to the buffer itself. Both are ignored while BUSY is 1 (R418). -/
def State.postCtl (s : State) (i : Nat) (keep go : Bool) : State :=
  if s.flag (POST_BUSY i) then s
  else
    let s := s.setFlag (POST_KEEPTS i) keep
    if go then s.postGo i else s

def State.postBufWrite (s : State) (i a : Nat) (v : Word) : State := if s.flag (POST_BUSY i) then s else s.setReg a v

/-- Posts in progress end LOST (R429, R487). -/
def State.postsLost (s : State) : State :=
  (List.range 3).foldl (fun s i => if s.flag (POST_BUSY i) then s.postEnds i 3 else s) s

/-- The runtime (buffers 0 and 1) or the cope processor (buffer 2) writes a record image into its buffer and posts it
(R418). It waits for a post in progress to end, and for its own (DESIGN CHOICE, log 7). -/
def State.post (s : State) (i code : Nat) (payload : List Byte) : State :=
  let s := s.servePost i
  if s.flag (POST_BUSY i) then s
  else
    let pad := padTo (recLen payload - 24) payload
    let img := leBytes 2 (recLen payload) ++ leBytes 2 code ++ List.replicate 16 0 ++ pad
      ++ List.replicate 4 0
    (((s.putWords (evrPostBuf i) (toWords img)).setFlag (POST_KEEPTS i) false).postGo i).servePost i

/-- An event of the cope processor (R418: post buffer 2). -/
def State.copeEvent (s : State) (code : Nat) (payload : List Byte) : State := s.post 2 code payload

/-- An event of the runtime (R418: post buffer 0, the runtime on AP0). DESIGN CHOICE: log 7. -/
def State.runtimeEvent (s : State) (code : Nat) (payload : List Byte) : State := s.post 0 code payload

end Sys2Proof.Machine
end

