-- ==== Sys2Proof/Machine/Operands.lean ====
section
/-! DEFINITION. The operand forms that commands take from the pattern and the program image in
force: sections, task records, timetable entries, segments, symbols, I/O map entries (R47, R86,
R119 to R124). -/

namespace Sys2Proof.Machine

/-! ### Pattern (R47) -/

/-- A section directory entry (Table PAT-3). -/
structure Sect where
  index : Nat
  type : Nat
  ver : Nat
  off : Nat
  len : Nat
  deriving DecidableEq, Repr

def dirEntry (p : List Byte) (i : Nat) : Sect :=
  let e := slice p (256 + 32 * i) 32
  ⟨i, fieldAt e 0 2, fieldAt e 2 2, fieldAt e 4 4, fieldAt e 8 4⟩

/-- The section directory of a slot. -/
def directory (p : List Byte) : List Sect := (List.range (fieldAt p 20 2)).map (dirEntry p)

def findSect (p : List Byte) (ty : Nat) : Option Sect := (directory p).find? (fun e => e.type == ty)

/-- The bytes of the section of a type; none when the pattern lacks it (R48). -/
def sectOf (p : List Byte) (ty : Nat) : Option (List Byte) :=
  (findSect p ty).map (fun e => slice p e.off e.len)

abbrev SEC_SYSTEM : Nat := 1
abbrev SEC_TIMETABLE : Nat := 2
abbrev SEC_PROGRAM : Nat := 3
abbrev SEC_LOOPS : Nat := 4
abbrev SEC_CHANNELS : Nat := 5
abbrev SEC_CURVES : Nat := 6
abbrev SEC_CAN : Nat := 7
abbrev SEC_NETWORK : Nat := 8
abbrev SEC_POURLINE : Nat := 9
abbrev SEC_TIME : Nat := 10
abbrev SEC_REDUNDANCY : Nat := 11
abbrev SEC_EVENTS : Nat := 12
abbrev SEC_COUNTERS : Nat := 13
abbrev SEC_LADLE : Nat := 14
abbrev SEC_COPE : Nat := 15
abbrev SEC_SAFETY : Nat := 32

/-- The pattern in force; empty: none. -/
def State.pattern (s : State) : List Byte :=
  match s.pat.force with
  | some f => f.bytes
  | none => []

/-- A section of the pattern in force. -/
def State.sec? (s : State) (ty : Nat) : Option (List Byte) := sectOf s.pattern ty

/-- A section of the pattern in force, empty when absent. -/
def State.sec (s : State) (ty : Nat) : List Byte := (s.sec? ty).getD []

def State.hasSec (s : State) (ty : Nat) : Bool := (s.sec? ty).isSome

/-- The pattern digest (R50): PAT_DIGEST0 to PAT_DIGEST3. -/
def State.patDigest (s : State) : List Byte := s.regBytes 0x20010008 4

/-- A flag of the pattern header (Table PAT-2 FLAGS). -/
def State.patFlag (s : State) (b : Nat) : Bool := bitOf (fieldAt s.pattern 18 2) b

/-! ### TIMETABLE section (Tables POUR-1 to POUR-3) -/

/-- A task record (Table POUR-2). -/
structure TaskRec where
  task : Nat
  prio : Nat
  type : Nat
  pair : Nat
  period : Nat
  phase : Nat
  cmt : Nat
  margin : Nat
  fbCount : Nat
  fbAction : Nat
  recover : Nat
  trigLat : Nat
  inBase : Nat
  inBytes : Nat
  outBase : Nat
  outBytes : Nat
  copyBytes : Nat
  deriving DecidableEq, Repr

def taskRecAt (tt : List Byte) (i : Nat) : TaskRec :=
  let r := slice tt (16 + 64 * i) 64
  ⟨fieldAt r 0 1, fieldAt r 1 1, fieldAt r 2 1, fieldAt r 3 1, fieldAt r 4 4, fieldAt r 8 4,
    fieldAt r 12 4, fieldAt r 16 2, fieldAt r 18 1, fieldAt r 19 1, fieldAt r 20 1, fieldAt r 22 2,
    fieldAt r 24 4, fieldAt r 28 4, fieldAt r 32 4, fieldAt r 36 4, fieldAt r 40 4⟩

def taskRecs (tt : List Byte) : List TaskRec := (List.range (fieldAt tt 4 1)).map (taskRecAt tt)

def TaskRec.cyclic (r : TaskRec) : Bool := r.type == 1
def TaskRec.event (r : TaskRec) : Bool := r.type == 2

/-- An explicit timetable entry (Table POUR-3). -/
structure Entry where
  kind : Nat
  object : Nat
  period : Nat
  offset : Nat
  arg : Nat
  deriving DecidableEq, Repr

def entryAt (tt : List Byte) (i : Nat) : Entry :=
  let e := slice tt (16 + 64 * fieldAt tt 4 1 + 16 * i) 16
  ⟨fieldAt e 0 1, fieldAt e 2 2, fieldAt e 4 4, fieldAt e 8 4, fieldAt e 12 4⟩

def entries (tt : List Byte) : List Entry := (List.range (fieldAt tt 6 2)).map (entryAt tt)

abbrev KIND_CRUCIBLE : Nat := 3
abbrev KIND_CAN_TX : Nat := 4
abbrev KIND_PLN_PUB : Nat := 5
abbrev KIND_LADLE : Nat := 6
abbrev KIND_SWAP : Nat := 7
abbrev KIND_ACYCLIC : Nat := 8

def State.taskRecs (s : State) : List TaskRec := Machine.taskRecs (s.sec SEC_TIMETABLE)
def State.entries (s : State) : List Entry := Machine.entries (s.sec SEC_TIMETABLE)
def State.taskRec? (s : State) (t : Nat) : Option TaskRec := s.taskRecs.find? (fun r => r.task == t)
/-- HYPER_US in force. -/
def State.hyperUs (s : State) : Nat := fieldAt (s.sec SEC_TIMETABLE) 0 4

/-! ### Program image (Tables PRG-1 to PRG-6) -/

/-- A segment table entry (Table PRG-2). -/
structure Seg where
  kind : Nat
  pair : Nat
  fileOff : Nat
  fileLen : Nat
  memLen : Nat
  load : Nat
  deriving DecidableEq, Repr

def segAt (im : List Byte) (i : Nat) : Seg :=
  let e := slice im (fieldAt im 36 4 + 32 * i) 32
  ⟨fieldAt e 0 1, fieldAt e 1 1, fieldAt e 4 4, fieldAt e 8 4, fieldAt e 12 4, fieldAt e 16 8⟩
def segs (im : List Byte) : List Seg := (List.range (fieldAt im 35 1)).map (segAt im)

/-- A task entry (Table PRG-3) with its WCET (Table PRG-4). -/
structure ImgTask where
  task : Nat
  pair : Nat
  stackBytes : Nat
  entry : Nat
  stackBase : Nat
  stateBase : Nat
  stateBytes : Nat
  deriving DecidableEq, Repr

def imgTaskAt (im : List Byte) (i : Nat) : ImgTask :=
  let e := slice im (fieldAt im 40 4 + 48 * i) 48
  ⟨fieldAt e 0 1, fieldAt e 1 1, fieldAt e 4 4, fieldAt e 8 8, fieldAt e 16 8, fieldAt e 24 8,
    fieldAt e 32 4⟩
def imgTasks (im : List Byte) : List ImgTask := (List.range (fieldAt im 34 1)).map (imgTaskAt im)

/-- WCET of a task in ns (Table PRG-4); 0 when the table lacks it. -/
def wcetOf (im : List Byte) (t : Nat) : Nat :=
  let es := (List.range (fieldAt im 34 1)).map (fun i => slice im (fieldAt im 44 4 + 8 * i) 8)
  match es.find? (fun e => fieldAt e 0 1 == t) with
  | some e => fieldAt e 4 4
  | none => 0

/-- A symbol (Table PRG-5). -/
structure Sym where
  id : Nat
  type : Nat
  attr : Nat
  task : Nat
  addr : Nat
  size : Nat
  hash : Nat
  deriving DecidableEq, Repr

def symAt (im : List Byte) (i : Nat) : Sym :=
  let e := slice im (fieldAt im 48 4 + 32 * i) 32
  ⟨fieldAt e 0 4, fieldAt e 4 1, fieldAt e 5 1, fieldAt e 6 1, fieldAt e 8 8, fieldAt e 16 4,
    fieldAt e 20 4⟩
def syms (im : List Byte) : List Sym := (List.range (fieldAt im 52 4)).map (symAt im)
def findSym (im : List Byte) (id : Nat) : Option Sym := (syms im).find? (fun y => y.id == id)

def Sym.retain (y : Sym) : Bool := bitOf y.attr 0
def Sym.noforce (y : Sym) : Bool := bitOf y.attr 1
def Sym.isInput (y : Sym) : Bool := bitOf y.attr 2
def Sym.isOutput (y : Sym) : Bool := bitOf y.attr 3
def Sym.isConst (y : Sym) : Bool := bitOf y.attr 4

/-- An I/O map entry (Table PRG-6). -/
structure IoEnt where
  sym : Nat
  task : Nat
  dir : Nat
  kind : Nat
  fmt : Nat
  object : Nat
  off : Nat
  qbit : Nat
  deriving DecidableEq, Repr

def ioEntAt (im : List Byte) (i : Nat) : IoEnt :=
  let e := slice im (fieldAt im 56 4 + 24 * i) 24
  ⟨fieldAt e 0 4, fieldAt e 4 1, fieldAt e 5 1, fieldAt e 6 1, fieldAt e 7 1, fieldAt e 8 4,
    fieldAt e 12 4, fieldAt e 16 4⟩
def ioMap (im : List Byte) : List IoEnt := (List.range (fieldAt im 60 4)).map (ioEntAt im)

/-- Bytes of a value of FMT (Table PRG-6). -/
def fmtBytes (f : Nat) : Nat := if f = 1 then 1 else if f = 4 then 8 else 4

/-- I/O map entries of a task and direction in the image in force. -/
def State.ioOf (s : State) (t dir : Nat) : List IoEnt :=
  (ioMap s.prg.image).filter (fun e => e.task == t && e.dir == dir)

end Sys2Proof.Machine
end

