-- ==== Sys2Proof/Machine/Cache.lean ====
section
/-! DEFINITION. Fabric traffic by class and port, and the caches of the pairs (R29, R30, R116, R122, R143, R144,
Tables SYS-8 to SYS-10). -/

namespace Sys2Proof.Machine

/-! ### Traffic (R29, R30, Tables SYS-8, SYS-9, PMC-1) -/

/-- An initiator's transactions on the fabric (Tables SYS-8, SYS-9). Pourline's cyclic traffic and its acyclic services
are initiators of their own; the class of the save engine: DESIGN CHOICE, log 42. -/
def issuerOf : Initiator → Issuer
  | .ap0 => issAp 0
  | .ap1 => issAp 1
  | .ldl => issLadle
  | .cru => issCru
  | .pour => issPour
  | .pln => issPln
  | .plnAcyclic => issPlnAcyclic
  | .can => issCan 255
  | .runner => issRunner
  | .mgd => issMgd
  | .saf => issSaf
  | .evr => issEvr
  | .pmc => issPmc
  | .cope | .save => issCope

/-- A request of an initiator is granted (R30). -/
def State.granted (s : State) (who : Initiator) : State := s.grant (issuerOf who)

/-- The counter group that serves the accesses to a register window, and its unit (R435, code 0x02). -/
def windowGroup (a : Nat) : Option (Nat × Nat) :=
  let w := a / 0x10000
  if 0x2010 ≤ w ∧ w ≤ 0x2013 then some (7, w - 0x2010)
  else if 0x2060 ≤ w ∧ w ≤ 0x2063 then some (11, w - 0x2060)
  else match w with
    | 0x2002 => some (2, 0)
    | 0x2004 => some (3, 0)
    | 0x2008 => some (3, 0)
    | 0x2030 => some (12, 0)
    | 0x2040 => some (10, 255)
    | 0x2050 => some (8, 255)
    | 0x2051 => some (9, 0)
    | 0x2070 => some (4, 0)
    | 0x2080 => some (13, 0)
    | 0x20B0 => some (15, 255)
    | _ => none

/-- A register access of an initiator: the group of its window serves it, and its four bytes cross the initiator's port
(R435, R437; that port alone: DESIGN CHOICE, log 42). -/
def State.served (s : State) (who : Initiator) (a : Nat) (write : Bool) : State :=
  let s := s.pmcBytes (issuerOf who).port (if write then 0 else 4) (if write then 4 else 0) false
  match windowGroup a with
  | some (g, u) => s.pmcCount g 2 u 1
  | none => s

/-- An access of `n` bytes of memory at `a` by an initiator, past the caches: it is granted and moves them. -/
def State.memTraffic (s : State) (who : Initiator) (a n : Nat) (write : Bool) : State :=
  s.transfer (issuerOf who) a n write

/-! ### Dirty lines of the state copy (R312) -/

/-- The areas of task `t` that a state copy covers: its state region and the RETAIN segments of its pair. -/
def State.copyAreas (s : State) (r : TaskRec) : List (Nat × Nat) :=
  ((imgTasks s.prg.image).filter (fun e => e.task == r.task)).map (fun e => (e.stateBase, e.stateBytes))
    ++ ((segs s.prg.image).filter (fun g => g.kind == 6 && g.pair == r.pair)).map (fun g => (g.load, g.memLen))

/-- The lines that `n` bytes at `a` touch. -/
def linesOf (a n : Nat) : List Nat :=
  if n = 0 then [] else (List.range ((a + n - 1) / 64 - a / 64 + 1)).map (· + a / 64)

/-- Line `l` meets one of the areas. -/
def lineIn (areas : List (Nat × Nat)) (l : Nat) : Bool :=
  areas.any (fun x => decide (x.1 < 64 * l + 64 ∧ 64 * l < x.1 + x.2))

/-- Memory of a paired module is written: the lines that the next copy of a task has to carry (R312). -/
def State.markDirty (s : State) (a n : Nat) : State :=
  if s.flag RUN_PAIRED then
    s.taskRecs.foldl (fun s r =>
      let old := tblGet (fun _ => []) s.run.dirty r.task
      let new := (linesOf a n).filter (fun l => lineIn (s.copyAreas r) l && !old.contains l)
      { s with run := { s.run with dirty := tblSet (fun _ => []) s.run.dirty r.task (old ++ new) } }) s
  else s

/-! ### The caches (R144)

A line of 64 bytes stands in a pair's cache from the access that brings it in until it is invalidated or evicted
(DESIGN CHOICE, log 43). -/

/-- The pair of an application core. -/
def pairOf : Initiator → Option Nat
  | .ap0 => some 0
  | .ap1 => some 1
  | _ => none

/-- The segments of the image in force that meet `n` bytes at `a`. -/
def State.segsAt (s : State) (a n : Nat) : List Seg :=
  (segs s.prg.image).filter (fun g => decide (g.load < a + n ∧ a < g.load + g.memLen))

/-- Some of the bytes lie in a segment that is not mapped on pair `p` (R122). -/
def State.unmapped (s : State) (p a n : Nat) : Bool :=
  (s.segsAt a n).any (fun g => g.kind != 5 && g.pair != p)

/-- How the cores hold an address: 0 not cached, 1 write-through, 2 write-back (Table SYS-10, R122). -/
def State.cacheMode (s : State) (a : Nat) : Nat :=
  if (s.segsAt a 1).any (fun g => g.kind == 5) then 0
  else
    match memKind a with
    | some .sram => if a < 0x700000 then 2 else 0
    | some .mram => 1
    | some .ddr => 2
    | none => 0

/-- The key of line `l` in the cache of pair `p`. -/
def lineKey (p l : Nat) : Nat := p * 2 ^ 30 + l

def State.line (s : State) (p l : Nat) : Option CacheLine := tblGet (fun _ => none) s.prg.lines (lineKey p l)

/-- The lines of the range stand in the cache of pair `p`. -/
def State.holds (s : State) (p a n : Nat) : Bool := (linesOf a n).all (fun l => (s.line p l).isSome)

def State.setLine (s : State) (p l : Nat) (x : Option CacheLine) : State :=
  { s with prg := { s.prg with lines := tblSet (fun _ => none) s.prg.lines (lineKey p l) x } }

/-- The lines of the range that stand in the cache of pair `p`. -/
def State.cachedIn (s : State) (p a n : Nat) : List Nat :=
  (s.prg.lines.filter (fun e => decide (0 < n ∧ e.1 / 2 ^ 30 = p ∧ a < e.1 % 2 ^ 30 * 64 + 64 ∧ e.1 % 2 ^ 30 * 64 < a + n))).map
    (fun e => e.1 % 2 ^ 30)

/-- The application core of a pair as an initiator. -/
def pairCore (p : Nat) : Initiator := if p = 0 then .ap0 else .ap1

/-- A dirty line is written back whole, and the write-back counted (Table PMC-1); into a domain that is OFF or draining its
data is lost (R34, note under R28). -/
def State.lineBack (s : State) (p l : Nat) : State :=
  match s.line p l with
  | none => s
  | some x =>
    if !x.dirty then s
    else
      let s := s.setLine p l (some { x with dirty := false })
      if memKind (64 * l) == some .ddr && s.domainShut 12 then s
      else (((s.transfer (issAp p) (64 * l) 64 true).pmc1 p 0x14).mput (64 * l) (padTo 64 x.bytes)).markDirty (64 * l) 64

/-- rt_cache_clean over `n` bytes at `a`. -/
def State.cacheClean (s : State) (p a n : Nat) : State := (s.cachedIn p a n).foldl (fun s l => s.lineBack p l) s

/-- rt_cache_inval: the lines go, written back or not. -/
def State.cacheInval (s : State) (p a n : Nat) : State := (s.cachedIn p a n).foldl (fun s l => s.setLine p l none) s

/-- rt_cache_clean_inval, and the eviction of the lines. -/
def State.cacheFlush (s : State) (p a n : Nat) : State := (s.cacheClean p a n).cacheInval p a n

/-- The lines of a range leave both caches: what is loaded over them is new. -/
def State.cacheDrop (s : State) (a n : Nat) : State := (s.cacheInval 0 a n).cacheInval 1 a n

/-- The byte at `a` as pair `p` sees it. -/
def State.coreByte (s : State) (p a : Nat) : Byte :=
  match s.line p (a / 64) with
  | some x => x.bytes.getD (a % 64) 0
  | none => s.mget a

/-- `n` bytes at `a` as pair `p` sees them. -/
def State.coreBytes (s : State) (p a n : Nat) : List Byte := (List.range n).map (fun i => s.coreByte p (a + i))

/-- The number of `n` bytes at `a` as pair `p` sees it. -/
def State.coreNat (s : State) (p a n : Nat) : Nat := leVal (s.coreBytes p a n)

/-- Bytes written into the cached lines of pair `p` that they touch; `dirty`: memory does not have them. -/
def State.intoLines (s : State) (p a : Nat) (bs : List Byte) (dirty : Bool) : State :=
  (s.cachedIn p a bs.length).foldl (fun s l =>
    match s.line p l with
    | none => s
    | some x =>
      let new := (List.range 64).map (fun i =>
        if a ≤ 64 * l + i ∧ 64 * l + i < a + bs.length then bs.getD (64 * l + i - a) 0 else x.bytes.getD i 0)
      s.setLine p l (some ⟨new, x.dirty || dirty⟩)) s

/-- The runtime on pair `p` writes bytes: where the pair holds a line write-back it stays there, else the bytes reach
memory; true: an uncorrectable error stopped them (R34). -/
def State.corePut (s : State) (p a : Nat) (bs : List Byte) : Bool × State :=
  let ls := linesOf a bs.length
  if s.cacheMode a = 2 && ls.all (fun l => (s.line p l).isSome) then (false, s.intoLines p a bs true)
  else
    match s.busWrite (issAp p) a bs with
    | (true, s) => (true, s)
    | (false, s) => (false, (s.markDirty a bs.length).intoLines p a bs false)

end Sys2Proof.Machine
end

