-- ==== Sys2Proof/Machine/Seq.lean ====
section
/-! DEFINITION. The Pour sequencer's shared operations: sequencer time, alignment, steps, triggers,
acyclic admission, starting and stopping (R80 to R82, R90 to R92, R100, R109, R110). -/

namespace Sys2Proof.Machine

def POUR_STATE : Fld := ⟨0x20020000, 1, 0⟩
def POUR_ALIGNED : Fld := ⟨0x20020000, 2, 2⟩
def POUR_SLEW : Fld := ⟨0x20020000, 3, 3⟩
def POUR_REANCHOR_PEND : Fld := ⟨0x20020000, 4, 4⟩
def POUR_WDARM : Fld := ⟨0x20020000, 5, 5⟩
abbrev POUR_REANCHOR : Nat := 0x20020010
def POUR_BADTRIG : Fld := ⟨0x2002001C, 0, 0⟩
def POUR_BADDONE : Fld := ⟨0x2002001C, 1, 1⟩
abbrev POUR_SWAPREQ : Nat := 0x20020020
abbrev POUR_SWAPSTAT : Nat := 0x20020024
abbrev POUR_SWAPERR : Nat := 0x20020028
def SWAPRSN_REASON : Fld := ⟨0x2002002C, 15, 0⟩
def SWAPRSN_TABLE : Fld := ⟨0x2002002C, 18, 16⟩
abbrev POUR_STALEDROP : Nat := 0x20020030
abbrev POUR_TRGCOAL : Nat := 0x20020034
abbrev POUR_ACYREF : Nat := 0x20020038

/-- Register `off` of task `t` (R115). -/
def treg (t off : Nat) : Nat := 0x20020100 + t * 0x20 + off
def TSTATE (t : Nat) : Fld := ⟨treg t 0, 2, 0⟩
def TFB (t : Nat) : Fld := ⟨treg t 0, 3, 3⟩
def TFB_ACTION (t : Nat) : Fld := ⟨treg t 0, 5, 4⟩
def TDEMOTED (t : Nat) : Fld := ⟨treg t 0, 6, 6⟩
def TTRIG_HELD (t : Nat) : Fld := ⟨treg t 0, 7, 7⟩
def TOVR_CONSEC (t : Nat) : Fld := ⟨treg t 0, 15, 8⟩
def TRECOV (t : Nat) : Fld := ⟨treg t 0, 23, 16⟩
def tPOURS (t : Nat) : Nat := treg t 4
def tOVR (t : Nat) : Nat := treg t 8
def tSKIP (t : Nat) : Nat := treg t 0xC
def tBUDX (t : Nat) : Nat := treg t 0x10
def tRESP (t : Nat) : Nat := treg t 0x14
def tSTALE (t : Nat) : Nat := treg t 0x18

/-- Task states of Table POUR-16. -/
abbrev T_IDLE : Nat := 1
abbrev T_SNAP : Nat := 2
abbrev T_EXEC : Nat := 3
abbrev T_DONE : Nat := 4
abbrev T_LATE : Nat := 5

/-- Sequencer states of Table POUR-15. -/
abbrev P_OFF : Nat := 0
abbrev P_RUN : Nat := 1
abbrev P_STOPPING : Nat := 2
abbrev P_HALTED : Nat := 3

/-- The location code of a task (R114). -/
def taskLoc (t : Nat) : Nat := 0x380 + t
/-- The location code of the sequencer as a whole (R14). -/
abbrev POUR_LOC : Nat := 0x3FF

def State.task (s : State) (t : Nat) : TaskSt := tblGet (fun _ => TaskSt.reset) s.pour.tasks t
def State.setTask (s : State) (t : Nat) (x : TaskSt) : State :=
  { s with pour := { s.pour with tasks := tblPut (fun _ => TaskSt.reset) s.pour.tasks t [x] } }
def State.tstate (s : State) (t : Nat) : Nat := s.fld (TSTATE t)

/-- The sequencer runs pours: RUN or STOPPING. -/
def State.pourActive (s : State) : Bool := s.fld POUR_STATE == P_RUN || s.fld POUR_STATE == P_STOPPING

/-- A pour of the task is in progress. -/
def State.inProgress (s : State) (t : Nat) : Bool :=
  s.tstate t == T_SNAP || s.tstate t == T_EXEC || s.tstate t == T_DONE || s.tstate t == T_LATE

/-- POUR_OFFSET in ns: sequencer time minus Marigold time. -/
def State.pourOffset (s : State) : Int := s.pour.offsetPs.tdiv 1000

/-- Sequencer time now (DEDUCED, log 10: Marigold time plus POUR_OFFSET as its register defines it). -/
def State.seqNow (s : State) : Nat := ((s.now : Int) + s.pourOffset).toNat

/-- A sequencer time as Marigold time. -/
def State.seqToMgd (s : State) (t : Nat) : Nat := ((t : Int) - s.pourOffset).toNat

/-- Signed quantity of a payload in `n` bytes (R416). -/
def sBytes (n : Nat) (i : Int) : List Byte := leBytes n (unsignedOf (8 * n) i)

/-- R82: synchronised, and |POUR_OFFSET| at most 1 µs. -/
def State.alignedNow (s : State) : Bool :=
  s.flag MGD_STAT_SYNC && decide (s.pourOffset.natAbs ≤ 1000)

/-- POUR_STAT.ALIGNED follows R82; a change records 0x008B (Table POUR-13). -/
def State.updAligned (s : State) : State :=
  if s.flag POUR_ALIGNED = s.alignedNow then s
  else (s.setFlag POUR_ALIGNED s.alignedNow).event 0x8B POUR_LOC
    [BitVec.ofNat 8 (ofBool s.alignedNow), BitVec.ofNat 8 (ofBool (s.flag MGD_STAT_SYNC)), 0, 0]

/-- The sequencer's part of a step `d` ns of Marigold time (R81, Table POUR-11). A step during another's residual takes
its part from that residual; one that brings |POUR_OFFSET| to 500 µs or less slews, and a pending re-anchor is withdrawn
(DESIGN CHOICE, log 51). -/
def State.seqStep (s : State) (d : Int) : State :=
  if s.pourActive then
    let s := { s with pour := { s.pour with offsetPs := s.pour.offsetPs - d * 1000 } }
    let s := if s.pourOffset.natAbs ≤ 500000 then
        ((s.setFlag POUR_REANCHOR_PEND false).setFlag POUR_SLEW true).event 0x89 POUR_LOC (sBytes 8 d ++ sBytes 8 s.pourOffset)
      else (s.setFlag POUR_REANCHOR_PEND true).setFlag POUR_SLEW false
    s.updAligned
  else s.updAligned

/-- A trigger source delivers its entry (R90, Table POUR-6). SEQ is the ring's running index
(DEDUCED, log 11). A trigger lost on a full queue records 0x0086. -/
def State.triggerAt (s : State) (ts q task kind src arg : Nat) : State :=
  let e := leBytes 4 ts ++ leBytes 1 task ++ leBytes 1 kind ++ leBytes 2 src ++ leBytes 4 arg
    ++ leBytes 4 (s.pidx q)
  let lost := !s.qUsable q || s.qFill q == s.qSize q
  let s := s.qOffer q e
  if lost then
    s.event 0x86 (0xD10 + q) (leBytes 1 q ++ leBytes 1 kind ++ leBytes 2 src ++ leBytes 1 task
      ++ [0, 0, 0] ++ leBytes 4 ts)
  else s

/-- A trigger whose TRIG_TS is now. -/
def State.trigger (s : State) (q task kind src arg : Nat) : State :=
  s.triggerAt (ts32Of s.now) q task kind src arg

/-- Every entry of Q56 to Q59 consumed and discarded, and the held triggers dropped (R90, R110). -/
def State.dropTriggers (s : State) : State :=
  let s := [56, 57, 58, 59].foldl (fun s q => s.setReg (qreg q 0x10) (s.reg (qreg q 0x0C))) s
  (List.range 32).foldl (fun s t =>
    let x := s.task t
    (s.setTask t { x with held := none }).setFlag (TTRIG_HELD t) false) s

/-! ### ACYCLIC time (R100) -/

/-- Occurrences of an entry as sequencer-time intervals that end after `lo` and before `hi`. -/
def acyclicOcc (e : Entry) (lo hi : Nat) : List (Nat × Nat) :=
  let p := e.period * 1000
  let o := e.offset * 1000
  if p = 0 then []
  else
    let k0 := (lo - e.arg * 1000 - o) / p
    ((List.range ((hi - lo) / p + 3)).map (fun i => ((k0 + i) * p + o, (k0 + i) * p + o + e.arg * 1000))).filter
      (fun w => decide (lo < w.2 ∧ w.2 < hi))

/-- Insertion by start. -/
def insWin (w : Nat × Nat) : List (Nat × Nat) → List (Nat × Nat)
  | [] => [w]
  | v :: r => if w.1 ≤ v.1 then w :: v :: r else v :: insWin w r

/-- Intervals in order of start, those that meet or touch joined to the one that runs from `a` to `b`. -/
def joinFrom (a b : Nat) : List (Nat × Nat) → List (Nat × Nat)
  | [] => [(a, b)]
  | (c, d) :: r => if c ≤ b then joinFrom a (max b d) r else (a, b) :: joinFrom c d r

/-- Intervals in order of start as disjoint ones. -/
def joined : List (Nat × Nat) → List (Nat × Nat)
  | [] => []
  | (a, b) :: r => joinFrom a b r

/-- The free parts of the interval from `a` to `b`, `busy` in order of start. -/
def freePieces (a b : Nat) : List (Nat × Nat) → List (Nat × Nat)
  | [] => if a < b then [(a, b)] else []
  | (s, e) :: r =>
    if e ≤ a then freePieces a b r
    else if b ≤ s then (if a < b then [(a, b)] else [])
    else (if a < s then [(a, s)] else []) ++ freePieces (max a e) b r

/-- First-fit in time order: the pieces that make up `d` ns, if the free time totals that much. -/
def firstFit : Nat → List (Nat × Nat) → List (Nat × Nat) → Option (List (Nat × Nat))
  | 0, _, acc => some acc
  | _ + 1, [], _ => none
  | d + 1, (a, b) :: r, acc =>
    if b ≤ a then firstFit (d + 1) r acc
    else
      let n := min (d + 1) (b - a)
      if n = d + 1 then some (acc ++ [(a, n)]) else firstFit (d + 1 - n) r (acc ++ [(a, n)])

/-- The ACYCLIC occurrences that reach into the time up to a deadline (ts32), in order of start. -/
def State.acyclicWins (s : State) (dl : Nat) : List (Nat × Nat) :=
  let limit := ((extendTs32 s.now dl) + s.pourOffset).toNat
  ((s.entries.filter (fun e => e.kind == KIND_ACYCLIC)).flatMap (fun e => acyclicOcc e s.seqNow limit)).foldr insWin []

/-- The parts of `wins` still to come that are neither allocated nor in `also`. -/
def State.acyclicFree (s : State) (wins also : List (Nat × Nat)) : List (Nat × Nat) :=
  let busy := (s.pour.acyclic.map (fun v => (v.1, v.1 + v.2)) ++ also).foldr insWin []
  wins.flatMap (fun w => freePieces (max s.seqNow w.1) w.2 busy)

/-- ACYCLIC time for a request of duration `dUs` and deadline `dl` (ts32), first-fit (R100). -/
def State.acyclicFind (s : State) (dUs dl : Nat) : Option (List (Nat × Nat)) :=
  firstFit (dUs * 1000) (s.acyclicFree (joined (s.acyclicWins dl)) []) []

/-- The windows of scheduled Ladle channels that reach into the time up to a deadline (R405). -/
def State.ladleWindows (s : State) (dl : Nat) : List (Nat × Nat) :=
  let limit := ((extendTs32 s.now dl) + s.pourOffset).toNat
  (s.entries.filter (fun e => e.kind == KIND_LADLE)).flatMap (fun e =>
    let win := fieldAt (s.sec SEC_LADLE) (16 + 32 * e.object + 4) 4
    acyclicOcc ⟨e.kind, e.object, e.period, e.offset, win⟩ s.seqNow (limit + win * 1000))

/-- Ladle's allocation: the first unbroken interval within one occurrence, clear of every LADLE window (R405). -/
def State.ladleFind (s : State) (dUs dl : Nat) : Option (List (Nat × Nat)) :=
  let d := dUs * 1000
  match ((s.acyclicFree (s.acyclicWins dl) (s.ladleWindows dl)).foldr insWin []).find? (fun w => decide (w.1 + d ≤ w.2)) with
  | some w => some [(w.1, d)]
  | none => none

/-- Requesters of Table EVR-9's 0x008E. -/
inductive Requester where
  | ladle | pourline | can
  deriving DecidableEq, Repr

def Requester.code : Requester → Nat
  | .ladle => 1
  | .pourline => 2
  | .can => 3

def Requester.reason : Requester → Nat
  | .ladle => 0x209
  | .pourline => 0x20A
  | .can => 0x20B

/-- Admission of an acyclic request (R100): the allocation on acceptance; on refusal POUR_ACYREF and
event 0x008E. Outside RUN and SAFE no occurrence comes, so nothing is allocated (DEDUCED, log 12). -/
def State.acyclicAdmit (s : State) (who : Requester) (ident dUs dl : Nat) :
    Option (List (Nat × Nat)) × State :=
  let found := if s.fld POUR_STATE == P_RUN then
      (match who with
        | .ladle => s.ladleFind dUs dl
        | _ => s.acyclicFind dUs dl)
    else none
  match found with
  | some a =>
    let live := s.pour.acyclic.filter (fun v => decide (s.seqNow < v.1 + v.2))
    (some a, { s with pour := { s.pour with acyclic := live ++ a } })
  | none =>
    (none, (s.bump POUR_ACYREF).event 0x8E POUR_LOC (leBytes 2 who.reason ++ leBytes 1 who.code ++ [0]
      ++ leBytes 4 ident ++ leBytes 4 dUs ++ leBytes 4 dl))

/-! ### Starting and stopping (R109, R110) -/

/-- No pour of any task is in progress. -/
def State.noPour (s : State) : Bool := (List.range 32).all (fun t => !s.inProgress t)

/-- Entry to RUN: POUR_OFFSET 0, first pours to come 4 µs later, watchdog armed (R69, R81, R109, Table POUR-11). The
instant of the trigger accepted last (R92) and a commit instant that committed nothing (R79) are forgotten (DESIGN CHOICE,
log 83). -/
def State.pourStart (s : State) : State :=
  let s := { s with pour := { s.pour with offsetPs := 0, acyclic := [], openAt := s.now + 4000 } }
  let s := (((s.setFld POUR_STATE P_RUN).setFlag POUR_WDARM true).setFlag POUR_SLEW false).setFlag
    POUR_REANCHOR_PEND false
  let s := (List.range 32).foldl (fun s t =>
    if s.tstate t = 0 then s
    else (s.setTask t { TaskSt.reset with first := true, vals := (s.task t).vals }).setFld (TSTATE t) T_IDLE) s
  s.updAligned

/-- The sequencer stops at once: pours abandoned, triggers discarded (R110). -/
def State.pourHalt (s : State) : State :=
  if s.pourActive then
    let s := ((s.setFld POUR_STATE P_HALTED).setFlag POUR_WDARM false).dropTriggers
    (List.range 32).foldl (fun s t =>
      if s.tstate t = 0 then s
      else (((s.setTask t { TaskSt.reset with last := (s.task t).last, vals := (s.task t).vals }).setFld (TSTATE t) T_IDLE).setFlag
        (TDEMOTED t) false)) s
  else s

/-- The sequencer OFF after the last pour of an orderly STOP, or when HALT is left (Table POUR-11). POUR_OFFSET is 0 in
STOP (R189). -/
def State.pourOff (s : State) : State :=
  let s := (s.setFld POUR_STATE P_OFF).setFlag POUR_WDARM false
  let s := { s with pour := { s.pour with offsetPs := 0 } }
  ((s.setFlag POUR_SLEW false).setFlag POUR_REANCHOR_PEND false).updAligned

end Sys2Proof.Machine
end

