-- ==== Sys2Proof/Machine/Ladle.lean ====
section
/-! DEFINITION. The Ladle DMA engine (14_ladle_dma.md). -/

namespace Sys2Proof.Machine

/-! ### Ladle registers (Tables LDL-9, LDL-10) -/

def LDL_HALT : Fld := ⟨0x20700000, 0, 0⟩
def LDL_ACTIVE : Fld := ⟨0x20700000, 1, 1⟩
def LDL_ACTCH : Fld := ⟨0x20700000, 6, 2⟩
/-- LDL_ERR: 0 BUSERR, 1 BUSY, 2 DESC, 3 DOMAIN, 4 WITHDRAWN, 5 REFUSED, 6 ABORTED. -/
def LDL_ERR (i : Nat) : Fld := ⟨0x20700004, i, i⟩
abbrev LDL_IRQ : Nat := 0x2070000C
abbrev LDL_BERRADDR : Nat := 0x20700010
abbrev LDL_PEND : Nat := 0x20700014
abbrev LDL_STOPS : Nat := 0x20700018
abbrev LDL_DESCS : Nat := 0x2070001C
def ldlr (c off : Nat) : Nat := 0x20700100 + c * 0x20 + off
def LC_STATE (c : Nat) : Fld := ⟨ldlr c 0x18, 1, 0⟩
def LC_STATUS (c : Nat) : Fld := ⟨ldlr c 0x18, 15, 8⟩
def LC_CHAINS (c : Nat) : Fld := ⟨ldlr c 0x18, 31, 16⟩
abbrev LDL_LOC : Nat := 0x4FF

/-- Statuses of Table LDL-5. -/
abbrev LS_DONE : Nat := 1
abbrev LS_ZERO : Nat := 2
abbrev LS_EQUAL : Nat := 3
abbrev LS_MISMATCH : Nat := 4
abbrev LS_DOMAIN_OFF : Nat := 5
abbrev LS_RANGE : Nat := 6
abbrev LS_ALIGN : Nat := 7
abbrev LS_OVERLAP : Nat := 8
abbrev LS_BADOP : Nat := 9
abbrev LS_BUDGET : Nat := 0xA
abbrev LS_WITHDRAWN : Nat := 0xB
abbrev LS_REFUSED : Nat := 0xC
abbrev LS_ABORTED : Nat := 0xD
abbrev LS_ENGINE_STOP : Nat := 0xE

def State.ldlCh (s : State) (c : Nat) : LdlCh := tblGet (fun _ => LdlCh.reset) s.ldl.chans c
def State.setLdlCh (s : State) (c : Nat) (x : LdlCh) : State :=
  { s with ldl := { s.ldl with chans := tblPut (fun _ => LdlCh.reset) s.ldl.chans c [x] } }

/-- The channel record (Table LDL-4). -/
def State.ldlRec (s : State) (c : Nat) : List Byte := slice (s.sec SEC_LADLE) (16 + 32 * c) 32
def State.ldlKind (s : State) (c : Nat) : Nat := fieldAt (s.ldlRec c) 0 1
def State.ldlState (s : State) (c : Nat) : Nat := s.fld (LC_STATE c)
def State.ldlHead (s : State) (c : Nat) : Nat := s.regN (ldlr c 4) + 2 ^ 32 * s.fld ⟨ldlr c 8, 3, 0⟩
/-- The block is isolated (R408). -/
def State.ldlIsolated (s : State) : Bool := s.bit 0x20000028 9

/-! ### Completion (R409) -/

/-- One completion: interrupt bit and completion record. -/
def State.ldlComplete (s : State) (c status : Nat) (last : Bool) (desc result : Nat) : State :=
  let r := s.ldlRec c
  let s := if bitOf (fieldAt r 3 1) 0 then s.orReg LDL_IRQ (2 ^ c) else s
  let q := fieldAt r 2 1
  if q < 16 then
    s.qOffer q (leBytes 4 (ts32Of s.now) ++ leBytes 1 c ++ leBytes 1 status
      ++ leBytes 1 (ofBool last + ofBool (fieldAt r 0 1 == 1) * 2) ++ [0] ++ leBytes 4 (desc / 16)
      ++ leBytes 4 result)
  else s

/-- Flags and events of the statuses of Table LDL-8. -/
def State.ldlReport (s : State) (c status : Nat) : State :=
  if status = LS_BADOP ∨ status = LS_RANGE ∨ status = LS_ALIGN ∨ status = LS_OVERLAP ∨ status = LS_BUDGET then
    (s.setFlag (LDL_ERR 2) true).event 0x142 (0x480 + c) []
  else if status = LS_DOMAIN_OFF then (s.setFlag (LDL_ERR 3) true).event 0x143 (0x480 + c) []
  else if status = LS_WITHDRAWN then (s.setFlag (LDL_ERR 4) true).event 0x144 (0x480 + c) []
  else if status = LS_REFUSED then s.setFlag (LDL_ERR 5) true
  else if status = LS_ABORTED then s.setFlag (LDL_ERR 6) true
  else s

/-- The channel goes IDLE: its allocation is released and its chain counted (R405). -/
def State.ldlIdle (s : State) (c : Nat) : State :=
  let x := s.ldlCh c
  let active := s.ldlState c == 2
  let s := match x.alloc with
    | some a => { s with pour := { s.pour with acyclic := s.pour.acyclic.filter (fun v => v != a) } }
    | none => s
  let s := (s.setLdlCh c LdlCh.reset).setFld (LC_STATE c) 0
  let s := s.setFld (LC_CHAINS c) (s.fld (LC_CHAINS c) + 1)
  let s := s.setBit LDL_PEND c false
  if active then ({ s with ldl := { s.ldl with cur := none } }).setFlag LDL_ACTIVE false else s

/-- A chain ends: status, report, completion. -/
def State.ldlChainEnd (s : State) (c status desc result : Nat) : State :=
  let s := (s.setFld (LC_STATUS c) status).ldlReport c status
  (s.ldlComplete c status true desc result).ldlIdle c

/-! ### The engine stop (R407, R408) -/

/-- Ladle writes memory: a transaction of its own, and what a task's state region takes goes with the next copy (R34,
R412). -/
def State.ldPut (s : State) (a : Nat) (bs : List Byte) : State :=
  ((s.transfer issLadle a bs.length true).mput a bs).markDirty a bs.length

/-- `n` bytes at address `a` become free values. -/
def State.scramble (s : State) (a n : Nat) : State :=
  let bs : List Byte := (List.range n).map (fun i => BitVec.ofNat 8 (Config.freeWord (s.free + i)).toNat)
  (({ s with free := s.free + n }).mput a bs).markDirty a n

def ldOp (d : List Byte) : Nat := fieldAt d 0 1
def ldFlags (d : List Byte) : Nat := fieldAt d 1 1
def ldCount (d : List Byte) : Nat := fieldAt d 4 4
def ldSrc (d : List Byte) : Nat := fieldAt d 8 8
def ldDst (d : List Byte) : Nat := fieldAt d 16 8
def ldNext (d : List Byte) : Nat := fieldAt d 24 8

/-- Bytes per unit of a FILL. -/
def ldWidth (d : List Byte) : Nat := 2 ^ bitsOf (ldFlags d) 2 1

/-- What a COPY or FILL puts at its destination. -/
def State.ldData (s : State) (d : List Byte) (n : Nat) : List Byte :=
  if ldOp d = 1 then s.mread (ldSrc d) n
  else
    let w := ldWidth d
    (List.range n).map (fun i => BitVec.ofNat 8 (ldSrc d / 256 ^ (i % w)))

/-- A transfer into memory: a COPY or FILL that passed its checks. -/
def LdlDesc.writes (x : LdlDesc) : Bool := (ldOp x.bytes == 1 || ldOp x.bytes == 2) && x.status == LS_DONE

/-- The engine stops in the active chain of channel `c` after `done` bytes: those are written, the rest of the destination
is undefined (R407). -/
def State.ldlStopActive (s : State) (c done : Nat) : State :=
  match s.ldl.cur with
  | none => s.ldlChainEnd c LS_ENGINE_STOP 0 0
  | some x =>
    let k := if x.writes then min done (ldCount x.bytes) else 0
    let s := if x.writes then
        let read := if ldOp x.bytes = 1 then s.transfer issLadle (ldSrc x.bytes) k false else s
        (read.ldPut (ldDst x.bytes) (s.ldData x.bytes k)).scramble (ldDst x.bytes + k) (ldCount x.bytes - k)
      else s
    (((s.setRegN (ldlr c 0x1C) k).bump LDL_DESCS).pmc1 4 0x10 |>.pmcCount 4 0x11 0 k).ldlChainEnd c LS_ENGINE_STOP x.addr k

/-- Every pending chain ends with a status, with no access. -/
def State.ldlEndPending (s : State) (status : Nat) : State :=
  (List.range 32).foldl (fun s c => if s.ldlState c = 1 then s.ldlChainEnd c status 0 0 else s) s

/-- LADLE_BUS_ERROR: a slave error at address `a` after `done` bytes of the active descriptor. -/
def State.ladleBusError (s : State) (a done : Nat) : State :=
  if s.flag LDL_HALT || s.ldlIsolated then s
  else
    let s := (s.readRange a 1).2
    let s := ((s.setFlag LDL_HALT true).setFlag (LDL_ERR 0) true).setRegN LDL_BERRADDR (a / 16)
    let ch := s.fld LDL_ACTCH
    let s := (s.bump LDL_STOPS |>.pmc1 4 0x13).event 0x140 LDL_LOC (leBytes 4 ch ++ leBytes 4 (a / 16))
    (if s.flag LDL_ACTIVE then s.ldlStopActive ch done else s).ldlEndPending LS_ENGINE_STOP

/-- CLRHALT: LDL_CTL.CLRHALT (R408). -/
def State.ladleClrHalt (s : State) : State :=
  if s.flag LDL_HALT then (s.setFlag LDL_HALT false).event 0x141 LDL_LOC [] else s

/-! ### Descriptors (R401 to R404) -/

/-- The area of a range, for sources and for destinations: 1 SRAM, 2 MRAM, 3 LPDDR4X, 0 none
(Tables LDL-3 and LDL-3A). -/
def ldSrcArea (a n : Nat) : Nat :=
  if a + n ≤ 0x700000 ∨ (0x700000 ≤ a ∧ a + n ≤ 0x800000) then 1
  else if 0x1000000 ≤ a ∧ a + n ≤ 0x13C0000 then 2
  else if 0x100000000 ≤ a ∧ a + n ≤ 0x1FF000000 then 3
  else 0

def ldDstArea (a n : Nat) : Nat :=
  if a + n ≤ 0x680000 ∨ (0x700000 ≤ a ∧ a + n ≤ 0x800000) then 1
  else if 0x100000000 ≤ a ∧ a + n ≤ 0x1FF000000 then 3
  else 0

/-- Read and write rates in bytes per µs by the address an operand starts at (Table LDL-3A); none where the
table gives none (log 24). -/
def ldReadRate (a : Nat) : Option Nat :=
  match memKind a with
  | some .sram => some 8000
  | some .mram => some 1200
  | some .ddr => some 6000
  | none => none

def ldWriteRate (a : Nat) : Option Nat :=
  match memKind a with
  | some .sram => some 8000
  | some .ddr => some 9000
  | _ => none

/-- The rate r of a descriptor (R404). -/
def ldRate (d : List Byte) : Option Nat :=
  match ldOp d with
  | 1 => match ldReadRate (ldSrc d), ldWriteRate (ldDst d) with
    | some r, some w => some (min r w)
    | _, _ => none
  | 2 => ldWriteRate (ldDst d)
  | _ => match ldReadRate (ldSrc d), ldReadRate (ldDst d) with
    | some r, some w => some (min r w / 2)
    | _, _ => none

/-- D in µs: COUNT / r + 0.5 rounded up (R404). -/
def ldBound (d : List Byte) : Option Nat :=
  (ldRate d).map (fun r => if ldCount d = 0 then 0 else (2 * ldCount d + r + 2 * r - 1) / (2 * r))

/-- Check 1: OP, FLAGS and reserved fields. -/
def ldBad (d : List Byte) : Bool :=
  let op := ldOp d
  let f := ldFlags d
  !(op == 1 || op == 2 || op == 3) || bitsOf f 7 4 != 0 || (op != 2 && bitsOf f 2 1 != 0)
    || fieldAt d 2 2 != 0 || decide (16777216 < ldCount d)
    || (op != 2 && decide (2 ^ 36 ≤ ldSrc d)) || (op == 2 && decide (256 ^ ldWidth d ≤ ldSrc d))
    || decide (2 ^ 36 ≤ ldDst d) || decide (2 ^ 36 ≤ ldNext d)

/-- Two ranges of `n` bytes intersect. -/
def rangesMeet (a b n : Nat) : Bool := decide (a < b + n ∧ b < a + n)

/-- The checks of Table LDL-3 at the start of a descriptor of channel `c`; DONE or EQUAL when the transfer
runs. -/
def State.ldCheck (s : State) (c : Nat) (d : List Byte) : Nat :=
  let x := s.ldlCh c
  let r := s.ldlRec c
  let n := ldCount d
  let above (b : Nat) : Bool := match ldBound d with
    | some v => decide (b < v)
    | none => false
  let ranges := if ldOp d = 2 then ldDstArea (ldDst d) n != 0
    else if ldOp d = 1 then ldSrcArea (ldSrc d) n != 0 && ldDstArea (ldDst d) n != 0
    else ldSrcArea (ldSrc d) n != 0 && ldSrcArea (ldDst d) n != 0
  let ddr := memKind (ldDst d) == some .ddr || (ldOp d != 2 && memKind (ldSrc d) == some .ddr)
  if ldBad d then LS_BADOP
  else if n = 0 then LS_ZERO
  else if above (fieldAt r 8 4) then LS_BUDGET
  else if fieldAt r 0 1 = 1 ∧ fieldAt r 12 4 < x.used + n then LS_BUDGET
  else if above ((x.endAt - s.seqNow) / 1000) then LS_WITHDRAWN
  else if !ranges then LS_RANGE
  else if ldOp d = 2 ∧ (ldDst d % ldWidth d ≠ 0 ∨ n % ldWidth d ≠ 0) then LS_ALIGN
  else if ldOp d == 1 && rangesMeet (ldSrc d) (ldDst d) n then LS_OVERLAP
  else if ddr && s.domainShut 12 then LS_DOMAIN_OFF
  else if ldOp d = 3 then LS_EQUAL
  else LS_DONE

/-- A fetch or read at `a` meets a slave error: Ladle's own domain or the target's shut, nothing there, or an
uncorrectable error in its ECC word (R22, R24, R32, R34). -/
def State.ldReadFails (s : State) (a : Nat) : Bool :=
  s.domainShut 3 || match memKind a with
  | none => true
  | some .ddr => s.domainShut 12 || decide (0x1FF000000 ≤ a) || s.sys.eccUe.contains (a / 16)
  | some _ => decide (0x13C0000 ≤ a) || s.sys.eccUe.contains (a / 16)

/-- The engine starts the descriptor at `addr` for channel `c`: fetch and checks. -/
def State.ldStartDesc (s : State) (c addr : Nat) : State :=
  if s.ldReadFails addr || s.ldReadFails (addr + 16) then
    ({ s with ldl := { s.ldl with cur := none } }).ladleBusError (if s.ldReadFails addr then addr else addr + 16) 0
  else
    let s := ((s.transfer issLadle addr 32 false).readRange addr 32).2
    let d := s.mread addr 32
    let st := s.ldCheck c d
    let x := s.ldlCh c
    let s := s.setLdlCh c { x with used := x.used + ldCount d }
    { s with ldl := { s.ldl with cur := some ⟨addr, d, st⟩ } }

/-- What a transfer reads: its sources, and the destination's words that it covers in part. -/
def ldReads (d : List Byte) : List (Nat × Nat) :=
  let n := ldCount d
  match ldOp d with
  | 1 => (ldSrc d, n) :: partialEnds (ldDst d) n
  | 2 => partialEnds (ldDst d) n
  | _ => [(ldSrc d, n), (ldDst d, n)]

/-- The first offset of a transfer at which a read meets an uncorrectable error, and the address read there. -/
def State.ldFirstUe (s : State) (d : List Byte) : Option (Nat × Nat) :=
  let start (a : Nat) : Nat := if ldOp d ≠ 2 ∧ ldSrc d ≤ a ∧ a < ldSrc d + ldCount d then ldSrc d else ldDst d
  let hits := (ldReads d).flatMap (fun r => s.sys.eccUe.filterMap (fun w =>
    if r.1 < 16 * w + 16 ∧ 16 * w < r.1 + r.2 then some (max r.1 (16 * w) - start r.1, max r.1 (16 * w)) else none))
  hits.foldl (fun o k => match o with
    | some j => some (if j.1 ≤ k.1 then j else k)
    | none => some k) none

/-- The reads of a transfer: errors corrected and counted. -/
def State.ldReadAll (s : State) (d : List Byte) : State :=
  (ldReads d).foldl (fun s r => (s.readRange r.1 r.2).2) s

/-- The lowest unequal byte of a COMPARE. -/
def firstDiff : List Byte → List Byte → Nat → Option Nat
  | a :: r, b :: t, k => if a = b then firstDiff r t (k + 1) else some k
  | _, _, _ => none

/-! ### Channels (Table LDL-1) -/

/-- LADLE_OCCURRENCE: a scheduled channel becomes pending, or ends ENGINE_STOP while halted (R399, R408). -/
def State.ladleOccurrence (s : State) (c : Nat) : State :=
  if s.fld POUR_STATE != P_RUN || s.blind || s.ldlIsolated || s.ldlKind c != 1 || s.ldlState c != 0 then s
  else if s.flag LDL_HALT then s.ldlChainEnd c LS_ENGINE_STOP 0 0
  else
    let t := s.seqNow
    let s := s.setLdlCh c ⟨t, t + fieldAt (s.ldlRec c) 4 4 * 1000, none, 0, 0⟩
    (s.setFld (LC_STATE c) 1).setBit LDL_PEND c true

/-- START: LDL_CnCTL.START of channel `c` (R399, R405, R408). -/
def State.ladleStart (s : State) (c : Nat) : State :=
  if s.ldlIsolated then s
  else if s.ldlKind c ≠ 2 ∨ s.ldlState c ≠ 0 then s.setFlag (LDL_ERR 1) true
  else if s.flag LDL_HALT then s.ldlChainEnd c LS_REFUSED 0 0
  else
    match s.acyclicAdmit .ladle c (s.regN (ldlr c 0x10)) (s.regN (ldlr c 0x14)) with
    | (some ((t, d) :: _), s) =>
      let s := s.setLdlCh c ⟨t, t + d, some (t, d), 0, 0⟩
      (s.setFld (LC_STATE c) 1).setBit LDL_PEND c true
    | (_, s) => s.ldlChainEnd c LS_REFUSED 0 0

/-- ABORT: LDL_CnCTL.ABORT. -/
def State.ladleAbort (s : State) (c : Nat) : State :=
  if s.ldlState c = 1 then s.ldlChainEnd c LS_ABORTED 0 0
  else if s.ldlState c = 2 then s.setLdlCh c { s.ldlCh c with stop := LS_ABORTED }
  else s

/-- The head of the run order among the channels that may run (R400). -/
def State.ldlFirst (s : State) : Option Nat :=
  let ready := (List.range 32).filter (fun c => s.ldlState c == 1 && decide ((s.ldlCh c).runAt ≤ s.seqNow))
  let before (a b : Nat) : Bool := decide ((s.ldlCh a).runAt < (s.ldlCh b).runAt) ||
    ((s.ldlCh a).runAt == (s.ldlCh b).runAt && decide (fieldAt (s.ldlRec a) 1 1 < fieldAt (s.ldlRec b) 1 1))
  ready.foldl (fun o c => match o with
    | none => some c
    | some b => if before c b then some c else some b) none

/-- CHAIN_TAKE. -/
def State.chainTake (s : State) : State :=
  if s.flag LDL_ACTIVE || s.flag LDL_HALT || s.ldlIsolated || s.domain 3 == D_OFF then s
  else
    match s.ldlFirst with
    | none => s
    | some c =>
      let head := s.ldlHead c
      if head = 0 then s.ldlChainEnd c LS_ZERO 0 0
      else
        let s := ((s.setFld (LC_STATE c) 2).setBit LDL_PEND c false).setFlag LDL_ACTIVE true
        (s.setFld LDL_ACTCH c).ldStartDesc c head

/-- The transfer of a descriptor that runs: its status, result and effect on memory. -/
def State.ldTransfer (s : State) (d : List Byte) (st : Nat) : Nat × Nat × State :=
  let n := ldCount d
  if st = LS_DONE then
    let s' := if ldOp d = 1 then s.transfer issLadle (ldSrc d) n false else s
    (LS_DONE, n, s'.ldPut (ldDst d) (s.ldData d n))
  else if st = LS_EQUAL then
    let s' := (s.transfer issLadle (ldSrc d) n false).transfer issLadle (ldDst d) n false
    match firstDiff (s.mread (ldSrc d) n) (s.mread (ldDst d) n) 0 with
    | some k => (LS_MISMATCH, k, s')
    | none => (LS_EQUAL, n, s')
  else (st, 0, s)

/-- DESCRIPTOR_END: the running descriptor ends and its chain goes on or ends (R402, R403). -/
def State.descriptorEnd (s : State) : State :=
  match s.ldl.cur with
  | none => s
  | some x =>
    let c := s.fld LDL_ACTCH
    let d := x.bytes
    let runs := x.status == LS_DONE || x.status == LS_EQUAL
    match (if runs then s.ldFirstUe d else none) with
    | some (k, a) => s.ladleBusError a k
    | none =>
      let s := if runs then s.ldReadAll d else s
      let (st, res, s) := s.ldTransfer d x.status
      let s := (s.setRegN (ldlr c 0x1C) res).bump LDL_DESCS |>.pmc1 4 0x10
      let s := if st = LS_DONE then s.pmcCount 4 0x11 0 res else s
      let stop := (s.ldlCh c).stop
      let cont := st == LS_DONE || st == LS_ZERO || st == LS_EQUAL || (st == LS_MISMATCH && !bitOf (ldFlags d) 3)
      if stop ≠ 0 then s.ldlChainEnd c stop x.addr 0
      else if !cont || ldNext d == 0 then s.ldlChainEnd c st x.addr res
      else
        let s := s.setFld (LC_STATUS c) st
        let s := if bitOf (ldFlags d) 0 then s.ldlComplete c st false x.addr res else s
        s.ldStartDesc c (ldNext d)

/-! ### Modes and restarts (R408, R411) -/

/-- Orderly STOP (WITHDRAWN) and HALT (ABORTED): pending chains end, the running descriptor completes. -/
def State.ladleEnd (s : State) (status : Nat) : State :=
  (List.range 32).foldl (fun s c =>
    if s.ldlState c = 2 then s.setLdlCh c { s.ldlCh c with stop := status } else s) (s.ldlEndPending status)

/-- A fault of Ladle's own logic: every channel ends ENGINE_STOP (R408). How far the active descriptor came is a free
value, as in an engine stop of R407 (log 75). -/
def State.ladleFault (s : State) : State :=
  let s := if s.flag LDL_ACTIVE then
      let (k, s) := s.draw 32
      s.ldlStopActive (s.fld LDL_ACTCH) (match s.ldl.cur with | some x => k % (ldCount x.bytes + 1) | none => 0)
    else s
  s.ldlEndPending LS_ENGINE_STOP

/-- Module fault, save and reset: everything abandoned, no records. -/
def State.ladleDrop (s : State) : State :=
  let s := (List.range 32).foldl (fun s c => s.setFld (LC_STATE c) 0) s
  ({ s with ldl := Ldl.reset }).setRegN LDL_PEND 0 |>.setFlag LDL_ACTIVE false

/-- Ladle with the pattern's channels, every one IDLE, and nothing kept of the time before (R411, R413). -/
def State.ladleInit (s : State) : State :=
  let s := s.ladleDrop.clearRegs 0x20700000 0x20710000
  (List.range 32).foldl (fun s c =>
    let r := s.ldlRec c
    let s := (s.setRegN (ldlr c 0) (fieldAt r 0 4)).setRegN (ldlr c 4) (fieldAt r 16 4 / 32 * 32)
    s.setRegN (ldlr c 8) (fieldAt r 20 4 % 16)) s

end Sys2Proof.Machine
end

