-- ==== Sys2Proof/Machine/Crypto.lean ====
section
/-! DEFINITION. CRC-32C, SHA-256 and ECDSA over P-256, as the pattern, the image and the key store
use them (R47, R49, R50, R415). Written from the public standards: PRESUMED, log 9. -/

namespace Sys2Proof.Machine

/-! ### CRC-32C -/

def crcBit (c : Word) : Word := if c.getLsbD 0 then (c >>> 1) ^^^ 0x82F63B78 else c >>> 1

def crcByte (c : Word) (b : Byte) : Word :=
  let c := c ^^^ b.setWidth 32
  crcBit (crcBit (crcBit (crcBit (crcBit (crcBit (crcBit (crcBit c)))))))

/-- CRC-32C of bytes. -/
def crc32c (bs : List Byte) : Nat := (~~~(bs.foldl crcByte 0xFFFFFFFF)).toNat

/-! ### SHA-256

The constants are the leading fraction bits of roots of the first primes, and the eight working variables are the
last four values of two sequences. -/

/-- The largest r below 2^b added to `r` whose `k`-th power does not exceed `n`, found from the highest bit down. -/
def rootBits (k n : Nat) : Nat → Nat → Nat
  | 0, r => r
  | b + 1, r => rootBits k n b (if (r + 2 ^ b) ^ k ≤ n then r + 2 ^ b else r)

/-- The first 32 bits of the fractional part of the `k`-th root of `p`. -/
def rootFraction (k p : Nat) : Word := BitVec.ofNat 32 (rootBits k (p * 2 ^ (32 * k)) 37 0)

/-- The 64 primes up to 311. -/
def primes311 : List Nat :=
  (List.range 312).filter (fun p => 1 < p && (List.range' 2 16).all (fun d => decide (p ≤ d) || p % d != 0))

/-- The sequences of a digest in progress, newest value first, and the sixteen words of the schedule that come
next. -/
structure Digesting where
  as : List Word
  es : List Word
  next : List Word
  deriving DecidableEq, Repr

/-- The exclusive or of a word's rotations. -/
def rotations (x : Word) (rs : List Nat) : Word := rs.foldl (fun a r => a ^^^ x.rotateRight r) 0

/-- The schedule's word that follows sixteen words. -/
def scheduled (w : List Word) : Word :=
  let p := w.getD 1 0
  let q := w.getD 14 0
  (rotations p [7, 18] ^^^ p >>> 3) + (rotations q [17, 19] ^^^ q >>> 10) + w.getD 0 0 + w.getD 9 0

/-- The constants of the rounds. -/
def roundConstants : List Word := primes311.map (rootFraction 3)

/-- One of the 64 rounds, with its constant. -/
def digestRound (v : Digesting) (k : Word) : Digesting :=
  let e := v.es.getD 0 0
  let a := v.as.getD 0 0
  let pick := v.es.getD 2 0 ^^^ (e &&& (v.es.getD 1 0 ^^^ v.es.getD 2 0))
  let most := (a &&& v.as.getD 1 0) ||| (v.as.getD 2 0 &&& (a ||| v.as.getD 1 0))
  let t := v.es.getD 3 0 + rotations e [6, 11, 25] + pick + k + v.next.getD 0 0
  { as := (t + rotations a [2, 13, 22] + most) :: v.as.take 3
    es := (v.as.getD 3 0 + t) :: v.es.take 3
    next := v.next.drop 1 ++ [scheduled v.next] }

/-- The sixteen words of a block, highest byte first. -/
def blockWords (blk : List Byte) : List Word :=
  (List.range 16).map (fun i => BitVec.ofNat 32 (beVal (slice blk (4 * i) 4)))

/-- A block of 64 bytes taken into the digest. -/
def digestBlock (h : List Word) (blk : List Byte) : List Word :=
  let v := roundConstants.foldl digestRound ⟨h.take 4, h.drop 4, blockWords blk⟩
  ((v.as ++ v.es).zip h).map (fun x => x.1 + x.2)

/-- The message, a one bit, zeros, and the message's length in bits: whole blocks. -/
def shaPadded (bs : List Byte) : List Byte :=
  padTo ((bs.length + 72) / 64 * 64 - 8) (bs ++ [0x80]) ++ beBytes 8 (8 * bs.length)

/-- SHA-256 of bytes, 32 bytes. -/
def sha256 (bs : List Byte) : List Byte :=
  let m := shaPadded bs
  let v := (List.range (m.length / 64)).foldl (fun x _ => (digestBlock x.1 (x.2.take 64), x.2.drop 64))
    ((primes311.take 8).map (rootFraction 2), m)
  v.1.flatMap (fun w => beBytes 4 w.toNat)

/-! ### ECDSA over P-256 -/

def p256P : Nat := 0xffffffff00000001000000000000000000000000ffffffffffffffffffffffff
def p256N : Nat := 0xffffffff00000000ffffffffffffffffbce6faada7179e84f3b9cac2fc632551
def p256B : Nat := 0x5ac635d8aa3a93e7b3ebbd55769886bc651d06b0cc53b0f63bce3c3e27d2604b
def p256G : Nat × Nat :=
  (0x6b17d1f2e12c4247f8bce6e563a440f277037d812deb33a0f4a13945d898c296,
   0x4fe342e2fe1a7f9b8ee7eb4a7c0f9e162bce33576b315ececbb6406837bf51f5)

/-- a^e mod m over the low `k` bits of `e`. -/
def powMod (a m : Nat) : Nat → Nat → Nat
  | 0, _ => 1 % m
  | k + 1, e =>
    let h := powMod a m k (e / 2)
    if e % 2 = 1 then h * h % m * a % m else h * h % m

def invMod (a m : Nat) : Nat := powMod a m 256 (m - 2)

/-- Sum of two points of the curve; none is the point at infinity. -/
def ecAdd (p q : Option (Nat × Nat)) : Option (Nat × Nat) :=
  match p, q with
  | none, q => q
  | p, none => p
  | some (x1, y1), some (x2, y2) =>
    if x1 = x2 ∧ (y1 + y2) % p256P = 0 then none
    else
      let l := if x1 = x2 then
          (3 * x1 * x1 + (p256P - 3)) * invMod (2 * y1 % p256P) p256P % p256P
        else (y2 + p256P - y1) * invMod ((x2 + p256P - x1) % p256P) p256P % p256P
      let x3 := (l * l + 2 * p256P - x1 - x2) % p256P
      some (x3, (l * (x1 + p256P - x3) + (p256P - y1)) % p256P)

/-- k times a point over the low `n` bits of `k`. -/
def ecMul (p : Option (Nat × Nat)) : Nat → Nat → Option (Nat × Nat)
  | 0, _ => none
  | n + 1, k =>
    let h := ecMul p n (k / 2)
    let d := ecAdd h h
    if k % 2 = 1 then ecAdd d p else d

/-- ECDSA verification of a digest with public key (x, y) (FIPS 186-4). -/
def ecdsaVerify (x y : Nat) (digest : List Byte) (r s : Nat) : Bool :=
  let onCurve := decide (x < p256P ∧ y < p256P) &&
    y * y % p256P == (x * x * x + (p256P - 3) * x + p256B) % p256P
  if !onCurve || r == 0 || s == 0 || decide (p256N ≤ r) || decide (p256N ≤ s) then false
  else
    let z := beVal (digest.take 32)
    let w := invMod s p256N
    match ecAdd (ecMul (some p256G) 256 (z * w % p256N)) (ecMul (some (x, y)) 256 (r * w % p256N)) with
    | none => false
    | some (rx, _) => rx % p256N == r

end Sys2Proof.Machine
end

