-- ==== Sys2Proof/Machine/Recorder.lean ====
section
/-! DEFINITION. The event recorder: ingest, summaries, staging tail, flash partitions, cursors, clears,
starts (15_event_recorder.md). Acceptance and posts stand in Events.lean. -/

namespace Sys2Proof.Machine

def EVR_FLASHWORN : Fld := ⟨0x20800000, 1, 1⟩
def EVR_CLRBUSY (p : Nat) : Fld := ⟨0x20800000, 2 + p, 2 + p⟩
def EVR_ERR_CRC : Fld := ⟨0x20800004, 1, 1⟩
def EVR_ERR_BADPART : Fld := ⟨0x20800004, 2, 2⟩
abbrev EVR_BADBLK : Nat := 0x2080001C
def evrP (p off : Nat) : Nat := 0x20800020 + 0x10 * p + off
def evrC (k off : Nat) : Nat := 0x20800100 + 0x20 * k + off
def CK_READY (k : Nat) : Fld := ⟨evrC k 8, 0, 0⟩
def CK_EMPTY (k : Nat) : Fld := ⟨evrC k 8, 1, 1⟩
def CK_SKIPPED (k : Nat) : Fld := ⟨evrC k 8, 2, 2⟩
def CK_CRCERR (k : Nat) : Fld := ⟨evrC k 8, 3, 3⟩
def CK_PART (k : Nat) : Fld := ⟨evrC k 8, 5, 4⟩
def evrWin (k : Nat) : Nat := 0x20804000 + 0x1000 * k
abbrev EVR_LOC : Nat := 0x6FF

/-- Bytes of the MRAM staging tail and of a flash block (Table SYS-11, R424). -/
abbrev TAIL_BYTES : Nat := 0xC0000
abbrev BLOCK_BYTES : Nat := 0x40000

/-- A notice of the recorder itself, accepted at once while it accepts, and lost else (Table EVR-6; log 25). -/
def State.evrNotice (s : State) (code src : Nat) (payload : List Byte) : State :=
  if !s.evrAccepts then s
  else (s.offerRecord code src (s.codeEntry code).2.1 (ofBool (s.flag MGD_STAT_SYNC)) (s.now / NS % 2 ^ 32)
    (s.now % NS) payload).2

/-! ### Ingest and summaries (R419, R422) -/

/-- SUMMARY_RECORD of class `k` (R422); without room in the staging buffer it is still to come. -/
def State.summaryRecord (s : State) (k : Nat) : State :=
  let b := s.bucket k
  if !s.evrAccepts || k == 63 || b.supp == 0 || decide (s.monoUs < b.acc + 10000000) then s
  else
    let (_, sev, part) := s.codeEntry 0x155
    let s := s.acceptRecord 0x155 EVR_LOC sev (ofBool (s.flag MGD_STAT_SYNC)) (min b.supp 255) (s.now / NS % 2 ^ 32)
      (s.now % NS) (leBytes 1 k ++ [0] ++ leBytes 2 b.lastCode) part
    s.setBucket k { b with supp := 0, acc := s.monoUs }

/-! ### Staging tail and flash (R423 to R425) -/

def State.setTail (s : State) (t : List Record) : State :=
  ({ s with evr := { s.evr with tail := t } }).setRegN EVR_TAILFILL (recsLen t)

/-- `n` bytes cross the fabric to or from the staging tail (R423, Tables SYS-8, SYS-11); where in its partition they lie is
internal to the module. -/
def State.tailMove (s : State) (n : Nat) (write : Bool) : State := s.transfer issEvr 0x1300000 n write

/-- The 0x0150 record at the end of a run of losses: it goes to the tail before every other record (R423). -/
def State.lossRecord (s : State) : State :=
  let s := { s with evr := { s.evr with lossPending := true } }
  let (_, sev, part) := s.codeEntry 0x150
  let r := s.newRecord 0x150 EVR_LOC sev (ofBool (s.flag MGD_STAT_SYNC)) 0 (s.now / NS % 2 ^ 32) (s.now % NS)
    (leBytes 4 s.evr.lossRun) part
  let s := (s.tailMove (recLen r.payload) true).setTail (s.evr.tail ++ [r])
  ({ s with evr := { s.evr with lossRun := 0 } }).countRecord

/-- The run of losses ends once the tail has room, for its record and for `more` bytes (R423). -/
def State.endLossRun (s : State) (more : Nat) : State :=
  if s.evr.lossRun ≠ 0 ∧ recsLen s.evr.tail + 28 + more ≤ TAIL_BYTES then s.lossRecord else s

/-- TAIL_COPY: the oldest staged record goes to the tail, or is lost. A tail without room for it has had none since the loss
before it, so that the run goes on. -/
def State.tailCopy (s : State) : State :=
  if s.evr.hold || !s.flag EVR_RUNNING then s
  else
    match s.evr.staging with
    | [] => s
    | r :: rest =>
      let s := ({ s with evr := { s.evr with staging := rest } }).endLossRun (recLen r.payload)
      if s.evr.lossRun = 0 ∧ recsLen s.evr.tail + recLen r.payload ≤ TAIL_BYTES then
        (s.tailMove (recLen r.payload) true).setTail (s.evr.tail ++ [r])
      else
        ({ s with evr := { s.evr with lossRun := s.evr.lossRun + 1, lossPending := true } }).bump EVR_LOST
          |>.setFlag EVR_ERR_LOST true |>.pmc1 13 0x12

def partDefault : Partition := ⟨0, [], 0, [], 0, 0⟩
def State.part (s : State) (p : Nat) : Partition := tblGet (fun _ => partDefault) s.evr.parts p

/-- The records held, in SEQ order. -/
def Partition.held (x : Partition) : List Record := x.first ++ x.ring.flatten

/-- The same with their numbers. -/
def Partition.numbered (x : Partition) : List (Nat × Record) :=
  (List.range x.first.length).zip x.first |>.map (fun e => (x.base + e.1, e.2))
    |>.append (((List.range x.ring.flatten.length).zip x.ring.flatten).map
      (fun e => (x.base + x.first.length + x.freed + e.1, e.2)))

/-- The number that the next record of the partition gets. -/
def Partition.next (x : Partition) : Nat := x.base + x.first.length + x.freed + x.ring.flatten.length

def State.setPart (s : State) (p : Nat) (x : Partition) : State :=
  let s := { s with evr := { s.evr with parts := tblPut (fun _ => partDefault) s.evr.parts p [x] } }
  let h := x.held
  let s := s.setRegN (evrP p 0xC) h.length
  let s := match h.head? with
    | some r => s.setRegN (evrP p 4) r.seq
    | none => s
  match h.getLast? with
  | some r => s.setRegN (evrP p 8) r.seq
  | none => s

/-- A record put at the end of a ring of at most `blocks` blocks. -/
def ringPut (x : Partition) (blocks : Nat) (r : Record) : Partition :=
  let fresh : Partition :=
    let ring := x.ring ++ [[r]]
    if ring.length ≤ blocks then { x with ring := ring }
    else { x with ring := ring.drop 1, freed := x.freed + (ring.headD []).length }
  match x.ring.getLast? with
  | some b =>
    if recsLen b + recLen r.payload ≤ BLOCK_BYTES then { x with ring := x.ring.dropLast ++ [b ++ [r]] }
    else fresh
  | none => fresh

/-- A record written to a partition of `mib` MiB under its policy, in the blocks that it has left (R424, R425). -/
def partPut (x : Partition) (mib : Nat) (r : Record) : Partition :=
  if 16 < mib then ringPut x (4 * mib - x.lostFirst - x.lostRing) r
  else if x.ring.isEmpty && x.freed == 0
      && decide (recsLen x.first + recLen r.payload ≤ (2 * mib - x.lostFirst) * BLOCK_BYTES) then
    { x with first := x.first ++ [r] }
  else ringPut x (2 * mib - x.lostRing) r

def State.flashPut (s : State) (r : Record) : State :=
  let p := if s.partUsed r.part then r.part else 0
  (s.setPart p (partPut (s.part p) (s.evr.layout.getD p 0) r)).pmcCount 13 0x13 0 (recLen r.payload)

/-- A partition loses its oldest block for good: of its ring, or of the first half while the ring is empty. -/
def dropBlock (x : Partition) : Partition :=
  match x.ring with
  | b :: r => { x with ring := r, freed := x.freed + b.length, lostRing := x.lostRing + 1 }
  | [] =>
    let k := ((List.range (x.first.length + 1)).filter (fun k => decide (recsLen (x.first.take k) ≤ BLOCK_BYTES))).getLast?.getD 0
    { x with base := x.base + k, first := x.first.drop k, lostFirst := x.lostFirst + 1 }

/-- A partition without records: its numbers go on, and its lost blocks stay lost. -/
def Partition.emptied (x : Partition) : Partition := ⟨x.next, [], 0, [], x.lostFirst, x.lostRing⟩

/-- A flash block of partition `p` fails to program or to erase (R425). -/
def State.blockRetire (s : State) (p : Nat) : State :=
  let s := s.bump EVR_BADBLK
  let s := if s.evr.spares = 0 then s.setPart p (dropBlock (s.part p))
    else { s with evr := { s.evr with spares := s.evr.spares - 1 } }
  let s := if s.evr.spares = 0 then s.setFlag EVR_FLASHWORN true else s
  s.evrNotice 0x154 EVR_LOC []

/-- FLASH_WRITE: `n` records go from the tail to flash; `bad`: a block fails, the one that is written to, or with no
record to write one of P0 (in an erase, or in the writes of a start; DESIGN CHOICE, log 25). -/
def State.flashWrite (s : State) (n : Nat) (bad : Bool) : State :=
  if s.evr.hold || s.evrIsolated then s
  else
    let out := s.evr.tail.take n
    let s := (s.tailMove (recsLen out) false).setTail (s.evr.tail.drop n)
    let s := out.foldl (fun s r => s.flashPut r) s
    let s := if s.flag EVR_RUNNING && !out.isEmpty then s.endLossRun 0 else s
    match bad, out with
    | true, r :: _ => s.blockRetire (if s.partUsed r.part then r.part else 0)
    | true, [] => s.blockRetire 0
    | false, _ => s

/-! ### Cursors (R426, R427) -/

def State.cursor (s : State) (k : Nat) : Cursor := tblGet (fun _ => ⟨0, 0, false⟩) s.evr.cursors k
def State.setCursor (s : State) (k : Nat) (c : Cursor) : State :=
  { s with evr := { s.evr with cursors := tblPut (fun _ => ⟨0, 0, false⟩) s.evr.cursors k [c] } }

/-- The initiator that may command cursor `k`. -/
def cursorOwner (k : Nat) (who : Initiator) : Bool :=
  if k < 2 then who == .ap0 || who == .ap1 else who == .cope

/-- The number of the first held record that satisfies `f`, or the end. -/
def Partition.findNo (x : Partition) (f : Record → Bool) : Nat :=
  match x.numbered.find? (fun e => f e.2) with
  | some e => e.1
  | none => x.next

def Partition.oldest (x : Partition) : Nat :=
  match x.numbered.head? with
  | some e => e.1
  | none => x.next

/-- The cursor's record has been freed: the number of the oldest record held at or after it. -/
def Partition.lostFrom (x : Partition) (ord : Nat) : Option Nat :=
  if x.next ≤ ord ∨ x.numbered.any (fun e => e.1 == ord) then none
  else
    match x.numbered.find? (fun e => decide (ord ≤ e.1)) with
    | some e => some e.1
    | none => some x.next

/-- A command starts: records freed at the cursor, the new position, the window emptied (R427). -/
def State.cursorMove (s : State) (k p : Nat) (move : Partition → Cursor → Nat) : State :=
  let c := s.cursor k
  let old := s.part (s.fld (CK_PART k))
  let lost := old.lostFrom c.ord
  let s := match lost with
    | some n => s.bumpBy (evrC k 0x14) (n - c.ord)
    | none => s
  let c : Cursor := match lost with
    | some n => ⟨n, 0, true⟩
    | none => { c with filling := true }
  let x := s.part p
  let s := s.setCursor k ⟨move x c, 0, true⟩
  let s := s.clearRegs (evrWin k) (evrWin k + 0x1000)
  let s := (s.setFld (CK_PART k) p).setFlag (CK_READY k) false
  s.setFlag (CK_SKIPPED k) lost.isSome

/-- A cursor command by `who`: ignored while READY is 0; a foreign initiator gets a slave error. -/
def State.cursorCmd (s : State) (who : Initiator) (k p : Nat) (move : Partition → Cursor → Nat) : State :=
  if !cursorOwner k who then { s with bus := ⟨[], true⟩ }
  else if !s.flag (CK_READY k) then s
  else s.cursorMove k p move

def State.cursorOldest (s : State) (who : Initiator) (k p : Nat) : State :=
  s.cursorCmd who k p (fun x _ => x.oldest)

def State.cursorSeq (s : State) (who : Initiator) (k p : Nat) : State :=
  let arg := s.regN (evrC k 4)
  let base := match (s.part p).held.head? with
    | some r => r.seq
    | none => 0
  s.cursorCmd who k p (fun x _ => x.findNo (fun r =>
    decide ((arg + 2 ^ 32 - base) % 2 ^ 32 ≤ (r.seq + 2 ^ 32 - base) % 2 ^ 32)))

def State.cursorTime (s : State) (who : Initiator) (k p : Nat) : State :=
  let arg := s.regN (evrC k 4)
  s.cursorCmd who k p (fun x _ => x.findNo (fun r => decide (arg ≤ r.tsS)))

def State.cursorNewest (s : State) (who : Initiator) (k p : Nat) : State :=
  s.cursorCmd who k p (fun x _ => match x.numbered.getLast? with
    | some e => e.1
    | none => x.next)

/-- ADVANCE: past the records shown; PART is ignored. -/
def State.cursorAdvance (s : State) (who : Initiator) (k : Nat) : State :=
  s.cursorCmd who k (s.fld (CK_PART k)) (fun x c =>
    match (x.numbered.filter (fun e => decide (c.ord ≤ e.1))).drop c.shown with
    | e :: _ => e.1
    | [] => x.next)

/-- The stored bytes of a record (Table EVR-1). -/
def recBytes (r : Record) : List Byte :=
  let b := leBytes 2 (recLen r.payload) ++ leBytes 2 r.code ++ leBytes 2 (r.src + r.sev * 4096)
    ++ leBytes 1 r.flags ++ leBytes 1 r.supp ++ leBytes 4 r.tsS ++ leBytes 4 r.tsNs ++ leBytes 4 r.seq ++ r.payload
  b ++ leBytes 4 (crc32c b)

/-- As many whole records as fit in `room` bytes. -/
def fitRecords : Nat → List Record → List Record
  | _, [] => []
  | room, r :: t => if recLen r.payload ≤ room then r :: fitRecords (room - recLen r.payload) t else []

/-- CURSOR_FILL_DONE: the window holds whole records from the cursor on; `bad` marks those whose CRC fails,
as it does from then on. -/
def State.cursorFill (s : State) (k : Nat) (bad : Nat → Bool) : State :=
  let c := s.cursor k
  if !c.filling || s.evrIsolated then s
  else
    let p := s.fld (CK_PART k)
    let rs := fitRecords 4096 (((s.part p).numbered.filter (fun e => decide (c.ord ≤ e.1))).map (·.2))
    let s := s.setCursor k ⟨c.ord, rs.length, false⟩
    let s := s.putWords (evrWin k) (toWords (rs.flatMap recBytes))
    let s := s.setRegN (evrC k 0x10) (recsLen rs)
    let s := match rs.head? with
      | some r => s.setRegN (evrC k 0xC) r.seq
      | none => s
    let bads := ((List.range rs.length).zip rs).filter (fun (e : Nat × Record) => bad e.1 || s.evr.badSeq.contains e.2.seq)
    let s := { s with evr := { s.evr with badSeq := (s.evr.badSeq ++ bads.map (fun (e : Nat × Record) => e.2.seq)).eraseDups } }
    let s := ((s.setFlag (CK_EMPTY k) rs.isEmpty).setFlag (CK_CRCERR k) (!bads.isEmpty)).setFlag (CK_READY k) true
    bads.foldl (fun s e => (s.setFlag EVR_ERR_CRC true).evrNotice 0x156 (0x688 + k)
      (leBytes 4 e.2.seq ++ leBytes 1 k ++ leBytes 1 p ++ [0, 0])) s

/-! ### Clearing (R428) -/

/-- A partition is cleared; 0x0151, its first record, goes through the staging buffer, or straight to flash when that has no
room. -/
def State.clearPart (s : State) (p : Nat) : State :=
  if !s.partUsed p || !s.flag EVR_RUNNING then s
  else
    let x := s.part p
    let gone (r : Record) : Bool := r.part == p
    let n := x.held.length + (s.evr.tail.filter gone).length + (s.evr.staging.filter gone).length
    let s := s.setPart p x.emptied
    let s := s.setTail (s.evr.tail.filter (fun r => !gone r))
    let s := { s with evr := { s.evr with staging := s.evr.staging.filter (fun r => !gone r) } }
    let s := s.setFlag (EVR_CLRBUSY p) true
    let sev := (s.codeEntry 0x151).2.1
    let sync := ofBool (s.flag MGD_STAT_SYNC)
    let arg := leBytes 4 p ++ leBytes 4 n
    if recsLen s.evr.staging + 32 ≤ 0x10000 then
      s.acceptRecord 0x151 (0x680 + p) sev sync 0 (s.now / NS % 2 ^ 32) (s.now % NS) arg p
    else
      (s.flashPut (s.newRecord 0x151 (0x680 + p) sev sync 0 (s.now / NS % 2 ^ 32) (s.now % NS) arg p)).countRecord

/-- PARTITION_CLEAR: a write of EVR_CLR; `priv`: with the management privilege. -/
def State.partitionClear (s : State) (who : Initiator) (priv : Bool) (m : Nat) : State :=
  if who != .cope || !priv then { s with bus := ⟨[], true⟩ }
  else (List.range 4).foldl (fun s p => if m.testBit p then s.clearPart p else s) s

/-- PARTITION_CLEAR_DONE. -/
def State.clearDone (s : State) (p : Nat) : State := s.setFlag (EVR_CLRBUSY p) false

/-! ### Starts, pattern, stops (R429, R430, R433, R487) -/

/-- EVR_PpCFG of the layout in force. -/
def State.putLayout (s : State) (l : List Nat) : State :=
  let s := { s with evr := { s.evr with layout := l } }
  (List.range 4).foldl (fun s p =>
    let m := l.getD p 0
    s.setRegN (evrP p 0) (m + (if m != 0 && decide (m ≤ 16) then 2048 else 0))) s

/-- The next SEQ after a loss of power (R429). -/
def State.seqRestore (s : State) : State :=
  match s.evr.next with
  | none => s
  | some n => ({ s with evr := { s.evr with next := none } }).setRegN EVR_NEXTSEQ n

/-- A record put into a list at its place by SEQ, counted back from `next` (R429). -/
def recInsert (next : Nat) (r : Record) : List Record → List Record
  | [] => [r]
  | x :: xs =>
    let age (y : Record) : Nat := (next + 2 ^ 32 - 1 - y.seq) % 2 ^ 32
    if age x < age r then r :: x :: xs else x :: recInsert next r xs

/-- Records in SEQ order. -/
def recSort (next : Nat) (l : List Record) : List Record := l.foldl (fun a r => recInsert next r a) []

/-- A cursor set to record number `ord` of partition `p` by a restart, which is no command (R430). -/
def State.cursorPut (s : State) (k p ord : Nat) : State :=
  let s := (s.setCursor k ⟨ord, 0, true⟩).clearRegs (evrWin k) (evrWin k + 0x1000)
  ((s.setFld (CK_PART k) p).setFlag (CK_READY k) false).setFlag (CK_SKIPPED k) false

/-- A cursor at the oldest record of its partition after a restart (R430, R487). -/
def State.cursorStart (s : State) (k : Nat) : State :=
  let p := s.fld (CK_PART k)
  s.cursorPut k p (s.part p).oldest

/-- Every bucket full, under the rate table in force at a start (R421). -/
def State.fullBuckets (s : State) : Tbl (Option Bucket) :=
  (List.range 63).map (fun k => (k, some ⟨(s.classRate k).2 * NS, s.monoUs, 0, 0, 0⟩))

/-- The recorder starts: tail to flash in SEQ order, 0x0153, full buckets, cursors at the oldest records. -/
def State.evrStart (s : State) (hold : Bool) : State :=
  let s := s.seqRestore
  let out := recSort (s.regN EVR_NEXTSEQ) s.evr.tail
  let s := out.foldl (fun s r => s.flashPut r) ((s.tailMove (recsLen out) false).setTail [])
  let s : State := { s with evr := { s.evr with buckets := s.fullBuckets, hold := hold } }
  let s := s.setFlag EVR_RUNNING true
  let s := if s.evr.spares = 0 then s.setFlag EVR_FLASHWORN true else s
  let s := (s.endLossRun 0).evrNotice 0x153 EVR_LOC (leBytes 4 out.length)
  let s := (List.range 4).foldl (fun s p => s.setPart p (s.part p)) s
  (List.range 4).foldl (fun s k => s.cursorStart k) s

/-- The EVENTS section of an accepted pattern takes effect (R430, R432). A reformat loses every earlier record. -/
def State.evrPattern (s : State) : State :=
  let s := { s with evr := { s.evr with hold := false } }
  match s.sec? SEC_EVENTS with
  | none => ({ s with evr := { s.evr with codeTbl := none } }).putLayout s.evr.layout
  | some c =>
    let lay := (List.range 4).map (fun p => fieldAt c (16 + 16 * p) 4)
    let s := { s with evr := { s.evr with codeTbl := some (slice c 80 2560) } }
    if lay = s.evr.layout then s.putLayout lay
    else
      let held := s.evr.staging
      let s := (List.range 4).foldl (fun s p => s.setPart p (s.part p).emptied) s
      let s := (({ s with evr := { s.evr with staging := [] } }).setTail []).putLayout lay
      let s := (s.evrNotice 0x152 EVR_LOC []).tailCopy
      let remap (r : Record) : Record := { r with part := if s.partUsed r.part then r.part else 0 }
      { s with evr := { s.evr with staging := s.evr.staging ++ held.map remap } }

/-- The recorder stops accepting; staged records go to the tail and posts in progress are lost
(R429). -/
def State.evrStop (s : State) : State :=
  let s := ((s.postsLost).tailMove (recsLen s.evr.staging) true).setTail (s.evr.tail ++ s.evr.staging)
  ({ s with evr := { s.evr with staging := [] } }).setFlag EVR_RUNNING false

/-- A block fault isolates the recorder (R487). -/
def State.evrIsolate (s : State) : State :=
  ((({ s with evr := { s.evr with staging := [] } } : State)).postsLost).setFlag EVR_RUNNING false

/-- SYS_BLKRST re-initialises it (R487). -/
def State.evrReinit (s : State) : State :=
  let s := s.evrStart false
  { s with evr := { s.evr with lossPending := true } }

/-- What a bucket of class `k` holds now. -/
def State.bucketNow (s : State) (k : Nat) : Bucket :=
  let b := s.bucket k
  let (rate, burst) := s.classRate k
  { b with tok := min (burst * NS) (b.tok + (s.monoUs - b.last) * rate), last := s.monoUs }

/-- The place of the shadow of the rate table in SRAM, and the rate table in force (R433). -/
def State.rateTable (s : State) : Nat × List Byte := (fieldAt (s.sec SEC_EVENTS) 4 4, s.evr.codeTbl.getD [])

/-- Swap table 6: the rate table and its shadow `new` change places (R433). -/
def State.swapRate (s : State) (new : List Byte) : State :=
  match s.evr.codeTbl with
  | none => s
  | some old =>
    let s := (s.busWrite issEvr s.rateTable.1 old).2
    let s := (List.range 63).foldl (fun s k => s.setBucket k (s.bucketNow k)) s
    let s := { s with evr := { s.evr with codeTbl := some new } }
    let bad := (List.range 1024).any (fun c => !s.partUsed (bitsOf (fieldAt new (2 * c) 2) 11 10))
    let s := if bad then s.setFlag EVR_ERR_BADPART true else s
    (List.range 63).foldl (fun s k =>
      let b := s.bucket k
      s.setBucket k { b with tok := min b.tok ((s.classRate k).2 * NS) }) s

end Sys2Proof.Machine
end

