-- ==== Sys2Proof/Machine/Marigold.lean ====
section
/-! DEFINITION. Marigold: the counter, steps, states and discipline, references, alarms
(11_marigold_time.md). -/

namespace Sys2Proof.Machine

def MGD_STATE : Fld := ⟨0x20400000, 2, 0⟩
def MGD_REFOK : Fld := ⟨0x20400000, 4, 4⟩
def MGD_PPSOK : Fld := ⟨0x20400000, 5, 5⟩
def MGD_SRC : Fld := ⟨0x20400000, 7, 6⟩
def MGD_ERR (i : Nat) : Fld := ⟨0x20400004, i, i⟩
abbrev MGD_STEPS : Nat := 0x20400034
abbrev MGD_HOLDMS : Nat := 0x2040003C
abbrev MGD_LOC : Nat := 0x8FF

/-- States of Table MGD-3. -/
abbrev G_FREERUN : Nat := 0
abbrev G_ACQUIRING : Nat := 1
abbrev G_LOCKED : Nat := 2
abbrev G_HOLDOVER : Nat := 3
abbrev G_MASTER : Nat := 4
abbrev G_PARTNER : Nat := 5

def State.mgdState (s : State) : Nat := s.fld MGD_STATE

/-! ### TIME section (Table MGD-2) -/

def State.timeSec (s : State) : List Byte := s.sec SEC_TIME
def State.clockType (s : State) : Nat := fieldAt s.timeSec 1 1
def State.slaveOnly (s : State) : Bool := fieldAt s.timeSec 5 1 == 1
def State.stepNs (s : State) : Nat := fieldAt s.timeSec 16 4
def State.syncNs (s : State) : Nat := fieldAt s.timeSec 20 4
def State.holdSyncMs (s : State) : Nat := fieldAt s.timeSec 24 2
def State.qualSyncs (s : State) : Nat := fieldAt s.timeSec 26 1
def State.refsel (s : State) (b : Nat) : Bool := bitOf (fieldAt s.timeSec 27 1) b
def State.asym (s : State) (port : Nat) : Int := signedOf 32 (fieldAt s.timeSec (28 + 4 * port) 4)

/-! ### SYNC and state (R334) -/

/-- An event of Marigold as a whole; while no pattern is in force, so that Q50 is disabled, it is owed (DESIGN CHOICE,
log 82). -/
def State.mgdEvent (s : State) (code : Nat) (payload : List Byte) : State :=
  if s.pat.force.isNone then
    { s with mgd := { s.mgd with owed := s.mgd.owed ++ [(s.now, code, s.flag MGD_STAT_SYNC, payload)] } }
  else s.event code MGD_LOC payload

/-- MGD_STAT.SYNC; a change records 0x0113, and alignment follows (R82). Without SYNC a pulse of PPS_OUT ends where
REFSEL bit 3 asks for it (R337). -/
def State.setSync (s : State) (b : Bool) : State :=
  let pps := if !b && s.refsel 3 then none else s.mgd.pps
  let s := { s with mgd := { s.mgd with holding := s.mgd.holding && b, pps := pps } }
  if s.flag MGD_STAT_SYNC = b then s
  else ((s.setFlag MGD_STAT_SYNC b).mgdEvent 0x113 []).updAligned

/-- Time-weighted sum of I over at most `left` ns of the history, and the time it covers. -/
def histMean : List (Nat × Int) → Nat → Int × Nat
  | [], _ => (0, 0)
  | (d, i) :: r, left =>
    if left = 0 then (0, 0)
    else
      let k := min d left
      let (a, n) := histMean r (left - k)
      (a + i * k, n + k)

/-- The entries of the history that cover its last `left` ns. -/
def histKeep : List (Nat × Int) → Nat → List (Nat × Int)
  | [], _ => []
  | e :: r, left => if left = 0 then [] else e :: histKeep r (left - e.1)

/-- I has held for `d` ns more; equal values run together. -/
def histPush (h : List (Nat × Int)) (d : Nat) (i : Int) : List (Nat × Int) :=
  match h with
  | (e, j) :: r => if i = j then (d + e, i) :: r else (d, i) :: histKeep h (16 * NS)
  | [] => [(d, i)]

/-- The held rate (R336): the mean of I over the last 16 s of the history, or the I last reached with REF10M_IN in use. -/
def State.heldRate (s : State) : Int :=
  if s.refsel 0 && s.flag MGD_REFOK then s.mgd.i
  else
    let (a, n) := histMean s.mgd.hist (16 * NS)
    if n = 0 then s.mgd.i else a / n

/-- The time since the last measurement enters the history of I, and no measurement is open. -/
def State.closeMeas (s : State) : State :=
  match s.mgd.lastMeas with
  | some t => { s with mgd := { s.mgd with hist := histPush s.mgd.hist (s.mono - t) s.mgd.i, lastMeas := none } }
  | none => s

/-- RATE with MGD_RATE, a fraction of 2^32 / 10^9 per ppb. -/
def State.setRate (s : State) (r : Int) : State :=
  ({ s with mgd := { s.mgd with rate := r } }).setRegN 0x20400028 (unsignedOf 32 (r * 65536 / 1000000000))

/-- A module fault has left the ports DISABLED until a reset (Table MGD-3). -/
def State.portsOff (s : State) : Bool := s.regN 0x20400054 == 0x33

/-! ### Best master clock: data sets and port states (R332, R334, R346; IEEE 1588-2019, PRESUMED, log 16) -/

/-- The module's clockIdentity: the MAC address in EUI-64 form, byte 0 lowest (PRESUMED, log 16). -/
def State.clockIdentity (s : State) : Nat :=
  let m := leBytes 6 (s.regN 0x20500008 + 2 ^ 32 * (s.regN 0x2050000C % 65536))
  leVal (m.take 3 ++ [0xFF, 0xFE] ++ m.drop 3)

/-- The data set of this clock. -/
def State.ownAnnounce (s : State) : Announce :=
  let t := s.timeSec
  ⟨fieldAt t 2 1, fieldAt t 10 1, fieldAt t 12 1, fieldAt t 13 1, fieldAt t 14 2, fieldAt t 11 1,
    s.clockIdentity, 0, s.clockIdentity⟩

/-- The identity as it is compared: byte 0 first. -/
def identKey (v : Nat) : Nat := beVal (leBytes 8 v)

/-- The order of comparison (IEEE 1588-2019, PRESUMED, log 16). -/
def Announce.key (a : Announce) : List Nat :=
  [a.prio1, a.cls, a.acc, a.var, a.prio2, identKey a.gm, a.steps, identKey a.sender]

def keyLt : List Nat → List Nat → Bool
  | x :: xs, y :: ys => decide (x < y) || (x == y && keyLt xs ys)
  | _, _ => false

/-- The best of the ports' Announces. -/
def State.bestAnnounce (s : State) : Option (Nat × Announce) :=
  match tblGet (fun _ => none) s.mgd.ann 1, tblGet (fun _ => none) s.mgd.ann 2 with
  | some a, some b => if keyLt b.key a.key then some (2, b) else some (1, a)
  | some a, none => some (1, a)
  | none, some b => some (2, b)
  | none, none => none

/-- P1 and P2 are the two ports of a doubly attached clock (R350). -/
def State.doublyAttached (s : State) : Bool := s.clockType == 2 && fieldAt (s.sec SEC_NETWORK) 0 1 == 1

/-- The best Announce of port `p`; ports that are one PTP port, or the pair of a doubly attached clock, share it. -/
def State.portBest (s : State) (p : Nat) : Option Announce :=
  if s.clockType = 2 ∧ !s.doublyAttached then tblGet (fun _ => none) s.mgd.ann p else s.bestAnnounce.map (·.2)

/-- A clock of class 1 to 127 follows no other. -/
def State.leads (s : State) : Bool := decide (s.ownAnnounce.cls ≤ 127)

/-- BMCA selects the master that announces `a`. -/
def State.bmcaSelects (s : State) (a : Announce) : Bool :=
  s.slaveOnly || (!s.leads && keyLt a.key s.ownAnnounce.key)

/-- BMCA makes this clock grandmaster through port `p`: nothing better is announced there, or, to a clock that may follow,
anywhere. -/
def State.bmcaMaster (s : State) (p : Nat) : Bool :=
  let e := if s.leads then s.portBest p else s.bestAnnounce.map (·.2)
  !s.slaveOnly && (match e with | some a => !keyLt a.key s.ownAnnounce.key | none => true)

/-- The portState of port `p` by the state decision of BMCA (4 LISTENING, 6 MASTER, 7 PASSIVE, 8 UNCALIBRATED, 9 SLAVE;
3 where P2 is not used for PTP of the domain, 0 without a TIME section). `out`: its announceReceiptTimeout has passed, the
end of LISTENING on a port that hears no Announce. -/
def State.portDecision (s : State) (p : Nat) (out : Bool) : Nat :=
  let st := s.mgdState
  let slaved := st == G_ACQUIRING || st == G_LOCKED
  let master := st == G_MASTER || s.mgd.announcing
  let one := s.clockType != 2 || s.doublyAttached
  let cur := s.regN 0x20400054 / 16 ^ (p - 1) % 16
  let free := if s.slaveOnly then 4 else 6
  if !s.hasSec SEC_TIME then 0
  else if s.clockType = 3 ∧ p = 2 then 3
  else if slaved && s.fld MGD_SRC == p then (if st = G_LOCKED then 9 else 8)
  else match s.portBest p with
    | none =>
      if one then (if master then free else 4)
      else if (!slaved && !master) || (decide (cur ≤ 4) && !out) then 4 else free
    | some e =>
      if s.leads then (if keyLt e.key s.ownAnnounce.key then 7 else if master then free else 4)
      else if slaved then
        if s.doublyAttached then 7
        else if one then 4
        else if (s.bestAnnounce.map (fun b => b.2.gm)) == some e.gm then 7
        else free
      else if master then free
      else 4

/-- MGD_PORTSTAT follows; `out`: the port whose announceReceiptTimeout has passed. -/
def State.portStates (s : State) (out : Nat := 0) : State :=
  if s.portsOff then s
  else s.setRegN 0x20400054 (s.portDecision 1 (out == 1) + 16 * s.portDecision 2 (out == 2))

/-- A change of state: event 0x0110 with the old and new states, and what happens to SYNC (R334). -/
def State.setMgdState (s : State) (new : Nat) : State :=
  let old := s.mgdState
  if old = new then s
  else
    let s := (s.setFld MGD_STATE new).mgdEvent 0x110 [BitVec.ofNat 8 old, BitVec.ofNat 8 new]
    let s :=
      if new = G_MASTER then ({ s with mgd := { s.mgd with holding := false } }).setSync true
      else if new = G_HOLDOVER ∧ (old = G_LOCKED ∨ old = G_MASTER) ∧ s.flag MGD_STAT_SYNC ∧ 0 < s.holdSyncMs then
        { s with mgd := { s.mgd with holding := true } }
      else if new = G_ACQUIRING ∧ old = G_HOLDOVER ∧ s.mgd.holding then s
      else s.setSync false
    let s := s.closeMeas
    let s := { s with mgd := { s.mgd with good := 0 } }
    let s := if new = G_HOLDOVER then
        ((({ s with mgd := { s.mgd with holdAt := s.mono } }).setRegN MGD_HOLDMS 0).setRate s.heldRate)
      else s
    ({ s with mgd := { s.mgd with announcing := new == G_MASTER } }).portStates

/-! ### Alarms (R344) -/

def almReg (a off : Nat) : Nat := 0x20400060 + 0x10 * a + off
def ALM_ARM (a : Nat) : Fld := ⟨almReg a 0xC, 0, 0⟩
def ALM_TASK (a : Nat) : Fld := ⟨almReg a 0xC, 12, 8⟩

/-- The target of alarm `a`, its seconds [47:32] those of the present time. -/
def State.almTarget (s : State) (a : Nat) : Nat :=
  NS * (s.regN (almReg a 4) + 2 ^ 32 * (s.now / NS / 2 ^ 32)) + s.regN (almReg a 0)

def State.setAlmTarget (s : State) (a t : Nat) : State :=
  (s.setRegN (almReg a 4) (t / NS)).setRegN (almReg a 0) (t % NS)

/-- Alarm `a` fires. -/
def State.fireAlarm (s : State) (a : Nat) (late stepped : Bool) : State :=
  let t := s.almTarget a
  let odd := late || stepped
  let above := if odd then min ((s.now - t) / 1000) 4194303 else 0
  let arg := a + ofBool late * 2 ^ 8 + ofBool stepped * 2 ^ 9 + above * 2 ^ 10
  let s := s.triggerAt (ts32Of (if odd then s.now else t)) 58 (s.fld (ALM_TASK a)) 5 (0x884 + a) arg
  let p := s.regN (almReg a 8) * 1000
  let s := if p = 0 then s.setFlag (ALM_ARM a) false
    else if stepped then s.setAlmTarget a (t + ((s.now - t) / p + 1) * p)
    else s.setAlmTarget a (t + p)
  if late then (s.setFlag (MGD_ERR 5) true).event 0x117 (0x884 + a) [] else s

/-- A write of MGD_ALMaCTL (ALARM_ARM): a target already past fires at once. -/
def State.armAlarm (s : State) (a : Nat) (v : Word) : State :=
  let s := (s.setFld (ALM_TASK a) (bitsOf v.toNat 12 8)).setFld (ALM_ARM a) (bitsOf v.toNat 0 0)
  if s.flag (ALM_ARM a) && decide (s.almTarget a < s.now) then s.fireAlarm a true false else s

/-- ALARM_FIRE: Marigold time reaches the target. -/
def State.alarmFire (s : State) (a : Nat) : State :=
  if s.flag (ALM_ARM a) && decide (s.almTarget a ≤ s.now) then s.fireAlarm a false false else s

/-- A forward step fires each armed alarm whose target it passes, once. -/
def State.stepAlarms (s : State) (before : Nat) : State :=
  (List.range 4).foldl (fun s a =>
    let t := s.almTarget a
    if s.flag (ALM_ARM a) && decide (before < t ∧ t ≤ s.now) then s.fireAlarm a false true else s) s

/-! ### Steps (R331) -/

/-- A step by `d` ns with its cause (Table EVR-9, 0x0111). -/
def State.mgdStep (s : State) (d : Int) (cause : Nat) : State :=
  let before := s.now
  let s := { s with mgdNs := ((s.mgdNs : Int) + d).toNat }
  let s := ((s.bump MGD_STEPS |>.pmc1 10 0x11).setRegN 0x20400038 (unsignedOf 32
    (if d < -2147483647 then -2147483647 else if d > 2147483647 then 2147483647 else d))).setFlag (MGD_ERR 0) true
  let s := s.event 0x111 MGD_LOC (sBytes 8 d ++ leBytes 1 cause ++ [0, 0, 0])
  let s := if s.mgdState = G_MASTER then s else s.setSync false
  let s := { s with mgd := { s.mgd with good := 0 } }
  let s := s.seqStep d
  if 0 < d then s.stepAlarms before else s

/-! ### The servo (R335) -/

def clampRate (r : Int) : Int :=
  let m : Int := 200000 * 65536
  if r < -m then -m else if r > m then m else r

/-- The servo on `theta` ns after `tau` ns; the rates are computed to 2^-16 ppb (DESIGN CHOICE, log 17). -/
def State.servo (s : State) (theta : Int) (tau : Nat) : State :=
  let s := { s with mgd := { s.mgd with hist := histPush s.mgd.hist tau s.mgd.i, lastMeas := some s.mono } }
  if (s.stepNs : Int) < theta.natAbs then s.mgdStep (-theta) 1
  else
    let q := theta * (65536 * 1000000000) / (tau : Int)
    let i := clampRate (s.mgd.i - q / 64)
    let s := { s with mgd := { s.mgd with i := i } }
    s.setRate (clampRate (i - q / 8))

/-- MGD_OFFSET, saturating. -/
def State.setOffset (s : State) (theta : Int) : State :=
  s.setRegN 0x20400020 (unsignedOf 32
    (if theta < -2147483647 then -2147483647 else if theta > 2147483647 then 2147483647 else theta))

/-- The count towards SYNC in LOCKED (R334). -/
def State.countSync (s : State) (theta : Int) : State :=
  let k := if theta.natAbs ≤ s.syncNs then s.mgd.good + 1 else 0
  let s := { s with mgd := { s.mgd with good := min k 8 } }
  if 8 ≤ k then s.setSync true else s

/-- A measurement that may qualify a master: at QUAL_SYNCS a step if needed, the servo starts, LOCKED. -/
def State.qualify (s : State) (theta : Int) : State :=
  let k := s.mgd.qual + 1
  let s := { s with mgd := { s.mgd with qual := k } }
  if k < s.qualSyncs then s
  else
    let s := if (s.stepNs : Int) < theta.natAbs then s.mgdStep (-theta) 1 else s
    let s := match s.mgd.parent with | some p => s.setFld MGD_SRC p.1 | none => s
    let s := s.setMgdState G_LOCKED
    { s with mgd := { s.mgd with everLocked := true, lastMeas := some s.mono, qual := 0 } }

/-- OFFSET_MEASUREMENT: `raw` is the local time minus the master's at a Sync on `port`, before the path
delay and the asymmetry of the port are taken off. -/
def State.offsetMeas (s : State) (port : Nat) (raw : Int) : State :=
  match s.mgd.parent with
  | none => s
  | some p =>
    if p.1 ≠ port ∨ !s.hasSec SEC_TIME then s
    else
      let theta := raw - (s.regN 0x20400024 : Int) - s.asym port
      let s := s.pmc1 10 0x10
      let st := s.mgdState
      if st = G_ACQUIRING ∨ st = G_PARTNER then (s.setOffset theta).qualify theta
      else if st = G_LOCKED then
        let tau := match s.mgd.lastMeas with | some t => s.mono - t | none => 0
        ((s.setOffset theta).servo theta tau).countSync theta
      else s

/-- A measurement against the partner, every 10 µs (R339). -/
def State.partnerMeas (s : State) (theta : Int) : State :=
  if s.mgdState = G_PARTNER then (s.setOffset theta).servo theta 10000 else s

/-! ### Best master clock (R332, R334) -/

/-- BMCA selects `p`: measurements are collected from it. -/
def State.acquire (s : State) (p : Nat × Announce) : State :=
  let s := { s with mgd := { s.mgd with parent := some p, qual := 0 } }
  let s := (s.setRegN 0x2040002C p.2.gm).setRegN 0x20400030 (p.2.gm / 2 ^ 32)
  if s.mgdState = G_PARTNER then s else (s.setFld MGD_SRC p.1).setMgdState G_ACQUIRING

/-- BMCA makes this clock grandmaster. -/
def State.beMaster (s : State) : State :=
  let g := s.clockIdentity
  let s := { s with mgd := { s.mgd with parent := none } }
  (((s.setRegN 0x2040002C g).setRegN 0x20400030 (g / 2 ^ 32)).setFld MGD_SRC 0).setMgdState G_MASTER

/-- The grandmaster is lost or replaced (Table MGD-8). -/
def State.gmLost (s : State) : State :=
  let s := { s with mgd := { s.mgd with parent := none } }
  (((s.setFlag (MGD_ERR 1) true).event 0x112 MGD_LOC []).setFld MGD_SRC 0).setMgdState G_HOLDOVER

/-- What an Announce changes, the port's best noted: `p` is the best of all. In LOCKED another grandmaster is selected when
its Announce is the best, or when this clock is better than any announced. -/
def State.bmcaRun (s : State) (port : Nat) (p : Nat × Announce) : State :=
  let sel := s.bmcaSelects p.2
  let other : Bool := (s.mgd.parent.map (fun q => q.2.gm)) != some p.2.gm
  let st := s.mgdState
  if st = G_FREERUN ∨ st = G_HOLDOVER then
    if sel then s.acquire p else if s.bmcaMaster port then s.beMaster else s
  else if st = G_MASTER then (if sel then s.acquire p else s)
  else if st = G_PARTNER then (if sel && other then s.acquire p else s)
  else if st = G_ACQUIRING then
    (if sel && (s.mgd.parent.map (fun q => (q.1, q.2.gm, q.2.sender))) != some (p.1, p.2.gm, p.2.sender)
      then s.acquire p else s)
  else if !sel || other then s.gmLost
  else ({ s with mgd := { s.mgd with parent := some p } }).setFld MGD_SRC p.1

/-- ANNOUNCE on a port (R332 to R334). -/
def State.announce (s : State) (port : Nat) (a : Announce) : State :=
  if !s.hasSec SEC_TIME || a.domain != fieldAt s.timeSec 2 1 || (s.clockType == 3 && port != 1)
      || s.portsOff then s
  else
    let keep := match tblGet (fun _ => none) s.mgd.ann port with
      | none => true
      | some b => b.sender == a.sender || keyLt a.key b.key
    let s := if keep then
        { s with mgd := { s.mgd with ann := tblPut (fun _ => none) s.mgd.ann port [some a] } } else s
    match s.bestAnnounce with
    | none => s
    | some p => (s.bmcaRun port p).portStates

/-- The announceReceiptTimeout of a port, its best Announce forgotten (Table MGD-3). -/
def State.timedOut (s : State) (port : Nat) : State :=
  let mine : Bool := (s.mgd.parent.map (fun q => q.1)) == some port
  let st := s.mgdState
  if (st == G_ACQUIRING && mine) = true then
    let s := ({ s with mgd := { s.mgd with parent := none } }).setFld MGD_SRC 0
    s.setMgdState (if s.mgd.everLocked then G_HOLDOVER else G_FREERUN)
  else if (st == G_LOCKED && mine) = true then s.gmLost
  else if (st = G_FREERUN ∨ st = G_HOLDOVER) ∧ s.bmcaMaster port then s.beMaster
  else s

/-- ANNOUNCE_TIMEOUT: the announceReceiptTimeout of a port. -/
def State.announceTimeout (s : State) (port : Nat) : State :=
  if !s.hasSec SEC_TIME || s.portsOff then s
  else
    let s : State := { s with mgd := { s.mgd with ann := tblPut (fun _ => none) s.mgd.ann port [none] } }
    let s := s.timedOut port
    s.portStates port

/-- SYNC_HOLD_EXPIRY: HOLD_SYNC_MS after entry to HOLDOVER, in a reset too (R339). -/
def State.syncHoldExpiry (s : State) : State := if s.mgd.holding && s.pwr.on then s.setSync false else s

/-- REFSEL drives PPS_OUT: enabled, and SYNC is 1 where bit 3 asks for it (R337). -/
def State.ppsDriven (s : State) : Bool := s.hasSec SEC_TIME && s.refsel 2 && !(s.refsel 3 && !s.flag MGD_STAT_SYNC)

/-- Marigold with the pattern that has come into force: without REFSEL bit 0 TIM is not locked to REF10M_IN, a pulse of
PPS_OUT ends that the new REFSEL does not drive, and without a TIME section Marigold is in FREERUN, has no master, and
drives no PPS_OUT (R333, R337). The port states follow (R346). -/
def State.mgdUnused (s : State) : State :=
  let s := if s.refsel 0 then s else s.setFlag MGD_REFOK false
  let s := if s.ppsDriven then s else { s with mgd := { s.mgd with pps := none } }
  let s := if s.hasSec SEC_TIME then s
    else (({ s with mgd := { s.mgd with parent := none, ann := [] } }).setFld MGD_SRC 0).setMgdState G_FREERUN
  s.portStates

/-- The partner as source, or lost as source (Table MGD-3); without a TIME section Marigold stays in FREERUN (R333). -/
def State.partnerSource (s : State) (up sync : Bool) (theta : Int) : State :=
  let s := { s with mgd := { s.mgd with partnerSync := sync } }
  let st := s.mgdState
  if !s.hasSec SEC_TIME then s
  else if (st = G_FREERUN ∨ st = G_HOLDOVER) ∧ up ∧ sync then
    let s := (s.setFld MGD_SRC 3).setMgdState G_PARTNER
    let s := { s with mgd := { s.mgd with lastMeas := some s.mono } }
    if (s.stepNs : Int) < theta.natAbs then s.mgdStep (-theta) 3 else s
  else if st = G_PARTNER ∧ !(up && sync) then (s.setFld MGD_SRC 0).setMgdState G_HOLDOVER
  else s

/-! ### SET, references, module fault, restarts (R337 to R339, R346) -/

/-- MGD_SET: a write of MGD_CTL.SET. -/
def State.mgdSet (s : State) : State :=
  let st := s.mgdState
  let ns := s.regN 0x20400040
  if (st = G_FREERUN ∨ st = G_HOLDOVER ∨ st = G_MASTER) ∧ ns < NS then
    let t : Nat := NS * (s.regN 0x20400044 + 2 ^ 32 * (s.regN 0x20400048 % 65536)) + ns
    s.mgdStep ((t : Int) - s.now) 2
  else s.setFlag (MGD_ERR 4) true

/-- REF10M_LOST and REF10M_RESTORED. -/
def State.refLost (s : State) : State :=
  if s.flag MGD_REFOK then
    ((s.setFlag MGD_REFOK false).setFlag (MGD_ERR 2) true).event 0x114 MGD_LOC []
  else s
def State.refRestored (s : State) : State :=
  if s.refsel 0 && !s.flag MGD_REFOK then (s.setFlag MGD_REFOK true).event 0x114 MGD_LOC [] else s

/-- The edge minus the nearest second boundary, ns. -/
def ppsErr (t : Nat) : Int :=
  let r := t % NS
  if 2 * r < NS then (r : Int) else (r : Int) - NS

/-- PPS_IN_EDGE. -/
def State.ppsEdge (s : State) : State :=
  let e := ppsErr s.now
  let s := ((s.setRegN 0x2040004C (ts32Of s.now)).setRegN 0x20400050 (unsignedOf 32 e)).setFlag MGD_PPSOK true
  if s.refsel 1 && s.mgdState == G_MASTER then (s.setOffset e).servo e NS else s

/-- PPS_LOST: in MASTER with PPS_IN selected HOLDOVER follows, still announcing (Table MGD-3). -/
def State.ppsLost (s : State) : State :=
  let s := ((s.setFlag MGD_PPSOK false).setFlag (MGD_ERR 3) true).event 0x115 MGD_LOC []
  if s.refsel 1 && s.mgdState == G_MASTER then
    let s := s.setMgdState G_HOLDOVER
    ({ s with mgd := { s.mgd with announcing := true } }).portStates
  else s

/-- TNS_READ: the seconds are captured with the nanoseconds. -/
def State.tnsCapture (s : State) : State :=
  let t := s.now / NS
  (s.setRegN 0x20400014 t).setRegN 0x20400018 (t / 2 ^ 32 % 65536)

/-- A module fault: ports DISABLED, HOLDOVER (Table MGD-3). -/
def State.mgdFault (s : State) : State :=
  let s := ({ s with mgd := { s.mgd with parent := none, ann := [] } }).setFld MGD_SRC 0
  (s.setMgdState G_HOLDOVER).setRegN 0x20400054 0x33

/-- A reset of the network region: a LOCKED Marigold enters HOLDOVER (R339). -/
def State.mgdNetReset (s : State) : State :=
  let s := { s with mgd := { s.mgd with ann := [] } }
  if s.mgdState = G_LOCKED then
    (({ s with mgd := { s.mgd with parent := none } }).setFld MGD_SRC 0).setMgdState G_HOLDOVER
  else s

/-- A reset of causes 1 to 5 (R339), with the pattern still in force: counter and held rate keep running, alarms
disarmed, HOLDOVER, the protocol engine starts anew. The events of the change outlive the queues. -/
def State.mgdReset (s : State) : State :=
  let old := s.mgdState
  let sync := s.flag MGD_STAT_SYNC
  let owed := s.mgd.owed
  let s := (({ s with mgd := { s.mgd with parent := none, ann := [] } }).setFld MGD_SRC 0).setRegN 0x20400054 0
  let s := s.clearRegs 0x20400060 0x204000A0
  let s := s.setMgdState G_HOLDOVER
  let s := (({ s with mgd := { s.mgd with holdAt := s.mono, announcing := false } }).setRegN MGD_HOLDMS 0).portStates
  let state := if old = G_HOLDOVER then [] else [(s.now, 0x110, sync, [BitVec.ofNat 8 old, 3])]
  let synced := if sync = s.flag MGD_STAT_SYNC then [] else [(s.now, 0x113, s.flag MGD_STAT_SYNC, [])]
  { s with mgd := { s.mgd with owed := owed ++ state ++ synced } }

/-- Power-on (R338): FREERUN at SAVE_TIME, or at 0 without a step (Table EVR-9). -/
def State.mgdPowerOn (s : State) (save : Nat) : State :=
  let step : List (Nat × Nat × Bool × List Byte) :=
    if save = 0 then [] else [(save, 0x111, false, sBytes 8 save ++ leBytes 1 4 ++ [0, 0, 0])]
  let s := { s with mgd := { Mgd.reset with owed := step }, mgdNs := save }
  let s := s.clearRegs 0x20400000 0x20400100
  if save = 0 then s
  else ((s.bump MGD_STEPS).setRegN 0x20400038 (min save 2147483647)).setFlag (MGD_ERR 0) true

/-- Q50 is there: the events owed since the reset are offered, each with SYNC as it was (Table EVR-3). -/
def State.mgdOwed (s : State) : State :=
  let es := s.mgd.owed
  es.foldl (fun s e => s.eventSync e.2.2.1 e.1 e.2.1 MGD_LOC e.2.2.2) ({ s with mgd := { s.mgd with owed := [] } })

/-- The step to BUILD_TIME when the pattern is accepted (R338). -/
def State.mgdInit (s : State) (build : Nat) : State :=
  if fieldAt s.timeSec 29 1 = 1 ∧ s.hasSec SEC_TIME ∧ s.now < build then s.mgdStep ((build : Int) - s.now) 5
  else s

/-- The level of PPS_OUT: a pulse that began at a second boundary runs, and REFSEL selects the output (R337); low on an
inactive module (R477). -/
def State.ppsOut (s : State) : Bool :=
  s.up && s.hasSec SEC_TIME && s.refsel 2 && (match s.mgd.pps with | some t => decide (s.mono < t) | none => false)

/-- A pulse begins with each second that the counter reaches while REFSEL drives the output, for PPS_WIDTH_MS (R337). -/
def State.ppsTick (s : State) (before : Nat) : State :=
  if s.now / NS = before / NS ∨ !s.ppsDriven then s
  else { s with mgd := { s.mgd with pps := some (s.mono + fieldAt s.timeSec 28 1 * 1000000) } }

/-- One microsecond of the counter at RATE (R331, log 1). MGD_HOLDMS counts from the end of a reset on (R339). -/
def State.mgdTick (s : State) : State :=
  let f := s.mgd.frac + s.mgd.rate
  let u : Int := 65536000000
  let before := s.now
  let s := { s with
    mgdNs := ((s.mgdNs : Int) + 1000 + f / u).toNat
    mgd := { s.mgd with frac := f % u } }
  let s := s.ppsTick before
  if s.mgdState = G_HOLDOVER && !s.pwr.inReset then
    s.setRegN MGD_HOLDMS (min ((s.mono - s.mgd.holdAt) / 1000000) (2 ^ 32 - 1))
  else s

end Sys2Proof.Machine
end

