-- ==== Sys2Proof/Machine/Float.lean ====
section
/-! DEFINITION. IEEE 754 binary32 and binary64 arithmetic, round to nearest, ties to even: the
arithmetic of the Crucible law, the cells and the curves (R53, R160, R194). Written exactly over
integers and narrowed at the end. PRESUMED: log 8. -/

namespace Sys2Proof.Machine

/-- A binary format: exponent bits and stored mantissa bits. -/
structure Fmt where
  ew : Nat
  mw : Nat
  deriving DecidableEq, Repr

def b32 : Fmt := ⟨8, 23⟩
def b64 : Fmt := ⟨11, 52⟩

def Fmt.bias (f : Fmt) : Int := 2 ^ (f.ew - 1) - 1

/-- A decoded number: (-1)^neg * m * 2^e. -/
inductive FV where
  | nan
  | inf (neg : Bool)
  | fin (neg : Bool) (m : Nat) (e : Int)
  deriving DecidableEq, Repr

/-- The number that encoding `v` names. -/
def fdec (f : Fmt) (v : Nat) : FV :=
  let neg := v.testBit (f.ew + f.mw)
  let ex := v / 2 ^ f.mw % 2 ^ f.ew
  let m := v % 2 ^ f.mw
  if ex = 2 ^ f.ew - 1 then (if m = 0 then .inf neg else .nan)
  else if ex = 0 then .fin neg m (1 - f.bias - f.mw)
  else .fin neg (m + 2 ^ f.mw) (ex - f.bias - f.mw)

/-- The encoding of a NaN result; its payload is a free value (log 8). -/
def fnan (f : Fmt) : Nat := (2 ^ (f.ew + 1) - 1) * 2 ^ (f.mw - 1) + Config.nanPayload.toNat % 2 ^ (f.mw - 1)

/-- Infinity. -/
def finf (f : Fmt) (neg : Bool) : Nat :=
  (if neg then 2 ^ (f.ew + f.mw) else 0) + (2 ^ f.ew - 1) * 2 ^ f.mw

/-- `m` shifted right by `d`, rounded to nearest, ties to even. -/
def shiftRne (m d : Nat) : Nat :=
  let q := m / 2 ^ d
  let r := m % 2 ^ d
  if 2 * r > 2 ^ d ∨ (2 * r = 2 ^ d ∧ q % 2 = 1) then q + 1 else q

/-- The encoding nearest to (-1)^neg * m * 2^e. -/
def fround (f : Fmt) (neg : Bool) (m : Nat) (e : Int) : Nat :=
  let sign := if neg then 2 ^ (f.ew + f.mw) else 0
  if m = 0 then sign
  else
    let low : Int := 1 - f.bias - f.mw
    let q := max (e + m.log2 - f.mw) low
    let mant := if q ≤ e then m * 2 ^ (e - q).toNat else shiftRne m (q - e).toNat
    let (mant, q) := if mant = 2 ^ (f.mw + 1) then (2 ^ f.mw, q + 1) else (mant, q)
    if mant < 2 ^ f.mw then sign + mant
    else
      let ex := (q + f.bias + f.mw).toNat
      if 2 ^ f.ew - 1 ≤ ex then finf f neg else sign + ex * 2 ^ f.mw + (mant - 2 ^ f.mw)

/-- The encoding of a decoded number. -/
def fenc (f : Fmt) : FV → Nat
  | .nan => fnan f
  | .inf neg => finf f neg
  | .fin neg m e => fround f neg m e

/-- The signed mantissa of a finite number at exponent `e0`, not above its own. -/
def fvInt (neg : Bool) (m : Nat) (e e0 : Int) : Int :=
  let v : Int := m * 2 ^ (e - e0).toNat
  if neg then -v else v

/-- Exact sum of finite numbers. -/
def fvAdd : FV → FV → FV
  | .nan, _ => .nan
  | _, .nan => .nan
  | .inf a, .inf b => if a = b then .inf a else .nan
  | .inf a, _ => .inf a
  | _, .inf b => .inf b
  | .fin a m e, .fin b n g =>
    let e0 := min e g
    let v := fvInt a m e e0 + fvInt b n g e0
    if v = 0 then .fin (a && b) 0 e0 else .fin (decide (v < 0)) v.natAbs e0

def fvNeg : FV → FV
  | .nan => .nan
  | .inf a => .inf (!a)
  | .fin a m e => .fin (!a) m e

def fvAbs : FV → FV
  | .nan => .nan
  | .inf _ => .inf false
  | .fin _ m e => .fin false m e

/-- Exact product. -/
def fvMul : FV → FV → FV
  | .nan, _ => .nan
  | _, .nan => .nan
  | .inf a, .inf b => .inf (a != b)
  | .inf a, .fin b n _ => if n = 0 then .nan else .inf (a != b)
  | .fin a m _, .inf b => if m = 0 then .nan else .inf (a != b)
  | .fin a m e, .fin b n g => .fin (a != b) (m * n) (e + g)

/-- Quotient with 140 bits and a sticky bit, enough for one correct rounding to either format. -/
def fvDiv : FV → FV → FV
  | .nan, _ => .nan
  | _, .nan => .nan
  | .inf _, .inf _ => .nan
  | .inf a, .fin b _ _ => .inf (a != b)
  | .fin a _ e, .inf b => .fin (a != b) 0 e
  | .fin a m e, .fin b n g =>
    if n = 0 then (if m = 0 then .nan else .inf (a != b))
    else
      let t := m * 2 ^ 140
      let q := t / n
      .fin (a != b) (2 * q + (if t % n = 0 then 0 else 1)) (e - g - 141)

/-- The integer square root, found bit by bit from bit `i` down. -/
def isqrtGo (n : Nat) : Nat → Nat → Nat
  | 0, r => r
  | i + 1, r =>
    let t := r + 2 ^ i
    isqrtGo n i (if t * t ≤ n then t else r)

def isqrt (n : Nat) : Nat := isqrtGo n (n.log2 / 2 + 1) 0

/-- Square root with a sticky bit. -/
def fvSqrt : FV → FV
  | .nan => .nan
  | .inf neg => if neg then .nan else .inf false
  | .fin neg m e =>
    if m = 0 then .fin neg 0 e
    else if neg then .nan
    else
      let k : Nat := if e % 2 = 0 then 140 else 141
      let n := m * 2 ^ k
      let r := isqrt n
      .fin false (2 * r + (if r * r = n then 0 else 1)) ((e - k) / 2 - 1)

/-- Less than; false with a NaN. -/
def fvLt : FV → FV → Bool
  | .nan, _ => false
  | _, .nan => false
  | .inf a, .inf b => a && !b
  | .inf a, _ => a
  | _, .inf b => !b
  | .fin a m e, .fin b n g => decide (fvInt a m e (min e g) < fvInt b n g (min e g))

/-- Equal as numbers; false with a NaN. -/
def fvEq : FV → FV → Bool
  | .nan, _ => false
  | _, .nan => false
  | .inf a, .inf b => a == b
  | .inf _, _ => false
  | _, .inf _ => false
  | .fin a m e, .fin b n g => fvInt a m e (min e g) == fvInt b n g (min e g)

/-- Finite. -/
def fvFin : FV → Bool
  | .fin _ _ _ => true
  | _ => false

/-! ### binary64 and binary32 words -/

abbrev F64 := BitVec 64
abbrev F32 := BitVec 32

def F64.dec (a : F64) : FV := fdec b64 a.toNat
def F32.dec (a : F32) : FV := fdec b32 a.toNat
def to64 (v : FV) : F64 := BitVec.ofNat 64 (fenc b64 v)
def to32 (v : FV) : F32 := BitVec.ofNat 32 (fenc b32 v)

def fadd (a b : F64) : F64 := to64 (fvAdd (F64.dec a) (F64.dec b))
def fsub (a b : F64) : F64 := to64 (fvAdd (F64.dec a) (fvNeg (F64.dec b)))
def fmul (a b : F64) : F64 := to64 (fvMul (F64.dec a) (F64.dec b))
def fdiv (a b : F64) : F64 := to64 (fvDiv (F64.dec a) (F64.dec b))
def fsqrt (a : F64) : F64 := to64 (fvSqrt (F64.dec a))
def fabs (a : F64) : F64 := a &&& 0x7FFFFFFFFFFFFFFF
def fneg (a : F64) : F64 := a ^^^ 0x8000000000000000
def flt (a b : F64) : Bool := fvLt (F64.dec a) (F64.dec b)
def fle (a b : F64) : Bool := fvLt (F64.dec a) (F64.dec b) || fvEq (F64.dec a) (F64.dec b)
def feq (a b : F64) : Bool := fvEq (F64.dec a) (F64.dec b)
def ffin (a : F64) : Bool := fvFin (F64.dec a)

/-- The smaller of two finite numbers. -/
def fmin (a b : F64) : F64 := if flt b a then b else a
def fmax (a b : F64) : F64 := if flt a b then b else a
/-- `x` held between `lo` and `hi`. -/
def fclamp (lo hi x : F64) : F64 := if flt x lo then lo else if flt hi x then hi else x

/-- Widening is exact; narrowing rounds once. -/
def f64of32 (a : F32) : F64 := to64 (F32.dec a)
def f32of64 (a : F64) : F32 := to32 (F64.dec a)
def ffin32 (a : F32) : Bool := fvFin (F32.dec a)
def flt32 (a b : F32) : Bool := fvLt (F32.dec a) (F32.dec b)
def fle32 (a b : F32) : Bool := fvLt (F32.dec a) (F32.dec b) || fvEq (F32.dec a) (F32.dec b)
def feq32 (a b : F32) : Bool := fvEq (F32.dec a) (F32.dec b)
def fadd32 (a b : F32) : F32 := to32 (fvAdd (F32.dec a) (F32.dec b))
def fsub32 (a b : F32) : F32 := to32 (fvAdd (F32.dec a) (fvNeg (F32.dec b)))
def fmul32 (a b : F32) : F32 := to32 (fvMul (F32.dec a) (F32.dec b))

/-- An integer, rounded. -/
def f64ofInt (i : Int) : F64 := to64 (.fin (decide (i < 0)) i.natAbs 0)
def f32ofInt (i : Int) : F32 := to32 (.fin (decide (i < 0)) i.natAbs 0)
/-- The decimal fraction p / q, rounded. -/
def f64ofRat (p : Int) (q : Nat) : F64 :=
  to64 (fvDiv (.fin (decide (p < 0)) p.natAbs 0) (.fin false q 0))

/-- A finite number rounded towards zero; 0 for the rest. -/
def fvTrunc : FV → Int
  | .fin neg m e =>
    let v : Int := if 0 ≤ e then m * 2 ^ e.toNat else (m / 2 ^ (-e).toNat : Nat)
    if neg then -v else v
  | _ => 0

/-- A finite number rounded to the nearest integer, ties to even; 0 for the rest. -/
def fvRound : FV → Int
  | .fin neg m e =>
    let v : Int := if 0 ≤ e then m * 2 ^ e.toNat else (shiftRne m (-e).toNat : Nat)
    if neg then -v else v
  | _ => 0

/-- The largest integer not above a finite number. -/
def fvFloor (v : FV) : Int :=
  let t := fvTrunc v
  if fvLt v (.fin (decide (t < 0)) t.natAbs 0) then t - 1 else t

/-- Common constants. -/
def f0 : F64 := 0
def f1 : F64 := 0x3FF0000000000000

end Sys2Proof.Machine
end

