-- ==== Sys2Proof/Machine/Cells.lean ====
section
/-! DEFINITION. The channel cells: records, results, status words, curves, substitute states, latches,
digital input, waveform mode (06_channel_cells_inputs.md) and, from Table CHO-4 on, the output stages,
readback, trim, compliance and field faults (07_channel_outputs_diagnostics.md). -/

namespace Sys2Proof.Machine

/-! ### Addresses -/

/-- Register `off` of channel block `b` (R219). -/
def cbreg (b off : Nat) : Nat := 0x20100000 + 0x10000 * b + off
/-- Register `off` of cell `n` (R219). -/
def creg (n off : Nat) : Nat := cbreg (n / 8) (0x1000 + n % 8 * 0x40 + off)
def cellLoc (n : Nat) : Nat := locOf (n / 8) (n % 8)
def cVAL (n : Nat) : Nat := creg n 0
def cRAW (n : Nat) : Nat := creg n 4
def cSTAT (n : Nat) : Nat := creg n 8
def cTS (n : Nat) : Nat := creg n 0xC
def cFREQ (n : Nat) : Nat := creg n 0x10
def cPHASE (n : Nat) : Nat := creg n 0x14
def cCJT (n : Nat) : Nat := creg n 0x18
def cSAR (n : Nat) : Nat := creg n 0x1C
def cCMD (n : Nat) : Nat := creg n 0x20
def cPHYS (n : Nat) : Nat := creg n 0x24
def cOSTAT (n : Nat) : Nat := creg n 0x28
def cHEAD (n : Nat) : Nat := creg n 0x2C
def cMON (n : Nat) : Nat := creg n 0x30
def cFFLT (n : Nat) : Nat := creg n 0x34
def cTRIM (n : Nat) : Nat := creg n 0x38
def cBAD (n : Nat) : Nat := cbreg (n / 8) (0x20 + 4 * (n % 8))
def cRES (n : Nat) : Nat := cbreg (n / 8) (0x40 + 4 * (n % 8))
def cCMPL (n : Nat) : Nat := cbreg (n / 8) (0x60 + 4 * (n % 8))
def CHB_STATE (b : Nat) : Fld := ⟨cbreg b 0, 1, 0⟩
def CFAULT (n : Nat) : Fld := ⟨cbreg (n / 8) 0, 8 + n % 8, 8 + n % 8⟩
def CONV (n : Nat) : Fld := ⟨cbreg (n / 8) 0, 16 + n % 8, 16 + n % 8⟩
def CHBERR (n i : Nat) : Fld := ⟨cbreg (n / 8) 4, i, i⟩
def OERR (n i : Nat) : Fld := ⟨cbreg (n / 8) 0x80, i, i⟩

def State.cell (s : State) (n : Nat) : CellSt := tblGet (fun _ => CellSt.reset) s.chan.cells n
def State.setCell (s : State) (n : Nat) (c : CellSt) : State :=
  { s with chan := { s.chan with cells := tblPut (fun _ => CellSt.reset) s.chan.cells n [c] } }

/-! ### Cell record (Tables CH-17, CHO-9, CHO-10) -/

/-- The 128-byte record of cell `n` in the pattern in force. -/
def State.cellRec (s : State) (n : Nat) : List Byte := slice (s.sec SEC_CHANNELS) (16 + 128 * n) 128
def crMode (r : List Byte) : Nat := fieldAt r 0 1
def crRange (r : List Byte) : Nat := fieldAt r 1 1
def crWiring (r : List Byte) : Nat := fieldAt r 2 1
def crRate (r : List Byte) : Nat := fieldAt r 3 1
def crFilter (r : List Byte) : Nat := fieldAt r 4 1
def crCurve (r : List Byte) : Nat := fieldAt r 5 1
def crGrid (r : List Byte) : Nat := fieldAt r 8 4
def crGphase (r : List Byte) : Nat := fieldAt r 12 4
/-- A binary32 field widened. -/
def crF (r : List Byte) (o : Nat) : F64 := f64of32 (BitVec.ofNat 32 (fieldAt r o 4))
def crScaleLo (r : List Byte) : F64 := crF r 16
def crScaleHi (r : List Byte) : F64 := crF r 20
def crFfEn (r : List Byte) (k : Nat) : Bool := bitOf (fieldAt r 64 1) k

abbrev M_UNUSED : Nat := 0
abbrev M_AI_V : Nat := 1
abbrev M_AI_I : Nat := 2
abbrev M_RTD : Nat := 3
abbrev M_RES : Nat := 4
abbrev M_TC : Nat := 5
abbrev M_AO_I : Nat := 6
abbrev M_AO_V : Nat := 7
abbrev M_DI : Nat := 8
abbrev M_DO : Nat := 9
abbrev M_WAVE : Nat := 10

def State.cellMode (s : State) (n : Nat) : Nat := crMode (s.cellRec n)
def isOutMode (m : Nat) : Bool := m == M_AO_I || m == M_AO_V || m == M_DO
def isGridIn (m : Nat) : Bool := decide (1 ≤ m ∧ m ≤ 5)
/-- A mode with ready instants on a grid (R189, R227). -/
def isGridMode (m : Nat) : Bool := isGridIn m || m == M_AO_I || m == M_AO_V

/-- Ends of a mode's range: nominal low and high, limits low and high, in thousandths of the measured
quantity: V, mA, ohm, µV (Tables CH-1 and CHO-1). -/
def rangeEnds (mode range : Nat) : Int × Int × Int × Int :=
  match mode, range with
  | 1, 0 => (-10000, 10000, -11000, 11000)
  | 1, 1 => (0, 10000, -500, 11000)
  | 1, 2 => (-1000, 1000, -1100, 1100)
  | 1, _ => (-100, 100, -110, 110)
  | 2, 0 => (0, 20000, -500, 24000)
  | 2, _ => (4000, 20000, -500, 24000)
  | 3, 0 => (18500, 390500, 0, 440000)
  | 3, 1 => (185200, 3904800, 0, 4400000)
  | 3, _ => (69500, 223200, 0, 250000)
  | 4, 0 => (0, 500000, 0, 550000)
  | 4, _ => (0, 10000000, 0, 11000000)
  | 5, _ => (-100000000, 100000000, -110000000, 110000000)
  | 6, 0 => (0, 20000, 0, 24000)
  | 6, 1 => (4000, 20000, 0, 24000)
  | 6, _ => (0, 24000, 0, 24000)
  | 7, 0 => (-10000, 10000, -10500, 10500)
  | 7, _ => (0, 10000, -200, 10500)
  | 8, _ => (0, 30000, -36000, 36000)
  | 10, 0 => (-10000, 10000, -11000, 11000)
  | 10, 1 => (-1000, 1000, -1100, 1100)
  | 10, _ => (-20000, 20000, -24000, 24000)
  | _, _ => (0, 0, 0, 0)

/-- Thousandths as binary64. -/
def milli (i : Int) : F64 := f64ofRat i 1000
def nomLo (r : List Byte) : F64 := milli (rangeEnds (crMode r) (crRange r)).1
def nomHi (r : List Byte) : F64 := milli (rangeEnds (crMode r) (crRange r)).2.1
def limLo (r : List Byte) : F64 := milli (rangeEnds (crMode r) (crRange r)).2.2.1
def limHi (r : List Byte) : F64 := milli (rangeEnds (crMode r) (crRange r)).2.2.2
/-- The nominal span (R186). -/
def nomSpan (r : List Byte) : F64 :=
  let e := rangeEnds (crMode r) (crRange r)
  milli (e.2.1 - e.1)

/-- R_nom of an RTD range, ohm (R194). -/
def rNom (r : List Byte) : F64 := f64ofInt (if crRange r = 1 then 1000 else 100)

/-- Rate period P_r in µs (Table CH-4). -/
def ratePeriod (rate : Nat) : Nat :=
  match rate with
  | 1 => 100000 | 2 => 50000 | 3 => 20000 | 4 => 10000 | 5 => 5000 | 6 => 2000 | 7 => 1000
  | 8 => 500 | 9 => 200 | 10 => 100 | 11 => 50 | 12 => 20 | 13 => 10 | _ => 0

/-- Window length L in µs (Table CH-5). -/
def windowLen (r : List Byte) : Nat := ratePeriod (crRate r) * (if crFilter r = 1 then 3 else 1)

/-! ### Curves (R52, R53, R199) -/

/-- Curves of a CURVES section from offset `o`, `n` of them: header and segments. -/
def curvesFrom (sec : List Byte) : Nat → Nat → List (List Byte)
  | 0, _ => []
  | n + 1, o =>
    let len := 32 + 80 * fieldAt sec (o + 1) 1
    slice sec o len :: curvesFrom sec n (o + len)

def curvesOf (sec : List Byte) : List (List Byte) := curvesFrom sec (fieldAt sec 0 2) 4

def State.curve (s : State) (id : Nat) : Option (List Byte) :=
  (curvesOf (s.sec SEC_CURVES)).find? (fun c => fieldAt c 0 1 == id)

/-- Segment records of a curve (Table PAT-8). -/
def curveSegs (c : List Byte) : List (List Byte) :=
  (List.range (fieldAt c 1 1)).map (fun i => slice c (32 + 80 * i) 80)

def segF (g : List Byte) (o : Nat) : F64 := BitVec.ofNat 64 (fieldAt g o 8)

/-- y = C[DEGREE], then y * u + C[j] down to j = 0. -/
def polyGo (g : List Byte) (u : F64) : Nat → F64 → F64
  | 0, y => y
  | j + 1, y => polyGo g u j (fadd (fmul y u) (segF g (24 + 8 * j)))

/-- The polynomial of a segment (R53). -/
def poly (g : List Byte) (x : F64) : F64 :=
  let d := fieldAt g 72 1
  polyGo g (fsub x (segF g 16)) d (segF g (24 + 8 * d))

/-- R53: the value and out_of_curve. -/
def evalCurve (c : List Byte) (x : F64) : F64 × Bool :=
  let gs := curveSegs c
  match gs.head?, gs.getLast? with
  | some f, some l =>
    let low := flt x (segF f 0)
    let high := flt (segF l 8) x
    let x := if low then segF f 0 else if high then segF l 8 else x
    let g := (gs.find? (fun g => fle (segF g 0) x && flt x (segF g 8))).getD l
    (poly g x, low || high)
  | _, _ => (x, false)

/-- The bisection of R199. -/
def bisect (g : List Byte) (y : F64) : Nat → F64 → F64 → F64
  | 0, a, b => fdiv (fadd a b) (f64ofInt 2)
  | n + 1, a, b =>
    let m := fdiv (fadd a b) (f64ofInt 2)
    if fle (poly g m) y then bisect g y n m b else bisect g y n a m

/-- R199: the inverse value and out_of_curve. -/
def invertCurve (c : List Byte) (y : F64) : F64 × Bool :=
  let gs := curveSegs c
  match gs.head?, gs.getLast? with
  | some f, some l =>
    if flt y (poly f (segF f 0)) then (segF f 0, true)
    else if flt (poly l (segF l 8)) y then (segF l 8, true)
    else
      let g := ((gs.filter (fun g => fle (poly g (segF g 0)) y)).getLast?).getD f
      (bisect g y 60 (segF g 0) (segF g 8), false)
  | _, _ => (y, false)

/-! ### Status word (Table CH-8) -/

/-- Status bits by number. -/
abbrev B_VALID : Nat := 0
abbrev B_QBAD : Nat := 1
abbrev B_OR_HI : Nat := 2
abbrev B_OR_LO : Nat := 3
abbrev B_NE_LO : Nat := 4
abbrev B_NE_HI : Nat := 5
abbrev B_NE_LIM : Nat := 6
abbrev B_OOC : Nat := 7
abbrev B_DIVERGE : Nat := 8
abbrev B_CJBAD : Nat := 9
abbrev B_NOCYCLE : Nat := 10
abbrev B_FREQ_OOR : Nat := 11
abbrev B_PAIRBAD : Nat := 12
abbrev B_STALE : Nat := 13
abbrev B_SUBST : Nat := 14
abbrev B_PASSIVE : Nat := 15
abbrev B_HANDOVER : Nat := 16
abbrev B_DI : Nat := 17
abbrev B_FIELD : Nat := 18

/-- The word whose set bits are listed. -/
def statWord (bs : List (Nat × Bool)) : Nat := bs.foldl (fun w b => if b.2 then w ||| 2 ^ b.1 else w) 0

/-- QBAD follows from the other bits (Table CH-8). -/
def withQbad (w : Nat) : Nat :=
  let bad := !w.testBit B_VALID || [2, 3, 4, 5, 7, 8, 9, 13, 14, 15, 16, 18].any (fun i => w.testBit i)
  if bad then w ||| 2 else if w.testBit 1 then w - 2 else w

/-- The event code of a status bit's change to 1 (Table CH-8). -/
def statEvents (old new : Nat) : List Nat :=
  let rose (i : Nat) := new.testBit i && !old.testBit i
  (if rose B_OR_HI || rose B_OR_LO then [0xB0] else []) ++
  (if rose B_NE_LO || rose B_NE_HI then [0xB1] else []) ++
  (if rose B_OOC then [0xB2] else []) ++ (if rose B_DIVERGE then [0xB3] else []) ++
  (if rose B_CJBAD then [0xB4] else []) ++
  (if rose B_NOCYCLE || rose B_FREQ_OOR then [0xB5] else []) ++ (if rose B_STALE then [0xB6] else [])

/-- An event of a cell; it carries the cell's location code (R218, Table CHO-11). -/
def State.cellEvent (s : State) (n code : Nat) : State := s.event code (cellLoc n) []

/-- RUN_STAT.EXCITE. -/
def RUN_EXCITE : Fld := ⟨0x20300000, 8, 8⟩

/-- Output cells excite the field (R243, R244). -/
def State.exciting (s : State) : Bool := !s.flag RUN_PAIRED || s.flag RUN_EXCITE

/-- Input cells of this module are passive (R217). -/
def State.inPassive (s : State) : Bool := s.flag RUN_PAIRED && !s.flag RUN_EXCITE

/-- The window from `a` to `b` intersects the last dual-excitation interval, which lasts 1.0 ms at most (R217, R303). -/
def State.inHandover (s : State) (a b : Nat) : Bool :=
  match s.chan.dual with
  | none => false
  | some (d, none) => decide (d ≤ b ∧ a ≤ d + 1000000)
  | some (d, some e) => decide (d ≤ b ∧ a ≤ e)

/-- The block of the cell is isolated (R216). -/
def State.cellIsolated (s : State) (n : Nat) : Bool := s.bit 0x20000028 (n / 8)
/-- The field region is being reset (R16). -/
def RGN_FLD : Fld := ⟨0x20000020, 1, 0⟩
def State.fieldResetting (s : State) : Bool := s.fld RGN_FLD == 1

/-- The cell delivers results: conversion runs, its block is not isolated, its region is not reset. -/
def State.delivers (s : State) (n : Nat) : Bool :=
  s.chan.conv && !s.cellIsolated n && !s.fieldResetting

/-! ### Substitute state of input cells (R197) -/

/-- An input cell enters its substitute state: VALUE, SUBST and QBAD; TS and RAW stay. -/
def State.inSubst (s : State) (n : Nat) : State :=
  let r := s.cellRec n
  let sv := BitVec.ofNat 32 (fieldAt r 48 4)
  let v := if fieldAt r 40 1 = 0 then (s.cell n).lastGood.getD sv else sv
  let s := (s.setReg (cVAL n) v).orReg (cSTAT n) (2 ^ B_SUBST + 2)
  let c := s.cell n
  s.setCell n { c with y := none }

/-! ### Forming results -/

/-- The TS of a result; the values of one result's registers. -/
structure ResultRegs where
  val : Word
  raw : Word
  stat : Nat
  ts : Nat
  freq : Word
  phase : Word
  cjt : Word
  sar : Word
  deriving DecidableEq, Repr

/-- A cell writes its registers 0x00 to 0x1C together (R220), a class 1 transaction of its block (Table SYS-8), counts the
result, and records the events of the status bits that rose (R196). -/
def State.putResult (s : State) (n : Nat) (x : ResultRegs) : State :=
  let old := s.regN (cSTAT n)
  let s := ((s.portMove (issField (n / 8)) 32 true).bump (cRES n)).pmcCount 7 0x10 (n / 8) 1
  let w := withQbad (x.stat % 2 ^ 19) + s.regN (cRES n) % 256 * 2 ^ 24
  let s := if w.testBit B_QBAD then (s.bump (cBAD n)).pmcCount 7 0x11 (n / 8) 1 else s
  let s := s.putWords (cVAL n) [x.val, x.raw, BitVec.ofNat 32 w, BitVec.ofNat 32 x.ts, x.freq, x.phase,
    x.cjt, x.sar]
  let s := (statEvents old w).foldl (fun s e => s.cellEvent n e) s
  let s := if w.testBit B_DIVERGE && !old.testBit B_DIVERGE then s.setFlag (CHBERR n 1) true else s
  if w.testBit B_CJBAD && !old.testBit B_CJBAD then s.setFlag (CHBERR n 2) true else s

/-- Threshold triggers on VALUE at results with QBAD = 0 (R209). ARG[8] is 1 for a rising and 0 for a
falling value (DESIGN CHOICE, log 81). -/
def State.thresholds (s : State) (n : Nat) (v : F64) : State :=
  let r := s.cellRec n
  let kind := bitsOf (fieldAt r 43 1) 2 0
  let lvl := crF r 52
  let hyst := crF r 56
  let c := s.cell n
  let fire (s : State) (dir : Nat) : State :=
    (s.setCell n { c with trigArmed := false }).trigger 56 (fieldAt r 44 1) 2 (cellLoc n) (n + 256 * dir)
  if kind = 4 then
    if c.trigArmed && fle lvl v then fire s 1
    else if !c.trigArmed && flt v (fsub lvl hyst) then s.setCell n { c with trigArmed := true }
    else s
  else if kind = 5 then
    if c.trigArmed && fle v lvl then fire s 0
    else if !c.trigArmed && flt (fadd lvl hyst) v then s.setCell n { c with trigArmed := true }
    else s
  else s

/-- The diverse check of one result (R193): the counts and DIVERGE. -/
def diverse (c : CellSt) (was : Bool) (r : List Byte) (prim sec : F64) : CellSt × Bool :=
  let lim := crF r 36
  if feq lim f0 then ({ c with divRun := 0, divOk := 0 }, false)
  else
    let above := flt (fdiv (fmul lim (nomSpan r)) (f64ofInt 100)) (fabs (fsub prim sec))
    let run := if above then c.divRun + 1 else 0
    let ok := if above then 0 else c.divOk + 1
    ({ c with divRun := run, divOk := ok }, decide (2 ≤ run) || (was && decide (ok < 8)))

/-- Any of the field fault flags OPEN to LEAD is set (R235). -/
def State.anyField (s : State) (n : Nat) : Bool := s.fld ⟨cFFLT n, 4, 0⟩ != 0

/-- The measured value after lead correction (R194). -/
def leadCorrected (r : List Byte) (m : Meas) : F64 :=
  if crMode r = M_RTD ∨ crMode r = M_RES then
    (if crWiring r = 3 then fsub m.prim m.rab else if crWiring r = 2 then fsub m.prim (crF r 28) else m.prim)
  else m.prim

/-- The measured value after lead correction, normalisation and cold-junction term (R194), and CJT. -/
def State.measured (s : State) (r : List Byte) (m : Meas) : F64 × F64 :=
  let mode := crMode r
  let x := leadCorrected r m
  let x := if mode = M_RTD then fdiv x (rNom r) else x
  let cjt := if fieldAt r 7 1 = 1 then crF r 32 else m.cj
  if mode = M_TC then
    match s.curve (crCurve r) with
    | some c => (fadd x (evalCurve c cjt).1, cjt)
    | none => (x, cjt)
  else (x, f0)

/-- The value of a clamped measurement: through the curve, or scaled (R194). -/
def State.scaled (s : State) (r : List Byte) (x : F64) : F64 × Bool :=
  if crCurve r ≠ 0xFF then
    match s.curve (crCurve r) with
    | some c => if fieldAt r 6 1 = 0 then evalCurve c x else invertCurve c x
    | none => (x, false)
  else
    (fadd (crScaleLo r) (fdiv (fmul (fsub x (nomLo r)) (fsub (crScaleHi r) (crScaleLo r)))
      (fsub (nomHi r) (nomLo r))), false)

/-- The NE 43 bands (Table CH-7): NE_LO, NE_LIM, NE_HI. -/
def ne43 (ma : F64) : Bool × Bool × Bool :=
  let lo := fle ma (milli 3600)
  let hi := fle (milli 21000) ma
  (lo, (!lo && flt ma (milli 3800)) || (!hi && flt (milli 20500) ma), hi)

/-- A window end one µs before now, and the window before it (R189). -/
def State.window (s : State) (r : List Byte) : Nat × Nat :=
  (s.now - 1000 - windowLen r * 1000, s.now - 1000)

/-- A cell powers its converters for each window only (R192). -/
def windowed (r : List Byte) : Bool := isGridIn (crMode r) && decide (40 < crGrid r - windowLen r)

/-- The converters go off at the window end when the gap is long enough (R192, R23). -/
def State.windowEnds (s : State) (n : Nat) : State :=
  if windowed (s.cellRec n) then s.setFlag (CONV n) false else s

/-- Counting a result towards the recovery of a faulted cell; true when it is delivered (R215). -/
def State.recoverCount (s : State) (n : Nat) : Bool × State :=
  let c := s.cell n
  if s.flag (CFAULT n) then
    if c.recov + 1 < 8 then (false, s.setCell n { c with recov := c.recov + 1, missRun := 0 })
    else (true, (s.setCell n { c with recov := 0, missRun := 0 }).setFlag (CFAULT n) false)
  else (true, s.setCell n { c with missRun := 0 })

/-- VALID of a result whose window begins at `from_`: the whole window lies after the start of conversion. A result
before that one is delivered with VALID 0 (R214; DEDUCED, log 31). -/
def State.wholeWindow (s : State) (n from_ : Nat) : Bool := decide ((s.cell n).convAt ≤ from_)

/-- R194 to R196: one result of a cell in AI_V, AI_I, RTD, RES or TC. SAR of an RTD is in ohm, and a passive RTD or RES
result without a measurement keeps VALUE, RAW and SAR (DESIGN CHOICE, log 81). -/
def State.inputResult (s : State) (n : Nat) (m : Meas) : State :=
  let r := s.cellRec n
  let mode := crMode r
  let (from_, to_) := s.window r
  let valid := s.wholeWindow n from_
  let (deliver, s) := s.recoverCount n
  if !deliver then s
  else if s.inPassive && (mode == M_RTD || mode == M_RES) then
    -- no measurement (R217); a bad result, so the filter is reset
    (s.setCell n { s.cell n with y := none }).putResult n ⟨s.reg (cVAL n), s.reg (cRAW n),
      statWord [(B_VALID, valid), (B_PASSIVE, true), (B_HANDOVER, s.inHandover from_ to_), (B_FIELD, s.anyField n)],
      ts32Of to_, 0, 0, 0, s.reg (cSAR n)⟩
  else
    let (x, cjt) := s.measured r m
    let raw := f32of64 x
    let scale := if mode = M_RTD then rNom r else f1
    let hiL := fdiv (limHi r) scale
    let loL := fdiv (limLo r) scale
    let orHi := flt hiL x
    let orLo := flt x loL
    let x := if orHi then hiL else if orLo then loL else x
    let (v, ooc) := s.scaled r x
    let was := s.bit (cSTAT n) B_DIVERGE
    let (c, div) := diverse (s.cell n) was r m.prim m.sec
    let s := s.setCell n c
    let ne := if fieldAt r 41 1 = 1 then ne43 m.prim else (false, false, false)
    let cjbad := mode == M_TC && fieldAt r 7 1 == 0 &&
      (flt m.cj (f64ofInt (-45)) || flt (f64ofInt 100) m.cj)
    let w := withQbad (statWord [(B_VALID, valid), (B_OR_HI, orHi), (B_OR_LO, orLo), (B_NE_LO, ne.1),
      (B_NE_LIM, ne.2.1), (B_NE_HI, ne.2.2), (B_OOC, ooc), (B_DIVERGE, div), (B_CJBAD, cjbad),
      (B_PASSIVE, s.inPassive), (B_HANDOVER, s.inHandover from_ to_), (B_FIELD, s.anyField n)])
    let bad := w.testBit B_QBAD
    let tau := fieldAt r 24 2
    let y := if bad then v
      else if tau = 0 then v
      else match c.y with
        | none => v
        | some y => fadd y (fmul (fdiv (f64ofInt (crGrid r)) (f64ofInt (1000 * tau + crGrid r)))
            (fsub v y))
    let val := f32of64 y
    let s := s.setCell n { c with y := if bad then none else some y,
                                  lastGood := if bad then c.lastGood else some val }
    let s := s.putResult n ⟨val, raw, w, ts32Of to_, 0, 0, if mode = M_TC then f32of64 cjt else 0,
      f32of64 m.sec⟩
    if bad then s else s.thresholds n (f64of32 val)

/-- R215: a ready instant passes without a result, in a mode that converts on a grid; the converters go off at the
window end as they do with a result (R192). The third in a row is a cell fault of an input cell; an output cell's are
those of R238. The post-filter is reset, as by a bad result (DESIGN CHOICE, log 66). -/
def State.missing (s : State) (n : Nat) : State :=
  let r := s.cellRec n
  let s := s.windowEnds n
  let c := s.cell n
  if !isGridMode (crMode r) then s
  else if isGridIn (crMode r) && s.flag (CFAULT n) then s.setCell n { c with recov := 0 }
  else
    let old := s.regN (cSTAT n)
    let s := (s.setCell n { c with missRun := c.missRun + 1, y := none }).orReg (cSTAT n) (2 ^ B_STALE + 2)
    let s := if old.testBit B_STALE then s else s.cellEvent n 0xB6
    if isOutMode (crMode r) || decide (c.missRun + 1 < 3) then s
    else
      let s := ((s.setFlag (CFAULT n) true).setFlag (CHBERR n 0) true).cellEvent n 0xB7
      (s.setCell n { s.cell n with recov := 0 }).inSubst n

/-! ### Digital input (R203) -/

/-- The level of a terminal voltage against the thresholds of Table CH-13; between them the level stays (before the
first acceptance it is off: DEDUCED, log 53). -/
def diLevel (r : List Byte) (old : Bool) (v : F64) : Bool :=
  let (on, off) : Int × Int := if crRange r = 0 then (12, 8) else (9, 6)
  if fle (f64ofInt on) v then true else if fle v (f64ofInt off) then false else old

/-- The eight result registers of a cell. -/
def State.resultRegs (s : State) (n : Nat) : List Word := (List.range 8).map (fun i => s.reg (creg n (4 * i)))

/-- The level of the voltage `v` that has held for DEBOUNCE_US is accepted: DI_STATE, a result, and the edge's trigger
unless it is the first level. RAW stays that of the last report, CHB_CnSAR is 0, and the window that HANDOVER is tested
for is the instant (DESIGN CHOICE, log 66). -/
def State.diAccept (s : State) (n : Nat) (v : F64) : State :=
  let r := s.cellRec n
  let c := s.cell n
  let old := s.bit (cSTAT n) B_DI
  let level := diLevel r old v
  if c.diSeen && old == level then s
  else
    let first := !c.diSeen
    let w := statWord [(B_VALID, true), (B_DI, level), (B_PASSIVE, s.inPassive),
      (B_HANDOVER, s.inHandover s.now s.now), (B_FIELD, s.anyField n)]
    let v : Word := if level then 0x3F800000 else 0
    let s := s.setCell n { c with diSeen := true, diPrev := s.resultRegs n, diAt := s.now,
                                  lastGood := if (withQbad w).testBit B_QBAD then c.lastGood else some v }
    let s := s.putResult n ⟨v, s.reg (cRAW n), w, ts32Of s.now, 0, 0, 0, 0⟩
    let kind := bitsOf (fieldAt r 43 1) 2 0
    if !first && ((level && (kind == 1 || kind == 3)) || (!level && (kind == 2 || kind == 3))) then
      s.trigger 56 (fieldAt r 44 1) 1 (cellLoc n) (n + 256 * ofBool level)
    else s

/-- The 100 µs report of the terminal voltage, a result with the DI_STATE of that instant (R203). Its window for HANDOVER
is the last 100 µs, and OR_HI and OR_LO stay 0 (DESIGN CHOICE, log 66). -/
def State.diRaw (s : State) (n : Nat) (v : F64) : State :=
  let c := s.cell n
  let w := statWord [(B_VALID, c.diSeen), (B_DI, s.bit (cSTAT n) B_DI), (B_PASSIVE, s.inPassive),
    (B_HANDOVER, s.inHandover (s.now - 100000) s.now), (B_FIELD, s.anyField n)]
  let s := if (withQbad w).testBit B_QBAD then s else s.setCell n { c with lastGood := some (s.reg (cVAL n)) }
  s.putResult n ⟨s.reg (cVAL n), f32of64 v, w, s.regN (cTS n), 0, 0, 0, 0⟩

/-! ### Waveform mode (R204 to R206) -/

/-- The sample instant nearest to now, in half-ns: n * 39,062.5 ns after the second (R204). -/
def State.waveInstant (s : State) : Nat :=
  let sub := s.now % NS
  let k := (sub * 2 + 39062) / 78125
  2 * (NS * (s.now / NS)) + 78125 * k

/-- ns between two crossing times (half-ns base, ns offset). -/
def crossDiff (b1 : Nat) (o1 : F64) (b0 : Nat) (o0 : F64) : F64 :=
  fadd (fdiv (f64ofInt ((b1 : Int) - b0)) (f64ofInt 2)) (fsub o1 o0)

/-- The latest crossing of a cell at or before 20 µs after the crossing (`b`, `o`), with its period, as far as its
samples have been taken (R206). -/
def CellSt.crossBy (c : CellSt) (b : Nat) (o : F64) : Option (Nat × F64 × Option F64) :=
  match c.crossBase with
  | none => none
  | some bp => if fle (crossDiff bp c.crossOff b o) (f64ofInt 20000) then some (bp, c.crossOff, c.period) else c.crossPrev

/-- PHASE of cell `n` against its pair at the crossing (`b`, `o`), if usable (R206). -/
def State.wavePhase (s : State) (n : Nat) (b : Nat) (o : F64) : Option F64 :=
  let p := fieldAt (s.cellRec n) 42 1
  let st := s.regN (cSTAT p)
  if p = 0xFF then none
  else match (s.cell p).crossBy b o with
    | some (bp, op, some tp) =>
      if st.testBit B_NOCYCLE || st.testBit B_FREQ_OOR || st.testBit B_QBAD
          || flt (f64ofInt 100000000) (crossDiff b o bp op) then none
      else
        let th := fdiv (fmul (f64ofInt 360) (crossDiff bp op b o)) tp
        let k := fvFloor (F64.dec (fdiv (fadd th (f64ofInt 180)) (f64ofInt 360)))
        some (fsub th (fmul (f64ofInt 360) (f64ofInt k)))
    | _ => none

/-- A WAVE result over [`from_`, `to_`] with its RMS, secondary RMS and frequency; TS is the end. RAW is the RMS in the
measured unit, and OR_HI and OR_LO stay 0 (DESIGN CHOICE, log 66). PAIRBAD of a NOCYCLE result is 0 (DESIGN CHOICE, log 81),
and the diverse check runs on one too (R193; DESIGN CHOICE, log 85). -/
def State.waveResult (s : State) (n : Nat) (rms rmsS freq : F64) (from_ to_ : Nat) (phase : Option F64)
    (nocycle oor : Bool) : State :=
  let r := s.cellRec n
  let was := s.bit (cSTAT n) B_DIVERGE
  let (c, div) := diverse (s.cell n) was r rms rmsS
  let s := s.setCell n c
  let paired := fieldAt r 42 1 != 0xFF
  let w := withQbad (statWord [(B_VALID, s.wholeWindow n from_), (B_DIVERGE, div), (B_NOCYCLE, nocycle),
    (B_FREQ_OOR, oor), (B_PAIRBAD, paired && !nocycle && phase.isNone), (B_PASSIVE, s.inPassive),
    (B_HANDOVER, s.inHandover from_ to_), (B_FIELD, s.anyField n)])
  let val := f32of64 (fmul rms (crScaleHi r))
  let ph := if nocycle || !paired then 0 else match phase with
    | some p => f32of64 p
    | none => s.reg (cPHASE n)
  let s := if w.testBit B_QBAD then s else s.setCell n { s.cell n with lastGood := some val }
  s.putResult n ⟨val, f32of64 rms, w, ts32Of to_, f32of64 freq, ph, 0, f32of64 rmsS⟩

/-- The waiting cycle result of a WAVE cell stands from its ready instant on (R205). -/
def State.waveReady (s : State) (n : Nat) : State :=
  match (s.cell n).wavePend with
  | none => s
  | some v =>
    if s.now < v.ready then s
    else
      (s.setCell n { s.cell n with wavePend := none }).waveResult n v.rms v.rmsS v.freq v.from_ v.tz
        (s.wavePhase n v.base v.off) false v.oor

/-- Every waiting cycle result whose ready instant has come. -/
def State.wavesReady (s : State) : State :=
  ((List.range 32).filter (fun n => (s.cell n).wavePend.isSome)).foldl (fun s n => if s.delivers n then s.waveReady n else s) s

/-- R205: one waveform sample `x`, with the secondary converter's `xs`. NOCYCLE becomes 1 when 100 ms have passed without a
crossing, up to the crossing that this sample ends with, if there is one. The rounding of the crossing time, and the start
of conversion as the start of the 100 ms: DESIGN CHOICE, log 85. -/
def State.waveSample (s : State) (n : Nat) (x xs : F64) : State :=
  let r := s.cellRec n
  let c := s.cell n
  let k := f64ofRat 1 16384
  let dc := fadd c.dc (fmul k (fsub x c.dc))
  let dcS := fadd c.dcS (fmul k (fsub xs c.dcS))
  let z := fsub x dc
  let zs := fsub xs dcS
  let h := fdiv (fmul (f64ofInt 2) (nomHi r)) (f64ofInt 100)
  let armed := c.armed || fle z (fneg h)
  let t := s.waveInstant
  let sq := fmul z z
  let sqS := fmul zs zs
  let recent := (sq :: c.recent).take 2560
  let recentS := (sqS :: c.recentS).take 2560
  let lastT := match c.crossBase with
    | some pb => ((pb : Int) / 2 + fvRound (F64.dec c.crossOff)).toNat
    | none => c.convAt
  let off := match c.zPrev with
    | some zp => fmul (fdiv (fneg zp) (fsub z zp)) (f64ofRat 390625 10)
    | none => f0
  let tz := ((t - 78125 : Nat) : Int) / 2 + fvRound (F64.dec off)
  let crosses := match c.zPrev with
    | some zp => armed && flt zp f0 && fle f0 z
    | none => false
  let until_ := if crosses then tz.toNat else t / 2
  let s := if until_ < lastT + 100000000 || s.bit (cSTAT n) B_NOCYCLE then s
    else (s.setBit (cSTAT n) B_NOCYCLE true).cellEvent n 0xB5
  let base := { c with dc := dc, dcS := dcS, zPrev := some z, armed := armed, recent := recent, recentS := recentS }
  match c.zPrev with
  | some _ =>
    if crosses then
      let b := t - 78125
      let next := { base with crossBase := some b, crossOff := off, armed := false, sumSq := sq, sumSqS := sqS, sumCnt := 1 }
      -- the first crossing after the start or after NOCYCLE clears NOCYCLE and starts a new period
      let first := (s.setCell n { next with period := none, crossPrev := none }).setBit (cSTAT n) B_NOCYCLE false
      match c.crossBase with
      | some pb =>
        if s.bit (cSTAT n) B_NOCYCLE then first
        else
          let tT := crossDiff b off pb c.crossOff
          let cnt := f64ofInt c.sumCnt
          let rms := fsqrt (fdiv c.sumSq cnt)
          let rmsS := fsqrt (fdiv c.sumSqS cnt)
          let freq := fdiv (f64ofInt 1000000000) tT
          let oor := flt (fmul tT (f64ofInt 70)) (f64ofInt 1000000000)
            || flt (f64ofInt 1000000000) (fmul tT (f64ofInt 40))
          let pend : WaveRes := ⟨tz.toNat + 20000, rms, rmsS, freq, tz.toNat, b, off, lastT, oor⟩
          (s.setCell n { next with period := some tT, crossPrev := some (pb, c.crossOff, c.period),
                                   wavePend := some pend }).waveReady n
      | none => first
    else s.setCell n { base with sumSq := fadd c.sumSq sq, sumSqS := fadd c.sumSqS sqS,
                                 sumCnt := c.sumCnt + 1 }
  | none => s.setCell n { base with sumSq := sq, sumSqS := sqS, sumCnt := 1 }

/-- R205: the result made at a multiple of 100 ms while no crossing occurs. -/
def State.noCycle (s : State) (n : Nat) : State :=
  let c := s.cell n
  let rms (l : List F64) : F64 := if l.isEmpty then f0 else fsqrt (fdiv (l.foldl fadd f0) (f64ofInt l.length))
  s.waveResult n (rms c.recent) (rms c.recentS) f0 (s.now - 100000000) s.now none true false

/-! ### Latches (R190, Tables CH-14 and CHO-5) -/

/-- The result registers that a latch of cell `n` takes now: a DI level counts from 1 µs after its acceptance, with all
the items of its result (R203, R208). -/
def State.latchRegs (s : State) (n : Nat) : List Word :=
  let c := s.cell n
  if c.diSeen && decide (s.now < c.diAt + 1000) && !s.bit (cSTAT n) B_SUBST then c.diPrev else s.resultRegs n

/-- The encoding and the goodness of item `i` of cell `n` at a latch now, in the substitute state the substitute VALUE
(R190, R197). -/
def State.latchItem (s : State) (n i : Nat) : Nat × Bool :=
  let mode := s.cellMode n
  let l := s.latchRegs n
  let at_ (k : Nat) : Nat := (l.getD k 0).toNat
  let w := at_ 2
  let good := !w.testBit B_QBAD
  if i = 0 then
    if mode = M_DI ∨ mode = M_DO then (ofBool (at_ 0 != 0), good)
    else (at_ 0, good)
  else if i = 1 then (w, true)
  else if i = 2 then (at_ 3, true)
  else if i = 3 then (at_ 1, good)
  else if i = 4 then
    if isOutMode mode then (s.regN (cOSTAT n), true)
    else (at_ 4, good && !w.testBit B_NOCYCLE && !w.testBit B_FREQ_OOR)
  else if i = 5 then
    if isOutMode mode then (s.regN (cHEAD n), good)
    else (at_ 5, good && !w.testBit B_NOCYCLE && !w.testBit B_FREQ_OOR && !w.testBit B_PAIRBAD)
  else if i = 6 then
    if isOutMode mode then (s.regN (cMON n), s.bit (cOSTAT n) 6)
    else (at_ 6, !w.testBit B_CJBAD && !w.testBit B_STALE && !w.testBit B_SUBST)
  else (at_ 7, !w.testBit B_STALE && !w.testBit B_SUBST)

end Sys2Proof.Machine
end

