-- ==== Sys2Proof/Machine/Outputs.lean ====
section
/-! DEFINITION. Output stages, readback, trim, the compliance case, field faults, substitute states and
monitor mode (07_channel_outputs_diagnostics.md). -/

namespace Sys2Proof.Machine

/-! ### Commands and targets (R224, R240, R242) -/

/-- The physical target of a command, and whether the drive limits clamp it (R224). -/
def physOf (r : List Byte) (x : F64) : F64 × Bool :=
  if crMode r = M_DO then (x, false)
  else
    let p := fadd (nomLo r) (fdiv (fmul (fsub x (crScaleLo r)) (fsub (nomHi r) (nomLo r)))
      (fsub (crScaleHi r) (crScaleLo r)))
    let q := fclamp (limLo r) (limHi r) p
    (q, !feq p q)

/-- A physical value in the command unit (R227, R242). -/
def cmdOf (r : List Byte) (p : F64) : F64 :=
  if crMode r = M_DO then p
  else fadd (crScaleLo r) (fdiv (fmul (fsub p (nomLo r)) (fsub (crScaleHi r) (crScaleLo r)))
    (fsub (nomHi r) (nomLo r)))

/-- SUBST_OVAL as a physical value. -/
def substOval (r : List Byte) : F64 := (physOf r (crF r 24)).1

/-- The physical value of a cell's substitute state (R240). -/
def State.substPhys (s : State) (n : Nat) : F64 :=
  let r := s.cellRec n
  match fieldAt r 5 1 with
  | 0 => (s.cell n).heldP.getD (substOval r)
  | 1 => substOval r
  | _ => f0

/-- A cause of the substitute state is present (R241); STOP, SAFE and fallback act at a commit. -/
def State.subCause (s : State) (n : Nat) : Bool :=
  s.cellIsolated n || s.fieldResetting || (s.mode != RUN) || (s.cell n).fbSubst

/-- Trim points P_LO and P_HI (R230). -/
def trimPoints (r : List Byte) : F64 × F64 :=
  if crMode r = M_AO_I then (f64ofInt 4, f64ofInt 20)
  else if crRange r = 0 then (f64ofInt (-8), f64ofInt 8) else (f64ofInt 1, f64ofInt 9)

/-- M_LO and M_HI in force: the user trim, or the factory trim (R230). -/
def State.trimPair (s : State) (n : Nat) : F64 × F64 :=
  let r := s.cellRec n
  if fieldAt r 66 1 = 1 then (crF r 68, crF r 72) else (Config.factoryTrimLo n, Config.factoryTrimHi n)

/-- The setting of the untrimmed stage for a target (R230). -/
def State.stageSet (s : State) (n : Nat) (p : F64) : F64 :=
  let (pl, ph) := trimPoints (s.cellRec n)
  let (ml, mh) := s.trimPair n
  fadd pl (fdiv (fmul (fsub p ml) (fsub ph pl)) (fsub mh ml))

/-- CHB_CnTRIM.POINT in effect. -/
def TRIM_POINT (n : Nat) : Fld := ⟨cTRIM n, 1, 0⟩

/-- The first applicable line of Table CHO-4 from line 4 on. -/
def State.aimLine (s : State) (n : Nat) : Nat :=
  let c := s.cell n
  if s.cellIsolated n || s.fieldResetting || c.fbSubst || (s.mode == HALT)
    || (c.sub && s.mode != STOP && s.mode != RUN) then 4
  else if s.fld (TRIM_POINT n) != 0 then 5
  else if s.mode == STOP || c.sub then 6
  else 7

/-- The first applicable line of Table CHO-4 (R226). -/
def State.driveLine (s : State) (n : Nat) : Nat :=
  if !s.chan.outLive then 1
  else if (s.cell n).stageFault then 2
  else if !s.exciting then 3
  else s.aimLine n

/-- What a connected stage would drive; a switch that short protection holds off stays off (R237). -/
def State.aimVal (s : State) (n : Nat) : F64 :=
  let c := s.cell n
  let r := s.cellRec n
  match s.aimLine n with
  | 5 => if s.fld (TRIM_POINT n) = 1 then (trimPoints r).1 else (trimPoints r).2
  | 7 => if c.doProt then f0 else c.p
  | _ => if c.doProt then f0 else s.substPhys n

/-- What the stage drives: none when it is unpowered or disconnected. -/
def State.driveVal (s : State) (n : Nat) : Option F64 := if s.driveLine n ≤ 3 then none else some (s.aimVal n)

/-- OSTAT.SRC of the line that applies (Table CHO-4). -/
def State.driveSrc (s : State) (n : Nat) : Nat :=
  match s.driveLine n with
  | 2 => 2 | 3 => 2 | 4 => 1 | 5 => 3 | 6 => 1 | _ => 0

/-- Trim drive ends (R231): event 0x00C8. -/
def State.endTrim (s : State) (n : Nat) : State :=
  if s.fld (TRIM_POINT n) = 0 then s else (s.setFld (TRIM_POINT n) 0).cellEvent n 0xC8

/-- The stage follows the line that applies now; lines 1 to 4 end trim drive (R231), a change of p or of the connection
is dated for R229, and what line 7 drives is held for R240. -/
def State.updDrive (s : State) (n : Nat) : State :=
  let s := if s.driveLine n ≤ 4 then s.endTrim n else s
  let c := s.cell n
  let v := s.driveVal n
  let p := s.aimVal n
  let c := if s.driveLine n = 7 then { c with heldP := some c.p } else c
  s.setCell n (if v = c.driven ∧ p = c.aim then c else { c with driven := v, aim := p, changedAt := s.now })

/-- The output cells of the pattern in force. -/
def State.outCells (s : State) : List Nat :=
  (List.range 32).filter (fun n => isOutMode (s.cellMode n))

/-- The input cells in use. -/
def State.inCells (s : State) : List Nat :=
  (List.range 32).filter (fun n => s.cellMode n != 0 && !isOutMode (s.cellMode n))

/-- Output cell `n` enters its substitute state, with SUBST = 1 and QBAD = 1 (R241), which also ends trim drive. -/
def State.outSub (s : State) (n : Nat) : State :=
  let c := s.cell n
  (((s.setCell n { c with sub := true }).orReg (cSTAT n) (2 ^ B_SUBST + 2)).endTrim n).updDrive n

/-- A commit or sample instant that brings a cell no command ends its substitute state too (R241): it drives the p of its
last command again, if it has had one. -/
def State.endSub (s : State) (n : Nat) : State :=
  let c := s.cell n
  if c.sub && c.taken && !s.subCause n then (s.setCell n { c with sub := false }).updDrive n else s

/-- Every output cell follows a change of mode, power or ownership. -/
def State.updAllDrives (s : State) : State := s.outCells.foldl (fun s n => s.updDrive n) s

/-- Every output cell enters its substitute state. -/
def State.allOutSub (s : State) : State := s.outCells.foldl (fun s n => s.outSub n) s

/-- A command reaches output cell `n` (R224, R225, R241): the end of the substitute state when no cause
is left, and the new target; one that is not finite leaves p. -/
def State.cellCommand (s : State) (n : Nat) (x : F32) : State :=
  let r := s.cellRec n
  let c := s.cell n
  if s.subCause n then s.outSub n
  else if !ffin32 x then
    (((s.setCell n { c with cmdBad := true, sub := false }).setFlag (OERR n 3) true).cellEvent n 0xC9).updDrive n
  else
    let (p, cl) := physOf r (f64of32 x)
    let s := s.setCell n { c with p := p, clamp := cl, cmdBad := false, sub := false, taken := true }
    ((s.setReg (cCMD n) x).setReg (cPHYS n) (f32of64 p)).updDrive n |>.pmcCount 7 0x12 (n / 8) 1

/-- The substitute value that a cell destination reports to Crucible, in the command unit (R162, R238,
R242). -/
def State.cellTrackVal (s : State) (n : Nat) : Option F32 :=
  let c := s.cell n
  let r := s.cellRec n
  if c.stageFault then some (f32of64 (cmdOf r f0))
  else if s.cellIsolated n || s.fieldResetting || s.mode == SAFE then
    some (f32of64 (cmdOf r (s.substPhys n)))
  else none

/-! ### Field faults (R235, Table CHO-7) -/

/-- The conditions given in results, as flag number (0 OPEN, 1 SHORT, 2 REV, 4 LEAD) and presence; `p` is
what the stage drives. A resistance is the measured one, its lead corrected (R194). -/
def ffConds (r : List Byte) (m : Meas) (p : F64) : List (Nat × Bool) :=
  let w := crWiring r
  let x := leadCorrected r m
  match crMode r with
  | 2 =>
    [(2, flt m.prim (milli (-500)))] ++ (if w = 1 then [(0, flt m.prim (milli 200) && m.loopOk)] else [])
  | 3 =>
    [(0, flt (fmul (f64ofRat 5 4) (limHi r)) x), (1, flt (fdiv x (rNom r)) (milli 50)),
      (2, m.senseRev)] ++ (if w = 3 then [(4, flt (f64ofInt 50) m.rab)] else [])
  | 4 =>
    [(0, flt (fmul (f64ofRat 5 4) (limHi r)) x), (1, flt x f1), (2, m.senseRev)]
      ++ (if w = 3 then [(4, flt (f64ofInt 50) m.rab)] else [])
  | 6 =>
    [(0, fle f1 p && flt m.sec (milli 200) && flt m.head (milli 1500))] ++
    (if w = 0 then
      [(1, (flt m.sec (fdiv p (f64ofInt 2)) && flt (f64ofInt 20) m.head)
        || (flt m.vab (milli 100) && fle (f64ofInt 4) p))]
     else [(2, flt m.vad (milli (-500)))])
  | 7 =>
    [(0, !feq (crF r 32) f0 && flt m.head (crF r 32)), (1, m.limited && flt (fabs m.vad) (milli 500))]
  | 9 => [(1, flt (milli 800) m.head)]
  | _ => []

/-- Event code of a field fault flag (Table CHO-7). -/
def ffCode (k : Nat) : Nat := if k = 4 then 0xC7 else 0xC3 + k

/-- A field fault flag set: FFLT, its latched bit, CHB_OERR.FIELD and the event (R235). -/
def State.ffRaise (s : State) (n k : Nat) : State :=
  if s.bit (cFFLT n) k then s
  else
    let s := (s.setBit (cFFLT n) k true).setBit (cFFLT n) (8 + k) true
    ((s.setFlag (OERR n 2) true).orReg (cSTAT n) (2 ^ B_FIELD + 2)).cellEvent n (ffCode k)

/-- A field fault flag cleared. -/
def State.ffDrop (s : State) (n k : Nat) : State := s.setBit (cFFLT n) k false

/-- Element `k` of a list of five counts. -/
def cnt5 (l : List Nat) (k : Nat) : Nat := l.getD k 0
def setCnt5 (l : List Nat) (k v : Nat) : List Nat :=
  (List.range 5).map (fun i => if i = k then v else l.getD i 0)

/-- Results that qualify a condition: three; DO SHORT acts at once (R237). -/
def ffQual (r : List Byte) : Nat := if crMode r = M_DO then 1 else 3

/-- One result's qualification of one condition: set after three, cleared after eight without. -/
def State.ffCount (s : State) (n : Nat) (kc : Nat × Bool) : State :=
  let k := kc.1
  let r := s.cellRec n
  if !crFfEn r k then s
  else
    let c := s.cell n
    if kc.2 then
      let v := cnt5 c.ffSet k + 1
      let s := s.setCell n { c with ffSet := setCnt5 c.ffSet k v, ffClr := setCnt5 c.ffClr k 0 }
      if ffQual r ≤ v then s.ffRaise n k else s
    else
      let v := cnt5 c.ffClr k + 1
      let s := s.setCell n { c with ffSet := setCnt5 c.ffSet k 0, ffClr := setCnt5 c.ffClr k v }
      if 8 ≤ v then s.ffDrop n k else s

/-- The field faults given in results, at one result. -/
def State.ffResults (s : State) (n : Nat) (m : Meas) : State :=
  let p := ((s.cell n).driven).getD f0
  (ffConds (s.cellRec n) m p).foldl (fun s kc => s.ffCount n kc) s

/-! ### Output results (R227 to R234, R245) -/

def COMPLIANCE (n : Nat) : Fld := ⟨cOSTAT n, 0, 0⟩
def OSAT (n : Nat) : Fld := ⟨cOSTAT n, 1, 1⟩
def ORBDEV (n : Nat) : Fld := ⟨cOSTAT n, 4, 4⟩

/-- The readback lies further from `p` than RB_LIM % of the nominal span (R229, R233). -/
def beyondRb (r : List Byte) (a p : F64) : Bool :=
  flt (fdiv (fmul (crF r 28) (nomSpan r)) (f64ofInt 100)) (fabs (fsub a p))

/-- A cell fault of the output stage begins (R238): disconnected, reported, recorded; a primary tells its standby
(R320). -/
def State.stageFail (s : State) (n code : Nat) : State :=
  let c := s.cell n
  let s := s.setCell n { c with stageFault := true, passRun := 0, devRun := 0 }
  let s := (s.setFlag (CFAULT n) true).setFlag (OERR n 0) true
  let s := (s.orReg (cSTAT n) (2 ^ B_SUBST + 2)).cellEvent n code
  let s := if s.isPrimary then s.sendCtrl [9, BitVec.ofNat 8 n] else s
  (s.endTrim n).updDrive n

/-- The measured state of a DO switch (R227, R229): V(A-D) below 2.0 V, and, where the switch is commanded off, a current
above the off leakage of Table CHO-3, without which no load supply is there to tell (DEDUCED, log 54). -/
def doSwitch (m : Meas) (on : Bool) : Bool :=
  flt m.vad (f64ofInt 2) && (on || flt (f64ofRat 20 1000000) m.head)

/-- One result of an output cell. During a trim drive the deviation is that from the trim point (R229; DESIGN CHOICE,
log 85). -/
def State.outputResult (s : State) (n : Nat) (m : Meas) : State :=
  let r := s.cellRec n
  let isDo := crMode r == M_DO
  let (from_, to_) := if isDo then (s.now - 100000, s.now) else s.window r
  let s := s.ffResults n m
  let c := s.cell n
  let exc := s.exciting
  let p := c.driven.getD f0
  let on := feq p f1
  let sw := doSwitch m on
  let settled := decide (c.changedAt + (if isDo then 200000 else 100000) ≤ from_)
  let wasC := s.flag (COMPLIANCE n)
  let comp := exc && c.driven.isSome && (match crMode r with
    | 6 => flt m.head (milli 1500) || (wasC && flt m.head (f64ofInt 2))
    | 7 => m.limited
    | _ => false)
  let sat := comp && beyondRb r m.sec p
  let onset := comp && !wasC
  let s := if onset then ((s.bump (cCMPL n)).setFlag (OERR n 1) true).pmcCount 7 0x13 (n / 8) 1 else s
  let due := match c.cmplAt with
    | none => true
    | some t => decide (t + 10 * NS ≤ s.now)
  let s := if onset && due then (s.setCell n { s.cell n with cmplAt := some s.now }).cellEvent n 0xC2
    else s
  let field := s.anyField n
  let live := exc && c.driven.isSome
  let dev := live && !field && (if isDo then sw != on else !comp && beyondRb r m.sec p)
  let rbdev := if settled && live then dev else s.flag (ORBDEV n)
  let run := if !(settled && live) then c.devRun else if dev then c.devRun + 1 else 0
  let s := s.setCell n { s.cell n with devRun := run }
  let monv := !exc && settled && !field
  let mon := if exc then f0 else if isDo then (if flt m.vad (f64ofInt 2) then f1 else f0)
    else cmdOf r m.mon
  let val := if isDo then (if sw then f1 else f0) else cmdOf r m.sec
  let ostat := statWord [(0, comp), (1, sat), (2, c.clamp), (3, c.cmdBad), (4, rbdev), (5, live),
    (6, monv), (7, s.fld (TRIM_POINT n) != 0), (10, fieldAt r 66 1 == 1), (11, c.doProt)]
    + s.driveSrc n * 256
  let w := statWord [(B_VALID, s.wholeWindow n from_), (B_SUBST, c.sub || c.stageFault), (B_PASSIVE, !exc),
    (B_HANDOVER, s.inHandover from_ to_), (B_FIELD, field)]
  let sar := if isDo then m.vad else m.sec
  let s := s.putResult n ⟨f32of64 val, f32of64 m.vad, w, ts32Of to_, 0, 0, 0, f32of64 sar⟩
  let s := s.putWords (cOSTAT n) [BitVec.ofNat 32 ostat, f32of64 m.head, f32of64 mon]
  if 3 ≤ run ∧ !c.stageFault then s.stageFail n 0xC0 else s

/-- CELL_RESULT: a ready instant of a cell on a grid (R194, R227). -/
def State.cellResult (s : State) (n : Nat) (m : Meas) : State :=
  let r := s.cellRec n
  let mode := crMode r
  if !s.delivers n then s
  else
    let s := s.windowEnds n
    if isGridIn mode then (s.ffResults n m).inputResult n m
    else if mode = M_AO_I ∨ mode = M_AO_V then s.outputResult n m
    else s

/-- DO_RESULT: every 100 µs (R227). -/
def State.doResult (s : State) (n : Nat) (m : Meas) : State :=
  if s.delivers n && s.cellMode n == M_DO then s.outputResult n m else s

/-! ### Stage tests, short protection, trim drive (R231, R237, R238) -/

/-- One stage test of a disconnected stage: readback at P_LO and P_HI, or the switch states on and off;
`cool`: the stage is 20 K below its limit. -/
def State.stageTest (s : State) (n : Nat) (lo hi : F64) (swOn swOff cool : Bool) : State :=
  let r := s.cellRec n
  let c := s.cell n
  if !c.stageFault then s
  else
    let s := if cool then s.setBit (cFFLT n) 5 false else s
    let (pl, ph) := trimPoints r
    let pass := if crMode r = M_DO then swOn && !swOff else !beyondRb r lo pl && !beyondRb r hi ph
    let run := if pass then c.passRun + 1 else 0
    let s := s.setCell n { c with passRun := run }
    if 8 ≤ run ∧ !s.bit (cFFLT n) 5 then
      let c := s.cell n
      ((s.setCell n { c with stageFault := false, passRun := 0, devRun := 0 }).setFlag (CFAULT n) false).updDrive n
    else s

/-- Over-temperature of the stage (R238). -/
def State.overTemp (s : State) (n : Nat) : State :=
  if s.bit (cFFLT n) 5 then s
  else ((s.setBit (cFFLT n) 5 true).setBit (cFFLT n) 13 true).stageFail n 0xC1

/-- DO SHORT: the switch turns off (R237). -/
def State.doShort (s : State) (n : Nat) : State :=
  let c := s.cell n
  if s.cellMode n == M_DO && c.driven == some f1 then
    let s := (s.setCell n { c with doProt := true }).updDrive n
    if crFfEn (s.cellRec n) 1 then
      let c := s.cell n
      (s.setCell n { c with ffClr := setCnt5 c.ffClr 1 0 }).ffRaise n 1
    else s
  else s

/-- DO_RETRY: the switch turns on again while commanded (R237). -/
def State.doRetry (s : State) (n : Nat) : State :=
  let c := s.cell n
  if c.doProt then (s.setCell n { c with doProt := false }).updDrive n else s

/-- A write of CHB_CnTRIM.POINT (R231). -/
def State.trimWrite (s : State) (n point : Nat) : State :=
  let m := s.cellMode n
  if point = 1 ∨ point = 2 then
    if s.mode == STOP && (m == M_AO_I || m == M_AO_V) && s.exciting && decide (5 ≤ s.driveLine n) then
      let started := s.fld (TRIM_POINT n) == 0
      let s := s.setFld (TRIM_POINT n) point
      (if started then s.cellEvent n 0xC8 else s).updDrive n
    else s
  else if s.mode = STOP then (s.endTrim n).updDrive n
  else s

/-- Trim drive ends on leaving STOP (R231). -/
def State.endAllTrim (s : State) : State := s.outCells.foldl (fun s n => (s.endTrim n).updDrive n) s

/-! ### Open-wire test and field faults given in time (R235, R236) -/

/-- The open-wire test of an AI_V or TC cell: OPEN on a change above 50 mV; eight tests without clear it
(DEDUCED, log 13). -/
def State.openWire (s : State) (n : Nat) (before after : F64) : State :=
  let r := s.cellRec n
  if fieldAt r 65 1 = 1 ∧ (crMode r = M_AI_V ∨ crMode r = M_TC) ∧ s.delivers n then
    let c := s.cell n
    if flt (milli 50) (fabs (fsub after before)) then
      let s := s.setCell n { c with ffClr := setCnt5 c.ffClr 0 0 }
      if crFfEn r 0 then s.ffRaise n 0 else s
    else
      let v := cnt5 c.ffClr 0 + 1
      let s := s.setCell n { c with ffClr := setCnt5 c.ffClr 0 v }
      if 8 ≤ v then s.ffDrop n 0 else s
  else s

/-- The checks of Table CHO-7 given in time for a mode and wiring. -/
def ffTimed (r : List Byte) (k : Nat) : Bool :=
  match crMode r with
  | 1 => k == 3
  | 5 => k == 3
  | 2 => k == 3 || (k == 1 && crWiring r == 1)
  | 3 => k == 3
  | 4 => k == 3
  | 6 => k == 3
  | 7 => k == 3
  | 8 => k == 2 || k == 3
  | 9 => k == 0 || k == 2 || k == 3
  | _ => false

/-- A condition given in time has persisted for its duration, or has been absent for 1 s (R235). -/
def State.ffTimeout (s : State) (n k : Nat) (present : Bool) : State :=
  let r := s.cellRec n
  if crFfEn r k && ffTimed r k && s.delivers n then
    if present then s.ffRaise n k else s.ffDrop n k
  else s

/-! ### Start and stop of the cells (R48, R213, R214, R249) -/

/-- A channel block's MODE and RANGE registers from the pattern (R7, Table CH-19). -/
def State.loadChbRegs (s : State) (b : Nat) : State :=
  let one (o : Nat) (k : Nat) := (List.range 4).map (fun i => BitVec.ofNat 8 (fieldAt (s.cellRec (8 * b + 4 * k + i)) o 1))
  s.putWords (cbreg b 8) (toWords (one 0 0 ++ one 0 1 ++ one 1 0 ++ one 1 1))

/-- Converters that are powered continuously (R23, R192), those of a DI cell and a DO cell among them (DESIGN CHOICE,
log 35). -/
def alwaysOn (r : List Byte) : Bool :=
  let m := crMode r
  m == M_WAVE || m == M_AO_I || m == M_AO_V || m == M_DI || m == M_DO
    || (isGridIn m && !windowed r)

/-- CELL_POWER_ON (R192): the converters of a cell that is not powered continuously go on 20 µs before their window, until
its end. -/
def State.cellPowerOn (s : State) (n : Nat) : State :=
  let r := s.cellRec n
  if s.delivers n && windowed r then
    (s.setCell n { s.cell n with convEnd := s.now + (20 + windowLen r) * 1000 }).setFlag (CONV n) true
  else s

/-- CHB_STAT of block `b` as it is read: the CONV bit of a window that has ended is 0 already before its result
(R192). -/
def State.chbStat (s : State) (b : Nat) : Nat :=
  (List.range 8).foldl (fun w i =>
    if w.testBit (16 + i) && windowed (s.cellRec (8 * b + i)) && decide ((s.cell (8 * b + i)).convEnd ≤ s.now)
    then w - 2 ^ (16 + i) else w) (s.regN (cbreg b 0))

/-- CELL_REINIT (R215): a cell faulted for want of results re-initialises itself: its filter and its counts of results
start anew. -/
def State.cellReinit (s : State) (n : Nat) : State :=
  let c := s.cell n
  if s.flag (CFAULT n) && !c.stageFault then
    s.setCell n { c with y := none, missRun := 0, divRun := 0, divOk := 0, recov := 0 }
  else s

/-- The cells of block `b` begin as after a restart, with the pattern's settings; `powered`: their power has stayed on,
so the p last driven from line 7 stays (R240). Trim drive ends (R231). -/
def State.startBlock (s : State) (b : Nat) (powered : Bool) : State :=
  let s := (List.range 8).foldl (fun s i => s.endTrim (8 * b + i)) s
  let s := s.clearRegs (cbreg b 0) (cbreg b 0x10000)
  let s := (List.range 8).foldl (fun s i =>
    let c := s.cell (8 * b + i)
    s.setCell (8 * b + i) { CellSt.reset with convAt := s.now, heldP := if powered then c.heldP else none }) s
  let s := s.loadChbRegs b
  (List.range 8).foldl (fun s i =>
    let n := 8 * b + i
    let s := if alwaysOn (s.cellRec n) then s.setFlag (CONV n) true else s
    s.updDrive n) s

/-- Conversion and output stages start at the end of drag-plane start. -/
def State.startCells (s : State) : State :=
  let s := { s with chan := { s.chan with conv := true, outLive := true } }
  (List.range 4).foldl (fun s b => s.startBlock b false) s

/-- The converters of block `b` are not powered. -/
def State.convOff (s : State) (b : Nat) : State := s.setFld ⟨cbreg b 0, 23, 16⟩ 0

/-- Conversion stops; registers and latches keep the last result (R213). -/
def State.stopConversion (s : State) : State :=
  (List.range 4).foldl (fun s b => s.convOff b) { s with chan := { s.chan with conv := false } }

/-- Every cell unpowered (R248): a Riser save or a reset. -/
def State.unpowerCells (s : State) : State :=
  let s := s.stopConversion
  ({ s with chan := { s.chan with outLive := false } }).updAllDrives

/-- The eight cells of a block enter their substitute states (R197, R241). -/
def State.blockSubst (s : State) (b : Nat) : State :=
  (List.range 8).foldl (fun s i =>
    let n := 8 * b + i
    if s.cellMode n = 0 then s
    else if isOutMode (s.cellMode n) then s.outSub n
    else s.inSubst n) (s.convOff b)

end Sys2Proof.Machine
end

