-- ==== Sys2Proof/Machine/Safety.lean ====
section
/-! DEFINITION. The safety processor, the Foxglove lattice, the safety I/O front end and the safety
configuration (08_safety_architecture.md, 09_safety_io_configuration.md). -/

namespace Sys2Proof.Machine

/-! ### Registers and masks -/

def SAF_STATE : Fld := ⟨0x20200000, 2, 0⟩
def SAF_SAFEDEM : Fld := ⟨0x20200000, 3, 3⟩
abbrev SAF_ERR : Nat := 0x20200004
abbrev SAF_CYCLES : Nat := 0x20200028
def FOX_LOCKED : Fld := ⟨0x20210000, 0, 0⟩
def FOX_UNCONF : Fld := ⟨0x20210000, 1, 1⟩
def FOX_SUPTRIP : Fld := ⟨0x20210000, 2, 2⟩
def RUN_OWN : Fld := ⟨0x20300000, 7, 7⟩
def PL_PRESENT : Fld := ⟨0x2030000C, 4, 4⟩

/-- States of Table SAF-7. -/
abbrev S_OFF : Nat := 0
abbrev S_SELFTEST : Nat := 1
abbrev S_CONFIG : Nat := 2
abbrev S_OPERATE : Nat := 3
abbrev S_FAILSAFE : Nat := 4

/-- Bits of SAF_ERR (Table SIO-15). -/
abbrev SE_MSGWD : Nat := 0
abbrev SE_SUPPLY : Nat := 1
abbrev SE_SDITEST : Nat := 2
abbrev SE_PAIRDISC : Nat := 3
abbrev SE_TPFAULT : Nat := 4
abbrev SE_SDOFAULT : Nat := 5
abbrev SE_OVERCUR : Nat := 6
abbrev SE_PWFAIL : Nat := 7
abbrev SE_LFLOW : Nat := 8

abbrev SAF_LOC : Nat := 0xBFF
abbrev FOX_LOC : Nat := 0xC7F

/-- Bit `i` of a mask set to `b`. -/
def nbit (v i : Nat) (b : Bool) : Nat := if v.testBit i = b then v else v ^^^ 2 ^ i

/-- A table of counts. -/
def cget (t : Tbl Nat) (i : Nat) : Nat := tblGet (fun _ => 0) t i
def cset (t : Tbl Nat) (i v : Nat) : Tbl Nat := tblPut (fun _ => 0) t i [v]
/-- A table of optional numbers. -/
def oget (t : Tbl (Option Nat)) (i : Nat) : Option Nat := tblGet (fun _ => none) t i
def oset (t : Tbl (Option Nat)) (i : Nat) (v : Option Nat) : Tbl (Option Nat) := tblPut (fun _ => none) t i [v]

def State.safState (s : State) : Nat := s.saf.st

/-- Every event of the safety processor and the front end goes through Q51, whatever its location code
(08_safety_architecture.md, 09_safety_io_configuration.md). -/
def State.safEvent (s : State) (code loc : Nat) (payload : List Byte) : State :=
  s.qOffer 51 (q50Entry code loc (s.flag MGD_STAT_SYNC) s.now payload)

/-- A processor state change (Table SAF-13). SAF_STAT.STATE follows in the output phase of the next cycle (R296); a
state in which no cycle runs is written at once (DEDUCED, log 55). -/
def State.setSafState (s : State) (st : Nat) : State :=
  if s.safState = st then s
  else
    let s : State := { s with saf := { s.saf with st := st } }
    (if st = S_CONFIG ∨ st = S_OPERATE then s else s.setFld SAF_STATE st).safEvent 0xD0 SAF_LOC []

/-- FAILSAFE: a self-test failure, a lattice mismatch or an internal fault of the safety region (Table SAF-7). -/
def State.safFail (s : State) : State := if s.safState = S_OFF then s else s.setSafState S_FAILSAFE

def State.safErr (s : State) (b : Nat) : State :=
  { s with saf := { s.saf with err := s.saf.err ||| 2 ^ b } }

/-- PAIR_PRESENT: a second module shares the terminals. -/
def State.pairPresent (s : State) : Bool := !s.flag PL_PRESENT

/-- The module holds ownership of the safety outputs (R255); one without a partner always does. -/
def State.ownsSafety (s : State) : Bool := s.flag RUN_OWN || !(s.flag RUN_PAIRED || s.pairPresent)

/-- The safety processor runs safety cycles. -/
def State.safRuns (s : State) : Bool := s.safState == S_CONFIG || s.safState == S_OPERATE

/-! ### SAFETY section as loaded (Tables SIO-4 to SIO-9) -/

def sdiRec (c : List Byte) (n : Nat) : List Byte := slice c (64 + 8 * n) 8
def sdoRec (c : List Byte) (n : Nat) : List Byte := slice c (208 + 16 * n) 16
def sdoUsed (c : List Byte) (n : Nat) : Bool := fieldAt (sdoRec c n) 0 1 == 1
def tDisc (c : List Byte) (n : Nat) : Nat := fieldAt (sdoRec c n) 12 4
def tpEn (c : List Byte) (k : Nat) : Bool := fieldAt c (192 + 4 * k) 1 == 1
def stmtCount (c : List Byte) : Nat := fieldAt c 6 2
def funcCount (c : List Byte) : Nat := fieldAt c 4 1
def stmtRec (c : List Byte) (i : Nat) : List Byte := slice c (816 + 16 * funcCount c + 16 * i) 16

/-! ### Foxglove (R256 to R261) -/

/-- T_nom of timer `t` of the locked lattice, ns (R259). -/
def State.tmrNom (s : State) (t : Nat) : Nat :=
  let w := s.regN (0x20210280 + 4 * t)
  bitsOf w 23 16 * 10 ^ bitsOf w 31 24 * 100000

/-- A source of Table SAF-4 by its code. -/
def Fox.source (f : Fox) (c : Nat) : Bool :=
  if c < 18 then f.src.testBit c
  else if 0x20 ≤ c ∧ c < 0x50 then f.elem.testBit (c - 0x20)
  else if 0x50 ≤ c ∧ c < 0x60 then f.tmr.testBit (c - 0x50)
  else c == 0xFF

/-- A logic element of the locked lattice: FUNC, NIN, INV and sources. -/
structure Elem where
  func : Nat
  nin : Nat
  inv : Nat
  srcs : List Nat
  deriving DecidableEq, Repr

def State.elemCfg (s : State) (e : Nat) : Elem :=
  let lo := s.regN (0x20210100 + 8 * e)
  let hi := s.regN (0x20210104 + 8 * e)
  ⟨bitsOf lo 7 0, bitsOf lo 15 8, bitsOf lo 23 16,
    [bitsOf hi 7 0, bitsOf hi 15 8, bitsOf hi 23 16, bitsOf hi 31 24]⟩

/-- The used inputs of an element after inversion. -/
def Elem.inputs (x : Elem) (f : Fox) : List Bool :=
  (List.range (min x.nin 4)).map (fun i => (f.source (x.srcs.getD i 0xFD)).xor (x.inv.testBit i))

/-- Table SAF-2. -/
def Elem.eval (x : Elem) (f : Fox) (old : Bool) : Bool :=
  let v := x.inputs f
  match x.func with
  | 0 => v.all id
  | 1 => v.any id
  | 2 => decide (2 ≤ v.countP id)
  | 3 => (v.getD 0 false).xor (v.getD 1 false)
  | 4 => !v.getD 1 false && (v.getD 0 false || old)
  | 5 => v.getD 0 false || (old && !v.getD 1 false)
  | _ => false

/-- One pass over the elements; `latch` selects the latches, which all change from the same values, or
the others. -/
def Fox.pass (es : List (Nat × Elem)) (latch : Bool) (f : Fox) : Fox :=
  let step (g : Fox) (ex : Nat × Elem) : Fox :=
    if (ex.2.func == 4 || ex.2.func == 5) = latch then
      let from_ := if latch then f else g
      { g with elem := nbit g.elem ex.1 (ex.2.eval from_ (f.elem.testBit ex.1)) }
    else g
  es.foldl step f

/-- Combinational elements settled, latches and timers held. -/
def Fox.comb (es : List (Nat × Elem)) : Nat → Fox → Fox
  | 0, f => f
  | n + 1, f =>
    let g := f.pass es false
    if g.elem = f.elem then f else Fox.comb es n g

/-- A timer follows its input (Table SAF-3); `m` is the monotonic time. What makes an early end good: a new pulse of a
PULSE timer, any change of the input of the others (R266). -/
def timerStep (mode : Nat) (m t : Nat) (x : Bool) (f : Fox) : Fox :=
  let was := f.tin.testBit t
  let out := f.tmr.testBit t
  let ends := if mode = 2 then x && !was && (oget f.started t).isNone else x != was
  let f' := { f with tin := nbit f.tin t x, early := if ends then oset f.early t none else f.early }
  let stop (g : Fox) (b : Bool) : Fox := { g with tmr := nbit g.tmr t b, started := oset g.started t none }
  let start (g : Fox) (b : Bool) : Fox := { g with tmr := nbit g.tmr t b, started := oset g.started t (some m) }
  match mode with
  | 0 => if !x then stop f' false else if !was then start f' false else f'
  | 1 => if x then stop f' true else if was && out then start f' true else f'
  | 2 => if x && !was && (oget f.started t).isNone then start f' true else f'
  | _ => f'

/-- Every used timer follows its input. -/
def Fox.timers (cfg : List (Nat × Nat × Nat)) (m : Nat) (f : Fox) : Fox :=
  cfg.foldl (fun g c => timerStep c.2.1 m c.1 (f.source c.2.2) g) f

/-- The lattice settled after a change (R260): combinational elements first, then the latches and timers
together, until nothing changes. DEDUCED: log 14. -/
def Fox.settle (es : List (Nat × Elem)) (ts : List (Nat × Nat × Nat)) (m : Nat) : Nat → Fox → Fox
  | 0, f => f
  | n + 1, f =>
    let g := f.comb es 48
    let h := (g.pass es true)
    let t := g.timers ts m
    let h := { t with elem := h.elem }
    if h = g then g else Fox.settle es ts m n h

/-- Used elements, timers (mode and source) and sinks (source and inversion) of the locked lattice. -/
def State.foxElems (s : State) : List (Nat × Elem) :=
  ((List.range 48).map (fun e => (e, s.elemCfg e))).filter (fun x => x.2.func ≤ 5 && 0 < x.2.nin)
def State.foxTimers (s : State) : List (Nat × Nat × Nat) :=
  ((List.range 16).map (fun t => (t, s.regN (0x20210280 + 4 * t)))).filterMap (fun x =>
    if bitsOf x.2 7 0 ≤ 2 ∧ 0 < bitsOf x.2 23 16 then some (x.1, bitsOf x.2 7 0, bitsOf x.2 15 8) else none)
def State.foxSink (s : State) (f : Fox) (i : Nat) : Bool :=
  let w := s.regN (0x202102C0 + 4 * i)
  (f.source (bitsOf w 7 0)).xor (w.testBit 8) && bitsOf w 7 0 != 0xFD

/-! ### Switches of the outputs (R255, R278, R280, R282) -/

/-- The front end is stopped: by R255 and R287, by its own block fault, or with the field region held in reset
(R16, Table SYS-2). -/
def State.frontDead (s : State) : Bool :=
  s.saf.stopped || s.bit 0x20000028 4 || s.fld ⟨0x20000020, 1, 0⟩ == 1

/-- The switches follow the channel commands, ownership, the stops and the pulse gate. A switch that has
to close on the high side waits for the pre-energise test. -/
def State.updSwitch (s : State) (n : Nat) : State :=
  let z := s.saf
  let free := s.ownsSafety && !z.fault.testBit n && !s.frontDead
  let h := z.hs.testBit n && free && !z.supTrip
  let l := s.fox.sink.testBit n && free
  let hs := z.hsSw.testBit n && h
  let changed := l != z.lsSw.testBit n || hs != z.hsSw.testBit n
  let pulse := match z.pulse with
    | some p => if p.1 = n ∧ !(h && l) then none else z.pulse
    | none => none
  let pre := if h && l && !hs then (match oget z.preAt n with | some t => some t | none => some s.mono) else none
  { s with saf := { z with
      hsSw := nbit z.hsSw n hs, lsSw := nbit z.lsSw n l, pulse := pulse,
      preAt := oset z.preAt n pre,
      chgAt := if changed then cset z.chgAt n s.mono else z.chgAt } }

def State.updSwitches (s : State) : State := (List.range 8).foldl (fun s n => s.updSwitch n) s

/-- The lattice takes new sources or a timer change, and its sinks follow (R260, Table SAF-5). -/
def State.foxUpdate (s : State) (f : Fox) : State :=
  let f :=
    if s.flag FOX_LOCKED && !s.flag FOX_SUPTRIP then
      let g := f.settle s.foxElems s.foxTimers s.mono 66
      { g with sink := (List.range 10).foldl (fun w i => nbit w i (s.foxSink g i)) 0 }
    else { Fox.reset with src := f.src, raw := f.raw }
  ({ s with fox := f }).updSwitches

/-- FOX_OUT `k` conducts: the lattice drives sink 8 + k; open on an inactive module (R477). -/
def State.foxOut (s : State) (k : Nat) : Bool := s.up && s.fox.sink.testBit (8 + k)

/-- What the lattice sees of the levels `raw`: with the front end stopped, isolated or held in reset every SDI is a
demand; the loop inputs of X1 stay (Table SYS-2, R287). -/
def State.foxSees (s : State) (raw : Nat) : Nat := if s.frontDead then raw / 2 ^ 16 % 4 * 2 ^ 16 else raw

/-- LATTICE_SOURCE_CHANGE: the comparators and loop inputs as they are now. -/
def State.latticeSource (s : State) (src : Nat) : State :=
  let raw := src % 2 ^ 18
  s.foxUpdate { s.fox with raw := raw, src := s.foxSees raw }

/-- The lattice and the switches follow the loss or the return of the front end. -/
def State.frontUpdate (s : State) : State := s.foxUpdate { s.fox with src := s.foxSees s.fox.raw }

/-- LATTICE_TIMER_EXPIRY: a running RC timer reaches its time. -/
def State.latticeTimer (s : State) (t : Nat) : State :=
  match oget s.fox.started t with
  | none => s
  | some a =>
    let out := bitsOf (s.regN (0x20210280 + 4 * t)) 7 0 == 0
    let e := a + s.tmrNom t * 9 / 10
    s.foxUpdate { s.fox with
      tmr := nbit s.fox.tmr t out
      started := oset s.fox.started t none
      early := if s.mono < e then oset s.fox.early t (some e) else s.fox.early }

/-- Latches and timers back to their start state (R259, R261, Table SAF-5). The input of a PULSE timer that stands at 1
as the lattice starts has made no change. -/
def State.foxRestart (s : State) : State :=
  let f : Fox := { Fox.reset with src := s.foxSees s.fox.raw, raw := s.fox.raw }
  let g := f.comb s.foxElems 48
  let tin := s.foxTimers.foldl (fun w c => if c.2.1 = 2 then nbit w c.1 (g.source c.2.2) else w) 0
  s.foxUpdate { f with tin := tin }

/-- The element, timer and sink bytes of a SAFETY section as the FOX configuration registers hold them
(Table SIO-16); an empty section gives an empty lattice (R261). -/
def foxConfigWords (c : List Byte) : List Word × List Word × List Word :=
  if c.isEmpty then
    (((List.range 48).map (fun _ => [(0x000000FF : Word), 0xFDFDFDFD])).flatten,
      List.replicate 16 0x0000FDFF, List.replicate 10 0x000000FD)
  else
    (toWords (slice c 336 384), toWords (slice c 720 64),
      (List.range 10).map (fun i => BitVec.ofNat 32 (fieldAt c (784 + 2 * i) 2)))

/-- The one-time configuration and lock (R261); `readback`: the mirror returns what was written. -/
def State.foxConfigure (s : State) (c : List Byte) (readback : Bool) : Bool × State :=
  if s.flag FOX_LOCKED then (true, s)
  else if !readback then (false, s)
  else
    let (e, t, k) := foxConfigWords c
    let s := ((s.putWords 0x20210100 e).putWords 0x20210280 t).putWords 0x202102C0 k
    let s := (s.setFlag FOX_LOCKED true).setFlag FOX_UNCONF false
    (true, s.foxRestart)

/-- FOX_SRC_READ: the five mirror registers captured together (R297). -/
def State.foxCapture (s : State) : State :=
  let f := s.fox
  s.putWords 0x20210004 [BitVec.ofNat 32 f.src, BitVec.ofNat 32 f.elem, BitVec.ofNat 32 (f.elem / 2 ^ 32),
    BitVec.ofNat 32 f.tmr, BitVec.ofNat 32 f.sink]

/-- The model of the lattice differs from the mirror: a timer outside 0.9 to 1.1 T_nom plus two cycles
(R266). -/
def State.timerMismatch (s : State) : Bool :=
  (List.range 16).any (fun t =>
    (match oget s.fox.started t with
      | some a => decide (a + s.tmrNom t * 11 / 10 + 2000000 < s.mono)
      | none => false) ||
    (match oget s.fox.early t with
      | some e => decide (s.mono < e)
      | none => false))

/-! ### Start, stop and supply of the channels (Table SAF-7, R257, R287) -/

/-- The stop of R255 and R287: TP high impedance, every switch open, every SDI a demand. -/
def State.safStop (s : State) : State := ({ s with saf := { s.saf with stopped := true } }).frontUpdate

/-- The processor goes OFF: its demand ends (R265), and the front end stops (Table SAF-7). -/
def State.safDown (s : State) : State :=
  let s := if s.saf.safeDem then ({ s with saf := { s.saf with safeDem := false } }).safEvent 0xD6 SAF_LOC [] else s
  (s.setSafState S_OFF).safStop

/-- The safety region as a reset leaves it: processor OFF, faults and LOCKs clear, latches and timers at
their start state; the safety-owned records, the configuration and the lock stay, and so do a supply outside its limits (R257) and a low
L+F (R288). -/
def State.safOff (s : State) : State :=
  let s := s.safDown
  let s := { s with saf := { Saf.reset with supTrip := s.saf.supTrip, lfLow := s.saf.lfLow } }
  let s := s.clearRegs 0x20200004 0x20200034
  s.foxRestart

/-- The module leaves reset: the safety processor starts its self-test (Table SAF-7). -/
def State.safBoot (s : State) : State :=
  (({ s with saf := { Saf.reset with stopped := false, supTrip := s.saf.supTrip, lfLow := s.saf.lfLow } }).setSafState
    S_SELFTEST).foxRestart

/-- SAFETY_SELFTEST_DONE: CONFIG, or FAILSAFE when test `fail` failed. -/
def State.safSelftest (s : State) (fail : Option Nat) : State :=
  if s.safState ≠ S_SELFTEST then s
  else
    match fail with
    | none => ({ s with saf := { s.saf with cfgAt := s.mono } }).setSafState S_CONFIG
    | some t =>
      let s := s.setSafState S_FAILSAFE
      { s with saf := { s.saf with test := t } }

/-- SUPPLY_SUPERVISOR_TRIP of the safety channel (`lat` false) or of the lattice (R257). -/
def State.supplyTrip (s : State) (lat : Bool) : State :=
  let loc := if lat then FOX_LOC else SAF_LOC
  let s := (s.safErr SE_SUPPLY).safEvent 0xD8 loc []
  if lat then (s.setFlag FOX_SUPTRIP true).foxRestart
  else ({ s with saf := { s.saf with supTrip := true } }).updSwitches

/-- SUPPLY_SUPERVISOR_RECOVER: within limits for 10 ms. -/
def State.supplyRecover (s : State) (lat : Bool) : State :=
  if lat then (s.setFlag FOX_SUPTRIP false).foxRestart
  else ({ s with saf := { s.saf with supTrip := false } }).updSwitches

/-- The safety processor loads its parts in CONFIG, the program cold (R291, Table SAF-7); a demand that the old program had
set ends (R265). Test faults, pair faults, output faults and LOCKs stand, and what counts towards their end goes on: the
load is none of the ways in which they end (R268, R273 to R275, R282, R283, R287; DEDUCED, log 86). -/
def State.safLoad (s : State) (c : List Byte) : State :=
  let z := { s.saf with
    cfg := c, loaded := true, vars := 0, stmt := [], disc := [], static := [], chgAt := [], hs := 0, hsSw := 0, lsSw := 0,
    preAt := [], pulse := none, mism := 0, safeDem := false, test := 0, q63 := [], q63At := 0, inBits := 0, sseq := [] }
  let was := s.saf.safeDem
  let s := ({ s with saf := z }).updSwitches
  if was then s.safEvent 0xD6 SAF_LOC [] else s

/-- OPERATE, at drag-plane start or at once when it has started. -/
def State.safOperate (s : State) : State :=
  if s.safState = S_CONFIG then s.setSafState S_OPERATE else s

/-! ### Faults of inputs and outputs -/

/-- An output fault (R282) of kind `k`. -/
def State.outFault (s : State) (n k : Nat) : State :=
  let z := s.saf
  let s := { s with saf := { z with
    fault := nbit z.fault n true, hs := nbit z.hs n false, static := cset z.static n 0,
    ovc := nbit z.ovc n (z.ovc.testBit n || k == 5) } }
  let s := (s.safErr SE_SDOFAULT).safEvent 0xDC (0x218 + n) [BitVec.ofNat 8 k]
  s.updSwitches

/-- A test fault of an SDI (R274); the passing schedules that end it count from now on. -/
def State.sdiFail (s : State) (n : Nat) : State :=
  let z := s.saf
  if z.sdiFault.testBit n then s
  else
    (({ s with saf := { z with sdiFault := nbit z.sdiFault n true, sdiPass := cset z.sdiPass n 0 } }).safErr
      SE_SDITEST).safEvent 0xD9 (0x200 + n) []

/-- Test verdicts are taken: owned, L+F not low, 20 ms after ownership was taken (R286, R288). -/
def State.verdicts (s : State) : Bool :=
  s.safRuns && s.ownsSafety && !s.saf.lfLow && !s.frontDead && decide (s.saf.ownAt + 20000000 ≤ s.mono)

/-- What a test-pulse source does (R273, R286, R287). -/
inductive TpDrive where
  | highZ
  | off
  | on
  deriving DecidableEq, Repr

/-- The drive of TP `k` now: at high impedance in a module that does not own the safety outputs, that is stopped, or
whose safety processor has not reached CONFIG; off with TP_EN = 0 and in its pulse, 300 µs from k x 2.5 ms on in every
10 ms. The schedule begins with CONFIG, or 20 ms after ownership was taken; its SAF time is counted on the monotonic
time (DEDUCED, log 56). -/
def State.tpDrive (s : State) (k : Nat) : TpDrive :=
  let begin_ := max s.saf.cfgAt (s.saf.ownAt + 20000000)
  let at_ := (s.mono - begin_) % 10000000
  if s.frontDead || !s.ownsSafety || !s.safRuns then .highZ
  else if !tpEn s.saf.cfg k then .off
  else if begin_ ≤ s.mono ∧ k * 2500000 ≤ at_ ∧ at_ < k * 2500000 + 300000 then .off
  else .on

/-- One schedule's verdict on TP `k`; `bad`: its read-back was wrong, below L+F - 3 V while high or above 5 V while off,
which a source with TP_EN = 0 stays (R273). -/
def State.tpVerdict (s : State) (k : Nat) (bad : Bool) : State :=
  let z := s.saf
  let f := if bad then cget z.tpFail k + 1 else 0
  let p := if bad then 0 else cget z.tpPass k + 1
  let s := { s with saf := { z with tpFail := cset z.tpFail k (min f 2), tpPass := cset z.tpPass k (min p 10) } }
  if 2 ≤ f ∧ !z.tpFault.testBit k then
    (({ s with saf := { s.saf with tpFault := nbit s.saf.tpFault k true } }).safErr SE_TPFAULT).safEvent 0xDB
      (0x210 + k) []
  else if 10 ≤ p then { s with saf := { s.saf with tpFault := nbit s.saf.tpFault k false } }
  else s

/-- One schedule's verdict on SDI `n`; `w` holds its sample in each of the four pulse windows (R274). -/
def State.sdiVerdict (s : State) (n : Nat) (w : Nat → Bool) : State :=
  let tp := fieldAt (sdiRec s.saf.cfg n) 1 1
  if fieldAt (sdiRec s.saf.cfg n) 0 1 = 0 ∨ 3 < tp then s
  else
    let pass := (List.range 4).all (fun k => w k == (k != tp)) || (List.range 4).all (fun k => !w k)
    let z := s.saf
    let f := if pass then 0 else cget z.sdiFail n + 1
    let p := if pass then cget z.sdiPass n + 1 else 0
    let s := { s with saf := { z with sdiFail := cset z.sdiFail n (min f 2), sdiPass := cset z.sdiPass n (min p 10) } }
    if 2 ≤ f ∨ z.tpFault.testBit tp then s.sdiFail n
    else if 10 ≤ p then { s with saf := { s.saf with sdiFault := nbit s.saf.sdiFault n false } }
    else s

/-- TP_SCHEDULE: the samples of the raw comparators in the windows of TP0 to TP3 and the read-backs. -/
def State.tpSchedule (s : State) (w : Nat → Nat) (bad : Nat) : State :=
  if s.verdicts then
    let s := (List.range 4).foldl (fun s k => s.tpVerdict k (bad.testBit k)) s
    (List.range 16).foldl (fun s n => s.sdiVerdict n (fun k => (w k).testBit n)) s
  else s

/-- PRE_ENERGISE_TEST: 200 µs after HSn is 1 with the low-side switch closed (R278); with L+F low no verdict is taken
and the output waits (R288). -/
def State.preEnergise (s : State) (n : Nat) (qpLow qnLow : Bool) : State :=
  match oget s.saf.preAt n with
  | none => s
  | some t =>
    if s.mono < t + 200000 || s.saf.lfLow then s
    else if qpLow && qnLow then
      let z := s.saf
      { s with saf := { z with hsSw := nbit z.hsSw n true, preAt := oset z.preAt n none,
                               chgAt := cset z.chgAt n s.mono } }
    else s.outFault n 1

/-- Output `n` is energised: both switches closed. -/
def State.energised (s : State) (n : Nat) : Bool := s.saf.hsSw.testBit n && s.saf.lsSw.testBit n

/-- OFF_PULSE: one pulse at a time in the module (R280). -/
def State.offPulse (s : State) (n : Nat) (low : Bool) : State :=
  if s.saf.pulse.isNone && s.ownsSafety && s.energised n && fieldAt (sdoRec s.saf.cfg n) 2 1 == 1 then
    { s with saf := { s.saf with pulse := some (n, low) } }
  else s

/-- OFF_PULSE_END: the verdict of the pulse that runs (R280). -/
def State.offPulseEnd (s : State) (changed restored : Bool) : State :=
  match s.saf.pulse with
  | none => s
  | some (n, low) =>
    let s := { s with saf := { s.saf with pulse := none } }
    if s.saf.lfLow || (changed && restored) then s else s.outFault n (if low then 4 else 3)

/-- OVERCURRENT (R281): an output fault, whatever is commanded or stands already. -/
def State.overcurrent (s : State) (n : Nat) : State :=
  ((s.safErr SE_OVERCUR).safEvent 0xDD (0x218 + n) []).outFault n 5

/-- LF_LOW and LF_RESTORED (R288). -/
def State.lfLow (s : State) : State :=
  (({ s with saf := { s.saf with lfLow := true } }).safErr SE_LFLOW).safEvent 0xDE 0x27F []
def State.lfRestored (s : State) : State := { s with saf := { s.saf with lfLow := false } }

/-! ### The safety cycle (R262, Table SAF-6) -/

/-- Entries of Q61, oldest first, applied to V060 to V06F (R295). -/
def State.takeQ61 (s : State) : Nat → State
  | 0 => s
  | k + 1 =>
    match s.qTake 61 with
    | (none, s) => s
    | (some e, s) =>
      let v := fieldAt e 0 2
      let m := fieldAt e 2 2
      let vars := (List.range 16).foldl (fun w i =>
        if m.testBit i then nbit w (0x60 + i) (v.testBit i) else w) s.saf.vars
      State.takeQ61 { s with saf := { s.saf with vars := vars } } k

/-- An SDI processor state: the filter, no test fault where tests apply, demand while stopped (R274, R286,
R287). -/
def State.sdiState (s : State) (sdi n : Nat) : Bool :=
  sdi.testBit n && !s.frontDead && (!s.ownsSafety || !s.saf.sdiFault.testBit n)

/-- Pair `k`: its mode when both records agree, else 0 (R275). -/
def pairMode (c : List Byte) (k : Nat) : Nat :=
  let a := fieldAt (sdiRec c (2 * k)) 0 1
  if a = fieldAt (sdiRec c (2 * k + 1)) 0 1 ∧ (a = 2 ∨ a = 3) then a else 0

/-- Pair fault and pair result of pair `k` in one cycle (R275, R276). -/
def State.pairCycle (s : State) (k : Nat) : State :=
  let z := s.saf
  let m := pairMode z.cfg k
  let a := z.vars.testBit (2 * k)
  let b := z.vars.testBit (2 * k + 1)
  let da := !a
  let db := if m = 3 then b else !b
  let cnt := if m ≠ 0 ∧ da ≠ db then cget z.pairCnt k + 1 else 0
  let lim := fieldAt (sdiRec z.cfg (2 * k)) 2 2
  let now := decide (lim + 1 < cnt)
  let was := z.pairFault.testBit k
  let flt := if da && db then false else was || now
  let test := s.ownsSafety && (z.sdiFault.testBit (2 * k) || z.sdiFault.testBit (2 * k + 1))
  let p := decide (m ≠ 0) && !da && !db && !test && !flt
  let s := { s with saf := { z with
    pairCnt := cset z.pairCnt k (min cnt 20000), pairFault := nbit z.pairFault k flt,
    vars := nbit z.vars (0x10 + k) p } }
  if flt && !was then (s.safErr SE_PAIRDISC).safEvent 0xDA (0x200 + 2 * k) [] else s

/-- The input latch: SDI states, pairs, messages, non-safety data. -/
def State.inputLatch (s : State) (sdi : Nat) : State :=
  let v := (List.range 16).foldl (fun w n => nbit w n (s.sdiState sdi n)) s.saf.vars
  let v := (List.range 64).foldl (fun w i => nbit w (0x20 + i) (s.saf.inBits.testBit i)) v
  let s := { s with saf := { s.saf with vars := v } }
  let s := (List.range 8).foldl (fun s k => s.pairCycle k) s
  s.takeQ61 (s.qFill 61)

/-- The restart acknowledge source of output `n` reads 1 (R283). -/
def State.ackSource (s : State) (n : Nat) : Bool :=
  let r := sdoRec s.saf.cfg n
  match fieldAt r 3 1 with
  | 0 => s.saf.vars.testBit (fieldAt r 4 2)
  | 1 => s.saf.vars.testBit (0x20 + fieldAt r 4 2)
  | _ => false

/-- Cycles at 1 that make a restart acknowledge: 100 ms to 5 s, at the falling edge (R283). -/
def ackGiven (v : Bool) (cnt : Nat) : Bool := !v && decide (100 ≤ cnt ∧ cnt ≤ 5000)
def ackCount (v : Bool) (cnt : Nat) : Nat := if v then min (cnt + 1) 5001 else 0

/-- Agreement, LOCK, fault release of output `n` in one cycle (R267, R268, R282). `op`: the processor is in OPERATE, the
state in which discrepancies count; acknowledges count in CONFIG too (R283). `ok`: the lattice model matches. -/
def State.agreeCycle (s : State) (op ok : Bool) (n : Nat) : State :=
  let z := s.saf
  if !sdoUsed z.cfg n then s
  else
    let r := sdoRec z.cfg n
    let h := z.hs.testBit n
    let l := s.fox.sink.testBit n
    let prog := z.vars.testBit (0x80 + n)
    let counted := if fieldAt r 1 1 = 0 then h != l else h && !l
    let d := if op && counted then cget z.disc n + 1 else 0
    let zc := if !prog && !l then cget z.zero n + 1 else 0
    let a := s.ackSource n
    let ack := ackGiven a (cget z.ack n)
    let s := { s with saf := { z with
      disc := cset z.disc n (min d 20000), zero := cset z.zero n (min zc 20000),
      ack := cset z.ack n (ackCount a (cget z.ack n)) } }
    let s := if ack && z.fault.testBit n && !prog && !l then
        ({ s with saf := { s.saf with fault := nbit s.saf.fault n false, ovc := nbit s.saf.ovc n false } }).safEvent
          0xE1 (0x218 + n) [] else s
    if z.lock.testBit n then
      if ack && decide (tDisc z.cfg n + 1 ≤ zc) && ok then
        ({ s with saf := { s.saf with lock := nbit s.saf.lock n false, disc := cset s.saf.disc n 0 } }).safEvent
          0xD2 SAF_LOC []
      else s
    else if tDisc z.cfg n + 1 ≤ d then
      ({ s with saf := { s.saf with lock := nbit s.saf.lock n true, hs := nbit s.saf.hs n false } }).safEvent 0xD1
        SAF_LOC ([BitVec.ofNat 8 n, BitVec.ofNat 8 (ofBool h), BitVec.ofNat 8 (ofBool l), 0] ++ leBytes 4 (d - 1))
    else s

/-- The static check of an owned output against its read-backs (R279). -/
def State.staticCycle (s : State) (qp qn n : Nat) : State :=
  let z := s.saf
  let pulsing := match z.pulse with | some p => p.1 == n | none => false
  if !s.ownsSafety || z.fault.testBit n || z.lfLow then s
  else if pulsing || decide (s.mono < cget z.chgAt n + 1000000) then s
  else
    let fail := if s.energised n then !qp.testBit n || qn.testBit n
      else !z.hsSw.testBit n && qp.testBit n
    let c := if fail then cget z.static n + 1 else 0
    let s := { s with saf := { z with static := cset z.static n (min c 3) } }
    if 3 ≤ c then s.outFault n 2 else s

/-- One statement of the safety program on the variables and its count (Table SIO-9). -/
def runStmt (st : List Byte) (vars cnt : Nat) : Nat × Nat :=
  let op := fieldAt st 0 1
  let inv := fieldAt st 1 1
  let out := fieldAt st 2 2
  let val (i o : Nat) : Bool :=
    let v := fieldAt st o 2
    if v = 0xFFFF then op == 1 else (vars.testBit v).xor (inv.testBit i)
  let a := val 0 4
  let b := val 1 6
  let c := val 2 8
  let par := fieldAt st 12 4
  let old := vars.testBit out
  match op with
  | 1 => (nbit vars out (a && b && c), cnt)
  | 2 => (nbit vars out (a || b || c), cnt)
  | 3 => (nbit vars out (a.xor b), cnt)
  | 4 => (nbit vars out (!b && (a || old)), cnt)
  | 5 =>
    let k := if a then min (cnt + 1) 60001 else 0
    (nbit vars out (decide (par < k)), k)
  | 6 =>
    let k := if a then 0 else min (cnt + 1) 60001
    (nbit vars out (a || (old && decide (k ≤ par))), k)
  | 7 => (nbit vars out a, cnt)
  | 8 => (nbit vars out (b && (old || ackGiven a cnt)), ackCount a cnt)
  | _ => (vars, cnt)

/-- The safety program, its statements in order. -/
def runProgram (c : List Byte) (vars : Nat) (cnts : Tbl Nat) : Nat × Tbl Nat :=
  (List.range (stmtCount c)).foldl (fun vc i =>
    let r := runStmt (stmtRec c i) vc.1 (cget vc.2 i)
    (r.1, cset vc.2 i r.2)) (vars, cnts)

/-- Bits `lo` to `lo + n - 1` of the variables as a number. -/
def varBits (vars lo n : Nat) : Nat := vars / 2 ^ lo % 2 ^ n

/-- Execution and outputs written: HS, the demand, the container (R262, R265, R362). -/
def State.runSafety (s : State) : State :=
  let z := s.saf
  let (v, c) := runProgram z.cfg z.vars z.stmt
  let hs := (List.range 8).foldl (fun w n =>
    nbit w n (v.testBit (0x80 + n) && sdoUsed z.cfg n && !z.lock.testBit n && !z.fault.testBit n)) 0
  let chg := (List.range 8).foldl (fun t n =>
    if hs.testBit n = z.hs.testBit n then t else cset t n s.mono) z.chgAt
  let dem := v.testBit 0x88
  let s := { s with saf := { z with vars := v, stmt := c, hs := hs, chgAt := chg, safeDem := dem } }
  let s := if dem = z.safeDem then s else s.safEvent 0xD6 SAF_LOC []
  s.updSwitches

/-- The container of Table PLN-6 for output bits V090 to V0CF. -/
def State.writeContainer (s : State) (station : Nat) : State :=
  let b := leBytes 2 station ++ [0, 0] ++ leBytes 8 (varBits s.saf.vars 0x90 64)
    ++ leBytes 4 (s.regN SAF_CYCLES)
  { s with saf := { s.saf with container := b ++ leBytes 4 (crc32c ([0x53, 0x46] ++ b)) } }

/-- The section CRC in force (R289). -/
def secCrc (c : List Byte) : Nat := if c.isEmpty then 0 else crc32c c

/-- The SAF registers written together in the output phase (R296). -/
def State.safPublish (s : State) (qp qn tp lf : Nat) : State :=
  let z := s.saf
  let st := s.safState + ofBool z.safeDem * 8 + ofBool s.safNv.pw.isSome * 16
    + ofBool (secCrc z.cfg == s.safNv.authCrc) * 32 + ofBool s.safNv.locked * 64 + ofBool s.ownsSafety * 128
  let energ := (List.range 8).foldl (fun w n => nbit w n (qp.testBit n && !qn.testBit n)) 0
  let pul := match z.pulse with | some p => 2 ^ p.1 | none => 0
  let s := (s.setRegN 0x20200000 st).orReg SAF_ERR z.err
  let s := s.putWords 0x20200008 [BitVec.ofNat 32 (varBits z.vars 0 16 + z.sdiFault * 2 ^ 16),
    BitVec.ofNat 32 (varBits z.vars 0x10 8 + z.pairFault * 2 ^ 8),
    BitVec.ofNat 32 (energ + z.lock * 2 ^ 8 + z.fault * 2 ^ 16 + z.ovc * 2 ^ 24),
    BitVec.ofNat 32 (z.hs + s.fox.sink % 256 * 2 ^ 8 + pul * 2 ^ 16),
    BitVec.ofNat 32 (tp % 16 + z.tpFault * 16), BitVec.ofNat 32 (secCrc z.cfg),
    BitVec.ofNat 32 s.safNv.authCrc, BitVec.ofNat 32 (fieldAt (s.safNv.log.headD []) 0 4)]
  let s := s.putWords 0x2020002C [BitVec.ofNat 32 (min s.safNv.fails 255 + min s.safNv.total 65535 * 2 ^ 16),
    BitVec.ofNat 32 lf]
  { s with saf := { s.saf with err := 0 } }

/-- Q63: one entry when bytes 0 to 3 change, and at least every 100 ms (R295). -/
def State.putQ63 (s : State) : State :=
  let b := leBytes 2 (varBits s.saf.vars 0xD0 16) ++ leBytes 1 (s.regN 0x20200010)
    ++ leBytes 1 (s.regN 0x20200010 / 256)
  let c := s.regN SAF_CYCLES
  if b = s.saf.q63 ∧ (c + 2 ^ 32 - s.saf.q63At) % 2 ^ 32 < 100 then s
  else
    ({ s with saf := { s.saf with q63 := b, q63At := c } }).qOffer 63
      (b ++ leBytes 4 c ++ leBytes 4 (ts32Of s.now) ++ [0, 0, 0, 0])

/-- What SAFETY_CYCLE brings from outside: the processor comparators after their filter, the read-back
comparators of Qn+ and Qn-, the TP read-backs, L+F in mV, a failed self-test slice, and a lattice whose
mirror differs from what its configuration gives. -/
structure SafIn where
  sdi : Nat
  qp : Nat
  qn : Nat
  tp : Nat
  lf : Nat
  testFail : Bool
  mirrorBad : Bool
  deriving DecidableEq, Repr

/-- One safety cycle; the answer names a module fault of the safety region by its location (R263, R266). The program does
not run in a HALT that a module fault caused. -/
def State.safetyCycle (s : State) (station : Nat) (x : SafIn) : Option Nat × State :=
  if !s.safRuns then (none, s)
  else
    let s := s.bump SAF_CYCLES
    let s := s.inputLatch x.sdi
    let op := s.safState == S_OPERATE
    let bad := s.flag FOX_LOCKED && !s.flag FOX_SUPTRIP && (x.mirrorBad || s.timerMismatch)
    let m := if op && bad then s.saf.mism + 1 else 0
    let s := { s with saf := { s.saf with mism := min m 10 } }
    let s := (List.range 8).foldl (fun s n => s.agreeCycle op (!bad) n) s
    let s := (List.range 8).foldl (fun s n => s.staticCycle x.qp x.qn n) s
    let s := if op && !s.faultHalt then s.runSafety else s
    let s := (s.writeContainer station).safPublish x.qp x.qn x.tp x.lf
    let s := s.putQ63
    (if 10 ≤ m then some FOX_LOC else if x.testFail then some SAF_LOC else none, s)

/-! ### Safety messages (R362) -/

/-- A connection record of the POURLINE section. -/
structure SConn where
  conn : Nat
  station : Nat
  srcBit : Nat
  count : Nat
  dstBit : Nat
  wdMs : Nat
  deriving DecidableEq, Repr

/-- The input bits of a connection as a mask. -/
def SConn.mask (c : SConn) : Nat := (2 ^ c.count - 1) * 2 ^ c.dstBit

/-- A container from `station` for connection `c`: accepted when its checks hold. -/
def State.safContainer (s : State) (c : SConn) (b : List Byte) : State :=
  let ok := crc32c ([0x53, 0x46] ++ slice b 0 16) == fieldAt b 16 4 && fieldAt b 0 2 == c.station
    && oget s.saf.sseq c.conn != some (fieldAt b 12 4)
  if ok && s.safRuns then
    let bits := (fieldAt b 4 8 / 2 ^ c.srcBit % 2 ^ c.count) * 2 ^ c.dstBit
    let keep := s.saf.inBits - (s.saf.inBits &&& c.mask)
    { s with saf := { s.saf with inBits := keep + bits, sseq := oset s.saf.sseq c.conn (some (fieldAt b 12 4)) } }
  else s

/-- SAFETY_MSG_WATCHDOG: the connection's bits read 0 from now on. -/
def State.safMsgWd (s : State) (c : SConn) : State :=
  let s := { s with saf := { s.saf with inBits := s.saf.inBits - (s.saf.inBits &&& c.mask) } }
  (s.safErr SE_MSGWD).safEvent 0xD7 SAF_LOC []

/-! ### Q60 commands (R292 to R294) -/

/-- A password as R292 gives it: 8 to 32 printable bytes. -/
def pwOk (e : List Byte) : Bool :=
  let n := fieldAt e 1 1
  decide (8 ≤ n ∧ n ≤ 32) && (slice e 24 n).all (fun b => decide (0x20 ≤ b.toNat ∧ b.toNat ≤ 0x7E))

def pwBytes (e : List Byte) : List Byte := slice e 24 (fieldAt e 1 1)

/-- The answer in Q62. -/
def State.q62 (s : State) (e : List Byte) (result : Nat) (entry : List Byte) : State :=
  s.qOffer 62 (slice e 0 1 ++ leBytes 1 result ++ slice e 2 2 ++ [0, 0, 0, 0] ++ padTo 48 entry
    ++ List.replicate 8 0)

/-- A salt from the random source and the hash of a password (R292). -/
def State.setPw (s : State) (pw : List Byte) : State :=
  let (a, s) := s.draw 64
  let (b, s) := s.draw 64
  let salt := leBytes 8 a ++ leBytes 8 b
  { s with safNv := { s.safNv with pw := some (salt, sha256 (salt ++ pw)) } }

/-- The password matches the stored hash. -/
def State.pwMatch (s : State) (pw : List Byte) : Bool :=
  match s.safNv.pw with
  | some (salt, h) => sha256 (salt ++ pw) == h
  | none => false

/-- A wrong password (R293). -/
def State.pwWrong (s : State) : State :=
  let k := s.safNv.fails + 1
  let s := { s with safNv := { s.safNv with
    fails := k, total := min (s.safNv.total + 1) 65535, locked := s.safNv.locked || decide (5 ≤ k) } }
  (s.safErr SE_PWFAIL).safEvent 0xDF SAF_LOC []

/-- One change-log entry, the 64 newest kept, and event 0x00E0 (R294, Table SIO-12). -/
def State.logChange (s : State) (user : List Byte) (old new kind : Nat) : State :=
  let q := fieldAt (s.safNv.log.headD []) 0 4 + 1
  let e := leBytes 4 q ++ ts80Bytes s.now ++ padTo 16 user ++ leBytes 4 old ++ leBytes 4 new
    ++ leBytes 1 kind ++ List.replicate 7 0
  let s := { s with safNv := { s.safNv with log := (e :: s.safNv.log).take 64 } }
  s.safEvent 0xE0 SAF_LOC e

/-- The safety processor reads the entry at the head of Q60, if it takes commands; one with an uncorrectable error reads 0
(R34, DEDUCED, log 41). -/
def State.q60Read (s : State) : Option (List Byte) × State :=
  if s.safRuns && s.qUsable 60 && s.qFill 60 != 0 then
    let (e, s) := s.blockRead issSaf (s.qEntry 60 (s.cidx 60)) 64
    (some e, s)
  else (none, s)

/-- The entry at the head of Q60, if the safety processor takes commands. -/
def State.q60Head (s : State) : Option (List Byte) := s.q60Read.1

/-- The entry read and consumed, its PW bytes overwritten with 0 first. -/
def State.q60Drop (s : State) : State :=
  let s := s.q60Read.2
  (s.blockWrite issSaf (s.qEntry 60 (s.cidx 60) + 24) (List.replicate 32 0)).bump (qreg 60 0x10)

/-- AUTHORISE. -/
def State.authorise (s : State) (e : List Byte) : State :=
  let s := { s with safNv := { s.safNv with setPw := none } }
  let old := s.safNv.authCrc
  let new := fieldAt e 4 4
  if s.safNv.locked then s.q62 e 2 []
  else if !pwOk e then s.q62 e 4 []
  else if s.mode ≠ STOP then s.q62 e 3 []
  else if s.safNv.pw.isNone then
    let s := s.setPw (pwBytes e)
    let s := { s with safNv := { s.safNv with authCrc := new, fails := 0 } }
    (s.logChange (slice e 8 16) old new 2).q62 e 0 []
  else if s.pwMatch (pwBytes e) then
    let s := { s with safNv := { s.safNv with authCrc := new, fails := 0 } }
    (s.logChange (slice e 8 16) old new 1).q62 e 0 []
  else s.pwWrong.q62 e 1 []

/-- SET_PASSWORD: the old password. -/
def State.setPassword (s : State) (e : List Byte) : State :=
  let s := { s with safNv := { s.safNv with setPw := none } }
  if s.safNv.locked then s.q62 e 2 []
  else if !pwOk e then s.q62 e 4 []
  else if s.mode ≠ STOP then s.q62 e 3 []
  else if s.safNv.pw.isNone then s.q62 e 6 []
  else if s.pwMatch (pwBytes e) then
    ({ s with safNv := { s.safNv with setPw := some (fieldAt e 2 2), fails := 0 } }).q62 e 0 []
  else s.pwWrong.q62 e 1 []

/-- SET_PASSWORD_NEW: the new password, after its SET_PASSWORD with the same TAG. -/
def State.setPasswordNew (s : State) (e : List Byte) : State :=
  let follows := s.safNv.setPw == some (fieldAt e 2 2)
  let s := { s with safNv := { s.safNv with setPw := none } }
  if !follows || !pwOk e then s.q62 e 4 []
  else if s.mode ≠ STOP then s.q62 e 3 []
  else
    let s := s.setPw (pwBytes e)
    (s.logChange (slice e 8 16) s.safNv.authCrc s.safNv.authCrc 3).q62 e 0 []

/-- READ_LOG. -/
def State.readLog (s : State) (e : List Byte) : State :=
  let s := { s with safNv := { s.safNv with setPw := none } }
  let q := fieldAt e 4 4
  let found := if q = 0xFFFFFFFF then s.safNv.log.head? else s.safNv.log.find? (fun x => fieldAt x 0 4 == q)
  match found with
  | some x => s.q62 e 0 x
  | none => s.q62 e 5 []

/-- One command of Q60: taken when the head entry is the one the command stands for; an entry with a CMD
of no command is answered with RESULT 0x04 as an AUTHORISE would be (R293, log 15). -/
def State.q60 (s : State) (cmd : Nat) : State :=
  match s.q60Head with
  | none => s
  | some e =>
    let c := fieldAt e 0 1
    if c = cmd then
      let s := s.q60Drop
      match cmd with
      | 1 => s.authorise e
      | 2 => s.setPassword e
      | 3 => s.setPasswordNew e
      | _ => s.readLog e
    else if cmd = 1 ∧ (c = 0 ∨ 4 < c) then
      ({ s.q60Drop with safNv := { s.safNv with setPw := none } }).q62 e 4 []
    else s

/-- PWLOCK_EXPIRY: 60 s after the lockout began. -/
def State.pwLockExpiry (s : State) : State :=
  if s.safNv.locked then { s with safNv := { s.safNv with locked := false, fails := 0 } } else s

end Sys2Proof.Machine
end

