-- ==== Sys2Proof/Machine/Can.lean ====
section
/-! DEFINITION. The CAN FD controllers: filtering, FIFOs, transmit buffers, detection, fault confinement
(13_can_controllers.md). -/

namespace Sys2Proof.Machine

/-- Register `off` of controller `n` (R398). -/
def canr (n off : Nat) : Nat := 0x20600000 + 0x10000 * n + off
def CAN_STATE (n : Nat) : Fld := ⟨canr n 0, 1, 0⟩
def CAN_ERRSTATE (n : Nat) : Fld := ⟨canr n 0, 3, 2⟩
def CAN_IDLE (n : Nat) : Fld := ⟨canr n 0, 4, 4⟩
def CAN_FORCED (n : Nat) : Fld := ⟨canr n 0, 5, 5⟩
/-- CAN_ERR flags: 0 EPASS, 1 BUSOFF, 2 RXERR, 3 BUSYWR, 4 SCHLATE, 5 DETFAIL, 6 REFUSED, 7 INVALID. -/
def CAN_ERR (n i : Nat) : Fld := ⟨canr n 4, i, i⟩
/-- The measured loop delay: after a frame with a faster data phase a free value (R398, log 73). -/
def CAN_LOOP (n : Nat) : Fld := ⟨canr n 0x14, 15, 8⟩
def CAN_LOCKED (n : Nat) : Fld := ⟨canr n 0x1C, 4, 4⟩
def CAN_CAND (n : Nat) : Fld := ⟨canr n 0x1C, 3, 0⟩
def CAN_PASSES (n : Nat) : Fld := ⟨canr n 0x1C, 31, 16⟩
def FLT_COUNT (n : Nat) : Fld := ⟨canr n 0x24, 7, 0⟩
def FLT_AREA (n : Nat) : Fld := ⟨canr n 0x24, 8, 8⟩
def FLT_SHFREE (n : Nat) : Fld := ⟨canr n 0x24, 9, 9⟩
def FLT_READY (n : Nat) : Fld := ⟨canr n 0x24, 10, 10⟩
def FLT_SHCOUNT (n : Nat) : Fld := ⟨canr n 0x24, 23, 16⟩
def tbReg (n b off : Nat) : Nat := canr n (0x1000 + b * 0x80 + off)
def TB_STATUS (n b : Nat) : Nat := tbReg n b 0xC
def canLoc (n : Nat) : Nat := 0x97F + 0x80 * n

abbrev C_OFF : Nat := 0
abbrev C_NORMAL : Nat := 1
abbrev C_LISTEN : Nat := 2
abbrev C_DETECT : Nat := 3

/-- Status codes of Table CAN-7. -/
abbrev TX_TRANSMITTED : Nat := 1
abbrev TX_CANCELLED : Nat := 2
abbrev TX_WITHDRAWN : Nat := 3
abbrev TX_REFUSED : Nat := 4
abbrev TX_BUS_OFF : Nat := 5
abbrev TX_RESTRICTED : Nat := 6
abbrev TX_INVALID : Nat := 7
abbrev TX_FAILED : Nat := 8

def State.canSt (s : State) (n : Nat) : CanSt := tblGet (fun _ => CanSt.reset) s.can.ctl n
def State.setCan (s : State) (n : Nat) (c : CanSt) : State :=
  { s with can := { s.can with ctl := tblPut (fun _ => CanSt.reset) s.can.ctl n [c] } }
def State.canBuf (s : State) (n b : Nat) : CanBuf :=
  (tblGet (fun _ => none) (s.canSt n).bufs b).getD CanBuf.reset
def State.setCanBuf (s : State) (n b : Nat) (x : CanBuf) : State :=
  let c := s.canSt n
  s.setCan n { c with bufs := tblPut (fun _ => none) c.bufs b [some x] }
def State.canState (s : State) (n : Nat) : Nat := s.fld (CAN_STATE n)
def State.canBusOff (s : State) (n : Nat) : Bool := s.fld (CAN_ERRSTATE n) == 2

/-! ### CAN section (R395) -/

def canRecOf (sec : List Byte) (n : Nat) : List Byte := slice sec (16 + 64 * n) 64
def State.canRec (s : State) (n : Nat) : List Byte := canRecOf (s.sec SEC_CAN) n
def canMode (r : List Byte) : Nat := fieldAt r 0 1
def canFltCount (r : List Byte) : Nat := fieldAt r 2 1
def canNcand (r : List Byte) : Nat := fieldAt r 3 1

/-- The sum of a field over the controllers before `n`. -/
def canSum (sec : List Byte) (o n : Nat) : Nat :=
  ((List.range n).map (fun i => fieldAt (canRecOf sec i) o 1)).foldl (· + ·) 0

/-- Candidate set `k` of controller `n`: CAN_NBT and CAN_DBT. -/
def canCand (sec : List Byte) (n k : Nat) : Nat × Nat :=
  let o := 272 + 8 * (canSum sec 3 n + k)
  (fieldAt sec o 4, fieldAt sec (o + 4) 4)

/-- The initial filter elements of controller `n`. -/
def canFilters (sec : List Byte) (n : Nat) : List Byte :=
  slice sec (272 + 8 * canSum sec 3 4 + 16 * canSum sec 2 n) (16 * canFltCount (canRecOf sec n))

/-- The scheduled list of the pattern. -/
def canSched (sec : List Byte) : List Byte :=
  slice sec (272 + 8 * canSum sec 3 4 + 16 * canSum sec 2 4) (16 * fieldAt sec 0 2)

/-- Scheduled records of a list. -/
def schedRecs (l : List Byte) : List (List Byte) :=
  (List.range (l.length / 16)).map (fun i => slice l (16 * i) 16)

/-- The scheduled record of buffer `b` of controller `n`. -/
def State.schedRec (s : State) (n b : Nat) : Option (List Byte) :=
  (schedRecs s.can.sched).find? (fun r => fieldAt r 0 1 == n && fieldAt r 1 1 == b)

/-- CAN_TXSCHED of controller `n` for a scheduled list. -/
def schedMask (l : List Byte) (n : Nat) : Nat :=
  (schedRecs l).foldl (fun w r => if fieldAt r 0 1 = n then nbit w (fieldAt r 1 1) true else w) 0

/-! ### Bit rates and bounds (R374, R386) -/

/-- NBRP, NTSEG1, NTSEG2, NSJW. -/
def nbt (w : Nat) : Nat × Nat × Nat × Nat :=
  (bitsOf w 8 0 + 1, bitsOf w 16 9 + 1, bitsOf w 23 17 + 1, bitsOf w 30 24 + 1)
/-- DBRP, DTSEG1, DTSEG2, DSJW. -/
def dbt (w : Nat) : Nat × Nat × Nat × Nat :=
  (bitsOf w 4 0 + 1, bitsOf w 9 5 + 1, bitsOf w 13 10 + 1, bitsOf w 17 14 + 1)
/-- CAN_CLK cycles per bit, 25 ns each. -/
def nomCycles (w : Nat) : Nat := (nbt w).1 * (1 + (nbt w).2.1 + (nbt w).2.2.1)
def dataCycles (w : Nat) : Nat := (dbt w).1 * (1 + (dbt w).2.1 + (dbt w).2.2.1)

/-- The frame bound C in CAN_CLK cycles; 40 cycles make 1 µs (R386). -/
def frameBound (nw dw : Nat) (xtd fdf brs : Bool) (len : Nat) : Nat :=
  if !fdf then
    let n := (if xtd then 54 else 34) + 8 * len
    (n + (n - 1) / 4 + 13) * nomCycles nw
  else
    let a := if xtd then 36 else 17
    let d := 5 + 8 * len + (4 + 8 * len) / 4 + (if len ≤ 16 then 27 else 32)
    (a + (a - 1) / 4 + 13) * nomCycles nw + d * (if brs then dataCycles dw else nomCycles nw)

/-- Bytes of a DLC. -/
def dlcBytes (fdf : Bool) (dlc : Nat) : Nat :=
  if dlc ≤ 8 then dlc
  else if !fdf then 8
  else [12, 16, 20, 24, 32, 48, 64].getD (dlc - 9) 64

/-- LEN values that a CAN FD frame may have. -/
def fdLen (n : Nat) : Bool := decide (n ≤ 8) || [12, 16, 20, 24, 32, 48, 64].contains n

/-- The DLC of a length. -/
def lenDlc (n : Nat) : Nat :=
  if n ≤ 8 then n else 9 + (([12, 16, 20, 24, 32, 48, 64].filter (fun k => decide (k < n))).length)

/-! ### Fields of CAN_TBbCTL (Table CAN-12) -/

def tcLen (c : Nat) : Nat := bitsOf c 6 0
def tcXtd (c : Nat) : Bool := bitOf c 8
def tcRtr (c : Nat) : Bool := bitOf c 9
def tcFdf (c : Nat) : Bool := bitOf c 10
def tcBrs (c : Nat) : Bool := bitOf c 11
def tcOneshot (c : Nat) : Bool := bitOf c 12
def tcEvt (c : Nat) : Bool := bitOf c 13
def tcAdmit (c : Nat) : Bool := bitOf c 14

/-- The ID word of Tables CAN-5 and CAN-6. -/
def idWord (ident : Nat) (xtd rtr : Bool) : Nat :=
  ident % 2 ^ 29 + ofBool xtd * 2 ^ 29 + ofBool rtr * 2 ^ 30

/-! ### Transmit requests (R382 to R385, R390) -/

def State.canPending (s : State) (n b : Nat) : Bool := s.bit (canr n 0x28) b

/-- A buffer with no request, its contents kept. -/
def CanBuf.idle (x : CanBuf) : CanBuf :=
  { x with sched := false, admitted := false, alloc := [], arbLost := false, errd := false, retry := false,
           slotOver := false }

/-- What the bus arbitrates on, the lower value winning: identifier, RTR or SRR, IDE, and for a 29-bit identifier the
rest and RTR (R373, R383). -/
def CanBuf.arbitration (x : CanBuf) : Nat :=
  let rtr := ofBool (tcRtr x.ctl)
  if tcXtd x.ctl then x.ident / 2 ^ 18 * 2 ^ 21 + 2 ^ 20 + 2 ^ 19 + x.ident % 2 ^ 18 * 2 + rtr
  else x.ident % 2 ^ 11 * 2 ^ 21 + rtr * 2 ^ 20

/-- An instant lies in the allocated time of an admitted request. -/
def CanBuf.inAlloc (x : CanBuf) (t : Nat) : Bool := x.alloc.any (fun v => decide (v.1 ≤ t ∧ t < v.1 + v.2))

/-- The buffer that the controller offers: the pending scheduled one; else an admitted one within its allocated time; else
the one whose frame wins arbitration, the lowest number among equals (R383, R388, R390). -/
def State.canChoice (s : State) (n : Nat) : Option Nat :=
  let pending := (List.range 32).filter (s.canPending n)
  let best (l : List Nat) : Option Nat := l.foldl (fun a b =>
    match a with
    | none => some b
    | some k => if (s.canBuf n b).arbitration < (s.canBuf n k).arbitration then some b else some k) none
  if s.canState n ≠ C_NORMAL ∨ s.canBusOff n ∨ s.isStandby then none
  else
    (best (pending.filter (fun b => (s.canBuf n b).sched)))
      <|> (best (pending.filter (fun b => (s.canBuf n b).admitted && (s.canBuf n b).inAlloc s.seqNow)))
      <|> (best (pending.filter (fun b => !(s.canBuf n b).sched && !(s.canBuf n b).admitted)))

/-- Buffer `b` has been offered. -/
def State.canWasOffered (s : State) (n b : Nat) : Bool := (s.canSt n).offered.any (fun e => e.1 == some b)

/-- Buffer `b` is the choice from now on; none: no buffer is. -/
def State.canOffered (s : State) (n : Nat) (b : Option Nat) : State :=
  let c := s.canSt n
  if (c.offered.head?.bind (·.1)) = b then s else s.setCan n { c with offered := (b, s.mono) :: c.offered }

/-- The controller offers its choice, in place of a buffer offered before and not started (log 73); outside the pieces of an
allocated time it may have none (R390). -/
def State.canOffer (s : State) (n : Nat) : State := s.canOffered n (s.canChoice n)

/-- A controller with an admitted request: its choice changes as allocated time begins and ends (R390). -/
def State.canTimed (s : State) (n : Nat) : Bool :=
  (s.canSt n).bufs.any (fun e => e.2.any CanBuf.admitted)

/-- What the controllers offer as time passes. -/
def State.canTick (s : State) : State :=
  (List.range 4).foldl (fun s n => if s.canTimed n then s.canOffer n else s) s

/-- A frame of buffer `b` that started `age` ns ago: the buffer was the choice then (R383, R388, R390, R394). -/
def State.canStarted (s : State) (n b age : Nat) : Bool :=
  ((s.canSt n).offered.find? (fun e => decide (e.2 ≤ s.mono - age))).bind (·.1) == some b

/-- An entry of Q16 to Q27. The primary forwards the entries that are written, with their positions and data buffers
(R393). -/
def State.canEntry (s : State) (q : Nat) (e data : List Byte) : State :=
  let s := if s.isPrimary && s.qUsable q && decide (s.qFill q < s.qSize q) then
      s.sendCtrl ([10] ++ leBytes 1 q ++ leBytes 4 (s.pidx q) ++ e ++ data) else s
  s.qOffer q e

/-- A frame leaves for the bus: ESI is the controller's error state, and a remote frame carries no data (R373). -/
def State.canSend (s : State) (n : Nat) (x : CanBuf) : State :=
  let esi := tcFdf x.ctl && s.fld (CAN_ERRSTATE n) == 1
  let data := if tcRtr x.ctl then [] else x.data.take (tcLen x.ctl)
  let s := { s with outbox := s.outbox ++ [.can n (idWord x.ident (tcXtd x.ctl) (tcRtr x.ctl)) x.ctl esi data] }
  if tcFdf x.ctl && tcBrs x.ctl && bitOf (s.regN (canr n 0x14)) 7 then
    let (d, s) := s.draw 8
    s.setFld (CAN_LOOP n) d
  else s

/-- The request of buffer `b` has ended: while it was the choice no other buffer was (R388). -/
def CanSt.unoffer (c : CanSt) (b : Nat) : CanSt :=
  { c with offered := c.offered.map (fun e => if e.1 = some b then (none, e.2) else e) }

/-- The end of a request (R385): status, entry in Q24 + n, counts. -/
def State.canEnd (s : State) (n b status : Nat) (late : Bool) : State :=
  let x := s.canBuf n b
  let flags := ofBool late + ofBool x.sched * 2 + ofBool x.retry * 4 + ofBool x.arbLost * 8
  let s := (s.setBit (canr n 0x28) b false).setBit (canr n 0x2C) b false
  let s := s.setRegN (TB_STATUS n b) (status + flags * 256)
  let s := s.setCanBuf n b x.idle
  let s := s.setCan n ((s.canSt n).unoffer b)
  let s := if status = TX_TRANSMITTED then ((s.bump (canr n 0x3C)).pmcCount 11 0x11 n 1).canSend n x else s
  let s := if status = TX_INVALID then s.setFlag (CAN_ERR n 7) true else s
  let s := if status = TX_REFUSED then s.setFlag (CAN_ERR n 6) true else s
  if status = TX_TRANSMITTED ∧ !tcEvt x.ctl then s
  else
    let c := s.canSt n
    let s := s.setCan n { c with tevseq := c.tevseq + 1 }
    let e := leBytes 4 (ts32Of s.now) ++ leBytes 4 (idWord x.ident (tcXtd x.ctl) (tcRtr x.ctl))
      ++ leBytes 1 b ++ leBytes 1 status ++ leBytes 1 flags ++ [0] ++ leBytes 4 (c.tevseq + 1)
    s.canEntry (24 + n) e []

/-- The request is one that Table CAN-7 calls INVALID. -/
def canInvalid (c : Nat) : Bool :=
  (tcFdf c && tcRtr c) || (!tcFdf c && decide (8 < tcLen c)) || (tcFdf c && !fdLen (tcLen c))

/-- R of a request on buffer `b`, in CAN_CLK cycles (R386). -/
def State.canBound (s : State) (n : Nat) (xtd fdf brs : Bool) (len : Nat) : Nat :=
  let r := s.canRec n
  40 * (1 + fieldAt r 16 4 + fieldAt r 20 4)
    + frameBound (s.regN (canr n 0xC)) (s.regN (canr n 0x10)) xtd fdf brs len

/-- A request on a non-scheduled buffer; a standby holds it (R393). One that is invalid ends so whatever the state
(log 84). -/
def State.canRequest (s : State) (n b : Nat) : State :=
  if s.canPending n b || s.bit (canr n 0x30) b then s
  else
    let x := s.canBuf n b
    let s := s.setBit (canr n 0x28) b true
    if s.isStandby then s
    else if canInvalid x.ctl then s.canEnd n b TX_INVALID false
    else if s.canState n ≠ C_NORMAL then s.canEnd n b TX_RESTRICTED false
    else if tcAdmit x.ctl then
      let d := (s.canBound n (tcXtd x.ctl) (tcFdf x.ctl) (tcBrs x.ctl)
        (if tcRtr x.ctl then 0 else tcLen x.ctl) + 39) / 40
      let (a, s) := s.acyclicAdmit .can (n * 256 + b) d (s.regN (tbReg n b 8))
      match a with
      | none => s.canEnd n b TX_REFUSED false
      | some l => s.setCanBuf n b { s.canBuf n b with admitted := true, alloc := l }
    else s

/-- CAN_TXREQ: one request per bit set. -/
def State.canTxReq (s : State) (n m : Nat) : State :=
  ((List.range 32).foldl (fun s b => if bitOf m b then s.canRequest n b else s) s).canOffer n

/-- CAN_TXCANCEL; `sof`: the buffers whose start of frame has been sent, which are among those offered (R384). -/
def State.canCancel (s : State) (n m sof : Nat) : State :=
  ((List.range 32).foldl (fun s b =>
    if !bitOf m b || !s.canPending n b then s
    else if bitOf sof b && s.canWasOffered n b then s.setBit (canr n 0x2C) b true
    else s.canEnd n b TX_CANCELLED false) s).canOffer n

/-- The bytes of the data registers of a buffer. -/
def State.tbData (s : State) (n b : Nat) : List Byte := s.regBytes (tbReg n b 0x40) 16

/-- A pending buffer takes no register write, but a scheduled buffer does: it is for the next occurrence (R382). -/
def State.canBusy (s : State) (n b : Nat) : Bool := s.canPending n b && !s.bit (canr n 0x30) b

/-- A write of CAN_TBbCTL commits the buffer, or its data into the staging copy (R382). -/
def State.canTbCtl (s : State) (n b : Nat) (v : Word) : State :=
  if s.canBusy n b then s.setFlag (CAN_ERR n 3) true
  else
    let ctl := v.toNat % 2 ^ 15 - v.toNat % 256 + v.toNat % 128
    let s := s.setRegN (tbReg n b 4) ctl
    let x := s.canBuf n b
    if s.bit (canr n 0x30) b then s.setCanBuf n b { x with staging := s.tbData n b }
    else
      s.setCanBuf n b { x with
        ident := s.regN (tbReg n b 0) % 2 ^ 29, ctl := ctl, data := s.tbData n b }

/-- A write of CAN_TBbID, CAN_TBbDL or a data register. -/
def State.canTbWrite (s : State) (n b off : Nat) (v : Word) : State :=
  if s.canBusy n b then s.setFlag (CAN_ERR n 3) true
  else if off = 0 then s.setRegN (tbReg n b 0) (v.toNat % 2 ^ 29)
  else s.setReg (tbReg n b off) v

/-- CAN_TX_OCCURRENCE: the staging copy enters arbitration (R382, R388). An occurrence that is invalid ends so whatever the
state (log 84); the transmission is class 1 traffic (Table SYS-8; log 42). -/
def State.canOccurrence (s : State) (n b : Nat) : State :=
  match s.schedRec n b with
  | none => s
  | some r =>
    if !(s.mode == RUN || s.mode == SAFE) || s.blind then s
    else
      let f := fieldAt r 2 1
      let x := s.canBuf n b
      let ctl := fieldAt r 3 1 % 128 + ofBool (bitOf f 0) * 2 ^ 8 + ofBool (bitOf f 1) * 2 ^ 10
        + ofBool (bitOf f 2) * 2 ^ 11 + ofBool (bitOf f 3) * 2 ^ 13
      let s := s.setCanBuf n b { x.idle with
        ident := fieldAt r 4 4 % 2 ^ 29, ctl := ctl, data := x.staging, sched := true }
      let s := s.setBit (canr n 0x28) b true
      if s.isStandby then s
      else if s.canBusOff n then s.canEnd n b TX_BUS_OFF false
      else if canInvalid ctl then s.canEnd n b TX_INVALID false
      else if s.canState n ≠ C_NORMAL then s.canEnd n b TX_RESTRICTED false
      else (s.portMove (issCan n) (tcLen ctl) false).canOffer n

/-- Error state from TEC and REC (R391). -/
def State.canErrState (s : State) (n : Nat) : State :=
  let c := s.canSt n
  let s := s.setRegN (canr n 0x18) (min c.tec 255 + min c.rxc 255 * 256)
  if s.canBusOff n then s
  else
    let passive := decide (127 < c.tec ∨ 127 < c.rxc)
    let was := s.fld (CAN_ERRSTATE n) == 1
    let s := s.setFld (CAN_ERRSTATE n) (ofBool passive)
    if passive && !was then (s.setFlag (CAN_ERR n 0) true).event 0x131 (canLoc n) [] else s

/-- Every pending request of controller `n` ends with a status. -/
def State.canEndAll (s : State) (n status : Nat) : State :=
  (List.range 32).foldl (fun s b => if s.canPending n b then s.canEnd n b status false else s) s

/-- An error that counts 8 against the transmitter; TEC above 255 ends in bus-off (R391). -/
def State.canTxError (s : State) (n : Nat) : State :=
  let c := s.canSt n
  let s := (s.setCan n { c with tec := c.tec + 8 }).canErrState n
  if 255 < c.tec + 8 then
    let s := (s.setFld (CAN_ERRSTATE n) 2).canEndAll n TX_BUS_OFF
    let s := ((s.bump (canr n 0x48)).setFlag (CAN_ERR n 1) true).event 0x132 (canLoc n) []
    s.setCan n { s.canSt n with recovering := bitOf (fieldAt (s.canRec n) 1 1) 0 }
  else s

/-- A frame ends WITHDRAWN at the end of its slot or its allocated time (R388, R390). -/
def State.canWithdraw (s : State) (n b : Nat) : State :=
  let late := (s.canBuf n b).sched
  let s := s.canEnd n b TX_WITHDRAWN false
  if late then ((s.bump (canr n 0x44)).setFlag (CAN_ERR n 4) true).event 0x135 (0x900 + 0x80 * n + b) [] else s

/-- A frame that lost or met an error is offered again, unless a cancellation, ONESHOT or the end of its time ends it
(R383, R384, R388, R390). -/
def State.canRetry (s : State) (n b : Nat) (late : Bool) : State :=
  let x := s.canBuf n b
  if !s.canPending n b then s
  else if s.bit (canr n 0x2C) b then s.canEnd n b TX_CANCELLED late
  else if tcOneshot x.ctl then s.canEnd n b TX_FAILED false
  else if x.slotOver then s.canWithdraw n b
  else s

/-- The controller of a standby (R393). -/
def State.canListen (s : State) (n : Nat) : State :=
  let s := s.setCan n { s.canSt n with wait := 0, offered := [], leaving := false }
  (s.setFld (CAN_STATE n) C_LISTEN).setFlag (CAN_FORCED n) true

/-- CAN_TX_END: an attempt ends, of the buffer that was the choice when its frame started. An error that counts does so
against the transmitter. -/
def State.canTxEnd (s : State) (n b : Nat) (o : TxOutcome) : State :=
  let s := s.canOffer n
  if !s.canPending n b || s.canState n != C_NORMAL || s.canBusOff n || !s.canStarted n b o.age.toNat then s
  else
    let s := s.setFlag (CAN_IDLE n) false
    let x := s.canBuf n b
    let x := { x with retry := x.retry || x.errd }
    let s := match o.how with
      | .valid =>
        let s := s.setCanBuf n b x
        let s := s.setCan n { s.canSt n with tec := (s.canSt n).tec - 1 }
        (s.canEnd n b TX_TRANSMITTED (s.bit (canr n 0x2C) b)).canErrState n
      | .lost => ((s.setCanBuf n b { x with arbLost := true }).pmcCount 11 0x13 n 1).canRetry n b false
      | .error => (((s.setCanBuf n b { x with errd := true }).pmcCount 11 0x12 n 1).canTxError n).canRetry n b true
      | .uncounted => ((s.setCanBuf n b { x with errd := true }).pmcCount 11 0x12 n 1).canRetry n b true
    if (s.canSt n).leaving then s.canListen n
    else (s.setCan n { s.canSt n with offered := [] }).canOffer n

/-- The time of a pending frame ends: withdrawn if it has not started, else not offered again. -/
def State.canTimeEnd (s : State) (n b : Nat) (started : Bool) : State :=
  if started then
    let s := s.setCanBuf n b { s.canBuf n b with slotOver := true }
    if s.canWasOffered n b then s else s.canOffered n (some b)
  else (s.canWithdraw n b).canOffer n

/-- CAN_SLOT_END: a scheduled frame not started is withdrawn (R388); a standby's held one stays held (R393). -/
def State.canSlotEnd (s : State) (n b : Nat) (started : Bool) : State :=
  if s.canPending n b && (s.canBuf n b).sched && !s.isStandby then s.canTimeEnd n b started else s

/-- CAN_ALLOCATION_END: an admitted frame not started is withdrawn (R390). -/
def State.canAllocEnd (s : State) (n b : Nat) (started : Bool) : State :=
  if s.canPending n b && (s.canBuf n b).admitted then s.canTimeEnd n b started else s

/-! ### Reception (R378 to R381) -/

/-- match() of R378. -/
def filterMatch (e : List Byte) (ident : Nat) (xtd : Bool) : Bool :=
  let ctl := fieldAt e 0 1
  let id1 := fieldAt e 4 4
  let id2 := fieldAt e 8 4
  if bitOf ctl 2 != xtd then false
  else
    match bitsOf ctl 1 0 with
    | 0 => decide (id1 ≤ ident ∧ ident ≤ id2)
    | 1 => ident == id1 || ident == id2
    | 2 => (ident &&& id2) == (id1 &&& id2)
    | _ => false

/-- Base and count of the list that a frame is filtered against: the active one, or the former one while a scan in it goes
on (R379). -/
def State.canList (s : State) (n : Nat) (former : Bool) : Nat × Nat :=
  let r := s.canRec n
  let old := former && !s.flag (FLT_SHFREE n)
  (if s.flag (FLT_AREA n) != old then fieldAt r 28 4 else fieldAt r 24 4,
   if old then (s.canSt n).former else s.fld (FLT_COUNT n))

/-- The scan of `k` elements from element `i` of the list at `base`: number and bytes of the first that matches. -/
def State.canScan (s : State) (n base ident : Nat) (xtd : Bool) : Nat → Nat → Option (Nat × List Byte) × State
  | 0, _ => (none, s)
  | k + 1, i =>
    match s.blockRead (issCan n) (base + 16 * i) 16 with
    | (e, s) => if filterMatch e ident xtd then (some (i, e), s) else s.canScan n base ident xtd k (i + 1)

/-- A received frame. -/
structure CanFrame where
  ident : Nat
  xtd : Bool
  rtr : Bool
  fdf : Bool
  brs : Bool
  esi : Bool
  dlc : Nat
  data : List Byte
  deriving DecidableEq, Repr

/-- An accepted frame goes to its FIFO: buffer, then entry (R380). -/
def State.canFifo (s : State) (n fifo el : Nat) (f : CanFrame) : State :=
  let q := 16 + 2 * n + fifo
  let c := s.canSt n
  let k := (if fifo = 0 then c.rseq0 else c.rseq1) + 1
  let s := s.setCan n (if fifo = 0 then { c with rseq0 := k } else { c with rseq1 := k })
  let e := leBytes 4 (ts32Of s.now) ++ leBytes 4 (idWord f.ident f.xtd f.rtr) ++ leBytes 1 f.data.length
    ++ leBytes 1 (ofBool f.fdf + ofBool f.brs * 2 + ofBool f.esi * 4) ++ leBytes 1 el ++ leBytes 1 f.dlc
    ++ leBytes 4 k
  let base := fieldAt (s.canRec n) (32 + 4 * fifo) 4
  let data := padTo 64 f.data
  let s := if s.qUsable q && decide (s.qFill q < s.qSize q) then
      s.blockWrite (issCan n) (base + s.pidx q % s.qSize q * 64) data else s
  s.canEntry q e data

/-- Detection locks on the candidate (R377). -/
def State.canLock (s : State) (n : Nat) : State :=
  let c := s.canSt n
  let s := s.setCan n { c with good := 0, passed := false }
  let s := (s.setFld (CAN_CAND n) c.cand).setFlag (CAN_LOCKED n) true
  (s.setFld (CAN_STATE n) C_LISTEN).event 0x130 (canLoc n) []

/-- CAN_FRAME_RX: a valid frame on the bus; `former`: its arbitration field ended before the last swap of the lists. -/
def State.canRx (s : State) (n : Nat) (f : CanFrame) (former : Bool) : State :=
  let st := s.canState n
  if st = C_OFF ∨ s.canBusOff n then s
  else
    let s := ((s.setFlag (CAN_IDLE n) false).bump (canr n 0x34)).pmcCount 11 0x10 n 1
    if st = C_DETECT then
      let c := s.canSt n
      let s := s.setCan n { c with good := c.good + 1 }
      if 2 ≤ c.good + 1 then s.canLock n else s
    else if s.isStandby then s
    else
      let c := s.canSt n
      let s := if st = C_NORMAL then
          (s.setCan n { c with rxc := if 127 < c.rxc then 127 else c.rxc - 1 }).canErrState n else s
      let l := s.canList n former
      match s.canScan n l.1 f.ident f.xtd l.2 0 with
      | (none, s) => s.bump (canr n 0x38)
      | (some (i, e), s) =>
        let ctl := fieldAt e 0 1
        if bitOf ctl 4 then s.bump (canr n 0x38)
        else
          let s := s.canFifo n (ofBool (bitOf ctl 3)) i f
          if bitOf ctl 5 then s.trigger 57 (fieldAt e 1 1) 3 (canLoc n) (i + n * 256) else s

/-! ### Filter lists (R379) -/

/-- CAN_FLTCTL with DONE: the shadow is complete. -/
def State.canFltCtl (s : State) (n : Nat) (v : Word) : State :=
  if s.flag (FLT_READY n) || !bitOf v.toNat 8 then s
  else
    let s := (s.setFld (FLT_SHCOUNT n) (bitsOf v.toNat 7 0)).setFlag (FLT_READY n) true
    s.setBit POUR_SWAPSTAT n true

/-- FILTER_SCAN_END: no scan goes on in the former list. -/
def State.canScanEnd (s : State) (n : Nat) : State := s.setFlag (FLT_SHFREE n) true

/-- A filter element outside Table CAN-4. -/
def filterBad (e : List Byte) : Bool :=
  let ctl := fieldAt e 0 1
  let lim := if bitOf ctl 2 then 2 ^ 29 else 2 ^ 11
  bitsOf ctl 1 0 == 3 || decide (64 ≤ ctl) || decide (31 < fieldAt e 1 1)
    || (!bitOf ctl 5 && fieldAt e 1 1 != 0) || fieldAt e 2 2 != 0 || decide (lim ≤ fieldAt e 4 4)
    || decide (lim ≤ fieldAt e 8 4) || fieldAt e 12 4 != 0

/-! ### Operating modes (R376, R391, R394) -/

/-- A controller's own MODE lets it enter this state at the next bus idle. -/
def canTarget (m : Nat) : Nat := if m ≤ 3 then m else 0

/-- Detection starts with candidate 0 (R377). -/
def State.canDetect (s : State) (n : Nat) : State :=
  let c := s.canSt n
  let s := s.setCan n { c with cand := 0, good := 0, passed := false, wait := 0, offered := [] }
  let k := canCand (s.sec SEC_CAN) n 0
  let s := (s.setRegN (canr n 0xC) k.1).setRegN (canr n 0x10) k.2
  (s.setRegN (canr n 0x1C) 0).setFld (CAN_STATE n) C_DETECT

/-- DETECT_DWELL_END: the candidate's dwell ends or errors, and the next one is applied. -/
def State.canDwellEnd (s : State) (n : Nat) : State :=
  if s.canState n ≠ C_DETECT then s
  else
    let c := s.canSt n
    let last := decide (canNcand (s.canRec n) ≤ c.cand + 1)
    let k := if last then 0 else c.cand + 1
    let s := s.setCan n { c with cand := k, good := 0, passed := c.passed || last }
    let w := canCand (s.sec SEC_CAN) n k
    let s := (s.setRegN (canr n 0xC) w.1).setRegN (canr n 0x10) w.2
    if !last then s
    else
      let s := s.bumpSat (CAN_PASSES n)
      if c.passed then s else (s.setFlag (CAN_ERR n 5) true).event 0x134 (canLoc n) []

/-- GO_NORMAL: LISTEN to NORMAL at the next bus idle. -/
def State.canGoNormal (s : State) (n : Nat) : State :=
  let m := canMode (s.canRec n)
  if s.canState n = C_LISTEN ∧ m ≠ 2 ∧ m ≠ 0 ∧ !s.isStandby then
    s.setCan n { s.canSt n with wait := C_NORMAL }
  else s

/-- REDETECT: pending requests end RESTRICTED, detection restarts. -/
def State.canRedetect (s : State) (n : Nat) : State :=
  if (s.canState n = C_LISTEN ∨ s.canState n = C_NORMAL) ∧ canMode (s.canRec n) = 3 ∧ !s.isStandby ∧ !s.canBusOff n then
    (s.canEndAll n TX_RESTRICTED).canDetect n
  else s

/-- RECOVER: bus-off recovery starts. -/
def State.canRecover (s : State) (n : Nat) : State :=
  if s.canBusOff n then s.setCan n { s.canSt n with recovering := true } else s

/-- A write of CAN_CTL. -/
def State.canCtl (s : State) (n : Nat) (v : Word) : State :=
  let s := if bitOf v.toNat 0 then s.canRecover n else s
  let s := if bitOf v.toNat 1 then s.canGoNormal n else s
  if bitOf v.toNat 2 then s.canRedetect n else s

/-- CAN_BUS_IDLE: 11 recessive bits or bus idle seen; a waiting controller enters its state. No frame offered before is in
transmission. -/
def State.canBusIdle (s : State) (n : Nat) : State :=
  let c := s.canSt n
  let s := s.setFlag (CAN_IDLE n) (s.canState n != C_OFF || c.wait != 0)
  if c.leaving then s.canListen n
  else if c.wait = 0 then (s.setCan n { c with offered := [] }).canOffer n
  else if c.wait = C_DETECT then s.canDetect n
  else ((s.setCan n { c with wait := 0 }).setFld (CAN_STATE n) c.wait).canOffer n

/-- CAN_BUS_ERROR: an error as receiver, or one against the transmitter beside that of an attempt's end, which
CAN_TX_END counts (ISO 11898-1 counts; PRESUMED, log 19). -/
def State.canBusError (s : State) (n : Nat) (tx eight : Bool) : State :=
  let st := s.canState n
  if !(st == C_NORMAL || st == C_LISTEN) || s.canBusOff n then s
  else
    let s := (s.setFlag (CAN_IDLE n) false).pmcCount 11 0x12 n 1
    let c := s.canSt n
    let s := if tx then s else
      let s := (s.bump (canr n 0x40)).setFlag (CAN_ERR n 2) true
      let due := match c.rxErrAt with | none => true | some t => decide (t + NS ≤ s.mono)
      if due then (s.setCan n { c with rxErrAt := some s.mono }).event 0x136 (canLoc n) [] else s
    if st ≠ C_NORMAL then s
    else if tx then s.canTxError n
    else
      let c := s.canSt n
      (s.setCan n { c with rxc := c.rxc + (if eight then 8 else 1) }).canErrState n

/-- BUSOFF_RECOVERY_COMPLETE. -/
def State.canRecovered (s : State) (n : Nat) : State :=
  let c := s.canSt n
  if s.canBusOff n && c.recovering then
    let s := s.setCan n { c with tec := 0, rxc := 0, recovering := false }
    (((s.setFld (CAN_ERRSTATE n) 0).canErrState n).event 0x133 (canLoc n) []).canOffer n
  else s

/-- A controller stops: bus released, requests discarded, OFF (Table CAN-3). -/
def State.canOff (s : State) (n : Nat) : State :=
  let c := s.canSt n
  let s := s.setCan n { CanSt.reset with rseq0 := c.rseq0, rseq1 := c.rseq1, tevseq := c.tevseq }
  (((s.setRegN (canr n 0) 0).setRegN (canr n 0x18) 0).setRegN (canr n 0x28) 0).setRegN (canr n 0x2C) 0

def State.canAllOff (s : State) : State := (List.range 4).foldl (fun s n => s.canOff n) s

/-- Controller `n` is there to follow its module's role: the drag plane has started with a CAN section, and neither the
block, its region nor its domain is out. -/
def State.canThere (s : State) (n : Nat) : Bool :=
  s.hasSec SEC_CAN && s.dragUp && !s.bit 0x20000028 (18 + n) && s.domain (8 + n) != D_OFF
    && s.fld ⟨0x20000020, 5, 4⟩ != 1

/-- The controller follows its role: LISTEN on a standby whatever its MODE, after a frame in transmission, one that started
before; its own MODE at the next bus idle otherwise (R393, R394). -/
def State.canFollowRole (s : State) (n : Nat) : State :=
  let c := s.canSt n
  let m := canMode (s.canRec n)
  if !s.canThere n then s
  else if s.isStandby then
    if s.canState n = C_NORMAL ∧ !s.canBusOff n ∧ c.offered.any (fun e => e.1.any (s.canPending n)) then
      (s.setCan n { c with leaving := true }).canOffer n
    else s.canListen n
  else if s.flag (CAN_FORCED n) || c.leaving then
    let s := ((s.canEndAll n TX_WITHDRAWN).setFlag (CAN_FORCED n) false)
    let s := if m = 0 then s.setFld (CAN_STATE n) C_OFF else s
    s.setCan n { s.canSt n with leaving := false, wait := canTarget m }
  else s

/-- The controllers at drag-plane start, with the pattern's settings and lists (R7, R376, R392). -/
def State.canStartOne (s : State) (n : Nat) : State :=
  let sec := s.sec SEC_CAN
  let r := canRecOf sec n
  let c := s.canSt n
  let s := s.clearRegs (canr n 0) (canr n 0x10000)
  let s := s.setCan n { CanSt.reset with rseq0 := c.rseq0, rseq1 := c.rseq1, tevseq := c.tevseq }
  if !s.hasSec SEC_CAN then s
  else
    let s := (s.setRegN (canr n 0xC) (fieldAt r 4 4)).setRegN (canr n 0x10) (fieldAt r 8 4)
    let s := s.setRegN (canr n 0x14) (fieldAt r 12 1 % 128 + ofBool (bitOf (fieldAt r 1 1) 1) * 128)
    let s := (s.setFld (FLT_COUNT n) (canFltCount r)).blockWrite issCope (fieldAt r 24 4) (canFilters sec n)
    let s := s.setRegN (canr n 0x30) (schedMask s.can.sched n)
    if s.isStandby then s.canListen n
    else if canMode r = 3 then s.canDetect n
    else s.setCan n { s.canSt n with wait := canTarget (canMode r) }

def State.canStart (s : State) : State :=
  let s := { s with can := { s.can with sched := if s.hasSec SEC_CAN then canSched (s.sec SEC_CAN) else [] } }
  (List.range 4).foldl (fun s n => s.canStartOne n) s

/-! ### Swap tables 0 to 3 and 7 (R379, R387, R389) -/

/-- The filter lists exchange active and shadow; a scan in the former list may go on. -/
def State.swapFilters (s : State) (n : Nat) : State :=
  let old := s.fld (FLT_COUNT n)
  let s := s.setCan n { s.canSt n with former := old }
  let s := (s.setFld (FLT_COUNT n) (s.fld (FLT_SHCOUNT n))).setFld (FLT_SHCOUNT n) old
  ((s.setFlag (FLT_AREA n) (!s.flag (FLT_AREA n))).setFlag (FLT_READY n) false).setFlag (FLT_SHFREE n) false

/-- Response bound in CAN_CLK cycles of a scheduled record under a CAN section. -/
def schedBound (sec : List Byte) (r : List Byte) : Nat :=
  let c := canRecOf sec (fieldAt r 0 1)
  let f := fieldAt r 2 1
  frameBound (fieldAt c 4 4) (fieldAt c 8 4) (bitOf f 0) (bitOf f 1) (bitOf f 2) (fieldAt r 3 1)

/-- R387: the first scheduled record that fails, as controller * 256 + record; `period` gives the PERIOD_US
of the CAN_TX entry of a record. -/
def schedRefusal (sec : List Byte) (l : List Byte) (period : Nat → Nat → Nat) : Option Nat :=
  let rs := schedRecs l
  let idx := List.range rs.length
  idx.findSome? (fun i =>
    let r := rs.getD i []
    let n := fieldAt r 0 1
    let c := canRecOf sec n
    let b := schedBound sec r
    let bad := decide (40 * fieldAt r 8 4 < 40 * (1 + fieldAt c 16 4 + fieldAt c 20 4) + b)
      || canMode c != 1 || decide (40 * fieldAt c 16 4 < b)
    -- shares up to and including this record, in fortieths of the bus
    let use : Rat := ((idx.filter (fun j => decide (j ≤ i) && fieldAt (rs.getD j []) 0 1 == n)).map (fun j =>
      let q := rs.getD j []
      let p := period n (fieldAt q 1 1)
      mkRat (schedBound sec q) p)).foldl (· + ·) 0
    if bad || decide (mkRat (fieldAt c 13 1 * 40) 100 < use) then some (n * 256 + i) else none)

/-- PERIOD_US of the CAN_TX entry of a buffer. -/
def State.canTxPeriod (s : State) (n b : Nat) : Nat :=
  match s.entries.find? (fun e => e.kind == KIND_CAN_TX && e.object == n * 256 + b) with
  | some e => e.period
  | none => 0

/-- The run-time test of a shadow scheduled list (R389). -/
def State.schedSwapOk (s : State) (l : List Byte) : Bool :=
  let a := schedRecs s.can.sched
  let b := schedRecs l
  (List.range a.length).all (fun i =>
    let x := a.getD i []
    let y := b.getD i []
    fieldAt x 0 2 == fieldAt y 0 2 && fieldAt x 8 4 == fieldAt y 8 4)
    && (schedRefusal (s.sec SEC_CAN) l s.canTxPeriod).isNone

end Sys2Proof.Machine
end

