-- ==== Sys2Proof/Machine/PlnVars.lean ====
section
/-! DEFINITION. Pourline's lists, layouts and variables: what a commit or a loop writes into a publication
and what a snapshot or a latch reads from a subscription (R352, R355, R357, R358, R366). -/

namespace Sys2Proof.Machine

/-! ### POURLINE section (Tables PLN-10 and PLN-11) -/

def State.plnSec (s : State) : List Byte := s.sec SEC_POURLINE
def plnPubs (sec : List Byte) : Nat := fieldAt sec 6 1
def plnSubs (sec : List Byte) : Nat := fieldAt sec 7 1
def plnConns (sec : List Byte) : Nat := fieldAt sec 8 1
def plnLayoutBytes (sec : List Byte) : Nat := fieldAt sec 20 4
def plnPubOff : Nat := 64
def plnSubOff (sec : List Byte) : Nat := 64 + 32 * plnPubs sec
def plnConnOff (sec : List Byte) : Nat := plnSubOff sec + 32 * plnSubs sec
def plnLayOff (sec : List Byte) : Nat := plnConnOff sec + 16 * plnConns sec

/-- The layout entries of a section. -/
def plnLayout (sec : List Byte) : List Byte := slice sec (plnLayOff sec) (plnLayoutBytes sec)
/-- A list as it stands in force: its records, then its layout entries (R367). -/
def plnPubList (sec : List Byte) : List Byte := slice sec plnPubOff (32 * plnPubs sec) ++ plnLayout sec
def plnSubList (sec : List Byte) : List Byte := slice sec (plnSubOff sec) (32 * plnSubs sec) ++ plnLayout sec

/-- A publication record. -/
structure PubRec where
  no : Nat
  carry : Bool
  nvar : Nat
  bytes : Nat
  win : Nat
  da : Nat
  target : Nat
  lay : Nat
  crc : Nat
  deriving DecidableEq, Repr

def pubRecAt (l : List Byte) (i : Nat) : PubRec :=
  let r := slice l (32 * i) 32
  ⟨fieldAt r 0 1, bitOf (fieldAt r 1 1) 0, fieldAt r 2 2, fieldAt r 4 2, fieldAt r 6 2, fieldAt r 8 6,
    fieldAt r 14 2, fieldAt r 16 4, fieldAt r 20 4⟩

/-- A subscription record. -/
structure SubRec where
  no : Nat
  owd : Bool
  trig : Nat
  station : Nat
  pub : Nat
  toCount : Nat
  nvar : Nat
  period : Nat
  lay : Nat
  crc : Nat
  task : Nat
  trigVar : Nat
  bytes : Nat
  deriving DecidableEq, Repr

def subRecAt (l : List Byte) (i : Nat) : SubRec :=
  let r := slice l (32 * i) 32
  let f := fieldAt r 1 1
  ⟨fieldAt r 0 1, bitOf f 0, bitsOf f 2 1, fieldAt r 2 2, fieldAt r 4 1, fieldAt r 5 1, fieldAt r 6 2,
    fieldAt r 8 4, fieldAt r 12 4, fieldAt r 16 4, fieldAt r 20 1, fieldAt r 22 2, fieldAt r 24 2⟩

/-- Layout entry `j` of a list whose records number `n`: FMT and OFFSET. -/
def layEntry (l : List Byte) (n j : Nat) : Nat × Nat :=
  let e := slice l (32 * n + 4 * j) 4
  (fieldAt e 0 1, fieldAt e 2 2)

def State.pubCount (s : State) : Nat := plnPubs s.plnSec
def State.subCount (s : State) : Nat := plnSubs s.plnSec
def State.pubRec (s : State) (i : Nat) : PubRec := pubRecAt s.net.pubList i
def State.subRec (s : State) (i : Nat) : SubRec := subRecAt s.net.subList i

/-! ### Subscriptions -/

def plnLive (st : Nat) : Fld := ⟨0x20510080 + 4 * (st / 32), st % 32, st % 32⟩
def plnSub (n : Nat) : Nat := 0x20510400 + 4 * n
def plnEpoch (st : Nat) : Nat := 0x20511000 + 4 * st
def SUB_FRESH (n : Nat) : Fld := ⟨plnSub n, 0, 0⟩

def State.subSt (s : State) (n : Nat) : SubSt := tblGet (fun _ => SubSt.reset) s.net.subs n
def State.setSub (s : State) (n : Nat) (x : SubSt) : State :=
  { s with net := { s.net with subs := tblPut (fun _ => SubSt.reset) s.net.subs n [x] } }

/-- A remote station is live (R358). -/
def State.stationLive (s : State) (st : Nat) : Bool := s.flag (plnLive st)
def State.stationEpoch (s : State) (st : Nat) : Nat := s.regN (plnEpoch st)

/-- A variable of a payload: the value's encoding. -/
def payloadVar (buf : List Byte) (lay : Nat × Nat) : Nat := fieldAt buf lay.2 (fmtBytes lay.1)

/-- What a variable handle of a subscription reads: the value and whether it is good (R357). -/
def State.plnLatch (s : State) (handle : Nat) : Nat × Bool :=
  let n := bitsOf handle 22 16
  let v := bitsOf handle 11 0
  if !bitOf handle 23 || decide (s.subCount ≤ n) then (0, false)
  else
    let r := s.subRec n
    let x := s.subSt n
    let bad := bitOf (fieldAt x.buf (4 * (v / 32)) 4) (v % 32)
    (payloadVar x.buf (layEntry s.net.subList s.subCount (r.lay + v)),
      !bad && x.fresh && s.stationLive r.station && decide (v < r.nvar))

/-! ### Publication variables -/

def pubKey (p v : Nat) : Nat := p * 4096 + v

/-- A value for a publication variable takes effect (R355). -/
def State.plnStage (s : State) (handle v : Nat) : State :=
  let k := pubKey (bitsOf handle 22 16) (bitsOf handle 11 0)
  if bitOf handle 23 then s
  else { s with net := { s.net with pubVars := tblPut (fun _ => ⟨0, false⟩) s.net.pubVars k [⟨v, true⟩] } }

def State.pubVar (s : State) (p v : Nat) : PubVar := tblGet (fun _ => ⟨0, false⟩) s.net.pubVars (pubKey p v)

/-- At entry to RUN no variable has been written. -/
def State.plnEnterRun (s : State) : State :=
  { s with net := { s.net with pubVars := s.net.pubVars.filterMap (fun e =>
      if e.2.val = 0 then none else some (e.1, { e.2 with written := false })) } }

end Sys2Proof.Machine
end

