-- ==== Sys2Proof/Machine/Crucible.lean ====
section
/-! DEFINITION. Crucible: sources, destinations, the control law, modes, plausibility model, overruns and
FALLBACK (05_crucible_loop_engine.md). -/

namespace Sys2Proof.Machine

/-! ### Registers -/

/-- Offset `off` of the descriptor of loop `n` (R180). -/
def lreg (n off : Nat) : Nat := 0x20080000 + n * 0x80 + off
/-- Offset `off` of the status registers of loop `n` (R183). -/
def lst (n off : Nat) : Nat := 0x20041000 + n * 0x20 + off

def CRU_STATE : Fld := ⟨0x20040000, 1, 0⟩
def CRU_ENCOUNT : Fld := ⟨0x20040000, 24, 16⟩
abbrev CRU_LOAD : Nat := 0x20040004
abbrev CRU_EVALS : Nat := 0x20040008
abbrev CRU_OVRTOT : Nat := 0x2004000C
def CRU_ERR (i : Nat) : Fld := ⟨0x20040010, i, i⟩
def CRU_FBCNT : Fld := ⟨0x20040014, 8, 0⟩
def cruEN (n : Nat) : Fld := ⟨0x20040020 + 4 * (n / 32), n % 32, n % 32⟩
def cruFB (n : Nat) : Fld := ⟨0x20040040 + 4 * (n / 32), n % 32, n % 32⟩
def cruPL (n : Nat) : Fld := ⟨0x20040060 + 4 * (n / 32), n % 32, n % 32⟩
def cruLink (n : Nat) : Nat := 0x20040400 + 4 * n

/-- Fields of CRU_LnSTAT (Table CRU-16). -/
def LS_MODE (n : Nat) : Fld := ⟨lst n 0x10, 2, 0⟩
def LS_QBAD (n : Nat) : Fld := ⟨lst n 0x10, 3, 3⟩
def LS_SAT (n : Nat) : Fld := ⟨lst n 0x10, 4, 4⟩
def LS_DTRK (n : Nat) : Fld := ⟨lst n 0x10, 5, 5⟩
def LS_LTRACK (n : Nat) : Fld := ⟨lst n 0x10, 6, 6⟩
def LS_RAMP (n : Nat) : Fld := ⟨lst n 0x10, 7, 7⟩
def LS_PLAUS (n : Nat) : Fld := ⟨lst n 0x10, 8, 8⟩
def LS_NUMERR (n : Nat) : Fld := ⟨lst n 0x10, 9, 9⟩
def LS_MREF (n : Nat) : Fld := ⟨lst n 0x10, 10, 10⟩
def LS_OVR (n : Nat) : Fld := ⟨lst n 0x10, 11, 11⟩
def LS_FBC (n : Nat) : Fld := ⟨lst n 0x10, 14, 12⟩
def LS_SPBAD (n : Nat) : Fld := ⟨lst n 0x10, 15, 15⟩
def LS_OVRC (n : Nat) : Fld := ⟨lst n 0x10, 23, 16⟩
def LS_QBADC (n : Nat) : Fld := ⟨lst n 0x10, 31, 24⟩
/-- CRU_LCTL.MODE: the mode in effect. -/
def LMODE (n : Nat) : Fld := ⟨lreg n 0, 2, 0⟩

def State.loop (s : State) (n : Nat) : LoopSt := tblGet (fun _ => LoopSt.reset) s.cru.loops n
def State.setLoop (s : State) (n : Nat) (l : LoopSt) : State :=
  { s with cru := { s.cru with loops := tblPut (fun _ => LoopSt.reset) s.cru.loops n [l] } }

def State.lcfg (s : State) (n hi lo : Nat) : Nat := s.fld ⟨lreg n 4, hi, lo⟩
def State.loopEn (s : State) (n : Nat) : Bool := s.bit (lreg n 4) 0
def State.loopMode (s : State) (n : Nat) : Nat := s.fld (LMODE n)
def refKind (r : Nat) : Nat := bitsOf r 31 28
def refIndex (r : Nat) : Nat := bitsOf r 27 0

abbrev LM_OFF : Nat := 0
abbrev LM_MAN : Nat := 1
abbrev LM_AUTO : Nat := 2
abbrev LM_CASC : Nat := 3
abbrev LM_TRACK : Nat := 4
abbrev LM_FALLBACK : Nat := 5

/-- Every event of Crucible carries 0x47F and the loop first (R182). -/
def State.loopEvent (s : State) (n code : Nat) (rest : List Nat) : State :=
  s.event code 0x47F ((n :: rest).map (BitVec.ofNat 8))

/-- The mode in effect, in LCTL and in LnSTAT, and the FALLBACK summary registers. -/
def State.putLoopMode (s : State) (n m : Nat) : State :=
  let s := (s.setFld (LMODE n) m).setFld (LS_MODE n) m
  let was := s.flag (cruFB n)
  let s := s.setFlag (cruFB n) (m == LM_FALLBACK)
  if was = (m == LM_FALLBACK) then s
  else if was then s.setFld CRU_FBCNT (s.fld CRU_FBCNT - 1) else s.setFld CRU_FBCNT (s.fld CRU_FBCNT + 1)

/-- A mode change with its event 0x00A5 (R166, Table EVR-9); one that leaves FALLBACK has cause 3. -/
def State.loopModeChange (s : State) (n m cause : Nat) : State :=
  let old := s.loopMode n
  let cause := if old = LM_FALLBACK then 3 else cause
  let s := s.putLoopMode n m
  let l := s.loop n
  let s := s.setLoop n { l with trans := true, reseed := l.reseed || old == LM_OFF }
  s.loopEvent n 0xA5 [old, m, cause]

/-- Entry to FALLBACK (Table CRU-6): FBC, action and event 0x00A1; in FALLBACK FBC stays. -/
def State.enterFallback (s : State) (n fbc : Nat) (subst : Bool) : State :=
  if s.loopMode n = LM_FALLBACK ∨ s.loopMode n = LM_OFF then s
  else
    let s := s.loopModeChange n LM_FALLBACK 3
    let l := s.loop n
    let s := (s.setLoop n { l with fbSubst := subst }).setFld (LS_FBC n) fbc
    s.loopEvent n 0xA1 []

/-- FB_ACT of CRU_LCFG is SUBST (R164). -/
def State.fbAct (s : State) (n : Nat) : Bool := s.bit (lreg n 4) 7

/-- The action of loop `n` in FALLBACK is SUBST: the plausibility action's where that set it, else FB_ACT as it stands
(R164, R170). -/
def State.fbSubstNow (s : State) (n : Nat) : Bool := if s.fld (LS_FBC n) = 3 then (s.loop n).fbSubst else s.fbAct n

/-! ### Stage phase and overruns (R147, R173) -/

/-- An overrun of loop `n`. -/
def State.loopOverrun (s : State) (n : Nat) : State :=
  let l := s.loop n
  let s := s.setLoop n { l with staged := none, held := none, done := true }
  let s := ((s.bumpSat (LS_OVRC n)).bump (lst n 0x14)).bump CRU_OVRTOT |>.pmc1 3 0x11
  let s := ((s.setFlag (LS_OVR n) true).setFlag (CRU_ERR 3) true).loopEvent n 0xA0 []
  let lim := s.lcfg n 23 16
  if lim ≠ 0 ∧ lim ≤ s.fld (LS_OVRC n) ∧ s.loopMode n ≠ LM_OFF then s.enterFallback n 1 (s.fbAct n)
  else s

/-- The loops of a CRUCIBLE entry, in lane order. -/
def groupLoops (e : Entry) : List Nat :=
  (List.range (bitsOf e.arg 7 0 + 1)).map (fun j => e.object + j)

/-- The stage phase of one loop: its output goes to its destination, to take effect at the sample
instant; an evaluation that has not ended is an overrun. -/
def State.stageLoop (s : State) (n : Nat) : State :=
  if !s.loopEn n || s.loopMode n == LM_OFF then s
  else
    let l := s.loop n
    if !l.done then s.loopOverrun n
    else s.setLoop n { l with staged := l.held }

/-- Crucible performs the occurrence of an entry: not outside RUN and SAFE (R176), nor on a BLIND standby (R324). -/
def State.cruActs (s : State) (e : Entry) : Bool := s.fld CRU_STATE == 1 && e.kind == KIND_CRUCIBLE && !s.blind

/-- CRUCIBLE_STAGE: the stage phase of a group. -/
def State.crucibleStage (s : State) (e : Entry) : State :=
  if s.cruActs e then (groupLoops e).foldl (fun s n => s.stageLoop n) s
  else s

/-! ### The sample instant (R147, R155, R158, R161, R162) -/

/-- What loop `n` staged takes effect at its destination. -/
def State.takeEffect (s : State) (n : Nat) : State :=
  let l := s.loop n
  match l.staged with
  | none => s
  | some v =>
    let s := s.setLoop n { l with staged := none, inEffect := v }
    let dst := s.regN (lreg n 0x14)
    match refKind dst with
    | 1 => s.cellCommand (refIndex dst) v
    | 2 =>
      let i := s.loop (refIndex dst)
      s.setLoop (refIndex dst) { i with linkSp := some v }
    | 4 => s.plnStage (refIndex dst) v.toNat
    | _ => s

/-- A source reference as value and quality; a non-finite value is bad (R155). A DI cell gives its VALUE, the
binary32 0 or 1 of Table CH-19. -/
def State.sourceVal (s : State) (n ref : Nat) : Word × Bool :=
  let (v, q) : Word × Bool := match refKind ref with
    | 1 =>
      let (x, g) := s.latchItem (refIndex ref) 0
      (if s.cellMode (refIndex ref) = M_DI then (if x = 0 then 0 else 0x3F800000) else BitVec.ofNat 32 x, g)
    | 4 =>
      let (x, g) := s.plnLatch (refIndex ref)
      (BitVec.ofNat 32 x, g)
    | 5 => (s.reg (lreg n 0x58), true)
    | _ => (0, false)
  (v, q && ffin32 v)

/-- A PROGRAM source: the value of the last commit, bad before the first (R155). -/
def programVal (x : Option Word) : Word × Bool :=
  match x with
  | some v => (v, ffin32 v)
  | none => (0, false)

/-- Everything loop `n` latches at its sample instant. -/
def State.latchLoop (s : State) (n : Nat) : LoopSrc :=
  let l := s.loop n
  let rpv := s.regN (lreg n 0x08)
  let rsp := s.regN (lreg n 0x0C)
  let rtk := s.regN (lreg n 0x10)
  let dst := s.regN (lreg n 0x14)
  let pv := if refKind rpv = 3 then programVal l.pvin else s.sourceVal n rpv
  let sp := s.sourceVal n rsp
  let tk := if refKind rtk = 3 then programVal l.trk else s.sourceVal n rtk
  let cell := refIndex dst
  let isCell := refKind dst == 1
  ⟨pv.1, pv.2, sp.1, sp.2, tk.1, tk.2,
    if isCell && s.bit (cOSTAT cell) 1 then some (s.reg (cVAL cell)) else none,
    if isCell then s.cellTrackVal cell else none, none⟩

/-- Samples of an entry so far (Table RUN-5). -/
def State.entrySample (s : State) (e : Entry) : Nat := tblGet (fun _ => 0) s.cru.samples e.object

def State.setEntrySample (s : State) (e : Entry) (k : Nat) : State :=
  { s with cru := { s.cru with samples := tblSet (fun _ => 0) s.cru.samples e.object (k % 2 ^ 32) } }

/-- The values that count at a sample of entry `e`: on a standby those that the primary latched at the same sample
(R179, R310); none: their record has not come. -/
def State.loopSrc (s : State) (e : Entry) (n : Nat) : Option LoopSrc :=
  if s.isStandby then
    match tblGet (fun _ => none) s.cru.remote n with
    | some (k, x) => if k = s.entrySample e then some x else none
    | none => none
  else some (s.latchLoop n)

/-- A standby's sample of entry `e` finds a record missing (R309). -/
def State.latchMissing (s : State) (e : Entry) : Bool :=
  s.cruActs e && (groupLoops e).any (fun n => s.loopEn n && (s.loopSrc e n).isNone)

/-! ### Mode requests (R166) -/

/-- The FALLBACK cause is still present (Table CRU-6). -/
def State.fbCausePresent (s : State) (n : Nat) (pvGood : Bool) : Bool :=
  match s.fld (LS_FBC n) with
  | 1 => s.fld (LS_OVRC n) != 0
  | 2 => !pvGood
  | 3 => s.flag (LS_PLAUS n)
  | 4 => s.flag (LS_NUMERR n)
  | _ => false

/-- A request is refused (R166). -/
def State.modeRefused (s : State) (n m : Nat) (pvGood : Bool) : Bool :=
  decide (5 ≤ m)
    || (m == LM_AUTO && (refKind (s.regN (lreg n 0x0C)) == 0 || !pvGood))
    || (m == LM_CASC && !s.bit (cruLink n) 8)
    || (m == LM_TRACK && refKind (s.regN (lreg n 0x10)) == 0)
    || ((m == LM_AUTO || m == LM_CASC) && s.loopMode n == LM_FALLBACK && s.fbCausePresent n pvGood)

/-- A mode request takes its place as the pending one (R157, R166). -/
def State.requestMode (s : State) (n m cause : Nat) : State :=
  let l := s.loop n
  s.setLoop n { l with req := some (m, cause) }

/-- The pending request is acted on at the sample (R166, Table CRU-6). -/
def State.actRequest (s : State) (n : Nat) (pvGood : Bool) : State :=
  let l := s.loop n
  match l.req with
  | none => s
  | some (m, cause) =>
    let s := s.setLoop n { l with req := none }
    let old := s.loopMode n
    if m = old then s
    else if s.modeRefused n m pvGood then
      ((s.setFlag (LS_MREF n) true).setFlag (CRU_ERR 0) true).loopEvent n 0xA6 []
    else
      let s := if m = LM_MAN then s.setReg (lst n 0xC) (s.reg (lreg n 0x78)) else s
      let s := s.loopModeChange n m cause
      if old = LM_FALLBACK then (s.setFld (LS_FBC n) 0).loopEvent n 0xA2 [] else s

/-! ### Evaluation (R159, R160) -/

/-- One sample's numbers: P, D, I, RMD, ED_PREV and u. -/
structure Law where
  p : F32
  d : F32
  i : F64
  rmd : F32
  edp : F32
  u : F32
  deriving DecidableEq, Repr

/-- The descriptor's parameters as read for one sample. -/
structure Params where
  kp : F32
  ti : F32
  td : F32
  nf : F32
  tt : F32
  b : F32
  c : F32
  lo : F32
  hi : F32
  bump : F32
  neg : Bool
  aw : Nat
  h : F64
  deriving DecidableEq, Repr

def State.params (s : State) (n : Nat) : Params :=
  let f (o : Nat) : F32 := s.reg (lreg n o)
  ⟨f 0x1C, f 0x20, f 0x24, f 0x28, f 0x2C, f 0x30, f 0x34, f 0x38, f 0x3C, f 0x40, s.bit (lreg n 4) 1,
    s.lcfg n 3 2, fmul (f64ofInt (s.regN (lreg n 0x18))) (f64ofRat 1 1000000)⟩

def fdiv32 (a b : F32) : F32 := to32 (fvDiv (F32.dec a) (F32.dec b))
def fneg32 (a : F32) : F32 := a ^^^ 0x80000000
def fabs32 (a : F32) : F32 := a &&& 0x7FFFFFFF
def fclamp32 (lo hi x : F32) : F32 := if flt32 x lo then lo else if flt32 hi x then hi else x
def Params.sgn (q : Params) (x : F32) : F32 := if q.neg then fneg32 x else x
/-- The integrator limits (R160). -/
def Params.iclamp (q : Params) (x : F64) : F64 := fclamp (f64of32 q.lo) (f64of32 q.hi) x

/-- P of a PV. -/
def Params.pTerm (q : Params) (sp pv : F32) : F32 := fmul32 q.kp (q.sgn (fsub32 (fmul32 q.b sp) pv))
/-- ed of a PV. -/
def Params.edTerm (q : Params) (sp pv : F32) : F32 := q.sgn (fsub32 (fmul32 q.c sp) pv)

/-- D of R160 from the stored D and ED_PREV. -/
def Params.dTerm (q : Params) (d edp ed : F32) : F32 :=
  if flt32 0 q.td then
    let h := f32of64 q.h
    let tf := fdiv32 q.td q.nf
    let den := fadd32 tf h
    fadd32 (fmul32 (fdiv32 tf den) d) (fmul32 (fdiv32 (fmul32 q.kp q.td) den) (fsub32 ed edp))
  else 0

/-- u = ((P + fl32(I)) + D) + RMD. -/
def sumU (p : F32) (i : F64) (d rmd : F32) : F32 := fadd32 (fadd32 (fadd32 p (f32of64 i)) d) rmd

/-- run() of R160. -/
def Params.run (q : Params) (p d edp : F32) (i : F64) (rmd e ulim uprev : F32) : Law :=
  let i :=
    if flt32 0 q.ti then
      let inc := fmul (fdiv (fmul (f64of32 q.kp) q.h) (f64of32 q.ti)) (f64of32 e)
      let inc := if q.aw = 1 ∧ ((flt32 ulim uprev ∧ flt f0 inc) ∨ (flt32 uprev ulim ∧ flt inc f0)) then f0
        else inc
      let i := fadd i inc
      if q.aw = 0 then
        fadd i (fmul (fdiv q.h (f64of32 q.tt)) (fsub (f64of32 ulim) (f64of32 uprev)))
      else i
    else i
  let i := q.iclamp i
  let mag := fsub32 (fabs32 rmd) (fmul32 q.bump (f32of64 q.h))
  let mag := if flt32 0 mag then mag else 0
  let rmd := if feq32 rmd 0 then 0 else if flt32 rmd 0 then fneg32 mag else mag
  ⟨p, d, i, rmd, edp, sumU p i d rmd⟩

/-- preset(x) of R160. -/
def Params.preset (q : Params) (p d edp x : F32) : Law :=
  let ipre := fsub (fsub (f64of32 x) (f64of32 p)) (f64of32 d)
  let i := q.iclamp ipre
  let rmd := f32of64 (fsub ipre i)
  ⟨p, d, i, rmd, edp, sumU p i d rmd⟩

/-- track(x) of R160. -/
def Params.track (q : Params) (p d edp x : F32) : Law :=
  ⟨p, d, q.iclamp (fsub (fsub (f64of32 x) (f64of32 p)) (f64of32 d)), 0, edp, x⟩

def Law.finite (w : Law) : Bool := ffin32 w.p && ffin32 w.d && ffin w.i && ffin32 w.u

/-- The integrator of loop `n`. -/
def State.loopI (s : State) (n : Nat) : F64 := s.reg (lreg n 0x64) ++ s.reg (lreg n 0x60)

/-- The dynamic fields written together (R151): I, D, ED_PREV, U_PREV, RMD and the held output. -/
def State.putLaw (s : State) (n : Nat) (q : Params) (w : Law) : State :=
  let s := s.setReg (lreg n 0x60) (BitVec.ofNat 32 w.i.toNat)
  let s := s.setReg (lreg n 0x64) (BitVec.ofNat 32 (w.i.toNat / 2 ^ 32))
  let s := (s.setReg (lreg n 0x6C) w.d).setReg (lreg n 0x70) w.edp
  let s := (s.setReg (lreg n 0x74) w.u).setReg (lreg n 0x7C) w.rmd
  let s := s.setFlag (LS_RAMP n) (!feq32 w.rmd 0)
  let l := s.loop n
  s.setLoop n { l with held := some (fclamp32 q.lo q.hi w.u) }

/-- What one sample may write before its numbers are known finite: UEFF_PREV, CRU_LnPV, CRU_LnSPE and CRU_LnOUT. -/
def sampleRegs (n : Nat) : List Nat := [lreg n 0x78, lst n 0, lst n 4, lst n 8]

/-- A numeric error (R174): results discarded, the values `old` of `sampleRegs` at the previous sample kept, FALLBACK. -/
def State.numErr (s : State) (n : Nat) (old : List Word) : State :=
  let s := ((sampleRegs n).zip old).foldl (fun s x => s.setReg x.1 x.2) s
  let s := ((s.setFlag (LS_NUMERR n) true).setFlag (CRU_ERR 1) true).loopEvent n 0xA7 []
  let l := s.loop n
  (s.setLoop n { l with held := none }).enterFallback n 4 (s.fbAct n)

/-! ### Plausibility (R169 to R171) -/

/-- 2^-k as binary32. -/
def pow2neg (k : Nat) : F32 := to32 (.fin false 1 (-(k : Int)))

/-- YM advances by one sample: `ym` at this sample, `u` the output of DELAY samples before (R169). -/
def State.nextYm (s : State) (n : Nat) (ym u : F32) : F32 :=
  fadd32 (fmul32 (s.reg (lreg n 0x48)) ym) (fmul32 (s.reg (lreg n 0x4C)) u)

/-- A reseed: YM = pv, RF = 0, window cleared, history filled with UEFF_PREV (R171). The sample is not tested, and the
model runs on from pv (DEDUCED, log 32). -/
def State.reseedModel (s : State) (n : Nat) (pv : F32) : State :=
  let l := s.loop n
  let u := s.reg (lreg n 0x78)
  let s := (s.setReg (lreg n 0x5C) (s.nextYm n pv u)).setReg (lreg n 0x68) 0
  s.setLoop n { l with reseed := false, win := [], hist := List.replicate 65 u }

/-- One run of the model; true when PLAUS has just been set. -/
def State.runModel (s : State) (n : Nat) (pv : F32) : Bool × State :=
  let l := s.loop n
  let cfg := s.regN (lreg n 0x50)
  let ym := s.reg (lreg n 0x5C)
  let rf := s.reg (lreg n 0x68)
  let rho := fsub32 pv ym
  let rf := fadd32 rf (fmul32 (pow2neg (bitsOf cfg 27 24)) (fsub32 rho rf))
  let fail := flt32 (s.reg (lreg n 0x54)) (fabs32 rf)
  let win := (fail :: l.win).take (bitsOf cfg 15 8)
  let hist := (s.reg (lreg n 0x78) :: l.hist).take 65
  let hit := !s.flag (LS_PLAUS n) && decide (bitsOf cfg 23 16 ≤ (win.filter id).length)
  let ud := hist.getD (bitsOf cfg 6 0) 0
  let ym := s.nextYm n ym ud
  let s := s.setLoop n { l with win := win, hist := hist }
  let s := (s.setReg (lreg n 0x68) rf).setReg (lreg n 0x5C) ym
  if hit then
    let s := ((s.setFlag (LS_PLAUS n) true).setFlag (cruPL n) true).bump (lst n 0x18)
    (true, (s.setFlag (CRU_ERR 2) true).loopEvent n 0xA3 [])
  else (false, s)

/-- The plausibility part of a sample, and PL_ACT on a failure (R169, R170): the output staged at this
sample is already the action's. -/
def State.plausibility (s : State) (n : Nat) (q : Params) (w : Law) (pv : F32) : State :=
  if !s.bit (lreg n 4) 4 then
    let l := s.loop n
    s.setLoop n { l with reseed := false }
  else if (s.loop n).reseed then s.reseedModel n pv
  else
    let (hit, s) := s.runModel n pv
    if !hit then s
    else
      let ueff := s.reg (lreg n 0x78)
      let m := s.loopMode n
      match s.lcfg n 6 5 with
      | 1 => if m = LM_FALLBACK then s
             else (s.enterFallback n 3 false).putLaw n q (q.track w.p w.d w.edp ueff)
      | 2 => if m = LM_AUTO ∨ m = LM_CASC ∨ m = LM_TRACK then
               ((s.setReg (lst n 0xC) ueff).loopModeChange n LM_MAN 4).putLaw n q
                 (q.track w.p w.d w.edp (fclamp32 q.lo q.hi ueff))
             else s
      | 3 => if m = LM_FALLBACK then s
             else (s.enterFallback n 3 true).putLaw n q (q.track w.p w.d w.edp (s.reg (lreg n 0x44)))
      | _ => s

/-! ### One loop's sample -/

/-- The value of UEFF_PREV at the first sample after entry to RUN (R177): for a cell the substitute value that it
reports, or would report. -/
def State.firstUeff (s : State) (n : Nat) (x : LoopSrc) : F32 :=
  let dst := s.regN (lreg n 0x14)
  if refKind dst = 1 then
    x.sub.getD (f32of64 (cmdOf (s.cellRec (refIndex dst)) (s.substPhys (refIndex dst))))
  else if (s.loop n).cold then s.reg (lreg n 0x44) else s.reg (lreg n 0x78)

/-- UEFF_PREV at this sample (R162, R177); on a standby the primary's (R310). -/
def State.ueffOf (s : State) (n : Nat) (x : LoopSrc) : F32 :=
  match x.ueff with
  | some v => v
  | none => if (s.loop n).first then s.firstUeff n x else x.sub.getD (s.loop n).inEffect

/-- UEFF_PREV, DTRK and the flags of the first sample (R162, R165, R177): the first that evaluates the loop, however long it
has stood in OFF since the entry to RUN (DESIGN CHOICE, log 80). -/
def State.setUeff (s : State) (n : Nat) (x : LoopSrc) : State :=
  let l := s.loop n
  let v := s.ueffOf n x
  let s := if l.first then
      s.setLoop n { l with first := false, cold := false, trans := true, reseed := true, inEffect := v }
    else s
  let s := s.setReg (lreg n 0x78) v
  let was := s.flag (LS_DTRK n)
  let now := x.sub.isSome
  let s := if was && !now then
      let l := s.loop n
      s.setLoop n { l with trans := true }
    else s
  (s.setFlag (LS_DTRK n) now).setReg (lst n 8) (s.reg (lreg n 0x78))

/-- The effective setpoint (R158): LnSPE and SPBAD. In CASC it is bad until an output of the outer loop has taken effect
(DESIGN CHOICE, log 80). -/
def State.setSp (s : State) (n : Nat) (x : LoopSrc) : State :=
  let (v, g) := if s.loopMode n = LM_CASC then
      match (s.loop n).linkSp with
      | some v => (v, ffin32 v)
      | none => (0, false)
    else (x.sp, x.spGood && refKind (s.regN (lreg n 0x0C)) != 0)
  let s := s.setFlag (LS_SPBAD n) (!g)
  if g then s.setReg (lst n 4) v else s

/-- Link tracking (R167): the inner loop's effective setpoint, clamped, when it applies. -/
def State.linkTrack (s : State) (n : Nat) (q : Params) : Option F32 :=
  let dst := s.regN (lreg n 0x14)
  let m := s.loopMode n
  if refKind dst = 2 ∧ (m = LM_AUTO ∨ m = LM_CASC) ∧ s.loopMode (refIndex dst) ≠ LM_CASC then
    some (fclamp32 q.lo q.hi (s.reg (lst (refIndex dst) 4)))
  else none

/-- Saturation of the destination (R161): LnSTAT.SAT and event 0x00A8 at its onset. -/
def State.setSat (s : State) (n : Nat) (x : LoopSrc) : State :=
  let was := s.flag (LS_SAT n)
  let s := s.setFlag (LS_SAT n) x.sat.isSome
  if x.sat.isSome && !was then s.loopEvent n 0xA8 [] else s

/-- LTRACK, and the transition at its end (R165, R167). -/
def State.setLtrack (s : State) (n : Nat) (on : Bool) : State :=
  let was := s.flag (LS_LTRACK n)
  let s := s.setFlag (LS_LTRACK n) on
  if was && !on then
    let l := s.loop n
    s.setLoop n { l with trans := true }
  else s

/-- u by mode (Table CRU-5), for a good PV or in a mode that a bad PV does not hold. -/
def State.lawByMode (s : State) (n : Nat) (q : Params) (x : LoopSrc) (p d edp e : F32) : Law :=
  let ueff := s.reg (lreg n 0x78)
  let uprev := s.reg (lreg n 0x74)
  let ulim := x.sat.getD (fclamp32 q.lo q.hi uprev)
  let m := s.loopMode n
  if m = LM_FALLBACK then q.track p d edp (if s.fbSubstNow n then s.reg (lreg n 0x44) else ueff)
  else if s.flag (LS_DTRK n) then q.track p d edp ueff
  else if m = LM_MAN then q.track p d edp (fclamp32 q.lo q.hi (s.reg (lst n 0xC)))
  else if m = LM_TRACK then
    q.track p d edp (if x.trkGood then fclamp32 q.lo q.hi x.trk else ueff)
  else match s.linkTrack n q with
    | some v => q.track p d edp v
    | none =>
      if (s.loop n).trans then q.preset p d edp ueff
      else q.run p d edp (s.loopI n) (s.reg (lreg n 0x7C)) e ulim uprev

/-- The law of a sample is written when it is finite; else the sample is a numeric error (R174). -/
def State.putFinite (s : State) (n : Nat) (q : Params) (w : Law) (old : List Word) : State :=
  if w.finite then s.putLaw n q w else s.numErr n old

/-- A sample with a bad PV (R175), while tracking applies too (DEDUCED, log 80). -/
def State.badSample (s : State) (n : Nat) (q : Params) (x : LoopSrc) (old : List Word) : State :=
  let m := s.loopMode n
  let first := !s.flag (LS_QBAD n)
  let s := s.setFlag (LS_QBAD n) true
  let l := s.loop n
  let s := s.setLoop n { l with wasBad := true }
  let sp := s.reg (lst n 4)
  let d := s.reg (lreg n 0x6C)
  let edp := s.reg (lreg n 0x70)
  let (p, d) := match l.heldPv with
    | some pv => (q.pTerm sp pv, d)
    | none => (0, 0)
  if m = LM_AUTO ∨ m = LM_CASC then
    let s := if first then s.loopEvent n 0xA4 [] else s
    let s := s.bumpSat (LS_QBADC n)
    let lim := s.lcfg n 31 24
    if lim ≠ 0 ∧ lim ≤ s.fld (LS_QBADC n) then
      let s := s.enterFallback n 2 (s.fbAct n)
      s.putFinite n q (s.lawByMode n q x p d edp 0) old
    else
      let ueff := s.reg (lreg n 0x78)
      let s := s.setReg (lreg n 0x74) ueff
      let l := s.loop n
      s.setLoop n { l with held := some (fclamp32 q.lo q.hi ueff) }
  else s.putFinite n q (s.lawByMode n q x p d edp 0) old

/-- A sample with a good PV (R160, R165, R175). -/
def State.goodSample (s : State) (n : Nat) (q : Params) (x : LoopSrc) (old : List Word) : State :=
  let l := s.loop n
  let pv := x.pv
  let sp := s.reg (lst n 4)
  let back := l.wasBad
  let s := if back then
      (s.setLoop n { l with wasBad := false, trans := true, reseed := true }).setFld (LS_QBADC n) 0
    else s
  let s := s.setFlag (LS_QBAD n) false
  let ed := q.edTerm sp pv
  let e := q.sgn (fsub32 sp pv)
  let p := q.pTerm sp pv
  let edp := if back then ed else s.reg (lreg n 0x70)
  let d := q.dTerm (s.reg (lreg n 0x6C)) edp ed
  let w := s.lawByMode n q x p d ed e
  if !w.finite then s.numErr n old
  else
    let m := s.loopMode n
    let consumed := (m = LM_AUTO ∨ m = LM_CASC) ∧ !s.flag (LS_DTRK n) ∧ (s.linkTrack n q).isNone
    let l := s.loop n
    let s := s.setLoop n { l with heldPv := some pv, trans := if consumed then false else l.trans }
    (s.putLaw n q w).plausibility n q w pv

/-- The registers that a loop state record carries beside SAMPLE: LnSTAT, CRU_LCTL, the effective setpoint and the dynamic
fields of Table CRU-10 (R312; the layout is internal to the module, log 20). -/
def loopFields (n : Nat) : List Nat :=
  lst n 0x10 :: lreg n 0 :: lst n 4 :: (List.range 9).map (fun i => lreg n (0x5C + 4 * i))

/-- What a loop state record holds behind SAMPLE, 60 bytes: the registers, the setpoint over the link, the held PV, and what
the loop knows of its next sample and of its action in FALLBACK (R179, R312). -/
def State.loopWords (s : State) (n : Nat) : List Word :=
  let l := s.loop n
  let w := ofBool l.linkSp.isSome + ofBool l.heldPv.isSome * 2 + ofBool l.trans * 4 + ofBool l.reseed * 8
    + ofBool l.wasBad * 16 + ofBool l.first * 32 + ofBool l.cold * 64 + ofBool l.fbSubst * 128
  (loopFields n).map s.reg ++ [l.linkSp.getD 0, l.heldPv.getD 0, BitVec.ofNat 32 w]

/-- A loop with the words of a loop state record that stand behind its registers. -/
def LoopSt.withExtra (l : LoopSt) : List Word → LoopSt
  | [sp, pv, w] =>
    let w := w.toNat
    { l with linkSp := if bitOf w 0 then some sp else none, heldPv := if bitOf w 1 then some pv else none
             trans := bitOf w 2, reseed := bitOf w 3, wasBad := bitOf w 4, first := bitOf w 5, cold := bitOf w 6
             fbSubst := bitOf w 7 }
  | _ => l

/-- The words of a loop state record written to the loop (R313); the summary registers follow its mode and PLAUS. -/
def State.putLoopRecord (s : State) (n : Nat) (ws : List Word) : State :=
  let s := ((loopFields n).zip ws).foldl (fun s x => s.setReg x.1 x.2) s
  let s := s.setLoop n ((s.loop n).withExtra (ws.drop (loopFields n).length))
  (s.putLoopMode n (s.fld (LMODE n))).setFlag (cruPL n) (s.flag (LS_PLAUS n))

/-- The sample count moves on; a record that waited for this sample is applied, one overtaken is counted in
RUN_CPYSKIP (R313). -/
def State.countSample (s : State) (n : Nat) : State :=
  let l := s.loop n
  let k := (l.sample + 1) % 2 ^ 32
  match l.record with
  | none => s.setLoop n { l with sample := k }
  | some (j, ws) =>
    if j = k then (s.setLoop n { l with sample := k, record := none }).putLoopRecord n ws
    else s.setLoop n { l with sample := k }

/-- The evaluation of one loop at its sample instant (R160). The slot of a loop that is in OFF, or that its pending
request takes to OFF, performs no evaluation (R150). A sample that ends in a numeric error has been evaluated
(DEDUCED, log 80). -/
def State.evalLoop (s : State) (n : Nat) (x : LoopSrc) : State :=
  if !s.loopEn n then s
  else
    let idle := s.actRequest n x.pvGood
    if idle.loopMode n = LM_OFF then
      let l := idle.loop n
      (idle.setLoop n { l with held := none, done := true }).countSample n
    else
      let old := (sampleRegs n).map s.reg
      let s := (s.setUeff n x).actRequest n x.pvGood
      let q := s.params n
      let s := s.setSp n x
      let s := (s.setSat n x).setLtrack n (s.linkTrack n q).isSome
      let s := s.setReg (lst n 0) x.pv
      let s := if x.pvGood then s.goodSample n q x old else s.badSample n q x old
      let l := s.loop n
      (((s.setLoop n { l with done := true }).setFld (LS_OVRC n) 0).bump CRU_EVALS |>.pmc1 3 0x10).countSample n

/-! ### LATCH units (R310, Table RUN-5) -/

/-- The LATCH record of loop `n`. UEFF is that of a loop that evaluates this sample, one that its pending request takes out
of OFF included. -/
def State.latchRec (s : State) (n : Nat) (x : LoopSrc) : List Byte :=
  let l := s.loop n
  let u := if s.loopEn n && (s.actRequest n x.pvGood).loopMode n != LM_OFF then s.ueffOf n x else s.reg (lreg n 0x78)
  let req := match l.req with
    | some (m, _) => min m 7 * 32 + 256
    | none => 0
  let fl := ofBool (!x.pvGood) + ofBool (!x.spGood) * 2 + ofBool (!x.trkGood) * 4 + ofBool x.sat.isSome * 8
    + ofBool x.sub.isSome * 16 + req + ofBool l.clrPlaus * 512 + ofBool l.clrNum * 1024
  [x.pv, x.sp, x.trk, u, x.sat.getD 0, s.reg (lst n 0xC), s.reg (lreg n 0x58), BitVec.ofNat 32 fl].flatMap
    (fun w => leBytes 4 w.toNat)

/-- The payloads of a LATCH unit: up to 31 records behind a 16-byte header. -/
def latchPayloads (first sample : Nat) (recs : List (List Byte)) : List (List Byte) :=
  (List.range ((recs.length + 30) / 31)).map (fun k =>
    let rs := (recs.drop (31 * k)).take 31
    leBytes 1 (first + 31 * k) ++ leBytes 1 rs.length ++ [0, 0] ++ leBytes 4 sample ++ List.replicate 8 0 ++ rs.flatten)

/-- A primary passes on what a sample has latched; a clear belongs to the sample that follows it, and is reported once
(Table RUN-5). -/
def State.sendLatch (s : State) (e : Entry) (xs : List (Nat × LoopSrc)) : State :=
  let s := if s.isPrimary then
      s.sendUnit 3 (e.object % 256 + (xs.length - 1) * 256)
        (latchPayloads e.object (s.entrySample e) (xs.map (fun x => s.latchRec x.1 x.2)))
    else s
  xs.foldl (fun s x =>
    let l := s.loop x.1
    s.setLoop x.1 { l with clrPlaus := false, clrNum := false }) s

/-- One loop's sample; without its record a standby evaluates nothing (DESIGN CHOICE, log 59). -/
def State.sampleLoop (s : State) (n : Nat) (x : Option LoopSrc) : State :=
  match x with
  | some x => s.evalLoop n x
  | none => s.countSample n

/-- A sample instant puts the CELL destinations of its loops into their substitute states in SAFE, and ends those states in
RUN, whatever the loops' mode (R176, R241, Table PRG-7). -/
def State.safeDest (s : State) (ls : List Nat) : State :=
  ls.foldl (fun s n =>
    let dst := s.regN (lreg n 0x14)
    if s.loopEn n && refKind dst == 1 then
      (if s.mode = SAFE then s.outSub (refIndex dst) else s.endSub (refIndex dst)) else s) s

/-- The traffic of one loop's sample: its descriptor, its sources and its destination (class 0, Table SYS-8; how many
transactions and bytes that is: DESIGN CHOICE, log 42). -/
def State.cruTraffic (s : State) (n : Nat) : State :=
  let srcs := [0x08, 0x0C, 0x10].filter (fun o => refKind (s.regN (lreg n o)) != 0)
  let s := (s.portMove issCru 128 false).portMove issCru (4 * srcs.length) false
  s.portMove issCru (if refKind (s.regN (lreg n 0x14)) = 0 then 0 else 4) true

/-- CRUCIBLE_SAMPLE: staged outputs take effect, sources are latched, the loops are evaluated; the loops
after the first `done` of the group have not ended by the end of the window (R147, R173). They run
one after another in ascending order, and each sees what those before it left (DESIGN CHOICE, log 80). -/
def State.crucibleSample (s : State) (e : Entry) (done : Nat) : State :=
  if s.cruActs e then
    let ls := groupLoops e
    let s := ls.foldl (fun s n => if s.loopEn n && s.loopMode n != LM_OFF then (s.takeEffect n).cruTraffic n else s) s
    let s := s.safeDest ls
    let srcs := ls.map (fun n => (n, s.loopSrc e n))
    let s := s.sendLatch e (srcs.filterMap (fun x => x.2.map (fun v => (x.1, v))))
    let s := s.setEntrySample e (s.entrySample e + 1)
    let s := (srcs.take done).foldl (fun s nx => s.sampleLoop nx.1 nx.2) s
    (srcs.drop done).foldl (fun s nx =>
      let l := s.loop nx.1
      if s.loopEn nx.1 && s.loopMode nx.1 != LM_OFF then s.setLoop nx.1 { l with done := false } else s) s
  else s

/-! ### Program access (Table CRU-3) and register writes -/

/-- Loop value `v` of loop `n` as the program reads it. -/
def State.loopValue (s : State) (n v : Nat) : Nat :=
  match v with
  | 0 => s.regN (lst n 0)
  | 1 => s.regN (lst n 4)
  | 2 => s.regN (lst n 8)
  | 3 => s.loopMode n
  | 4 => s.regN (lst n 0xC)
  | 7 => s.regN (lst n 0x10)
  | _ => 0

/-- A module's own write to CRU_LSP, CRU_LnMAN, a mode or LnSTAT: a standby ignores it (R310). -/
def State.ownWrite (s : State) (f : State → State) : State := if s.isStandby then s else f s

/-- A commit writes loop value `v` (Table CRU-3). -/
def State.setLoopValue (s : State) (n v x : Nat) : State :=
  let l := s.loop n
  match v with
  | 1 => s.ownWrite (fun s => if refKind (s.regN (lreg n 0x0C)) = 5 then s.setRegN (lreg n 0x58) x else s)
  | 3 => s.ownWrite (fun s => s.requestMode n x 1)
  | 4 => s.ownWrite (fun s => s.setRegN (lst n 0xC) x)
  | 5 => s.setLoop n { l with trk := some (BitVec.ofNat 32 x) }
  | 6 => s.setLoop n { l with pvin := some (BitVec.ofNat 32 x) }
  | _ => s

/-- LnSTAT.PLAUS cleared by station firmware: the model is reseeded (R171). -/
def State.clearPlaus (s : State) (n : Nat) : State :=
  if s.flag (LS_PLAUS n) then
    let l := s.loop n
    ((s.setLoop n { l with reseed := true, clrPlaus := l.clrPlaus || s.isPrimary }).setFlag (LS_PLAUS n) false).setFlag (cruPL n) false
  else s

/-- LnSTAT.NUMERR cleared by station firmware (Table RUN-5). -/
def State.clearNum (s : State) (n : Nat) : State :=
  if s.flag (LS_NUMERR n) then
    let l := s.loop n
    (s.setLoop n { l with clrNum := l.clrNum || s.isPrimary }).setFlag (LS_NUMERR n) false
  else s

/-! ### Start, stop, restart (R176 to R178, R180) -/

/-- A loop resumes from the saved state (R178): its saved output is staged, its LINK destination holds it, and a run of
bad PVs that QBAD_CONSEC counts goes on. -/
def State.resumeLoop (s : State) (n : Nat) : State :=
  let u := fclamp32 (s.reg (lreg n 0x38)) (s.reg (lreg n 0x3C)) (s.reg (lreg n 0x74))
  let dst := s.regN (lreg n 0x14)
  let l := s.loop n
  let s := s.setLoop n { l with held := some u, staged := none, done := true, first := false, cold := false,
                                inEffect := u, trans := false, reseed := false,
                                wasBad := s.fld (LS_QBADC n) != 0 }
  if refKind dst = 2 then
    let i := s.loop (refIndex dst)
    s.setLoop (refIndex dst) { i with linkSp := some u }
  else s

/-- Entry to RUN: the first window stages nothing; after a warm restart the restored outputs are staged
and there is no transition sample. -/
def State.cruStart (s : State) (warm : Bool) : State :=
  let s := s.setFld CRU_STATE 1
  (List.range 256).foldl (fun s n =>
    if !s.loopEn n then s
    else if warm then s.resumeLoop n
    else
      let l := s.loop n
      s.setLoop n { l with held := none, staged := none, done := true, first := true }) s

/-- No occurrence from the start of an orderly STOP, in STOP and HALT; every dynamic field keeps its value. -/
def State.cruStop (s : State) (st : Nat) : State :=
  let s := s.setFld CRU_STATE st
  (List.range 256).foldl (fun s n =>
    let l := s.loop n
    if s.loopEn n then s.setLoop n { l with held := none, staged := none, done := true } else s) s

/-- The outer loop of each inner loop, from every DST of kind LINK (R155). -/
def State.linkTable (s : State) : State :=
  (List.range 256).foldl (fun s n =>
    let dst := s.regN (lreg n 0x14)
    if s.loopEn n && refKind dst == 2 then s.setRegN (cruLink (refIndex dst % 256)) (n + 256) else s) s

/-- The sum of 1,000,000 / PERIOD_US over the enabled loops, rounded down once (R152). -/
def State.loopLoad (s : State) : Nat :=
  let ps := ((List.range 256).filter s.loopEn).map (fun n => s.regN (lreg n 0x18))
  let q := (ps.filter (· != 0)).foldl (fun (q : Nat × Nat) p => (q.1 * p + 1000000 * q.2, q.2 * p)) (0, 1)
  q.1 / q.2

/-- The descriptors, MODE = INIT_MODE, counts and status bits as after a cold restart (R178, R180). -/
def State.loadLoops (s : State) : State :=
  let s := ((s.clearRegs 0x20040000 0x20050000).clearRegs 0x20080000 0x20090000)
  let s := { s with cru := Cru.reset }
  match s.sec? SEC_LOOPS with
  | none => s
  | some sec =>
    let s := s.putWords 0x20080000 (toWords (slice sec 16 32768))
    let ens := (List.range 256).filter (fun n => s.loopEn n)
    let s := ens.foldl (fun s n => (s.setFlag (cruEN n) true).putLoopMode n (s.lcfg n 10 8)) s
    ((s.setFld CRU_ENCOUNT ens.length).setRegN CRU_LOAD s.loopLoad).linkTable

/-- The events of the modes taken from INIT_MODE at a cold restart (R178, Table EVR-9). -/
def State.coldModes (s : State) : State :=
  ((List.range 256).filter (fun n => s.loopEn n && s.loopMode n != LM_OFF)).foldl
    (fun s n => s.loopEvent n 0xA5 [LM_OFF, s.loopMode n, 5]) s

end Sys2Proof.Machine
end

