-- ==== Sys2Proof/Machine/Switch.lean ====
section
/-! DEFINITION. The switch: frames, forwarding, tags, gates, PRP and HSR (12_network_pourline.md R347 to R351). -/

namespace Sys2Proof.Machine

def NET_ERR (i : Nat) : Fld := ⟨0x20500004, i, i⟩
def NET_UP (p : Nat) : Fld := ⟨0x20500000, 1 + p, 1 + p⟩
def NET_PATH (k : Nat) : Fld := ⟨0x20500000, 4 + k, 4 + k⟩
def NET_REDMODE : Fld := ⟨0x20500000, 1, 0⟩
def portReg (p off : Nat) : Nat := 0x20500100 + 0x20 * p + off
def PLN_SENDING : Fld := ⟨0x20510000, 0, 0⟩
def PLN_ERR (i : Nat) : Fld := ⟨0x20510004, i, i⟩
abbrev NET_LOC : Nat := 0x7FF
abbrev PLN_LOC : Nat := 0x87F

/-! ### NETWORK section (Tables PLN-2 and PLN-3) -/

def netVlans (sec : List Byte) : List (List Byte) :=
  (List.range (fieldAt sec 14 1)).map (fun i => slice sec (128 + 8 * i) 8)
def netGclOff (sec : List Byte) : Nat := 128 + 8 * fieldAt sec 14 1
def netGcl (sec : List Byte) (p : Nat) : List (List Byte) :=
  let o := netGclOff sec + (if p = 1 then 0 else 8 * fieldAt sec 6 1)
  (List.range (fieldAt sec (5 + p) 1)).map (fun i => slice sec (o + 8 * i) 8)
def netFdbOff (sec : List Byte) : Nat := netGclOff sec + 8 * (fieldAt sec 6 1 + fieldAt sec 7 1)
def netFdb (sec : List Byte) : List (List Byte) :=
  (List.range (fieldAt sec 12 2)).map (fun i => slice sec (netFdbOff sec + 12 * i) 12)

def State.netSec (s : State) : List Byte := s.sec SEC_NETWORK
def State.redMode (s : State) : Nat := fieldAt s.netSec 0 1
def State.vidPl (s : State) : Nat := fieldAt s.netSec 2 2
/-- The station ID (R75): ID9 to ID0. -/
def State.stationId (s : State) : Nat := s.pat.straps % 1024

/-- Ports of a VID as a mask; without a NETWORK section every port has every VID (R351). -/
def State.vidPorts (s : State) (vid : Nat) : Nat :=
  if !s.hasSec SEC_NETWORK then 7
  else match (netVlans s.netSec).find? (fun v => fieldAt v 0 2 == vid) with
    | some v => fieldAt v 2 1
    | none => 0

/-! ### Ethernet frames -/

/-- The module's MAC address as six bytes. -/
def State.macBytes (s : State) : List Byte := leBytes 4 (s.regN 0x20500008) ++ leBytes 2 (s.regN 0x2050000C)
def frDa (f : List Byte) : List Byte := slice f 0 6
def frSa (f : List Byte) : List Byte := slice f 6 6
/-- Offset of the 802.1Q tag, or of the EtherType: behind an HSR tag that precedes it. -/
def frTagOff (f : List Byte) : Nat := if beVal (slice f 12 2) = 0x892F then 18 else 12
def frTagged (f : List Byte) : Bool := beVal (slice f (frTagOff f) 2) == 0x8100
/-- PCP and VID; an untagged frame has the port's PVID and priority 0, and one tagged with VID 0 the PVID (R347). -/
def State.frTci (s : State) (f : List Byte) : Nat × Nat :=
  if frTagged f then
    let t := beVal (slice f (frTagOff f + 2) 2)
    (t / 2 ^ 13, if t % 4096 = 0 then s.vidPl else t % 4096)
  else (0, s.vidPl)
/-- Offset of the HSR tag: before the 802.1Q tag or behind it. -/
def hsrOff (f : List Byte) : Option Nat :=
  if beVal (slice f 12 2) = 0x892F then some 12
  else if frTagged f ∧ beVal (slice f 16 2) = 0x892F then some 16 else none
/-- EtherType and the offset of what follows it. -/
def frType (f : List Byte) : Nat × Nat :=
  let o := if frTagged f then frTagOff f + 4 else frTagOff f
  let o := if beVal (slice f o 2) = 0x892F then o + 6 else o
  (beVal (slice f o 2), o + 2)

/-- The PRP trailer at the end of a frame, if it has one: sequence number and LAN (0 A, 1 B). Its LAN is one of the two and
its size that of what follows the EtherType's offset, trailer included (IEC 62439-3, PRESUMED, log 69). -/
def prpTrailer (f : List Byte) : Option (Nat × Nat) :=
  let n := f.length
  let o := if frTagged f then frTagOff f + 4 else frTagOff f
  let v := beVal (slice f (n - 4) 2)
  if 20 ≤ n ∧ beVal (slice f (n - 2) 2) = 0x88FB ∧ (v / 4096 = 0xA ∨ v / 4096 = 0xB) ∧ v % 4096 = (n - 2 - o) % 4096 then
    some (beVal (slice f (n - 6) 2), ofBool (v / 4096 == 0xB))
  else none

/-- The HSR tag's sequence number. -/
def hsrSeq (f : List Byte) : Option Nat := (hsrOff f).map (fun o => beVal (slice f (o + 4) 2))

/-- A frame without HSR tag and, under PRP (`mode` 1), without its trailer. -/
def stripRed (mode : Nat) (f : List Byte) : List Byte :=
  let f := if mode = 1 ∧ (prpTrailer f).isSome then f.take (f.length - 6) else f
  match hsrOff f with
  | some o => f.take o ++ f.drop (o + 6)
  | none => f

/-- A frame of the module at port `p` under PRP and HSR, number `q`: padded, then with the PRP trailer, or with the HSR
tag behind the 802.1Q tag (R350; layouts of IEC 62439-3, PRESUMED, log 69). -/
def redWrap (mode p q : Nat) (f : List Byte) : List Byte :=
  let f := if mode = 0 then f else f ++ List.replicate (60 - f.length) 0
  let o := if frTagged f then frTagOff f + 4 else frTagOff f
  let size := f.length + 4 - o
  if mode = 1 then f ++ beBytes 2 q ++ beBytes 2 ((if p = 1 then 0xA000 else 0xB000) + size % 4096) ++ beBytes 2 0x88FB
  else if mode = 2 then
    f.take o ++ beBytes 2 0x892F ++ beBytes 2 ((if p = 1 then 0 else 0x1000) + size % 4096) ++ beBytes 2 q ++ f.drop o
  else f

/-! ### Forwarding (R347) -/

/-- The table entry of a MAC address and VID. -/
def State.fdbFind (s : State) (mac vid : Nat) : Option (Nat × Nat × Nat × Bool) :=
  s.net.fdb.find? (fun e => e.1 == mac && e.2.1 == vid)

/-- Ports that a frame from port `p` goes to, as a mask without `p`: table, or every port of the VID. -/
def State.forwardMask (s : State) (p : Nat) (f : List Byte) : Nat :=
  let vid := (s.frTci f).2
  let m := match s.fdbFind (leVal (frDa f)) vid with
    | some e => e.2.2.1 &&& s.vidPorts vid
    | none => s.vidPorts vid
  nbit m p false % 8

/-- A source address is learned; 2,048 entries (R347). -/
def State.learn (s : State) (p : Nat) (f : List Byte) : State :=
  let mac := leVal (frSa f)
  let vid := (s.frTci f).2
  if bitOf mac 0 then s
  else match s.fdbFind mac vid with
    | some e =>
      if e.2.2.2 then s
      else { s with net := { s.net with fdb := s.net.fdb.map (fun x =>
          if x.1 == mac && x.2.1 == vid then (mac, vid, 2 ^ p, false) else x) } }
    | none =>
      if s.net.fdb.length < 2048 then
        { s with net := { s.net with fdb := s.net.fdb ++ [(mac, vid, 2 ^ p, false)] } }
      else s

/-- P1 or P2 is enabled (Table PLN-2); without a NETWORK section both are. -/
def State.portEn (s : State) (p : Nat) : Bool := !s.hasSec SEC_NETWORK || bitOf (fieldAt s.netSec 1 1) (p - 1)

/-- A port has link; P0 always joins the module, and a disabled port has none. -/
def State.portUp (s : State) (p : Nat) : Bool := p == 0 || (s.flag (NET_UP p) && s.portEn p)

/-- The indicator of P1 or P2 goes dark for a frame, at most 10 times per second (Table CON-8A). -/
def State.netBlink (s : State) (p : Nat) : State :=
  let due := match oget s.pwr.blink p with | none => true | some t => decide (t + 100000000 ≤ s.mono)
  if due then { s with pwr := { s.pwr with blink := oset s.pwr.blink p (some s.mono) } } else s

/-! ### Egress: tags and gates (R347, R349) -/

/-- A frame as port `p` sends it: with its 802.1Q tag, or without one where the VLAN record says so (R347). Absent the
NETWORK section it leaves as it came. -/
def State.egress (s : State) (p : Nat) (f : List Byte) : List Byte :=
  if !s.hasSec SEC_NETWORK then f
  else
    let (pcp, vid) := s.frTci f
    let o := frTagOff f
    let bare := if frTagged f then f.take o ++ f.drop (o + 4) else f
    match (netVlans s.netSec).find? (fun v => fieldAt v 0 2 == vid) with
    | some v => if bitOf (fieldAt v 3 1) p then bare
      else bare.take o ++ beBytes 2 0x8100 ++ beBytes 2 (pcp * 2 ^ 13 + vid) ++ bare.drop o
    | none => f

/-- An own publication window is open `lead` ns from now at the latest, and has not ended (R354). -/
def State.ownWindow (s : State) (lead : Nat) : Bool :=
  s.flag PLN_SENDING && s.entries.any (fun e =>
    let per := e.period * 1000
    let win := (s.pubRec e.object).win * 1000
    e.kind == KIND_PLN_PUB && per != 0
      && decide ((s.seqNow + lead + per - e.offset * 1000 % per) % per < win + lead))

/-- The guard band G (R349), ns. -/
def State.guardNs (s : State) : Nat := (8 * (fieldAt s.netSec 4 2 + 20) + 999) / 1000 * 1000

/-- The gates of the entry of a gate control list that is in force `us` into the cycle. -/
def gclAt : List (List Byte) → Nat → Nat
  | [], _ => 0
  | e :: t, us => if us < fieldAt e 0 4 then fieldAt e 4 1 else gclAt t (us - fieldAt e 0 4)

/-- What the gate control list of port `p` opens now; none: it has no list. The cycle counts in sequencer time. -/
def State.gclNow (s : State) (p : Nat) : Option Nat :=
  let l := netGcl s.netSec p
  let c := fieldAt s.netSec 8 4
  if l.isEmpty || c = 0 then none else some (gclAt l (s.seqNow / 1000 % c))

/-- The gate of class `c` at egress port `p` is open (R349). -/
def State.gateOpen (s : State) (p c : Nat) : Bool :=
  if p = 0 then true
  else if c = 7 then s.ownWindow 0 || (s.gclNow p).any (fun g => bitOf g 7)
  else (s.gclNow p).all (fun g => bitOf g c) && !s.ownWindow s.guardNs

/-- A timestamp entry; a drop sets TSOVF and records 0x0116 once until the queue has been empty (R342).
Marigold's table counts the timestamps of Q28 to Q31 at keys 0 to 3, and at keys 4 to 7 holds 1 after a
recorded drop. -/
def State.tsOffer (s : State) (q : Nat) (e : List Byte) : State :=
  let k := q - 28 + 4
  let full := !s.qUsable q || decide (s.qSize q ≤ s.qFill q)
  let told := cget s.mgd.tseq k
  let s := (s.qOffer q e).pmcCount 10 0x12 (fieldAt e 6 1) 1
  if full then
    let s := s.setFlag (MGD_ERR 6) true
    if told = 0 then ({ s with mgd := { s.mgd with tseq := cset s.mgd.tseq k 1 } }).event 0x116 (0xD10 + q) [] else s
  else if s.qFill q ≤ 1 then { s with mgd := { s.mgd with tseq := cset s.mgd.tseq k 0 } }
  else s

/-- A timestamp of a software frame at port `p` (Table MGD-5). -/
def State.txStamp (s : State) (p ident : Nat) : State :=
  let k := cget s.mgd.tseq p + 1
  let s := { s with mgd := { s.mgd with tseq := cset s.mgd.tseq p k } }
  s.tsOffer (28 + p) (leBytes 4 (ts32Of s.now) ++ leBytes 2 ident ++ leBytes 1 p
    ++ leBytes 1 (ofBool (s.flag MGD_STAT_SYNC)) ++ leBytes 4 k ++ [0, 0, 0, 0])

/-- A frame goes out; one of software with a timestamp request leaves its entry now (R342). -/
def State.emitNow (s : State) (p : Nat) (f : List Byte) (kind : FrameKind := .plain) : State :=
  if p = 0 then (s.bump (portReg 0 4)).pmcCount 8 0x11 0 1
  else if s.portUp p then
    let s := ((s.netBlink p).bump (portReg p 4)).pmcCount 8 0x11 p 1
    let s := { s with outbox := s.outbox ++ [.frame p f] }
    match kind with
    | .stamped id => s.txStamp p id
    | _ => s
  else s

/-- A frame leaves a port: at once in an own publication window that opens now (`cls` none), else when the gate of its
class is open and no frame of the class waits before it. -/
def State.emit (s : State) (cls : Option Nat) (p : Nat) (f : List Byte) (kind : FrameKind := .plain) : State :=
  match cls with
  | none => s.emitNow p f kind
  | some c =>
    if !s.portUp p || (s.gateOpen p c && !s.net.wait.any (fun w => w.port == p && w.cls == c)) then s.emitNow p f kind
    else { s with net := { s.net with wait := s.net.wait ++ [⟨p, c, f, kind⟩] } }

/-- A frame leaves every port of a mask, in the class of its PCP. -/
def State.emitMask (s : State) (m : Nat) (f : List Byte) : State :=
  [0, 1, 2].foldl (fun s p => if m.testBit p then s.emit (some (s.frTci f).1) p (s.egress p f) else s) s

/-- Frames that waited leave through the gates that are open, the highest class first. -/
def State.gateTick (s : State) : State :=
  if s.net.wait.isEmpty then s
  else
    let go := s.net.wait.filter (fun w => s.gateOpen w.port w.cls)
    let s := { s with net := { s.net with wait := s.net.wait.filter (fun w => !s.gateOpen w.port w.cls) } }
    [7, 6, 5, 4, 3, 2, 1, 0].foldl (fun s c =>
      (go.filter (fun w => w.cls == c)).foldl (fun s w => s.emitNow w.port w.bytes w.kind) s) s

/-- TRANSIT_FRAME_DROP: the transit class 7 frame that has waited longest at port `p` is dropped and counted (R349). -/
def State.transitDrop (s : State) (p : Nat) : State :=
  match s.net.wait.find? (fun w => w.port == p && w.cls == 7) with
  | none => s
  | some w =>
    let s := { s with net := { s.net with wait := s.net.wait.erase w } }
    (s.bump (portReg p 0xC)).pmcCount 8 0x12 p 1

/-! ### Frames of the module (R350) -/

/-- The ports that a frame of the module leaves: under PRP and HSR both. -/
def State.outMask (s : State) (f : List Byte) : Nat := if s.redMode = 0 then s.forwardMask 0 f else 6

/-- A frame of the module leaves the ports of `m` in class `cls`, or in an own publication window. -/
def State.launch (s : State) (cls : Option Nat) (m : Nat) (f : List Byte) (kind : FrameKind := .plain) : State :=
  let q := s.net.redSeq
  let s := if s.redMode = 0 then s else { s with net := { s.net with redSeq := (q + 1) % 65536 } }
  [1, 2].foldl (fun s p => if m.testBit p then s.emit cls p (redWrap s.redMode p q (s.egress p f)) kind else s) s

/-- A frame of the module enters at P0 and leaves the ports of `m`. -/
def State.fromP0 (s : State) (cls : Option Nat) (m : Nat) (f : List Byte) (kind : FrameKind := .plain) : State :=
  (((s.bump (portReg 0 0)).pmcCount 8 0x10 0 1).learn 0 f).launch cls m f kind

/-- A frame of the module, in the class of its PCP. -/
def State.sendFrame (s : State) (f : List Byte) : State := s.fromP0 (some (s.frTci f).1) (s.outMask f) f

/-- A supervision frame (R350; layout of IEC 62439-3, PRESUMED, log 69). -/
def State.supFrame (s : State) (q : Nat) : List Byte :=
  padTo 60 ((([0x01, 0x15, 0x4E, 0x00, 0x01, 0x00] : List Byte) ++ s.macBytes ++ beBytes 2 0x88FB ++ beBytes 2 1
    ++ beBytes 2 q ++ leBytes 1 (if s.redMode = 1 then 20 else 23) ++ [6] ++ s.macBytes))

/-- Under PRP and HSR a supervision frame goes every 2 s while the network region runs; none under a module fault (R477),
and none from a standby (R369). -/
def State.supTick (s : State) : State :=
  let due := match s.net.supAt with | none => true | some t => decide (t + 2 * NS ≤ s.mono)
  if s.redMode = 0 || !due || s.faultHalt || s.isStandby || s.fld ⟨0x20000020, 5, 4⟩ % 2 == 1 then s
  else
    let q := s.net.supSeq
    let s := { s with net := { s.net with supAt := some s.mono, supSeq := (q + 1) % 65536 } }
    s.sendFrame (s.supFrame q)

/-- LEARNED_ENTRY_AGE_OUT. -/
def State.ageOut (s : State) (mac vid : Nat) : State :=
  { s with net := { s.net with fdb := s.net.fdb.filter (fun e => e.2.2.2 || !(e.1 == mac && e.2.1 == vid)) } }

/-- PORT_LINK_CHANGE (Table PLN-14); a disabled port gains no link. -/
def State.portLink (s : State) (p : Nat) (up : Bool) : State :=
  if s.flag (NET_UP p) = up ∨ (up ∧ !s.portEn p) then s
  else
    let s := s.setFlag (NET_UP p) up
    let s := if up then s else s.setFlag (NET_ERR 0) true
    s.event 0x120 (0x780 + p) []

/-- REDUNDANT_PATH_CHANGE: path 0 is LAN A or direction A. -/
def State.redPath (s : State) (k : Nat) (ok : Bool) : State :=
  if s.redMode = 0 ∨ s.flag (NET_PATH k) = ok then s
  else
    let s := s.setFlag (NET_PATH k) ok
    let s := if ok then s else s.setFlag (NET_ERR 1) true
    s.event 0x121 NET_LOC []

/-! ### Duplicates under PRP and HSR (R350) -/

/-- Entries older than the forget time of 400 ms go, as time passes; one seen on a single path counts as missed on the
other (Table PLN-15). -/
def State.dupForget (s : State) : State :=
  if s.net.dupTab.isEmpty then s
  else
  let old := s.net.dupTab.filter (fun e => decide (e.2.2.1 + 400000000 ≤ s.mono))
  let s := { s with net := { s.net with
    dupTab := s.net.dupTab.filter (fun e => !decide (e.2.2.1 + 400000000 ≤ s.mono)) } }
  let s := s.bumpBy 0x20500084 ((old.filter (fun e => e.2.2.2 == 2)).length)
  s.bumpBy 0x20500088 ((old.filter (fun e => e.2.2.2 == 1)).length)

/-- A frame for P0 arrives on port `p`: false when it is a duplicate. -/
def State.dedupe (s : State) (p : Nat) (f : List Byte) : Bool × State :=
  let key := if s.redMode = 1 then (prpTrailer f).map (·.1) else if s.redMode = 2 then hsrSeq f else none
  match key with
  | none => (true, s)
  | some q =>
    let s := s.dupForget
    let sa := leVal (frSa f)
    match s.net.dupTab.find? (fun e => e.1 == sa && e.2.1 == q) with
    | some e =>
      let tab := s.net.dupTab.map (fun x => if x = e then (e.1, e.2.1, e.2.2.1, e.2.2.2 ||| p) else x)
      (false, ({ s with net := { s.net with dupTab := tab } }).bump 0x20500080)
    | none => (true, { s with net := { s.net with dupTab := s.net.dupTab ++ [(sa, q, s.mono, p)] } })

end Sys2Proof.Machine
end

