-- ==== Sys2Proof/Machine/Ptp.lean ====
section
/-! DEFINITION. PTP in the switch: the transparent clock, forwarding, Marigold's own messages (11_marigold_time.md R332 to
R334; 12_network_pourline.md R347, R350). -/

namespace Sys2Proof.Machine

/-! ### PTP messages in the switch (R332, R333; layouts of IEEE 1588-2019, PRESUMED, log 16) -/

/-- The offset of the PTP header of a frame: Ethernet, or UDP over IPv4 at ports 319 and 320 (Table MGD-1). -/
def ptpHead (f : List Byte) : Option Nat :=
  let (t, o) := frType f
  let u := o + fieldAt f o 1 % 16 * 4
  let port := beVal (slice f (u + 2) 2)
  if t = 0x88F7 then some o
  else if t = 0x0800 ∧ fieldAt f (o + 9) 1 = 17 ∧ (port = 319 ∨ port = 320) then some (u + 8)
  else none

/-- A PTP event message: offset of the PTP header. -/
def ptpOff (f : List Byte) : Option Nat := (ptpHead f).filter (fun k => decide (fieldAt f k 1 % 16 ≤ 3))

/-- A PTP message of the domain, in either transport: Marigold consumes it, or discards it as one of a kind that it does
not support. -/
def State.ptpOwn (s : State) (f : List Byte) : Bool :=
  match ptpHead f with
  | some k => s.hasSec SEC_TIME && fieldAt f (k + 4) 1 == fieldAt s.timeSec 2 1
  | none => false

/-- A changed frame: over UDP its checksum becomes 0, none. -/
def ptpSeal (f : List Byte) (k : Nat) : List Byte := if (frType f).1 = 0x0800 then overlay f (k - 2) [0, 0] else f

/-- The correctionField raised by `ns` (scaled by 2^16). -/
def addCorrection (f : List Byte) (k ns : Nat) : List Byte :=
  ptpSeal (overlay f (k + 8) (beBytes 8 ((beVal (slice f (k + 8) 8) + ns * 65536) % 2 ^ 64))) k

/-- The twoStepFlag of a message. -/
def ptpTwoStep (f : List Byte) (k : Nat) : Bool := bitOf (fieldAt f (k + 6) 1) 1

/-- The Follow_Up that a two-step clock makes for a one-step Sync: the Sync's origin timestamp, the residence time as
correction. -/
def ptpFollowUp (f : List Byte) (k ns : Nat) : List Byte :=
  let g := overlay f k (leBytes 1 (fieldAt f k 1 / 16 * 16 + 8))
  let g := overlay g (k + 8) (beBytes 8 (ns * 65536 % 2 ^ 64))
  let g := overlay g (k + 32) [2]
  ptpSeal (if (frType f).1 = 0x0800 then overlay g (k - 6) [1, 0x40] else g) k

/-- What a message is known by: sourcePortIdentity, in answers requestingPortIdentity, and sequenceId. -/
def ptpKey (f : List Byte) (k : Nat) (answer : Bool) : Nat × Nat :=
  (beVal (slice f (if answer then k + 44 else k + 20) 10), beVal (slice f (k + 30) 2))

/-- The residence time of message type `ty` owed to the bearer of a key. -/
def State.residue (s : State) (ty : Nat) (key : Nat × Nat) : Nat :=
  ((s.net.residues.filter (fun r => r.1 == ty && r.2.1 == key.1 && r.2.2.1 == key.2)).map (fun r => r.2.2.2)).foldl
    (· + ·) 0

/-- It is owed no more. -/
def State.settle (s : State) (ty : Nat) (key : Nat × Nat) : State :=
  { s with net := { s.net with
    residues := s.net.residues.filter (fun r => !(r.1 == ty && r.2.1 == key.1 && r.2.2.1 == key.2)) } }

/-- It is owed from now on; 64 are kept. -/
def State.owe (s : State) (ty : Nat) (key : Nat × Nat) (ns : Nat) : State :=
  { s with net := { s.net with residues := ((ty, key.1, key.2, ns) :: s.net.residues).take 64 } }

/-- A PTP message with header at `k` through the transparent clock after `ns` of residence (R332): the frames that leave.
One-step, an event message carries its correction; two-step, the message that follows it does. -/
def State.tcFrames (s : State) (f : List Byte) (k ns : Nat) : List (List Byte) × State :=
  let ty := fieldAt f k 1 % 16
  let own := ptpKey f k false
  let req := ptpKey f k true
  if fieldAt s.timeSec 3 1 = 0 then ((if ty ≤ 3 then [addCorrection f k ns] else [f]), s)
  else match ty with
    | 0 =>
      if ptpTwoStep f k then ([f], s.owe 0 own ns)
      else ([ptpSeal (overlay f (k + 6) (leBytes 1 (fieldAt f (k + 6) 1 + 2))) k, ptpFollowUp f k ns], s)
    | 1 => ([f], s.owe 1 own ns)
    | 2 => ([f], s.owe 2 own ns)
    | 3 =>
      if ptpTwoStep f k then ([f], s.owe 3 req ns)
      else ([addCorrection f k (ns + s.residue 2 req)], s.settle 2 req)
    | 8 => ([addCorrection f k (s.residue 0 own)], s.settle 0 own)
    | 9 => ([addCorrection f k (s.residue 1 req)], s.settle 1 req)
    | 10 => ([addCorrection f k (s.residue 2 req + s.residue 3 req)], (s.settle 2 req).settle 3 req)
    | _ => ([f], s)

/-- The ports that take a PTP message of the domain: a boundary clock and an ordinary clock on P1 end it, a
peer-to-peer transparent clock ends the messages of the peer delay mechanism (Table MGD-2), and management and
signalling messages are discarded (Table MGD-1). -/
def State.ptpMask (s : State) (f : List Byte) (k m : Nat) : Nat :=
  let ty := fieldAt f k 1 % 16
  if !s.ptpOwn f then m
  else if ty = 12 ∨ ty = 13 then 0
  else if s.clockType ≠ 1 then m % 2
  else if fieldAt s.timeSec 0 1 = 1 ∧ (ty = 2 ∨ ty = 3 ∨ ty = 10) then m % 2
  else m

/-- The HSR frame has not left the other ring port yet, within the forget time; it is noted (R350). -/
def State.ringNew (s : State) (p : Nat) (f : List Byte) : Bool × State :=
  match hsrSeq f with
  | none => (false, s)
  | some q =>
    let live := s.net.ringTab.filter (fun e => decide (s.mono < e.2.2.2 + 400000000))
    let sa := leVal (frSa f)
    if live.any (fun e => e.1 == sa && e.2.1 == q && e.2.2.1 == p) then
      (false, { s with net := { s.net with ringTab := live } })
    else (true, { s with net := { s.net with ringTab := live ++ [(sa, q, p, s.mono)] } })

/-- The ports that a frame from port `p` leaves: under PRP it does not pass between the LANs, under HSR it goes round the
ring once, and no further than the module that it is for (R350). -/
def State.redMask (s : State) (p : Nat) (f : List Byte) : Nat × State :=
  let m := s.forwardMask p f
  if p = 0 then (s.outMask f, s)
  else if s.redMode = 1 then (m % 2, s)
  else if s.redMode = 2 then
    let (new, s) := s.ringNew p f
    (m % 2 + (if new && frDa f != s.macBytes then s.vidPorts (s.frTci f).2 &&& 2 ^ (3 - p) else 0), s)
  else (m, s)

/-- A frame from port `p` leaves the ports of `m`; one from P0 is the module's own. -/
def State.passOn (s : State) (p m : Nat) (f : List Byte) : State :=
  if p = 0 then s.launch (some (s.frTci f).1) m f else s.emitMask m f

/-- FRAME_FORWARD: a frame arrives at a port, with its residence time; `good`: no FCS, length or symbol
error (R347, Table PLN-14). A disabled port receives nothing. -/
def State.frameForward (s : State) (p : Nat) (f : List Byte) (res : Nat) (good : Bool) : State :=
  if p != 0 && !s.portEn p then s
  else if !good then
    let s := (s.bump (portReg p 8)).setFlag (NET_ERR 3) true
    let due := match oget s.net.rxErrAt p with | none => true | some t => decide (t + NS ≤ s.mono)
    if due then
      ({ s with net := { s.net with rxErrAt := oset s.net.rxErrAt p (some s.mono) } }).event 0x122 (0x780 + p) []
    else s
  else
    let s := ((s.netBlink p).bump (portReg p 0)).pmcCount 8 0x10 p 1
    if s.redMode = 2 ∧ frSa f = s.macBytes then s
    else
      let vid := (s.frTci f).2
      if !(s.vidPorts vid).testBit p then s
      else
        let s := s.learn p f
        let (m, s) := s.redMask p f
        match if s.hasSec SEC_TIME then ptpHead f else none with
        | some k =>
          let (gs, s) := s.tcFrames f k res
          gs.foldl (fun s g => s.passOn p (s.ptpMask f k m) g) s
        | none => s.passOn p m f

/-! ### Marigold's own messages (R332, R334; layouts and instants: log 69) -/

/-- What log2 of an interval in s stands for, ns. -/
def logNs (v : Int) : Nat := if 0 ≤ v then NS * 2 ^ v.toNat else NS / 2 ^ v.natAbs

/-- Seconds and nanoseconds as PTP writes them. -/
def ptpStamp (t : Nat) : List Byte := beBytes 6 (t / NS) ++ beBytes 4 (t % NS)

/-- A message of type `ty` of PTP port `port`: the header with correctionField `cf`, then `body`. -/
def State.ptpMessage (s : State) (port ty seq log : Nat) (two : Bool) (cf body : List Byte) : List Byte :=
  let ctl := if ty = 0 then 0 else if ty = 1 then 1 else if ty = 8 then 2 else if ty = 9 then 3 else 5
  leBytes 1 ty ++ [0x12] ++ beBytes 2 (34 + body.length) ++ leBytes 1 (fieldAt s.timeSec 2 1) ++ [0]
    ++ leBytes 1 (ofBool two * 2) ++ [8] ++ cf ++ List.replicate 4 0 ++ leBytes 8 s.clockIdentity ++ beBytes 2 port
    ++ beBytes 2 seq ++ leBytes 1 ctl ++ leBytes 1 log ++ body

/-- The checksum of an IPv4 header. -/
def ipSum (h : List Byte) : Nat :=
  let v := (List.range (h.length / 2)).foldl (fun a i => a + beVal (slice h (2 * i) 2)) 0
  let v := v % 65536 + v / 65536
  65535 - (v % 65536 + v / 65536)

/-- The frame of a message, in either transport (Table MGD-1); `peer`: of the peer delay mechanism. -/
def State.ptpFrame (s : State) (peer event : Bool) (msg : List Byte) : List Byte :=
  let tag := beBytes 2 0x8100 ++ beBytes 2 (6 * 2 ^ 13 + s.vidPl)
  if fieldAt s.timeSec 4 1 = 0 then
    let da : List Byte := if peer then [0x01, 0x80, 0xC2, 0, 0, 0x0E] else [0x01, 0x1B, 0x19, 0, 0, 0]
    da ++ s.macBytes ++ tag ++ beBytes 2 0x88F7 ++ msg
  else
    let da : List Byte := [0x01, 0x00, 0x5E, 0, if peer then 0 else 1, if peer then 0x6B else 0x81]
    let ip (sum : Nat) : List Byte := [0x45, 0] ++ beBytes 2 (28 + msg.length) ++ [0, 0, 0, 0, 1, 17] ++ beBytes 2 sum
      ++ leBytes 4 Config.ipv4.toNat ++ [224, 0, if peer then 0 else 1, if peer then 107 else 129]
    let port := beBytes 2 (if event then 319 else 320)
    da ++ s.macBytes ++ tag ++ beBytes 2 0x0800 ++ ip (ipSum (ip 0)) ++ port ++ port ++ beBytes 2 (8 + msg.length)
      ++ [0, 0] ++ msg

/-- A message of PTP port `port` leaves: an ordinary clock behind the switch sends on both, but in the peer delay
mechanism each port has its own. -/
def State.ptpSend (s : State) (port ty seq log : Nat) (two : Bool) (body : List Byte)
    (cf : List Byte := List.replicate 8 0) : State :=
  let peer := ty == 2 || ty == 3 || ty == 10
  let m := if s.clockType = 1 && !peer then 6 else 2 ^ port
  s.fromP0 (some 6) m (s.ptpFrame peer (decide (ty ≤ 3)) (s.ptpMessage port ty seq log two cf body))

/-- The next sequenceId of a type at a port. -/
def State.ptpNext (s : State) (port ty : Nat) : Nat × State :=
  let k := ty * 4 + port
  let q := cget s.mgd.ptpSeq k
  (q, { s with mgd := { s.mgd with ptpSeq := cset s.mgd.ptpSeq k ((q + 1) % 65536) } })

/-- The data set that this clock announces: its own, or its master's. -/
def State.announced (s : State) : Announce :=
  match s.mgd.parent with
  | some p => { p.2 with steps := p.2.steps + 1 }
  | none => s.ownAnnounce

/-- Announce. -/
def State.sendAnnounce (s : State) (port : Nat) : State :=
  let a := s.announced
  let (q, s) := s.ptpNext port 11
  s.ptpSend port 11 q (fieldAt s.timeSec 7 1) false (ptpStamp s.now ++ [0, 0, 0] ++ leBytes 1 a.prio1 ++ leBytes 1 a.cls
    ++ leBytes 1 a.acc ++ beBytes 2 a.var ++ leBytes 1 a.prio2 ++ leBytes 8 a.gm ++ beBytes 2 a.steps ++ [0xA0])

/-- Sync, and in two-step mode its Follow_Up. -/
def State.sendSync (s : State) (port : Nat) : State :=
  let two := fieldAt s.timeSec 3 1 == 1
  let log := fieldAt s.timeSec 6 1
  let (q, s) := s.ptpNext port 0
  let s := s.ptpSend port 0 q log two (if two then List.replicate 10 0 else ptpStamp s.now)
  if two then s.ptpSend port 8 q log false (ptpStamp s.now) else s

/-- Delay_Req, or Pdelay_Req. -/
def State.sendDelayReq (s : State) (port : Nat) : State :=
  let peer := fieldAt s.timeSec 0 1 == 1
  let (q, s) := s.ptpNext port (if peer then 2 else 1)
  s.ptpSend port (if peer then 2 else 1) q 0x7F false (ptpStamp s.now ++ List.replicate (if peer then 10 else 0) 0)

/-- The portState of PTP port `port`; an ordinary clock behind the switch is slave through either. -/
def State.portRole (s : State) (port : Nat) : Nat :=
  let v := s.regN 0x20400054
  let a := v % 16
  let b := v / 16 % 16
  if s.clockType = 1 then (if b = 8 ∨ b = 9 then b else a) else if port = 1 then a else b

/-- The PTP ports. -/
def State.ptpPorts (s : State) : List Nat := if s.clockType = 2 then [1, 2] else [1]

/-- Message kind `k` (0 Announce, 1 Sync, 2 delay request) falls due every `per` ns. -/
def State.ptpDue (s : State) (k per : Nat) : Bool := decide (cget s.mgd.ptpAt k + per ≤ s.mono)

/-- It has been sent. -/
def State.ptpSent (s : State) (k : Nat) : State :=
  { s with mgd := { s.mgd with ptpAt := cset s.mgd.ptpAt k s.mono } }

/-- Marigold's protocol engine as time passes: a master port announces and, but in HOLDOVER, serves Sync; a slave port
asks for its delay; in the peer delay mechanism every port does. -/
def State.ptpTick (s : State) : State :=
  if !s.hasSec SEC_TIME || s.fld ⟨0x20000020, 5, 4⟩ % 2 == 1 || s.bit 0x20000028 17 || s.portsOff then s
  else
    let masters := s.ptpPorts.filter (fun p => s.portRole p == 6)
    let peer := fieldAt s.timeSec 0 1 == 1
    let asking := if peer then (if s.clockType = 3 then [1] else [1, 2])
      else s.ptpPorts.filter (fun p => s.portRole p == 8 || s.portRole p == 9)
    let s := if !masters.isEmpty && s.ptpDue 0 (logNs (fieldAt s.timeSec 7 1)) then
        masters.foldl (fun s p => s.sendAnnounce p) (s.ptpSent 0) else s
    let s := if !masters.isEmpty && s.mgdState != G_HOLDOVER && s.ptpDue 1 (logNs (signedOf 8 (fieldAt s.timeSec 6 1))) then
        masters.foldl (fun s p => s.sendSync p) (s.ptpSent 1) else s
    if !asking.isEmpty && s.ptpDue 2 (logNs (signedOf 8 (fieldAt s.timeSec 8 1))) then
      asking.foldl (fun s p => s.sendDelayReq p) (s.ptpSent 2)
    else s

/-- A message of the domain reaches Marigold at port `p`: a master port answers Delay_Req, and every port Pdelay_Req; the
answer carries the request's correctionField, in two-step mode the message that follows it. An isolated Marigold answers
nothing, nor does a P2 that is not used for PTP of the domain (R333). -/
def State.ptpServe (s : State) (p : Nat) (f : List Byte) : State :=
  match ptpHead f with
  | none => s
  | some k =>
    let ty := fieldAt f k 1 % 16
    let seq := beVal (slice f (k + 30) 2)
    let who := slice f (k + 20) 10
    let port := if s.clockType = 2 then p else 1
    let two := fieldAt s.timeSec 3 1 == 1
    let cf := slice f (k + 8) 8
    if s.portsOff || s.bit 0x20000028 17 || (s.clockType == 3 && p == 2) then s
    else if ty = 1 ∧ fieldAt s.timeSec 0 1 = 0 ∧ s.portRole port = 6 then
      s.ptpSend port 9 seq (fieldAt s.timeSec 8 1) false (ptpStamp s.now ++ who) cf
    else if ty = 2 ∧ fieldAt s.timeSec 0 1 = 1 then
      let s := s.ptpSend p 3 seq 0x7F two ((if two then ptpStamp s.now else List.replicate 10 0) ++ who)
        (if two then List.replicate 8 0 else cf)
      if two then s.ptpSend p 10 seq 0x7F false (ptpStamp s.now ++ who) cf else s
    else s

end Sys2Proof.Machine
end

