-- ==== Sys2Proof/Machine/Pourline.lean ====
section
/-! DEFINITION. Pourline: publications, subscriptions, liveness, acyclic frames (12_network_pourline.md R352 to
R372). -/

namespace Sys2Proof.Machine

/-! ### Pourline frames (Tables PLN-4 and PLN-5) -/

/-- The station status word. -/
def State.statusWord (s : State) : Nat :=
  let role := match s.fld RUN_ROLE with | 1 => 0 | 2 => 1 | 3 => 2 | _ => 3
  let fb := (List.range 32).any (fun t => s.flag (TFB t))
  let degr := (List.range 5).any (fun r => s.fld ⟨0x20000020, 2 * r + 1, 2 * r⟩ != 0)
  s.mode + ofBool (s.flag ⟨0x20030000, 0, 0⟩) * 16 + role * 32 + ofBool (s.flag ⟨0x20300000, 5, 5⟩) * 128
    + ofBool (s.flag MGD_STAT_SYNC) * 256 + ofBool (s.flag POUR_ALIGNED) * 512 + ofBool fb * 1024
    + ofBool degr * 2048 + ofBool (s.flag SAF_SAFEDEM) * 4096 + leVal (s.patDigest.take 2) * 65536

/-- A Pourline frame with its header, payload and frame CRC, padded to the Ethernet minimum. -/
def State.plnFrame (s : State) (da : List Byte) (pcp ftype seq ts pub lay : Nat) (payload : List Byte) : List Byte :=
  let hdr := leBytes 1 1 ++ leBytes 1 ftype ++ leBytes 2 s.stationId ++ leBytes 4 s.statusWord
    ++ leBytes 4 seq ++ leBytes 4 ts ++ leBytes 1 pub ++ [0] ++ leBytes 2 payload.length ++ leBytes 4 lay
  let f := da ++ s.macBytes ++ beBytes 2 0x8100 ++ beBytes 2 (pcp * 2 ^ 13 + s.vidPl) ++ beBytes 2 0x88B5
    ++ hdr ++ payload ++ leBytes 4 (crc32c (hdr ++ payload))
  f ++ List.replicate (60 - f.length) 0

/-- The station address of a station. -/
def stationAddr (id : Nat) : List Byte := [0x03, 0x45, 0x57, 0x00] ++ leBytes 1 (id / 256 % 4) ++ leBytes 1 id

/-- VID_PL of the pattern that a consistency check has staged; none: none is staged (R368). -/
def State.stagedVid (s : State) : Option Nat :=
  s.pat.staged.bind (fun sl => (findSect sl.bytes SEC_NETWORK).map (fun e => fieldAt (slice sl.bytes e.off e.len) 2 2))

/-- The header of a frame that the check for a duplicate station ID listens to: on VID_PL of the pattern in force, or of
the one that is being checked. -/
def State.dupHeader (s : State) (f : List Byte) : Option Nat :=
  let (t, o) := frType f
  let vid := (s.frTci f).2
  if t = 0x88B5 ∧ (vid = s.vidPl ∨ s.stagedVid = some vid) then some o else none

/-- A received Pourline frame: offset of its header when it is one. -/
def State.plnHeader (s : State) (f : List Byte) : Option Nat :=
  let (t, o) := frType f
  if t = 0x88B5 ∧ (s.frTci f).2 = s.vidPl then some o else none

/-- The frame CRC of the Pourline frame whose header lies at `o` is correct. -/
def plnCrcOk (f : List Byte) (o : Nat) : Bool :=
  let n := 24 + fieldAt f (o + 18) 2
  decide (o + n + 4 ≤ f.length) && crc32c (slice f o n) == fieldAt f (o + n) 4

/-- R368: a frame of station `station` from source `sa` has the own station ID and a foreign source; `partner`: the
partner's MAC address, or 0. -/
def State.dupSource (s : State) (partner station sa : Nat) : State :=
  if station = s.stationId ∧ sa ≠ leVal s.macBytes ∧ (partner = 0 ∨ sa ≠ partner) then
    let s := { s with net := { s.net with dupAt := some s.mono } }
    let s := ((s.setFlag (NET_ERR 2) true).setRegN 0x20500010 sa).setRegN 0x20500014 (sa / 2 ^ 32)
    if s.net.dupSeen.contains sa then s
    else ({ s with net := { s.net with dupSeen := sa :: s.net.dupSeen } }).event 0x123 NET_LOC (leBytes 6 sa)
  else s

/-- R368 on a frame with its Pourline header at `o`. -/
def State.dupCheck (s : State) (partner : Nat) (f : List Byte) (o : Nat) : State :=
  s.dupSource partner (fieldAt f (o + 2) 2 % 1024) (leVal (frSa f))

/-! ### Publications (R354 to R356) -/

/-- The task in a SUBST fallback that writes a variable (R102, R355). -/
def State.pubVarFb (s : State) (p v : Nat) : Bool :=
  (ioMap s.prg.image).any (fun e => e.dir == 2 && e.kind == 3 && !bitOf e.object 23
    && bitsOf e.object 22 16 == p && bitsOf e.object 11 0 == v
    && s.flag (TFB e.task) && s.fld (TFB_ACTION e.task) == 1)

/-- The quality bit of a variable of a cyclic frame (R355). -/
def State.pubBad (s : State) (p v : Nat) : Bool :=
  !(s.mode == RUN || s.mode == SAFE) || !(s.pubVar p v).written || s.pubVarFb p v

/-- The payload of publication `p` (R352). -/
def State.pubPayload (s : State) (p : Nat) : List Byte :=
  let r := s.pubRec p
  let q := (List.range r.nvar).foldl (fun w v => nbit w v (s.pubBad p v)) 0
  let base := padTo r.bytes (leBytes (4 * ((r.nvar + 31) / 32)) q)
  let body := (List.range r.nvar).foldl (fun b v =>
    let l := layEntry s.net.pubList s.pubCount (r.lay + v)
    overlay b l.2 (leBytes (fmtBytes l.1) (s.pubVar p v).val)) base
  if r.carry then overlay body (r.bytes - 20) (padTo 20 s.saf.container) else body

/-- PUBLICATION: an occurrence of PLN_PUB entry `e`: its window opens, and the frame goes. One that no port with link
takes is late (Table PLN-14). Its payload is class 1 traffic (Table SYS-8). -/
def State.publication (s : State) (e : Entry) : State :=
  if !s.flag PLN_SENDING || e.kind != KIND_PLN_PUB || decide (s.pubCount ≤ e.object) || s.isStandby then s
  else
    let r := s.pubRec e.object
    let seq := if e.period = 0 then 0 else s.seqNow / 1000 / e.period % 2 ^ 32
    let f := s.plnFrame (leBytes 6 r.da) 7 1 seq (ts32Of s.now) e.object r.crc (s.pubPayload e.object)
    let m := s.outMask f
    if [1, 2].all (fun p => !(m.testBit p && s.portUp p)) then
      (s.setFlag (PLN_ERR 3) true).event 0x12C PLN_LOC (leBytes 1 e.object)
    else ((((s.portMove issPln (s.pubRec e.object).bytes false).bump 0x20510010).pmc1 9 0x10).bump (0x20510600 + 4 * e.object)).fromP0 none m f

/-! ### Subscriptions and liveness (R357, R358, R361) -/

/-- The live state of a station from its fresh subscriptions and last MODE; a change raises the epoch, but not on a standby,
which takes the primary's epochs (R358, R369). -/
def State.updLive (s : State) (st : Nat) : State :=
  let fresh := (List.range s.subCount).any (fun n => (s.subRec n).station == st && (s.subSt n).fresh)
  let m := tblGet (fun _ => 0) s.net.stMode st
  let live := fresh && (m == RUN || m == SAFE)
  if live = s.stationLive st then s
  else
    let s := s.setFlag (plnLive st) live
    let s := if s.isStandby then s else s.bump (plnEpoch st)
    let s := if s.isPrimary then s.sendCtrl ([11] ++ leBytes 2 st ++ leBytes 1 (ofBool live)
        ++ leBytes 4 (s.stationEpoch st)) else s
    s.event 0x129 PLN_LOC (leBytes 2 st)

/-- A change of freshness (event 0x0128). -/
def State.setFresh (s : State) (n : Nat) (b : Bool) : State :=
  let x := s.subSt n
  if x.fresh = b then s
  else
    let s := (s.setSub n { x with fresh := b }).setFlag (SUB_FRESH n) b
    let s := if b then s.setFld ⟨plnSub n, 2, 2⟩ 0 else s.setFlag (PLN_ERR 0) true
    s.event 0x128 PLN_LOC (leBytes 1 n)

/-- Safety connections of the pattern in force (Table PLN-11). -/
def sconnAt (sec : List Byte) (i : Nat) : SConn :=
  let r := slice sec (plnConnOff sec + 16 * i) 16
  ⟨fieldAt r 0 1, fieldAt r 2 2, fieldAt r 4 1, fieldAt r 5 1, fieldAt r 6 1, fieldAt r 8 2⟩
def State.sconns (s : State) : List SConn := (List.range (plnConns s.plnSec)).map (sconnAt s.plnSec)

/-- The safety container of an accepted frame goes to the safety processor (R362). -/
def State.passContainer (s : State) (st : Nat) (payload : List Byte) : State :=
  let b := payload.drop (payload.length - 20)
  (s.sconns.filter (fun c => c.station == st)).foldl (fun s c => s.safContainer c b) s

/-- An accepted frame for subscription `n` (R357, R361); its payload is class 1 traffic (Table SYS-8). -/
def State.acceptFrame (s : State) (n : Nat) (f : List Byte) (o : Nat) : State :=
  let r := s.subRec n
  let x := s.subSt n
  let payload := slice f (o + 24) (fieldAt f (o + 18) 2)
  let m := fieldAt f (o + 4) 1 % 16
  let old := payloadVar x.buf (layEntry s.net.subList s.subCount (r.lay + r.trigVar))
  let new := payloadVar payload (layEntry s.net.subList s.subCount (r.lay + r.trigVar))
  let s := s.setSub n { x with seq := some (fieldAt f (o + 8) 4), buf := payload }
  let s := ((s.portMove issPln payload.length true).bump 0x20510014).pmc1 9 0x11
  let cnt := bitsOf (s.regN (plnSub n)) 31 12
  let s := ((s.setFld ⟨plnSub n, 31, 12⟩ ((cnt + 1) % 2 ^ 20)).setFld ⟨plnSub n, 11, 8⟩ m).setFld ⟨plnSub n, 1, 1⟩ 0
  let s := { s with net := { s.net with stMode := tblPut (fun _ => 0) s.net.stMode r.station [m] } }
  let s := (s.setFresh n true).updLive r.station
  let s := s.passContainer r.station payload
  let arg := n % 128 + r.station % 1024 * 2 ^ 16
  if r.trig = 1 ∨ (r.trig = 2 ∧ !x.buf.isEmpty ∧ old ≠ new) then s.trigger 57 r.task 4 PLN_LOC arg else s

/-- A cyclic frame for subscription `n`: accepted, or counted (R357). -/
def State.subFrame (s : State) (f : List Byte) (o n : Nat) : State :=
  let r := s.subRec n
  if fieldAt f (o + 2) 2 % 1024 ≠ r.station ∨ fieldAt f (o + 16) 1 ≠ r.pub then s
  else if fieldAt f (o + 20) 4 ≠ r.crc ∨ fieldAt f (o + 18) 2 ≠ r.bytes then
    ((((s.setFld ⟨plnSub n, 1, 1⟩ 1).setFlag (PLN_ERR 1) true).bump 0x2051001C).event 0x12A PLN_LOC (leBytes 1 n))
  else
    let x := s.subSt n
    let d := match x.seq with
      | some q => (fieldAt f (o + 8) 4 + 2 ^ 32 - q) % 2 ^ 32
      | none => 1
    let s := s.setFld ⟨plnSub n, 1, 1⟩ 0
    if !x.fresh || decide (1 ≤ d ∧ d < 2 ^ 31) then s.acceptFrame n f o else s.bump 0x20510020

/-- CYCLIC_FRAME_RX: a cyclic frame arrives at a port; `partner`: the partner's MAC address, or 0. -/
def State.cyclicRx (s : State) (partner p : Nat) (f : List Byte) : State :=
  let (new, s) := s.dedupe p f
  if !new then s
  else
    let f := stripRed s.redMode f
    let s := match s.dupHeader f with | some o => s.dupCheck partner f o | none => s
    match s.plnHeader f with
    | none => s
    | some o =>
      if !plnCrcOk f o then ((s.bump 0x20510018).pmc1 9 0x12).setFlag (PLN_ERR 5) true
      else if fieldAt f (o + 1) 1 ≠ 1 then s
      else (List.range s.subCount).foldl (fun s n => s.subFrame f o n) s

/-- Subscription `n` becomes stale; the answer is true when an output watchdog signals SAFE_REQ (R358, R360). -/
def State.toStale (s : State) (n : Nat) : Bool × State :=
  if !(s.subSt n).fresh then (false, s)
  else
    let s := s.setFresh n false
    if (s.subRec n).owd && s.mode == RUN then
      (true, ((s.setFld ⟨plnSub n, 2, 2⟩ 1).setFlag (PLN_ERR 2) true).event 0x12B PLN_LOC (leBytes 1 n))
    else (false, s)

/-- SUBSCRIPTION_STALE: TO_COUNT periods without an accepted frame (R358). -/
def State.subStale (s : State) (n : Nat) : Bool × State :=
  if s.subCount ≤ n then (false, s)
  else
    let (sig, s) := s.toStale n
    (sig, s.updLive (s.subRec n).station)

/-! ### Acyclic frames and timestamps (R342, R343, R363, R364) -/

/-- The frame with its last four bytes replaced by the frame CRC when its EtherType is 0x88B5. -/
def fixCrc (f : List Byte) : List Byte :=
  let (t, o) := frType f
  if t = 0x88B5 then overlay f (f.length - 4) (leBytes 4 (crc32c (slice f o (f.length - 4 - o)))) else f

/-- What a STANDBY may send of a transmit queue: PTP messages of its own clock, and the responses of its services
(R369). -/
def State.standbySends (s : State) (c : Nat) (f : List Byte) : Bool :=
  let own := match ptpHead f with
    | some k => slice f (k + 20) 8 == leBytes 8 s.clockIdentity
    | none => false
  let answer := match s.plnHeader f with
    | some o => fieldAt f (o + 1) 1 == 3
    | none => false
  (c == 6 && own) || (c == 5 && answer)

/-- TX_QUEUE_ENTRY: the entry at the head of Q40 + c (R364). On a STANDBY one that it may not send waits (DEDUCED,
log 71). -/
def State.txEntry (s : State) (c : Nat) : State :=
  let q := 40 + c
  let at_ := s.qEntry q (s.cidx q)
  let held := s.isStandby && !s.standbySends c (s.mread (fieldAt (s.mread at_ 32) 0 8) (fieldAt (s.mread at_ 32) 8 2))
  if c > 6 ∨ s.qFill q = 0 ∨ !s.qUsable q ∨ held ∨ s.faultHalt then s
  else
    let (e, s) := s.blockRead issPlnAcyclic at_ 32
    let addr := fieldAt e 0 8
    let len := fieldAt e 8 2
    let ports := fieldAt e 10 1
    let fl := fieldAt e 11 1
    let done (s : State) (st : Nat) : State := ((s.blockWrite issPlnAcyclic (at_ + 14) (leBytes 2 st)).qTake q).2
    let bad := decide (len < 60 ∨ 1518 < len ∨ 2 ^ 36 ≤ addr ∨ 3 < ports ∨ 3 < fl)
      || (memKind addr).isNone || (memKind (addr + len - 1)).isNone || fieldAt e 20 12 != 0
      || (c == 5 && !bitOf fl 1)
    if bad then done s 0xFFFE
    else
      let (f, s) := s.blockRead issPlnAcyclic addr len
      let f := fixCrc f
      let m := if s.redMode ≠ 0 then 6 else if ports = 0 then s.forwardMask 0 f else ports * 2
      let up := [1, 2].any (fun p => m.testBit p && s.portUp p)
      let r := if s.redMode = 0 then 0 else 6
      let w := 8 * (max (len + 4) 64 + 20 + r)
      let (ok, s) : Bool × State := if c = 5 then
          let (a, s) := s.acyclicAdmit .pourline (s.cidx q) ((w + 999) / 1000 + 1) (fieldAt e 16 4)
          (a.isSome, s)
        else (true, s)
      if !ok then done s 0x20A
      else if !up then done s 0xFFFD
      else
        let s := done s 0
        let id := fieldAt e 12 2
        let ts := bitOf fl 0
        let s := if ts then s.txStamp 0 id else s
        s.fromP0 (some c) m f (if ts then .stamped id else .plain)

/-- The receive entry of a PTP event message that Marigold does not consume (R343, Table MGD-6). -/
def State.ptpRx (s : State) (p : Nat) (f : List Byte) (k : Nat) : State :=
  let h := slice f k 34
  s.tsOffer 31 (leBytes 4 (ts32Of s.now) ++ leBytes 2 (beVal (slice h 30 2)) ++ leBytes 1 p
    ++ leBytes 1 (fieldAt h 0 1 % 16) ++ slice h 4 1 ++ [0] ++ leBytes 2 (beVal (slice h 28 2)) ++ slice h 24 4)

/-- A frame offered to the receive queue of class `c`; true: the queue has taken it. A queue without buffers is treated as
disabled (R351, R363). -/
def State.rxPut (s : State) (c p : Nat) (f : List Byte) : Bool × State :=
  let q := 32 + c
  let k := cget s.net.rseq c + 1
  let s := { s with net := { s.net with rseq := cset s.net.rseq c k } }
  let base := fieldAt s.netSec (16 + 4 * c) 4
  if base = 0 then (false, s.qLose q 1)
  else
    let ok := s.qUsable q
    let s := if ok then s.blockWrite issPlnAcyclic (base + s.pidx q % s.qSize q * 1536) f else s
    (ok, s.qOffer q (leBytes 2 f.length ++ leBytes 1 p ++ leBytes 1 (ofBool (s.flag MGD_STAT_SYNC))
      ++ leBytes 4 (ts32Of s.now) ++ leBytes 4 k ++ [0, 0, 0, 0]))

/-- A frame that Pourline consumes: a cyclic frame, or a service request, which its service passes on (R365). -/
def State.plnTakes (s : State) (f : List Byte) : Bool :=
  match s.plnHeader f with
  | some o => fieldAt f (o + 1) 1 == 1 || fieldAt f (o + 1) 1 == 2
  | none => false

/-- RX_FRAME: a frame for the module that neither Pourline nor Marigold consumes goes to its receive queue while Pourline
is not isolated (R348, R363). A PTP event message that Marigold does not consume has its entry in Q31 in every case
(R343). -/
def State.rxFrame (s : State) (partner p : Nat) (f : List Byte) : State :=
  let (new, s) := s.dedupe p f
  if !new then s
  else
    let f := stripRed s.redMode f
    let (pcp, vid) := s.frTci f
    let pln := !s.bit 0x20000028 16
    let s := match if pln then s.dupHeader f else none with | some o => s.dupCheck partner f o | none => s
    if s.ptpOwn f then s.ptpServe p f
    else
      let s := match ptpOff f with | some k => s.ptpRx p f k | none => s
      if !pln || !(s.vidPorts vid).testBit 0 || pcp == 7 || s.plnTakes f then s else (s.rxPut pcp p f).2

/-! ### Start, resets, swaps (R351, R355, R367, R370) -/

/-- The switch with the pattern's settings: static entries, REDMODE, disabled ports; counters and link state stay. -/
def State.netStart (s : State) : State :=
  let st := (netFdb s.netSec).map (fun e => (fieldAt e 0 6, fieldAt e 6 2, fieldAt e 8 1, true))
  let s := ({ s with net := { s.net with fdb := st, supAt := none } }).setFld NET_REDMODE s.redMode
  [1, 2].foldl (fun s p => if s.portEn p then s else s.portLink p false) s

/-- Pourline with the pattern's lists; every subscription stale, every epoch 0, so that R104 records anew. -/
def State.plnStart (s : State) : State :=
  let sec := s.plnSec
  let has := s.hasSec SEC_POURLINE
  let s := { s with net := { s.net with
    pubList := plnPubList sec, subList := plnSubList sec, pubVars := [], subs := [], stMode := [] } }
  let s := { s with pour := { s.pour with staleSeen := [] } }
  let s := (s.clearRegs 0x20510000 0x20510004).clearRegs 0x20510008 0x20512000
  let carry := (List.range (plnPubs sec)).any (fun i => (pubRecAt (plnPubList sec) i).carry)
  if !has then s
  else
    let s := s.setRegN 0x20510000 (1 + ofBool carry * 2 + plnPubs sec * 2 ^ 8 + plnSubs sec * 2 ^ 16)
    let s := (s.setRegN 0x20510008 (fieldAt sec 0 4)).setRegN 0x2051000C (fieldAt sec 4 2)
    (s.setRegN 0x20510028 (fieldAt sec 24 4)).setRegN 0x2051002C (fieldAt sec 28 4)

/-- Every frame stops (R355, R370). -/
def State.plnStop (s : State) : State := s.setFlag PLN_SENDING false

/-- SAFECARRY of the publication list in force (Table PLN-17). -/
def State.updCarry (s : State) : State :=
  s.setFld ⟨0x20510000, 1, 1⟩ (ofBool ((List.range s.pubCount).any (fun i => (s.pubRec i).carry)))

/-- A subscription list takes the place of `old`: a subscription whose LAYOUT_CRC changes starts stale, and a station that
has lost its fresh ones is not live (R358, R367). The answer is true when an output watchdog signals (R360). -/
def State.subsMoved (s : State) (old : List Byte) : Bool × State :=
  let n := s.subCount
  let (sig, s) := (List.range n).foldl (fun p i =>
    if (subRecAt old i).crc = (p.2.subRec i).crc then p
    else
      let (sig, s) := p.2.toStale i
      (p.1 || sig, s.setSub i SubSt.reset)) (false, s)
  (sig, ((List.range n).flatMap (fun i => [(subRecAt old i).station, (s.subRec i).station])).eraseDups.foldl
    (fun s st => s.updLive st) s)

/-- Pourline goes on after a reset of the network region: the pattern's lists, and the frames again; subscriptions time
out as ever (R370). -/
def State.plnResume (s : State) : Bool × State :=
  if !s.hasSec SEC_POURLINE then (false, s)
  else
    let old := s.net.subList
    let s : State := { s with net := { s.net with pubList := plnPubList s.plnSec, subList := plnSubList s.plnSec } }
    ((s.setFlag PLN_SENDING true).updCarry).subsMoved old

/-- The address of the shadow of list table 4 (publications) or 5 (subscriptions) in SRAM, and the list in force. -/
def State.plnTable (s : State) (table : Nat) : Nat × List Byte :=
  if table = 4 then (s.regN 0x20510028, s.net.pubList) else (s.regN 0x2051002C, s.net.subList)

/-- The shadow of list table 4 or 5 is read for its test; none: the read meets an uncorrectable error (R34, R367). -/
def State.plnShadow (s : State) (table : Nat) : Option (List Byte) × State :=
  let (a, old) := s.plnTable table
  s.busRead issPln a old.length

/-- The wire time of a publication in ns (R354). -/
def wireNs (bytes red : Nat) : Nat := 8 * (max (bytes + 50) 64 + 20 + (if red = 0 then 0 else 6))

/-- The variables of a list record lie clear of the bitmap, of each other and of the container (R352). -/
def layoutOk (l : List Byte) (n lay nvar bytes : Nat) (carry : Bool) : Bool :=
  let qb := 4 * ((nvar + 31) / 32)
  let top := if carry then bytes - 20 else bytes
  let vs := (List.range nvar).map (fun v => layEntry l n (lay + v))
  decide (bytes ≤ 1468) && bytes % 4 == 0 && decide (qb ≤ top) && (!carry || decide (20 ≤ bytes)) &&
  vs.all (fun e => decide (1 ≤ e.1 ∧ e.1 ≤ 5 ∧ qb ≤ e.2 ∧ e.2 + fmtBytes e.1 ≤ top)
    && e.2 % fmtBytes e.1 == 0) &&
  (List.range vs.length).all (fun i => (List.range i).all (fun j =>
    let a := vs.getD i (0, 0)
    let b := vs.getD j (0, 0)
    decide (a.2 + fmtBytes a.1 ≤ b.2 ∨ b.2 + fmtBytes b.1 ≤ a.2)))

/-- LAYOUT_CRC of a list record (R352). -/
def layoutCrc (l : List Byte) (n lay nvar : Nat) : Nat :=
  if nvar = 0 then 0 else crc32c (slice l (32 * n + 4 * lay) (4 * nvar))

/-- A publication list passes R352 and R359: record `i` fails, or none does. -/
def pubListRefusal (l : List Byte) (n : Nat) (subStations : List Nat) : Option Nat :=
  (List.range n).find? (fun i =>
    let r := pubRecAt l i
    r.no != i || decide (1024 < r.nvar) || !layoutOk l n r.lay r.nvar r.bytes r.carry
      || layoutCrc l n r.lay r.nvar != r.crc
      || (r.target != 0xFFFF && !subStations.contains r.target)
      || (r.carry && (List.range i).any (fun j => (pubRecAt l j).carry)))

/-- A subscription that a safety connection to `st` may rest on: its frames have room for the container (R362). -/
def carrySub (r : SubRec) (st : Nat) : Bool := r.station == st && decide (20 ≤ r.bytes)

/-- A subscription list passes its own consistency (Table PLN-11), and each TARGET and each connection finds its
subscription (R359, R362). -/
def subListRefusal (l : List Byte) (n own : Nat) (conns : List SConn) (targets : List Nat) : Option Nat :=
  (List.range n).find? (fun i =>
    let r := subRecAt l i
    r.no != i || decide (1023 < r.station) || r.station == own || decide (63 < r.pub ∨ r.toCount < 2 ∨ 1024 < r.nvar)
      || !layoutOk l n r.lay r.nvar r.bytes false || r.trig == 3 || decide (31 < r.task)
      || (r.trig == 2 && decide (r.nvar ≤ r.trigVar)))
  |>.or (if conns.all (fun c => (List.range n).any (fun i => carrySub (subRecAt l i) c.station))
      && targets.all (fun t => t == 0xFFFF || (List.range n).any (fun i => (subRecAt l i).station == t)) then none
    else some n)

/-- The variables that the I/O map or a loop references in list table `table`. -/
def State.usedHandles (s : State) (table : Nat) : List Nat :=
  let io := ((ioMap s.prg.image).filter (fun e => e.kind == 3)).map (fun e => e.object)
  let cr := ((List.range 256).filter (fun n => s.loopEn n)).flatMap (fun n =>
    ([0x08, 0x0C, 0x10, 0x14].map (fun o => s.regN (lreg n o))).filterMap (fun r =>
      if refKind r = 4 then some (refIndex r) else none))
  (io ++ cr).filter (fun h => bitOf h 23 == (table == 5))

/-- The class 1 traffic that R354 declares for the occurrences of publications and the frames subscribed to, in bytes per
µs. -/
def State.pubTraffic (s : State) (l : List Byte) : Rat :=
  (s.entries.filter (fun e => e.kind == KIND_PLN_PUB)).foldl (fun a e =>
    a + mkRat ((pubRecAt l e.object).bytes + 32) e.period) 0
def subTraffic (l : List Byte) (n : Nat) : Rat :=
  (List.range n).foldl (fun a i => a + mkRat ((subRecAt l i).bytes + 32) (subRecAt l i).period) 0

/-- The run-time test of the shadow `l` of swap table 4 or 5 (R367). -/
def State.plnSwapOk (s : State) (table : Nat) (l : List Byte) : Bool :=
  if table = 4 then
    let n := s.pubCount
    let subs := (List.range s.subCount).map (fun i => (s.subRec i).station)
    (pubListRefusal l n subs).isNone &&
    (List.range n).all (fun i =>
      let r := pubRecAt l i
      decide (2 + (wireNs r.bytes s.redMode + 999) / 1000 ≤ r.win)) &&
    decide (s.pubTraffic l ≤ s.pubTraffic s.net.pubList) &&
    (s.usedHandles 4).all (fun h =>
      let p := bitsOf h 22 16
      let v := bitsOf h 11 0
      let r := pubRecAt l p
      decide (v < r.nvar) &&
        (layEntry l n (r.lay + v)).1 == (layEntry s.net.pubList n ((s.pubRec p).lay + v)).1)
  else
    let n := s.subCount
    (subListRefusal l n s.stationId s.sconns ((List.range s.pubCount).map (fun i => (s.pubRec i).target))).isNone &&
    decide (subTraffic l n ≤ subTraffic s.net.subList n) &&
    (s.usedHandles 5).all (fun h =>
      let p := bitsOf h 22 16
      let v := bitsOf h 11 0
      let r := subRecAt l p
      decide (v < r.nvar) &&
        (layEntry l n (r.lay + v)).1 == (layEntry s.net.subList n ((s.subRec p).lay + v)).1)

/-- The swap of table 4 or 5 for its shadow `new`, which takes the list in force in its place (R367). -/
def State.plnSwap (s : State) (table : Nat) (new : List Byte) : Bool × State :=
  let (a, old) := s.plnTable table
  let s := (s.busWrite issPln a old).2
  if table = 4 then (false, ({ s with net := { s.net with pubList := new } }).updCarry)
  else ({ s with net := { s.net with subList := new } }).subsMoved old

end Sys2Proof.Machine
end

