-- ==== Sys2Proof/Machine/Redundancy.lean ====
section
/-! DEFINITION. Redundant pairs and the runner link: roles, pair lines, ownership, link, comparison,
self-checks, switchover (10_redundancy.md). -/

namespace Sys2Proof.Machine

def RUN_SIDE : Fld := ⟨0x20300000, 5, 5⟩
def RUN_LINES : Fld := ⟨0x20300000, 9, 9⟩
def RUN_CHECKING : Fld := ⟨0x20300000, 10, 10⟩
def RUN_PDL : Fld := ⟨0x20300000, 12, 11⟩
/-- RUN_ERR flags: 0 LINK, 1 NOTPRIM, 2 SWREF, 3 DDTIMER. -/
def RUN_ERR (i : Nat) : Fld := ⟨0x20300004, i, i⟩
def PL_ALIVE : Fld := ⟨0x2030000C, 1, 0⟩
def PL_OWNIN : Fld := ⟨0x2030000C, 3, 2⟩
def PL_CLAIMABLE : Fld := ⟨0x2030000C, 5, 5⟩
def RUN_L (i : Nat) : Fld := ⟨0x20300010, 1 + i, 1 + i⟩
abbrev RUN_AGE : Nat := 0x20300014
abbrev RUN_LASTSW : Nat := 0x20300018
abbrev RUN_SWTIME : Nat := 0x2030001C
abbrev RUN_SWCNT : Nat := 0x20300020
abbrev RUN_MISV : Nat := 0x20300024
abbrev RUN_MISF : Nat := 0x20300028
abbrev RUN_MONEXCL : Nat := 0x2030002C
abbrev RUN_FRERR : Nat := 0x20300030
abbrev RUN_REPLOSS : Nat := 0x20300034
abbrev RUN_CPYOVF : Nat := 0x20300038
abbrev RUN_CPYSKIP : Nat := 0x2030003C
abbrev RUN_PVER : Nat := 0x20300044
abbrev RUN_PDLRSN : Nat := 0x20300048
abbrev RUN_LOC : Nat := 0xB7F
abbrev LINE_LOC : Nat := 0xB02

/-- Roles and standby states of Table RUN-14. -/
abbrev R_NONE : Nat := 0
abbrev R_SOLO : Nat := 1
abbrev R_PRIMARY : Nat := 2
abbrev R_STANDBY : Nat := 3
abbrev SS_SYNCING : Nat := 0
abbrev SS_SYNCED : Nat := 1
abbrev SS_BLIND : Nat := 2
abbrev SS_OFFLINE : Nat := 3

/-- Pair line classes (Table RUN-14). -/
abbrev AL_OPEN : Nat := 0
abbrev AL_ALIVE : Nat := 1
abbrev AL_DYING : Nat := 2
abbrev OW_OPEN : Nat := 0
abbrev OW_OWNED : Nat := 1
abbrev OW_RELEASED : Nat := 2

def State.role (s : State) : Nat := s.fld RUN_ROLE
def State.sstate (s : State) : Nat := s.fld RUN_SSTATE
def State.synced (s : State) : Bool := s.isStandby && s.sstate == SS_SYNCED
def State.linkUp (s : State) : Bool := s.flag RUN_UP

/-- REDUNDANCY section (Table RUN-11). -/
def State.redSec (s : State) : List Byte := s.sec SEC_REDUNDANCY
def State.sideA (s : State) : Bool := s.flag RUN_SIDE

/-! ### Role and standby state (R299, event 0x0100) -/

/-- CLAIMABLE (R302). -/
def State.updClaim (s : State) : State :=
  let o := s.fld PL_OWNIN
  s.setFlag PL_CLAIMABLE (o == OW_RELEASED || (o == OW_OPEN && s.run.dyingSince) || s.run.soloGrant)

/-- The grant of SOLO is over. -/
def State.endGrant (s : State) : State := ({ s with run := { s.run with soloGrant := false } }).updClaim

/-- What follows a change of role: drives, CAN, the safety outputs. -/
def State.followRole (s : State) : State :=
  let s := (List.range 4).foldl (fun s n => s.canFollowRole n) s
  s.updAllDrives.updSwitches

def State.setRole (s : State) (role sstate : Nat) : State :=
  if s.role = role ∧ s.sstate = sstate then s
  else
    let was := s.role
    let s := ((s.setFld RUN_ROLE role).setFld RUN_SSTATE sstate).event 0x100 RUN_LOC
      [BitVec.ofNat 8 role, BitVec.ofNat 8 sstate]
    let s := if role = R_SOLO then s else s.endGrant
    if was = role then s else s.followRole

/-- The standby state of a STANDBY. -/
def State.setSstate (s : State) (x : Nat) : State := if s.isStandby then s.setRole R_STANDBY x else s

/-- Loss of synchronism: SYNCED or SYNCING standby to SYNCING (R309, R314); CTRL asks the primary for a pass from its
beginning. -/
def State.toSyncing (s : State) : State :=
  if s.isStandby && (s.sstate == SS_SYNCED || s.sstate == SS_SYNCING) then
    let s := s.setSstate SS_SYNCING
    (({ s with run := { s.run with resync := true } }).event 0x108 RUN_LOC []).sendCtrl [12]
  else s

/-- A frame lost during a resynchronisation restarts it (R314). -/
def State.restartSync (s : State) : State :=
  if s.isStandby && s.sstate == SS_SYNCING && s.linkUp then s.toSyncing else s

/-! ### Pair lines and ownership (R300 to R303) -/

/-- OWN_OUT falls; the excitation of a paired module goes on until R303 ends it. -/
def State.dropOwn (s : State) : State :=
  if s.flag RUN_OWN then
    let s := s.setFlag RUN_OWN false
    ({ s with run := { s.run with fellAt := some s.mono } }).updSwitches
  else s

/-- ALIVE_OUT is driven low, and OWN_OUT with it (R300, R302). -/
def State.runDying (s : State) : State :=
  let s := { s with run := { s.run with aliveOut := 2, taking := none } }
  s.dropOwn

/-- ALIVE_OUT toggles from the end of the first start-up phase. -/
def State.runAlive (s : State) : State := { s with run := { s.run with aliveOut := 1 } }

/-- Lines consistent with what CTRL reports (Table RUN-10, row 2). -/
def State.linesOk (s : State) : Bool :=
  s.fld PL_ALIVE == AL_ALIVE && (match s.run.partner with
    | some p => !p.own || s.fld PL_OWNIN == OW_OWNED
    | none => true)

/-- RUN_STAT.LINES, which the CTRL messages of a link that is up are held against; loss records 0x010A (Table RUN-10,
row 2). -/
def State.updLines (s : State) : State :=
  if !s.pairPresent || !s.linkUp then s
  else
    let ok := s.linesOk
    if s.flag RUN_LINES = ok then s
    else
      let s := s.setFlag RUN_LINES ok
      if ok then s else s.event 0x10A LINE_LOC []

/-- The switchover takes effect at the new owner: role PRIMARY, counts, event 0x0107 with RUN_AGE (R321,
R322). -/
def State.completeTake (s : State) (cause cell : Nat) (warm : Bool) : State :=
  let s := { s with run := { s.run with taking := none, after := 0, afterCause := (0, 0) } }
  let keep := s.regN RUN_LASTSW
  let s := s.setRegN RUN_LASTSW (cause + ofBool warm * 16 + bitsOf keep 6 5 * 32 + cell * 256)
  let s := (s.bump RUN_SWCNT).setRegN RUN_SWTIME (ts32Of s.now)
  let s := s.setRole R_PRIMARY SS_SYNCING
  s.event 0x107 RUN_LOC (leBytes 4 (s.regN RUN_AGE))

/-- A pour that has not committed is dropped: nothing of it will be committed. -/
def State.dropPour (s : State) (t : Nat) : State :=
  if s.tstate t = 0 then s
  else ((s.setTask t { s.task t with trig := none, skipped := false }).setFld (TSTATE t) T_IDLE).setFlag (TDEMOTED t) false

/-- A BLIND standby commits nothing (R324): the pours whose commit instant lies before sequencer instant `by` are
dropped. -/
def State.dropPours (s : State) (before : Nat) : State :=
  (List.range 32).foldl (fun s t => if (s.task t).commitAt < before then s.dropPour t else s) s

/-- The output cells and loops of a warm takeover, and the sequencer, which goes on 4 µs later with its counters as they
stood (R324). -/
def State.warmTake (s : State) : State :=
  let s := s.outCells.foldl (fun s n =>
    match tblGet (fun _ => none) s.run.monGood n with
    | none => s
    | some v =>
      let (p, _) := physOf (s.cellRec n) (f64of32 v)
      (s.setCell n { s.cell n with p := p, sub := false }).updDrive n) s
  let s := (List.range 32).foldl (fun s t => s.dropPour t) s
  let s := { s with pour := { s.pour with openAt := s.seqNow + 4000 } }
  (List.range 256).foldl (fun s n =>
    if !s.loopEn n then s
    else
      let l := s.loop n
      let dst := s.regN (lreg n 0x14)
      let v := if refKind dst = 1 then
          (tblGet (fun _ => none) s.run.monGood (refIndex dst)).getD l.inEffect else l.inEffect
      s.setLoop n { l with trans := true, inEffect := v, held := none, staged := none, done := true }) s

/-- OWN_OUT raised: excitation with it, and a dual interval when the releaser may still drive (R303, R321). -/
def State.raiseOwn (s : State) (dual : Bool) : State :=
  let s := (s.setFlag RUN_OWN true).setFlag RUN_EXCITE true
  let c := if dual then some (s.now, none) else s.chan.dual
  { s with
    run := { s.run with fellAt := none }
    saf := { s.saf with ownAt := s.mono }
    chan := { s.chan with dual := c } }

/-- The takeover in hand completes when the ownership is claimed. A standby that was BLIND has let the commits of the
meantime pass. -/
def State.takeUp (s : State) : State :=
  match s.run.taking with
  | some (c, n, w) => (if w then s.warmTake else if s.blind then s.dropPours s.now else s).completeTake c n w
  | none => s

/-- OWNERSHIP_CLAIM: a claimable module that is to own raises OWN_OUT, and excites (R302, R321). Both modules excite until
DUAL_DRIVE_END, or for 1.0 ms (R303; DESIGN CHOICE, log 58). Side B gives way to an OWN_IN that is OWNED. -/
def State.claim (s : State) : State :=
  let wants := s.role == R_SOLO || s.role == R_PRIMARY || s.run.taking.isSome
  if !s.flag PL_CLAIMABLE || s.flag RUN_OWN || !wants || s.run.aliveOut != 1 then s
  else
    let dual := s.flag RUN_PAIRED && s.fld PL_ALIVE != AL_OPEN && s.run.taking.isSome
    let s := (s.raiseOwn dual).takeUp.updAllDrives.updSwitches
    if s.fld PL_OWNIN = OW_OWNED ∧ !s.sideA then s.dropOwn else s

/-- A standby takes over: TAKE goes over CTRL (R321). -/
def State.takeOver (s : State) (cause cell : Nat) (warm : Bool) : State :=
  (({ s with run := { s.run with taking := some (cause, cell, warm) } }).updClaim).sendCtrl
    ([1] ++ leBytes 1 cause ++ leBytes 1 cell)

/-- With the link up and the pair lines lost a standby is not eligible (Table RUN-10), nor is one whose module fault
has dropped its ALIVE_OUT (R326). -/
def State.eligible (s : State) : Bool :=
  s.isStandby && !(s.pairPresent && s.linkUp && !s.linesOk) && s.run.aliveOut == 1

/-- A takeover by this standby begins, if it is eligible. -/
def State.beginTake (s : State) (cause cell : Nat) (warm : Bool) : State :=
  if s.eligible then s.takeOver cause cell warm else s

/-- TAKE reaches the primary: gate open, OWN_OUT low, role STANDBY; excitation goes on (Table RUN-8). A partner that is
not ALIVE is not eligible (R326). -/
def State.yieldTo (s : State) (cause cell : Nat) : State :=
  if s.role ≠ R_PRIMARY ∨ s.fld PL_ALIVE ≠ AL_ALIVE then s
  else
    let a := s.run.after
    let s := s.dropOwn
    let keep := s.regN RUN_LASTSW
    let s := s.setRegN RUN_LASTSW (cause + bitsOf keep 6 5 * 32 + cell * 256)
    let s := (s.bump RUN_SWCNT).setRegN RUN_SWTIME (ts32Of s.now)
    let s := if cause = 2 then s.orReg RUN_MONEXCL (2 ^ cell) else s
    let s := (s.setRole R_STANDBY a).dropTriggers
    let s := { s with run := { s.run with after := 0, afterCause := (0, 0) } }
    let s := s.event 0x107 RUN_LOC (leBytes 4 (s.regN RUN_AGE))
    if a = SS_SYNCING then s.toSyncing else s

/-- The dual-drive interval ends now, if the 1.0 ms bound has not ended it. -/
def State.closeDual (s : State) : State :=
  match s.chan.dual with
  | some (a, none) => { s with chan := { s.chan with dual := some (a, some (min s.now (a + 1000000))) } }
  | _ => s

/-- DUAL_DRIVE_END: the releasing module disconnects; `timer`: by the 1.0 ms bound (R303). One whose OWN_IN is OPEN at
the bound has not seen since when its partner drives, and takes the whole time. At the new owner the dual drive ends. -/
def State.dualEnd (s : State) (timer : Bool) : State :=
  match s.run.fellAt with
  | none => s.closeDual
  | some f =>
    let s := { s with run := { s.run with fellAt := none } }
    let s := (s.setFlag RUN_EXCITE false).closeDual
    let s := if timer && s.fld PL_OWNIN == OW_OPEN then
        { s with chan := { s.chan with dual := some (s.now - (s.mono - f), some s.now) } } else s
    let s := if timer then (s.setFlag (RUN_ERR 3) true).event 0x10D RUN_LOC [] else s
    s.updAllDrives

/-- A dying partner: synchronised or warm takeover (R320, R324). It needs no pair line but ALIVE_IN (DEDUCED, log 58). -/
def State.partnerDying (s : State) : State :=
  if s.run.taking.isSome || s.run.aliveOut != 1 then s
  else if s.synced then s.takeOver 3 0 false
  else if s.blind then
    let quick := match s.run.lostSynced with
      | some t => decide (s.mono ≤ t + 10000000)
      | none => false
    s.takeOver 3 0 (!quick)
  else s

/-- A standby goes BLIND, and Table RUN-12 records it. -/
def State.toBlind (s : State) : State :=
  if !s.isStandby || s.sstate = SS_BLIND then s else (s.setSstate SS_BLIND).event 0x103 RUN_LOC []

/-- Row 6 of Table RUN-10: the link lost, the partner ALIVE and not reporting ownership. -/
def State.lineRow6 (s : State) : Bool :=
  s.isStandby && !s.linkUp && s.sstate != SS_OFFLINE && s.fld PL_ALIVE == AL_ALIVE && s.fld PL_OWNIN != OW_OWNED

/-- What a standby does while the link is lost (Table RUN-10); `was`: row 6 held before. -/
def State.standbyLinkLoss (s : State) (was : Bool) : State :=
  let al := s.fld PL_ALIVE
  let ow := s.fld PL_OWNIN
  if !s.isStandby || s.linkUp || s.sstate == SS_OFFLINE then s
  else if al == AL_ALIVE && ow == OW_OWNED then s.toBlind
  else if al == AL_DYING && ow != OW_OWNED then s.toBlind.partnerDying
  else if al == AL_ALIVE then (if was then s.toBlind else s.toBlind.event 0x10A LINE_LOC [])
  else s.toBlind

/-- The class of OWN_IN as the power/clock controller takes it, in reset and during a save too (R301, R302). -/
def State.ownClass (s : State) (cls : Nat) : State :=
  let s := s.setFld PL_OWNIN cls
  if cls = OW_OWNED then s.endGrant else s.updClaim

/-- The class of ALIVE_IN as the power/clock controller takes it (R301, R302). -/
def State.aliveClass (s : State) (cls : Nat) : State :=
  let s := s.setFld PL_ALIVE cls
  let d := if cls = AL_ALIVE then false else s.run.dyingSince || cls == AL_DYING
  ({ s with run := { s.run with dyingSince := d } }).updClaim

/-- OWN_IN_CHANGE (R301 to R303, R323). -/
def State.ownIn (s : State) (cls : Nat) : State :=
  let was := s.lineRow6
  let s := s.ownClass cls
  let s := if cls = OW_OWNED ∧ s.flag RUN_OWN ∧ !s.sideA then s.dropOwn else s
  let s := if cls = OW_OWNED ∧ s.run.fellAt.isSome ∧ s.flag RUN_EXCITE then
      { s with chan := { s.chan with dual := some (s.now, none) } } else s
  (s.updLines).standbyLinkLoss was

/-- ALIVE_IN_CHANGE (R301, R320, R323). -/
def State.aliveIn (s : State) (cls : Nat) : State :=
  let was := s.lineRow6
  let s := (s.aliveClass cls).updLines
  if cls = AL_DYING then s.partnerDying else s.standbyLinkLoss was

/-! ### The runner link (R304, R305) -/

/-- COPE_STAT.STATE (Table COPE-9). -/
def COPE_STATE : Fld := ⟨0x20A00000, 1, 0⟩

/-- LINK_TRAINED: up with both lanes, once the cope boot has completed. The unit must not be isolated, nor its region
held in reset, and a module fault leaves no link (R477). -/
def State.linkTrained (s : State) : State :=
  if s.linkUp || s.faultHalt || s.fld COPE_STATE == 0 || s.bit 0x20000028 22 || s.fld ⟨0x20000020, 5, 4⟩ == 1 then s
  else
    let s := { s with run := { s.run with crcRun := 0 } }
    let s := ((s.setFlag (RUN_L 0) true).setFlag (RUN_L 1) true).setFlag RUN_UP true
    let s := ((s.event 0x101 RUN_LOC []).setFlag RUN_LINES s.pairPresent).updLines
    if s.blind then
      let s := (List.range 32).foldl (fun s t => s.dropPour t) s
      (({ s with run := { s.run with lostSynced := none } }).setSstate SS_SYNCING).toSyncing
    else s

/-- The location code of a lost link: the lane that failed, L0 first, else the unit (R329). -/
def linkLossLoc (l0 l1 : Bool) : Nat := if !l0 then 0xB00 else if !l1 then 0xB01 else RUN_LOC

/-- The link goes down: lanes, flag, event, the partner as a time source (R304, R339). Frames and a pass that wait are
gone. -/
def State.linkDown (s : State) (l0 l1 : Bool) : State :=
  let lost := if s.synced then some s.mono else none
  let s := ((s.setFlag RUN_UP false).setFlag (RUN_L 0) l0).setFlag (RUN_L 1) l1
  let s := (s.setFlag (RUN_ERR 0) true).event 0x102 (linkLossLoc l0 l1) []
  let s : State := { s with run := { s.run with lostSynced := lost, resync := false, tx := [], pass := [] } }
  s.partnerSource false false 0

/-- LINK_LOSS: `l0` and `l1` tell which lanes still train (R304, R323). -/
def State.linkLoss (s : State) (l0 l1 : Bool) : State :=
  if s.linkUp then (s.linkDown l0 l1).standbyLinkLoss false
  else (s.setFlag (RUN_L 0) l0).setFlag (RUN_L 1) l1

/-- LINK_RETRAIN: a lost link starts training again. -/
def State.linkRetrain (s : State) : State :=
  if s.linkUp then s else (s.setFlag (RUN_L 0) false).setFlag (RUN_L 1) false

/-- A frame with a wrong CRC is discarded and counted; the eighth in a row takes the link down (R304). -/
def State.frameBad (s : State) : State :=
  let s := (s.bump RUN_FRERR).pmc1 12 0x12
  let s := { s with run := { s.run with crcRun := s.run.crcRun + 1 } }
  if 8 ≤ s.run.crcRun then s.linkLoss (s.flag (RUN_L 0)) (s.flag (RUN_L 1)) else s

/-- A valid frame. -/
def State.frameGood (s : State) : State := ({ s with run := { s.run with crcRun := 0 } }).pmc1 12 0x11

/-- A SNAP unit or LATCH frame is lost (R309). -/
def State.replayLost (s : State) : State :=
  ((s.bump RUN_REPLOSS).event 0x10B RUN_LOC []).toSyncing

/-- CRUCIBLE_SAMPLE on either module: on a standby a record that has not come by its sample is a lost LATCH frame, or
one of a wrong CRC (R309). -/
def State.sampleEntry (s : State) (e : Entry) (done : Nat) : State :=
  let lost := s.latchMissing e
  let s := s.crucibleSample e done
  if lost then s.replayLost else s

/-! ### The sender (R305, R306): frames leave as microseconds pass (DESIGN CHOICE, log 57) -/

/-- The frame that goes next (R306): CTRL within its 16 bytes per µs, LATCH and SNAP in turn, OVEC, COPY. -/
def Run.pick (r : Run) : Option LinkFrame :=
  let first (k : Nat) : Option LinkFrame := r.tx.find? (fun f => f.type == k)
  let ctrl := if 0 < r.ctrlCredit then first 1 else none
  let replay := if r.lastLatch then first 2 <|> first 3 else first 3 <|> first 2
  ctrl <|> replay <|> first 4 <|> first 5

/-- The bytes of a frame with SEQ `seq`, sent at ts32 `now`: header, payload, CRC-32C (Table RUN-3). -/
def LinkFrame.wire (f : LinkFrame) (seq now : Nat) : List Byte :=
  let b := leBytes 1 f.type ++ leBytes 1 f.flags ++ leBytes 2 f.payload.length ++ leBytes 4 seq ++ leBytes 4 f.arg
    ++ leBytes 4 (if f.type = 1 then now else f.ts) ++ f.payload
  b ++ leBytes 4 (crc32c b)

/-- A frame leaves. -/
def State.frameOut (s : State) (f : LinkFrame) : State :=
  let r := s.run
  let n : Int := f.payload.length + 20
  let s := (s.pmcCount 12 0x10 f.type 1).pmcCount 12 0x13 0 f.payload.length
  { s with
    outbox := s.outbox ++ [.link f.type (f.wire r.seq (ts32Of s.now))]
    run := { r with
      tx := r.tx.eraseP (fun g => g.type == f.type)
      lastLatch := if f.type = 3 then true else if f.type = 2 then false else r.lastLatch
      credit := r.credit - 33 * n
      ctrlCredit := if f.type = 1 then r.ctrlCredit - n else r.ctrlCredit
      seq := (r.seq + 1) % 2 ^ 32 } }

/-- Frames leave while the link has capacity; a frame in progress is finished. -/
def State.linkDrain (s : State) : Nat → State
  | 0 => s
  | k + 1 =>
    if s.run.credit ≤ 0 then s
    else match s.run.pick with
      | none => s
      | some f => (s.frameOut f).linkDrain k

/-- What a microsecond adds to a capacity, of which nothing is saved up. -/
def refill (c per : Int) : Int := if 0 ≤ c then per else c + per

/-- A microsecond of the link: 40,000 / 33 bytes over both lanes (R304), 16 of CTRL. -/
def State.linkTick (s : State) : State :=
  if !s.linkUp || s.run.tx.isEmpty then s
  else
    let r := s.run
    ({ s with run := { r with credit := refill r.credit 40000, ctrlCredit := refill r.ctrlCredit 16 } }).linkDrain 64

/-! ### Loop records and the resynchronisation pass (R312 to R314) -/

/-- The line that stands for loop `n` in a COPY unit: its descriptor's. -/
def loopLine (n : Nat) : Nat := lreg n 0 / 64

/-- A loop state record (R312). -/
def State.loopRec (s : State) (n : Nat) : List Byte :=
  leBytes 4 (loopLine n) ++ padTo 64 (leBytes 4 (s.loop n).sample ++ (s.loopWords n).flatMap (fun w => leBytes 4 w.toNat))

/-- The full loop state of a resynchronisation: the record, then the model history, the action in FALLBACK and the
failure window (R312). -/
def State.loopFull (s : State) (n : Nat) : List Byte :=
  let l := s.loop n
  s.loopRec n ++ (pieces 64 (leBytes 1 l.hist.length ++ l.hist.flatMap (fun w => leBytes 4 w.toNat)
    ++ [BitVec.ofNat 8 (ofBool l.fbSubst)] ++ l.win.map (fun b => BitVec.ofNat 8 (ofBool b)))).flatMap
    (fun p => leBytes 4 (loopLine n) ++ padTo 64 p)

/-- A line of the register windows. -/
def regLine (l : Nat) : Bool := decide (0x20000000 ≤ 64 * l ∧ 64 * l < 0x20B10000)

/-- What the pass sends of line `l`. -/
def State.passLine (s : State) (l : Nat) : List Byte × State :=
  if 0x20080000 ≤ 64 * l ∧ 64 * l < 0x20088000 then (s.loopFull ((64 * l - 0x20080000) / 0x80), s)
  else if regLine l then (leBytes 4 l ++ s.regBytes (64 * l) 16, s)
  else
    let (bs, s) := s.blockRead issRunner (64 * l) 64
    (leBytes 4 l ++ bs, s)

/-- What the pass sends of lines in turn. -/
def State.passData (s : State) (ls : List Nat) : List Byte × State :=
  ls.foldl (fun p l =>
    let (bs, s) := p.2.passLine l
    (p.1 ++ bs, s)) ([], s)

/-- The lines of a resynchronisation: state regions and RETAIN segments, the loops, the force table, the sequencer
counters, the station epochs, the runtime's area (R314, R369). -/
def State.passLines (s : State) : List Nat :=
  ((s.taskRecs.flatMap s.copyAreas).flatMap (fun x => linesOf x.1 x.2)).eraseDups
    ++ ((List.range 256).filter s.loopEn).map loopLine ++ linesOf 0x20031000 0x4000
    ++ linesOf 0x20020000 0x500 ++ linesOf 0x20511000 0x1000 ++ linesOf 0x680000 0x80000

/-- A standby asks for a pass: it starts from the beginning (R314). -/
def State.startPass (s : State) : State :=
  if s.isPrimary then { s with run := { s.run with pass := s.passLines } } else s

/-- A microsecond of the pass: eight lines go once no COPY frame waits, so that normal copies go first; CTRL tells its
end (R314; DESIGN CHOICE, log 57). -/
def State.passTick (s : State) : State :=
  if s.run.pass.isEmpty || !s.linkUp || s.run.tx.any (fun f => f.type == 5) then s
  else
    let (bs, s) := s.passData (s.run.pass.take 8)
    let s := s.sendCopyUnit 0xFF bs
    let s := { s with run := { s.run with pass := s.run.pass.drop 8 } }
    if s.run.pass.isEmpty then s.sendCtrl [13] else s

/-- The partner's status arrives over CTRL: PRIMARY from SOLO when it joins, Marigold's source, lines. The
message that makes the partner the source is no measurement. -/
def State.partnerStatus (s : State) (p : Partner) (sync : Bool) (theta : Int) : State :=
  let s := { s with run := { s.run with partner := some p } }
  let s := (s.setRegN RUN_PVER p.fw).updLines
  let s := if s.role = R_SOLO ∧ s.pairPresent ∧ p.role = R_STANDBY then s.setRole R_PRIMARY 0 else s
  let was := s.mgdState == G_PARTNER
  let s := s.partnerSource s.linkUp sync theta
  if was then s.partnerMeas theta else s

/-! ### Comparison and self-checks (R316 to R319) -/

/-- Both modules in RUN or SAFE, as far as this one knows. -/
def State.bothRun (s : State) : Bool :=
  (s.mode == RUN || s.mode == SAFE) && (match s.run.partner with
    | some p => p.mode == RUN || p.mode == SAFE
    | none => false)

/-- A mismatch starts the self-checks, once (R318); `cell`: the cell, or the task of a vector mismatch. -/
def State.startCheck (s : State) (vector : Bool) (cell : Nat) : State :=
  if s.flag RUN_CHECKING then s
  else (s.setFlag RUN_CHECKING true).sendCtrl ([2] ++ leBytes 1 (ofBool vector) ++ leBytes 1 cell)

/-- A vector mismatch in a pour of task `t` (R316). -/
def State.vectorMismatch (s : State) (t : Nat) : State :=
  ((s.bump RUN_MISV).event 0x104 RUN_LOC []).startCheck true t

/-- The cyclic task that carries the loops, of shortest period and then of highest priority (R312). -/
def State.carrier (s : State) : Option TaskRec :=
  let key (r : TaskRec) : Nat := r.period * 32 + r.prio
  (s.taskRecs.filter TaskRec.cyclic).foldl (fun (b : Option TaskRec) r =>
    match b with
    | none => some r
    | some q => if key r < key q then some r else some q) none

/-- The task whose regions a mismatch of a loop puts to the test: the one that carries it (DESIGN CHOICE, log 58). -/
def State.loopTask (s : State) : Nat :=
  match s.carrier with
  | some r => r.task
  | none => 0

/-- Own and primary's OVEC of one commit differ (R316). -/
def ovecDiffer (own prim : List Byte) : Bool :=
  bitOf (fieldAt own 1 1) 0 != bitOf (fieldAt prim 1 1) 0 || fieldAt own 12 4 != fieldAt prim 12 4 ||
  (List.range 32).any (fun c => bitOf (fieldAt prim 16 4) c
    && fieldAt own (32 + 4 * c) 4 != fieldAt prim (32 + 4 * c) 4)

/-- The comparison of task `t` once both vectors of a pour are there. -/
def State.compareOvec (s : State) (t : Nat) : State :=
  let a := tblGet (fun _ => []) s.run.ovec t
  let b := tblGet (fun _ => []) s.run.primOvec t
  if a.isEmpty || b.isEmpty || fieldAt a 4 4 != fieldAt b 4 4 then s
  else
    let s := { s with run := { s.run with primOvec := tblPut (fun _ => []) s.run.primOvec t [[]] } }
    if s.synced && s.bothRun && ovecDiffer a b then s.vectorMismatch t else s

/-- OVEC_FRAME: the primary's vector of a commit. -/
def State.ovecFrame (s : State) (v : List Byte) : State :=
  if !s.isStandby then s
  else
    let t := fieldAt v 0 1
    let s := { s with run := { s.run with
      primOvec := tblPut (fun _ => []) s.run.primOvec t [v], excl := fieldAt v 20 4 } }
    s.compareOvec t

/-- A loop state record arrives (R313): applied when its sample is the standby's, kept for a sample still to
come, discarded when overtaken. A standby that is SYNCING takes over its sample count. -/
def State.loopRecord (s : State) (n sample : Nat) (ws : List Word) : State :=
  let l := s.loop n
  let gap := (sample + 2 ^ 32 - l.sample) % 2 ^ 32
  if !s.isStandby then s
  else if s.sstate = SS_SYNCING then
    ((s.setLoop n { l with sample := sample, record := none }).putLoopRecord n ws).setRegN RUN_AGE 0
  else if gap = 0 then (s.putLoopRecord n ws).setRegN RUN_AGE 0
  else if gap < 2 ^ 31 then
    (if l.record.isSome then s.bump RUN_CPYSKIP else s).setLoop n { l with record := some (sample, ws) }
  else s.bump RUN_CPYSKIP

/-- A LATCH record of one loop at a sample (Table RUN-5): the values that the standby's next sample uses, and the
comparison of UEFF with what the standby staged. -/
def State.latchRecord (s : State) (n sample : Nat) (r : List Byte) : State :=
  let w (o : Nat) : Word := BitVec.ofNat 32 (fieldAt r o 4)
  let fl := fieldAt r 28 4
  let l := s.loop n
  let own := match l.staged with
    | some v => some v
    | none => l.held
  let differ := !bitOf fl 4 && (match own with | some h => h != w 12 | none => false)
  let s := if s.synced && s.bothRun && differ then s.vectorMismatch s.loopTask else s
  let src : LoopSrc := ⟨w 0, !bitOf fl 0, w 4, !bitOf fl 1, w 8, !bitOf fl 2,
    if bitOf fl 3 then some (w 16) else none, if bitOf fl 4 then some (w 12) else none, some (w 12)⟩
  let s := { s with cru := { s.cru with remote := tblPut (fun _ => none) s.cru.remote n [some (sample, src)] } }
  let s := (s.setReg (lst n 0x0C) (w 20)).setReg (lreg n 0x58) (w 24)
  let s := if bitOf fl 8 then s.requestMode n (bitsOf fl 7 5) 2 else s
  let s := if bitOf fl 9 then s.clearPlaus n else s
  if bitOf fl 10 then s.setFlag (LS_NUMERR n) false else s

/-- The CRUCIBLE entry that loop `n` belongs to. -/
def State.entryOfLoop (s : State) (n : Nat) : Option Entry :=
  s.entries.find? (fun e => e.kind == KIND_CRUCIBLE && (groupLoops e).contains n)

/-- A standby that is SYNCING takes over the sample count of an entry. -/
def State.adoptSample (s : State) (n sample : Nat) : State :=
  match s.entryOfLoop n with
  | some e => if s.sstate = SS_SYNCING then s.setEntrySample e sample else s
  | none => s

/-- LATCH_FRAME (R310). -/
def State.latchFrame (s : State) (payload : List Byte) : State :=
  if !s.isStandby then s
  else
    let first := fieldAt payload 0 1
    let sample := fieldAt payload 4 4
    let s := s.adoptSample first sample
    (List.range (min (fieldAt payload 1 1) 31)).foldl (fun s j =>
      s.latchRecord ((first + j) % 256) sample (slice payload (16 + 32 * j) 32)) s

/-- R317 at one result of cell `n`: a SYNCED standby compares MON with its own command. A warm takeover drives the last
result with MONVALID = 1 before the partner became DYING, so that none is kept from then on (R324). -/
def State.monCompare (s : State) (n : Nat) : State :=
  let r := s.cellRec n
  let monv := s.bit (cOSTAT n) 6
  let s := if monv && !s.run.dyingSince then { s with run := { s.run with
      monGood := tblPut (fun _ => none) s.run.monGood n [some (s.reg (cMON n))] } } else s
  if !s.synced || !monv || !bitOf (fieldAt s.redSec 12 4) n || s.bit RUN_MONEXCL n
      || bitOf s.run.excl n then s
  else
    let span := if crMode r = M_DO then f1 else fabs (fsub (crScaleHi r) (crScaleLo r))
    let d := fabs (fsub (f64of32 (s.reg (cMON n))) (f64of32 (s.reg (cCMD n))))
    let above := flt (fdiv (fmul (f64of32 (BitVec.ofNat 32 (fieldAt s.redSec 4 4))) span) (f64ofInt 100)) d
    let c := s.cell n
    let k := if above then c.monRun + 1 else 0
    let hit := above && decide (fieldAt s.redSec 2 1 ≤ k)
    let s := s.setCell n { c with monRun := if hit then 0 else k }
    if hit then ((s.bump RUN_MISF).event 0x105 RUN_LOC []).startCheck false n else s

/-- The CODE segments of the image in force. -/
def State.codeSegs (s : State) : List Seg := (segs s.prg.image).filter (fun g => g.kind == 1)

/-- The CODE segments in memory have the CRC of the image's (R318). -/
def State.codeGood (s : State) : Bool :=
  s.codeSegs.all (fun g =>
    crc32c (s.mread g.load g.fileLen) == crc32c (slice s.prg.image g.fileOff g.fileLen))

/-- State and output regions of task `t`. -/
def State.taskAreas (s : State) (t : Nat) : List (Nat × Nat) :=
  ((imgTasks s.prg.image).filter (fun e => e.task == t)).map (fun e => (e.stateBase, e.stateBytes))
    ++ (match s.taskRec? t with | some r => [(r.outBase, r.outBytes)] | none => [])

/-- The unit self-check (R318): the lockstep core test as `core` gives it, the scrub of the task's regions, the CODE. -/
def State.unitCheck (s : State) (t : Nat) (core : Bool) : Bool × State :=
  let areas := s.taskAreas t ++ s.codeSegs.map (fun g => (g.load, g.fileLen))
  let (ue, s) := s.eccReads (areas.flatMap (fun x => s.errWords x.1 x.2)).eraseDups
  (core && !ue && s.codeGood, s)

/-- The cell measurement test (R318): the two converters' readings of the same, mA or V, differ by no more than half of
MON_LIM; for DO, whose V(A-D) has no span, they give the same switch state (DEDUCED, log 58). -/
def State.cellCheck (s : State) (n : Nat) (a b : F64) : Bool :=
  let r := s.cellRec n
  if crMode r = M_DO then flt a (f64ofInt 2) == flt b (f64ofInt 2)
  else
    let lim := f64of32 (BitVec.ofNat 32 (fieldAt s.redSec 4 4))
    !flt (fdiv (fmul lim (nomSpan r)) (f64ofInt 200)) (fabs (fsub a b))

/-- The module's own self-check, answered over CTRL. -/
def State.ownCheck (s : State) (vector : Bool) (cell : Nat) (core : Bool) (a b : F64) : Bool × State :=
  let (ok, s) := if vector then s.unitCheck cell core else (s.cellCheck cell a b, s)
  (ok, s.sendCtrl ([14] ++ leBytes 1 (ofBool vector) ++ leBytes 1 cell ++ leBytes 1 (ofBool ok)))

/-- Table RUN-7 on the results of primary and standby, each module acting on its own part. -/
def State.checkResult (s : State) (vector : Bool) (cell : Nat) (pp sp : Bool) : State :=
  if !s.flag RUN_CHECKING then s
  else
    let ok := if s.isStandby then s.sstate == SS_SYNCED
      else (match s.run.partner with | some p => p.sstate == SS_SYNCED | none => false)
    let sp := sp && ok
    let s := (s.setFlag RUN_CHECKING false).event 0x106 RUN_LOC [BitVec.ofNat 8 (ofBool pp), BitVec.ofNat 8 (ofBool sp)]
    let above := !pp && sp
    let cause := if !above then 7 else if vector then 1 else 2
    let s := s.setRegN RUN_LASTSW (cause + ofBool pp * 32 + ofBool sp * 64 + (if vector then 0 else cell * 256))
    if above then
      if s.isStandby then s.beginTake cause (if vector then 0 else cell) false
      else
        { s with run := { s.run with
            after := if vector then SS_OFFLINE else SS_SYNCING, afterCause := (cause, cell) } }
    else if !s.isStandby then s
    else if pp && sp then s.toSyncing
    else if vector then s.setSstate SS_OFFLINE
    else s.orReg RUN_MONEXCL (2 ^ cell)

/-- SELF_CHECK_RESULT: the own check ends, and the partner's result has arrived (R318, R319). -/
def State.selfCheckResult (s : State) (vector : Bool) (cell : Nat) (core : Bool) (a b : F64) (partner : Bool) : State :=
  if !s.flag RUN_CHECKING then s
  else
    let (ok, s) := s.ownCheck vector cell core a b
    if s.isStandby then s.checkResult vector cell partner ok else s.checkResult vector cell ok partner

/-! ### Requests (R314, R320) -/

/-- SWITCH: RUN_CTL.SWITCH, refused with SWREF. -/
def State.switchReq (s : State) : State :=
  let ok := s.linkUp && (match s.run.partner with
    | none => false
    | some p => p.mode == s.mode && (if s.isStandby then s.sstate == SS_SYNCED
        else s.role == R_PRIMARY && p.role == R_STANDBY && p.sstate == SS_SYNCED))
  if !ok then s.setFlag (RUN_ERR 2) true
  else if s.isStandby then s.beginTake 6 0 false
  else s.sendCtrl [3]

/-- RESYNC: RUN_CTL.RESYNC on a STANDBY (R314). -/
def State.resyncReq (s : State) : State :=
  if !s.isStandby then s
  else
    let s := if s.sstate = SS_OFFLINE then s.setSstate SS_SYNCING else s
    s.toSyncing

/-- RESYNC_COMPLETE: the pass and one hyperperiod of copies are done. -/
def State.resyncDone (s : State) : State :=
  if s.isStandby && s.sstate == SS_SYNCING && s.linkUp && s.run.resync then
    (({ s with run := { s.run with resync := false } }).setSstate SS_SYNCED).event 0x109 RUN_LOC []
  else s

/-- The primary reports an output cell fault, and the standby's stage test of the cell passes or not
(R320). -/
def State.partnerCellFault (s : State) (cell : Nat) (pass : Bool) : State :=
  if s.synced && pass then s.beginTake 4 cell false else s

/-- The primary reports the loss of its field region or of a channel block in use (R320). -/
def State.partnerFieldLoss (s : State) : State :=
  if s.synced && s.fld RGN_FLD != 1 then s.beginTake 5 0 false else s

/-! ### Resolution of the role at start (R298, R325) -/

/-- PAIR_PRESENT, PAIR_SIDE and PAIRED as latched and configured. -/
def State.latchPair (s : State) (present sideA : Bool) : State :=
  (s.setFlag PL_PRESENT (!present)).setFlag RUN_SIDE sideA

/-- The refusal of group 0x06 against a partner whose link is up: reason code and argument. -/
def State.pairRefusal (s : State) (image fw : Nat) : Option (Nat × Nat) :=
  match s.run.partner with
  | none => none
  | some p =>
    if p.digest ≠ leVal s.patDigest then some (0x601, 0)
    else if p.image ≠ image then some (0x602, 0)
    else if p.sideA = s.sideA then some (0x603, ofBool s.sideA)
    else if p.fw / 256 ≠ fw / 256 then some (0x606, p.fw)
    else none

/-- ROLE_RESOLVE (R325); `image` and `fw` identify the image in force and the cope firmware. -/
def State.roleResolve (s : State) (image fw : Nat) : State :=
  let solo (s : State) : State :=
    (({ s with run := { s.run with soloGrant := true, refusal := none } }).updClaim).setRole R_SOLO 0
  let refuse (s : State) (c a : Nat) : State :=
    ({ s with run := { s.run with refusal := some (c, a) } }).setRole R_NONE 0
  if s.role ≠ R_NONE then s
  else if !s.pairPresent then solo s
  else if s.linkUp then
    match s.run.partner with
    | none => s
    | some p =>
      match s.pairRefusal image fw with
      | some (c, a) =>
        let s := { s with run := { s.run with refusal := some (c, a) } }
        if p.role = R_PRIMARY ∨ p.role = R_SOLO then s.setRole R_STANDBY SS_OFFLINE else s.setRole R_NONE 0
      | none =>
        let s := { s with run := { s.run with refusal := none } }
        if p.role = R_PRIMARY ∨ p.role = R_SOLO then (s.setRole R_STANDBY SS_SYNCING).toSyncing
        else
          let primary := if s.run.offer != p.offer then s.run.offer else s.sideA
          if primary then s.setRole R_PRIMARY 0 else (s.setRole R_STANDBY SS_SYNCING).toSyncing
  else
    let al := s.fld PL_ALIVE
    let ow := s.fld PL_OWNIN
    if al = AL_ALIVE then refuse s 0x605 (if s.flag (RUN_L 0) then 1 else 0)
    else if ow = OW_OWNED then refuse s 0x605 0xFE
    else if al = AL_DYING then solo s
    else if fieldAt s.redSec 1 1 = 1 then solo s
    else refuse s 0x605 0xFF

/-- PAIRED of the pattern in force, the exclusions cleared by a reload (R7, Table RUN-13). -/
def State.runStart (s : State) (load : Nat) : State :=
  let s := s.setFlag RUN_PAIRED (fieldAt s.redSec 0 1 == 1)
  (s.setRegN RUN_MONEXCL 0).setRegN 0x20300040 load

/-- The unit after a reset of the module: line classes and link follow their own changes, and the start-up latches
the straps anew, which have not moved (R67, R302). -/
def State.runReset (s : State) : State :=
  let keep := s.fld PL_ALIVE + s.fld PL_OWNIN * 4 + ofBool (s.flag PL_PRESENT) * 16
  let side := s.flag RUN_SIDE
  let counts := s.regs.filter (fun e => decide (0x20300020 ≤ e.1 ∧ e.1 ≤ 0x2030003C ∧ e.1 ≠ RUN_MONEXCL))
  let s := s.clearRegs 0x20300000 0x20301000
  let s := counts.foldl (fun s e => s.setReg e.1 e.2) s
  let s := (s.setRegN 0x2030000C keep).setFlag RUN_SIDE side
  ({ s with run := { Run.reset with dyingSince := s.run.dyingSince, aliveOut := 2, seq := s.run.seq } }).updClaim

end Sys2Proof.Machine
end

