-- ==== Sys2Proof/Machine/Stop.lean ====
section
/-! DEFINITION. The HEALTH contact, station modes and the module fault (R17, R125 to R131, R447). -/

namespace Sys2Proof.Machine

def COPE_RELAY : Fld := ⟨0x20A00000, 4, 4⟩
abbrev COPE_ALARM : Nat := 0x20A00014
def SAFE_SRC : Fld := ⟨0x20030000, 13, 12⟩
def PRG_RESUMEREF : Fld := ⟨0x20030008, 0, 0⟩
def DL_STATE : Fld := ⟨0x20030044, 2, 0⟩
def DL_BUSY : Fld := ⟨0x20030044, 3, 3⟩
def DL_RESULT : Fld := ⟨0x20030044, 7, 4⟩
def RUNCTL_RUN_REQ : Fld := ⟨0x20000010, 0, 0⟩
def RUNCTL_STOP_REQ : Fld := ⟨0x20000010, 1, 1⟩
def RUNCTL_CHECK_ONLY : Fld := ⟨0x20000010, 2, 2⟩
def RUNCTL_RELOAD : Fld := ⟨0x20000010, 3, 3⟩
def RUNCTL_SLOT : Fld := ⟨0x20000010, 5, 4⟩
def RGNSTAT (r : Nat) : Fld := ⟨0x20000020, 2 * r + 1, 2 * r⟩
def RGNFLT (r : Nat) : Fld := ⟨0x20000024, r, r⟩
abbrev SYS_MFLT : Nat := 0x20000030
def MFLT_CAUSE : Fld := ⟨0x20000030, 23, 16⟩

/-! ### The HEALTH contact (R447) -/

/-- Every condition under which the contact is closed holds. -/
def State.relayOk (s : State) : Bool :=
  s.fld COPE_STATE == 1 && s.pat.force.isSome && s.dragStarted
    && !(s.mode == HALT && s.fld HALT_CAUSE == 1) && s.regN COPE_ALARM == 0

/-- The contact opens as soon as a condition fails; it closes only at a tick. -/
def State.updRelay (s : State) : State :=
  if s.flag COPE_RELAY && !s.relayOk then (s.setFlag COPE_RELAY false).copeEvent 0x174 [0] else s

/-- The contact at a tick. -/
def State.tickRelay (s : State) : State :=
  if !s.flag COPE_RELAY && s.relayOk then (s.setFlag COPE_RELAY true).copeEvent 0x174 [1] else s.updRelay

/-! ### Mode changes (R125 to R131, R311)

HALT_CAUSE and SAFE_SRC keep what the last HALT and the last SAFE recorded (log 21). -/

/-- MODE takes a new value: event 0x0092, and CTRL to the standby. Its cause is HALT_CAUSE for HALT, SAFE_SRC for SAFE,
else 0 (DESIGN CHOICE, log 45). -/
def State.modeChange (s : State) (new cause : Nat) : State :=
  let old := s.mode
  if old = new then s
  else
    let p := leBytes 1 old ++ leBytes 1 new ++ leBytes 1 cause
    let s := (s.setMode new).runtimeEvent 0x92 p
    (if s.isPrimary then s.sendCtrl ([4] ++ p) else s).updRelay

/-- SAFE is entered from RUN: 1 safety demand, 2 SAFE_REQ (R127). -/
def State.enterSafe (s : State) (src : Nat) : State :=
  if s.mode = RUN then (s.setFld SAFE_SRC src).modeChange SAFE src else s

/-- The safety processor's demand acts on the station mode except on a STANDBY (R127, R326). -/
def State.safDemand (s : State) : State :=
  if s.flag SAF_SAFEDEM && !s.isStandby then s.enterSafe 1 else s

/-- Entry to RUN (R109, R177, R178, R355). `warm`: Crucible resumes the saved loops. -/
def State.enterRun (s : State) (warm : Bool) : State :=
  let s := (((s.pourStart).cruStart warm).plnEnterRun).endAllTrim
  (s.modeChange RUN 0).safDemand

/-- HALT from RUN or SAFE (R128): 2 fallback, 3 trap, 4 HALT_REQ. -/
def State.enterHalt (s : State) (cause : Nat) : State :=
  if s.mode = RUN || s.mode = SAFE then
    let s := ((s.pourHalt).cruStop 2).ladleEnd LS_ABORTED
    let s := (s.setFld HALT_CAUSE cause).modeChange HALT cause
    s.allOutSub
  else s

/-- An orderly STOP begins (R130): no new snapshots, triggers and pending Ladle chains end. -/
def State.beginStop (s : State) : State :=
  if (s.mode = RUN || s.mode = SAFE) && s.fld POUR_STATE == P_RUN then
    (((s.setFld POUR_STATE P_STOPPING).dropTriggers).cruStop 0).ladleEnd LS_WITHDRAWN
  else s

/-- MODE = STOP at the end of an orderly STOP, or out of HALT (R128, R130). -/
def State.enterStop (s : State) : State :=
  ((((s.pourOff).cruStop 0)).modeChange STOP 0).allOutSub

/-- RESUME in SAFE (R129). -/
def State.resume (s : State) : State :=
  if s.mode ≠ SAFE then s
  else if s.flag SAF_SAFEDEM then s.setFlag PRG_RESUMEREF true
  else s.modeChange RUN 0

/-- TO_STOP: an orderly STOP from SAFE; out of a HALT that no module fault caused (R128, R129). -/
def State.toStop (s : State) : State :=
  if s.mode = SAFE then s.beginStop
  else if s.mode = HALT && s.fld HALT_CAUSE != 1 then s.enterStop
  else s

/-- On a STANDBY the request is ignored and sets RUN_ERR.NOTPRIM (R311). -/
def State.asPrimary (s : State) (f : State → State) : State :=
  if s.isStandby then s.setFlag (RUN_ERR 1) true else f s

/-- An output watchdog that signals acts as a write of PRG_MODECTL.SAFE_REQ (R360). -/
def State.owdSignal (s : State) (signals : Bool) : State := if signals then s.asPrimary (fun s => s.enterSafe 2) else s

/-! ### Module fault (R17) -/

/-- The event code that the owner of a fault gives, if any (Tables PRG-15, CRU-14, SAF-9). -/
def ownerCode (cause loc : Nat) : Option Nat :=
  if cause ≠ 1 then none
  else if loc = 0x2FF ∨ loc = 0x37F then some 0x99
  else if loc = 0x47F then some 0xA9
  else if loc = 0xC7F then some 0xD3
  else if loc = 0xBFF then some 0xD4
  else none

/-- The drag plane stops: sequencer, Crucible, Ladle, CAN, Pourline, counters, conversion; no drain. -/
def State.stopDrag (s : State) : State :=
  let s := ((s.pourHalt).cruStop 2).ladleDrop
  let s := ((s.canAllOff).plnStop).pmcStop
  s.stopConversion

/-- A check, load or download in progress ends with the module fault or reset (Table PRG-11). -/
def State.dropWork (s : State) : State :=
  let s := ((s.setFlag RUNSTAT_CHECK_BUSY false).setFlag RUNSTAT_RELOAD_BUSY false)
  let s := (s.setFlag RUNCTL_RUN_REQ false).setFlag RUNCTL_RELOAD false
  let s := (s.setFld DL_STATE 0).setFlag DL_BUSY false
  { s with prg := { s.prg with staged := [] }, pat := { s.pat with staged := none, toTry := [] } }

/-- A module fault: Table SYS-3 cause and the location code of the origin; the runner link is lost (R477); one of
the safety region leaves the safety processor in FAILSAFE (Table SAF-7). -/
def State.moduleFault (s : State) (cause loc : Nat) : State :=
  let old := s.mode
  let s := (s.stopDrag).mgdFault
  let s := (s.setFld HALT_CAUSE 1).dropWork
  let s := (s.setMode HALT).allOutSub
  let s := (s.safStop).runDying
  let s := if s.linkUp then s.linkDown false false else s
  let s := if loc = 0xF7F ∨ loc = 0xBFF ∨ loc = 0xC7F then s.safFail else s
  let s := s.setRegN SYS_MFLT (2 ^ 31 + cause % 256 * 65536 + loc % 4096)
  let r := regionOfBlock (locBlock loc)
  let s := if r < 5 then (s.setFlag (RGNFLT r) true).setFld (RGNSTAT r) 3 else s
  let s := s.event 0x10 loc (leBytes 1 cause ++ [0] ++ leBytes 2 loc ++ leBytes 1 old ++ [0, 0, 0])
  let s := match ownerCode cause loc with
    | some c => s.event c loc []
    | none => s
  let s := if old = HALT then s
    else s.runtimeEvent 0x92 (leBytes 1 old ++ leBytes 1 HALT ++ leBytes 1 1)
  s.updRelay

end Sys2Proof.Machine
end

