-- ==== Sys2Proof/Machine/Program.lean ====
section
/-! DEFINITION. The force table, the loading of an image, retentive data and program traps (R121 to R139,
R142). -/

namespace Sys2Proof.Machine

/-! ### The force table (R136 to R139) -/

/-- The address of register `off` of force `n`. -/
def freg (n off : Nat) : Nat := 0x20031000 + 0x20 * n + off

def F_ACTIVE (n : Nat) : Fld := ⟨freg n 4, 0, 0⟩
def F_TARGET (n : Nat) : Fld := ⟨freg n 4, 2, 1⟩
def F_WIDTH (n : Nat) : Fld := ⟨freg n 4, 5, 3⟩
def F_TASK (n : Nat) : Fld := ⟨freg n 4, 10, 6⟩
def F_GLOBAL (n : Nat) : Fld := ⟨freg n 4, 11, 11⟩
def F_RREASON (n : Nat) : Fld := ⟨freg n 4, 19, 12⟩
def F_ADDRHI (n : Nat) : Fld := ⟨freg n 4, 31, 28⟩
def PRG_FORCED : Fld := ⟨0x20030000, 0, 0⟩
def PRG_DLIMG : Fld := ⟨0x20030000, 1, 1⟩
def PRG_RETINIT : Fld := ⟨0x20030000, 2, 2⟩
def PRG_FCOUNT : Fld := ⟨0x20030000, 25, 16⟩
/-- The location code of the PRG block's events (R138): AP0, which hosts the runtime. DESIGN CHOICE: log 7. -/
abbrev PRG_LOC : Nat := 0x2FF

/-- PRG_FnVLO and PRG_FnVHI. -/
def State.forceReg (s : State) (n : Nat) : Nat := s.regN (freg n 0x10) + 2 ^ 32 * s.regN (freg n 0x14)

/-- The value that applies for force `n` (R137). -/
def State.forceVal (s : State) (n : Nat) : Nat := tblGet (fun _ => 0) s.prg.applied n

/-- The force entries with ACTIVE = 1. -/
def State.activeForces (s : State) : List Nat := (List.range 512).filter (fun n => s.flag (F_ACTIVE n))

/-- FORCED and FCOUNT. -/
def State.updForced (s : State) : State :=
  let k := s.activeForces.length
  (s.setFlag PRG_FORCED (k != 0)).setFld PRG_FCOUNT k

/-- The payload of 0x0090 and 0x0091 (Table EVR-9). -/
def State.forcePayload (s : State) (n rreason : Nat) : List Byte :=
  leBytes 4 (s.regN (freg n 0)) ++ leBytes 2 n ++ leBytes 1 rreason ++ [0] ++ leBytes 8 (s.forceReg n)

/-- CTRL message of a force table change, tagged with the stack whose instant is now (R311). -/
def State.sendForce (s : State) (n : Nat) : State :=
  s.sendCtrl ([5] ++ leBytes 4 (ts32Of s.now) ++ leBytes 2 n ++ s.regBytes (freg n 0) 6)

/-- Entry `n` has changed: the next stack of a primary tells the standby; outside pours there is no stack to wait for
(R311). -/
def State.forceChanged (s : State) (n : Nat) : State :=
  if !s.isPrimary then s
  else if s.pourActive then
    { s with prg := { s.prg with forceChg := s.prg.forceChg.filter (· != n) ++ [n] } }
  else s.sendForce n

/-- A write of PRG_FnCTL takes effect: with ACTIVE = 1 the value applies and 0x0090 is recorded; a change
from 1 to 0 records 0x0091 (R137, R138). -/
def State.forceCtl (s : State) (n v : Nat) : State :=
  let was := s.flag (F_ACTIVE n)
  let s := s.setRegN (freg n 4) (v % 2 ^ 20 + v / 2 ^ 28 % 16 * 2 ^ 28)
  let s := { s with prg := { s.prg with applied := tblSet (fun _ => 0) s.prg.applied n (s.forceReg n) } }
  let s := s.updForced
  let s :=
    if s.flag (F_ACTIVE n) then s.event 0x90 PRG_LOC (s.forcePayload n 0)
    else if was then s.event 0x91 PRG_LOC (s.forcePayload n (s.fld (F_RREASON n)))
    else s
  s.forceChanged n

/-- FORCE_CTL_WRITE: only the runtime writes, in STOP and RUN; a STANDBY ignores it (R136, R145, R311). -/
def State.forceCtlWrite (s : State) (who : Initiator) (n v : Nat) : State :=
  if who != .ap0 && who != .ap1 then { s with bus := ⟨[], true⟩ }
  else s.asPrimary (fun s => if s.mode = STOP ∨ s.mode = RUN then s.forceCtl n v else s)

/-- Force `n` released with a reason. -/
def State.releaseForce (s : State) (n reason : Nat) : State :=
  if !s.flag (F_ACTIVE n) then s
  else s.forceCtl n (setBits (setBits (s.reg (freg n 4)) 0 0 0) 19 12 reason).toNat

/-- The WIDTH code of a size in bytes. -/
def widthCode (b : Nat) : Nat := if b = 8 then 3 else if b = 4 then 2 else if b = 2 then 1 else 0

/-- Bytes of a WIDTH code. -/
def widthBytes (c : Nat) : Nat := 2 ^ min c 3

/-- The symbol can carry a force (R136). -/
def Sym.forceable (y : Sym) : Bool := !y.noforce && !y.isConst && y.type != 0x11 && y.type != 0x20

/-- TARGET, WIDTH, TASK, GLOBAL, offset, quality bit and address of a force on symbol `y` of an image;
ACTIVE = 1. A symbol with both INPUT and OUTPUT takes TARGET input (DESIGN CHOICE, log 64). This is no write of PRG_FnCTL
that R138 records (DESIGN CHOICE, log 52). -/
def State.bindForce (s : State) (im : List Byte) (n : Nat) (y : Sym) : State :=
  let io := fun d => (ioMap im).find? (fun e => e.sym == y.id && e.dir == d)
  let put (target width task glob off qb hi : Nat) : State :=
    let s := ((s.setRegN (freg n 0) y.id).setRegN (freg n 8) off).setRegN (freg n 0xC) qb
    s.setRegN (freg n 4) (1 + target * 2 + width * 8 + task % 32 * 64 + glob * 2048 + hi % 16 * 2 ^ 28)
  match (if y.isInput then io 1 else none), (if y.isOutput then io 2 else none) with
  | some e, _ => put 1 (widthCode (fmtBytes e.fmt)) e.task 0 e.off e.qbit 0
  | none, some e => put 2 (widthCode (fmtBytes e.fmt)) e.task 0 e.off 0xFFFFFFFF 0
  | none, none =>
    put 3 (widthCode y.size) (if y.task = 255 then 0 else y.task) (ofBool (y.task == 255)) (y.addr % 2 ^ 32)
      0xFFFFFFFF (y.addr / 2 ^ 32)

/-- The entry that holds a force on a symbol. -/
def State.forceOf (s : State) (id : Nat) : Option Nat :=
  s.activeForces.find? (fun n => s.regN (freg n 0) == id)

/-- A force requested of the runtime: whether it was set (R136). -/
def State.forceSet (s : State) (id val : Nat) : Bool × State :=
  match findSym s.prg.image id with
  | none => (false, s)
  | some y =>
    let entry := match s.forceOf id with
      | some n => some n
      | none => (List.range 512).find? (fun n => !s.flag (F_ACTIVE n))
    if !y.forceable || (s.mode != STOP && s.mode != RUN) then (false, s)
    else match entry with
      | none => (false, s)
      | some n =>
        let was := s.reg (freg n 4)
        let s := ((s.bindForce s.prg.image n y).setRegN (freg n 0x10) val).setRegN (freg n 0x14) (val / 2 ^ 32)
        let c := s.regN (freg n 4)
        (true, (s.setReg (freg n 4) was).forceCtl n c)

/-- A force released on request: whether there was one. -/
def State.forceRelease (s : State) (id : Nat) : Bool × State :=
  match s.forceOf id with
  | none => (false, s)
  | some n => if s.mode != STOP && s.mode != RUN then (false, s) else (true, s.releaseForce n 0)

/-- A symbol is retyped by an image change (R123). -/
def retyped (old new : Sym) : Bool := old.type != new.type || old.size != new.size || old.hash != new.hash

/-- The first active force that would stay on a symbol that the new image marks NOFORCE (R139). -/
def State.noforceConflict (s : State) (new : List Byte) : Option Nat :=
  (s.activeForces.map (fun n => s.regN (freg n 0))).find? (fun id =>
    match findSym new id with
    | none => false
    | some y => y.noforce && (match findSym s.prg.image id with
      | some o => !retyped o y
      | none => true))

/-- Forces re-resolved for the image `new` that has taken the place of `old` (R139). -/
def State.resolveForces (s : State) (old new : List Byte) (clear : Bool) : State :=
  let s := s.activeForces.foldl (fun s n =>
    let id := s.regN (freg n 0)
    if clear then s.releaseForce n 3
    else match findSym new id with
      | none => s.releaseForce n 1
      | some y =>
        if (match findSym old id with | some o => retyped o y | none => false) then s.releaseForce n 2
        else if y.noforce then s.releaseForce n 4
        else s.bindForce new n y) s
  s.updForced

/-- The force table cleared by a cold restart after a reset source. -/
def State.clearForces (s : State) : State :=
  let s := s.activeForces.foldl (fun s n => s.releaseForce n 5) s
  ({ s with prg := { s.prg with applied := [] } }).clearRegs 0x20031000 0x20035000

/-! ### Forces in a stack (R137) -/

def ForceEnt.target (e : ForceEnt) : Nat := bitsOf e.ctl 2 1
def ForceEnt.bytes (e : ForceEnt) : List Byte := leBytes (widthBytes (bitsOf e.ctl 5 3)) e.val
def ForceEnt.task (e : ForceEnt) : Nat := bitsOf e.ctl 10 6
def ForceEnt.global (e : ForceEnt) : Bool := bitOf e.ctl 11
def ForceEnt.addr (e : ForceEnt) : Nat := e.off + 2 ^ 32 * bitsOf e.ctl 31 28

/-- The active force entries as they stand now. -/
def State.forcesNow (s : State) : List ForceEnt :=
  s.activeForces.map (fun n => ⟨s.regN (freg n 4), s.regN (freg n 8), s.regN (freg n 0xC), s.forceVal n⟩)

/-- A change of the primary's force table takes effect on the standby (R311). -/
def State.applyForce (s : State) (m : ForceMsg) : State :=
  let w (i : Nat) : Word := m.regs.getD i 0
  let s := ((s.setReg (freg m.n 0) (w 0)).setReg (freg m.n 8) (w 2)).setReg (freg m.n 0xC) (w 3)
  ((s.setReg (freg m.n 0x10) (w 4)).setReg (freg m.n 0x14) (w 5)).forceCtl m.n (w 1).toNat

/-- The stack of a change has begun. -/
def State.forceDue (s : State) (m : ForceMsg) : Bool := decide (extendTs32 s.now m.stack ≤ s.now)

/-- What a new stack does about changes of the force table: a primary passes them on, a standby applies those of this
stack (R137, R311). -/
def State.stackBegins (s : State) : State :=
  let chg := s.prg.forceChg
  let due := s.run.forces.filter s.forceDue
  let s := { s with
    prg := { s.prg with forceChg := [] }
    run := { s.run with forces := s.run.forces.filter (fun m => !s.forceDue m) } }
  let s := chg.foldl (fun s n => if s.isPrimary then s.sendForce n else s) s
  due.foldl (fun s m => if s.isStandby then s.applyForce m else s) s

/-- Task `t`, which comes up now, belongs to the stack `k` that began at this instant. -/
def State.sameStack (s : State) (k : ForceStack) (t : Nat) : Bool :=
  k.instant == s.now && k.tasks != [] && !k.tasks.contains t

/-- Task `t` comes up in a snapshot stack: the one that began now, or a new one, which takes the forces as they stand. -/
def State.atSnapStack (s : State) (t : Nat) : State :=
  let k := s.prg.snapStack
  if s.sameStack k t then { s with prg := { s.prg with snapStack := { k with tasks := k.tasks ++ [t] } } }
  else
    let s := s.stackBegins
    { s with prg := { s.prg with snapStack := ⟨s.now, [t], s.forcesNow⟩ } }

/-- Task `t` comes up in a commit stack. -/
def State.atCommitStack (s : State) (t : Nat) : State :=
  let k := s.prg.commitStack
  if s.sameStack k t then { s with prg := { s.prg with commitStack := { k with tasks := k.tasks ++ [t] } } }
  else
    let s := s.stackBegins
    { s with prg := { s.prg with commitStack := ⟨s.now, [t], s.forcesNow⟩ } }

/-- A stack that began at `t` or later takes the forces again. -/
def State.retake (s : State) (k : ForceStack) (t : Int) : ForceStack :=
  if t ≤ k.instant then { k with ents := s.forcesNow } else k

/-- A change of the primary's force table arrives: it is in the stacks from its own on, or waits for it (R311). -/
def State.forceArrives (s : State) (m : ForceMsg) : State :=
  if s.forceDue m then
    let s := s.applyForce m
    let t := extendTs32 s.now m.stack
    { s with prg := { s.prg with
      snapStack := s.retake s.prg.snapStack t
      commitStack := s.retake s.prg.commitStack t } }
  else { s with run := { s.run with forces := s.run.forces ++ [m] } }

/-- The table has been copied as registers: the values that apply, FORCED and FCOUNT follow (R314). -/
def State.forcesCopied (s : State) : State :=
  let s := (List.range 512).foldl (fun s n =>
    { s with prg := { s.prg with applied := tblSet (fun _ => 0) s.prg.applied n (s.forceReg n) } }) s
  s.updForced

/-- The value of an output force on a region offset of a task, in its commit stack. -/
def State.forcedOut (s : State) (task off : Nat) : Option Nat :=
  (s.prg.commitStack.ents.find? (fun e => e.target == 2 && e.task == task && e.off == off)).map ForceEnt.val

/-- The sequencer writes bytes unless a write before met an uncorrectable error (R34). -/
def seqPut (p : Bool × State) (a : Nat) (bs : List Byte) : Bool × State := putBy issPour p a bs

/-- One quality bit written: bit `q` of the region at `base`. -/
def seqBit (p : Bool × State) (base q : Nat) (b : Bool) : Bool × State :=
  seqPut p (base + q / 8) [BitVec.ofNat 8 (nbit (p.2.mget (base + q / 8)).toNat (q % 8) b)]

/-- Input forces of a task, in its snapshot stack, written into its input region at `base`, with good quality (R79,
R136). -/
def forceInputs (p : Bool × State) (task base : Nat) : Bool × State :=
  (p.2.prg.snapStack.ents.filter (fun e => e.target == 1 && e.task == task)).foldl (fun p e =>
    let p := seqPut p (base + e.off) e.bytes
    if e.qb = 0xFFFFFFFF then p else seqBit p base e.qb false) p

/-- Variable forces of a task's snapshot stack, written by the runtime of pair `p` before the release of the task; an
uncorrectable error is a module fault (R34). -/
def State.forceVars (s : State) (task p : Nat) : State :=
  let (ue, s) := (s.prg.snapStack.ents.filter (fun e => e.target == 3 && (e.global || e.task == task))).foldl
    (fun (q : Bool × State) e => if q.1 then q else q.2.corePut p e.addr e.bytes) (false, s)
  if ue then s.moduleFault 6 (if p = 0 then 0x2FF else 0x37F) else s

/-! ### The image in force (R121, R122, R140) -/

/-- The image comes into force: PRG_IMGCRC and PRG_IMGUID. -/
def State.setImage (s : State) (im : List Byte) : State :=
  let s := ({ s with prg := { s.prg with image := im } }).setRegN 0x2003000C (if im = [] then 0 else crc32c im)
  s.putWords 0x20030010 (toWords (slice im 16 16))

/-- Segments loaded and their excess zero-filled; RETAIN segments are bound, not loaded. No cache keeps a line of what is
loaded over (log 43). -/
def State.loadSegs (s : State) (im : List Byte) : State :=
  (segs im).foldl (fun s g =>
    if g.kind = 6 then s
    else (s.blockWrite issCope g.load (padTo g.memLen (slice im g.fileOff g.fileLen))).cacheDrop g.load g.memLen) s

/-! ### Retentive data (R133 to R135) -/

abbrev RETMAP : Nat := 0x11FFFC0

/-- The retentive map as MRAM holds it: SYM_ID, TYPE_HASH, OFFSET, SIZE; none when magic or CRC fails. -/
def State.retMap (s : State) : Option (Nat × List (Nat × Nat × Nat × Nat)) :=
  let n := s.mnat (RETMAP + 4) 4
  let es := s.mread (RETMAP - 16 * n) (16 * n)
  if s.mnat RETMAP 4 != 0x4D525745 || 131072 < n
      || s.mnat (RETMAP + 12) 4 != crc32c (s.mread RETMAP 12 ++ es) then none
  else some (s.mnat (RETMAP + 8) 4, (List.range n).map (fun i =>
    (fieldAt es (16 * i) 4, fieldAt es (16 * i + 4) 4, fieldAt es (16 * i + 8) 4, fieldAt es (16 * i + 12) 4)))

/-- A symbol's initial value from its RETAIN segment. -/
def retainInit (im : List Byte) (y : Sym) : List Byte :=
  match (segs im).find? (fun g => g.kind == 6 && g.load ≤ y.addr && y.addr < g.load + g.memLen) with
  | some g => slice (padTo g.memLen (slice im g.fileOff g.fileLen)) (y.addr - g.load) y.size
  | none => List.replicate y.size 0

/-- The runtime on AP0 reads the map: whether the read meets an uncorrectable error (R34). -/
def State.retRead (s : State) : Bool × State :=
  let n := s.mnat (RETMAP + 4) 4
  match s.busRead (issAp 0) RETMAP 64 with
  | (none, s) => (true, s)
  | (some _, s) =>
    if 131072 < n then (false, s)
    else
      let (e, s) := s.busRead (issAp 0) (RETMAP - 16 * n) (16 * n)
      (e.isNone, s)

/-- retain_bind (R135), by the runtime on AP0: an uncorrectable error that it meets is a module fault (R34). What it does
with a RETAIN symbol that is INPUT or OUTPUT too, and with a map whose CRC or MAGIC is wrong: DESIGN CHOICE, log 62. -/
def State.retainBind (s : State) (im : List Byte) : State :=
  let (ue, s) := s.retRead
  let m := s.retMap
  if ue then s.moduleFault 6 0x2FF
  else if (match m with | some (c, _) => c == crc32c im | none => false) then s
  else
    let es := match m with | some (_, es) => es | none => []
    let vs := (syms im).filter Sym.retain
    let kept (y : Sym) : Bool :=
      match es.find? (fun e => e.1 == y.id) with
      | some (_, h, o, z) => h == y.hash && z == y.size && (0x1000000 + o == y.addr)
      | none => false
    let fresh := vs.filter (fun y => !kept y)
    let p := fresh.foldl (fun p y => putBy (issAp 0) p y.addr (retainInit im y)) (false, s)
    let bs := vs.flatMap (fun y =>
      leBytes 4 y.id ++ leBytes 4 y.hash ++ leBytes 4 (y.addr - 0x1000000) ++ leBytes 4 y.size)
    let p := putBy (issAp 0) p (RETMAP - bs.length) bs
    let h := leBytes 4 0x4D525745 ++ leBytes 4 vs.length ++ leBytes 4 (crc32c im)
    let p := putBy (issAp 0) p RETMAP (h ++ leBytes 4 (crc32c (h ++ bs)) ++ List.replicate 48 0)
    let s := p.2.cacheDrop 0x1000000 0x200000
    if p.1 then s.moduleFault 6 0x2FF
    else
      let s := s.setFlag PRG_RETINIT (fresh.length != 0)
      if fresh.length = 0 then s else s.runtimeEvent 0x96 (leBytes 4 fresh.length)

/-! ### Program traps (R142) -/

/-- PROGRAM_TRAP: the trap registers, event 0x0093, HALT with cause 3. -/
def State.programTrap (s : State) (task pair cause pc addr : Nat) : State :=
  let s := s.setRegN 0x20030030 (task + pair * 32 + cause * 256)
  let s := ((s.setRegN 0x20030034 pc).setRegN 0x20030038 (pc / 2 ^ 32 % 16)).setRegN 0x2003003C (addr / 16)
  (s.runtimeEvent 0x93 []).enterHalt 3

end Sys2Proof.Machine
end

