-- ==== Sys2Proof/Machine/Pours.lean ====
section
/-! DEFINITION. Running a pour: snapshot, release, end of execution, commit, triggers, re-anchors and table
swaps (R79 to R110, R308 to R315). -/

namespace Sys2Proof.Machine

/-! ### Snapshot and release (R79, R103, R106, Table POUR-5) -/

/-- The value and quality that an input entry of the I/O map latches now. -/
def State.inputOf (s : State) (e : IoEnt) : Nat × Bool :=
  if e.kind = 1 then
    let (v, g) := s.latchItem (e.object % 32) (bitsOf e.object 10 8)
    (v, g && !s.fieldResetting)
  else if e.kind = 2 then (s.loopValue (e.object / 16 % 256) (e.object % 16), true)
  else s.plnLatch e.object

/-- The remote station of an input entry is not live (R106). -/
def State.inputStale (s : State) (e : IoEnt) : Bool :=
  e.kind == 3 && bitOf e.object 23 && !s.stationLive (s.subRec (bitsOf e.object 22 16)).station

/-- The station that an output entry addresses, if any (R103). -/
def State.outStation (s : State) (e : IoEnt) : Option Nat :=
  if e.kind = 3 && !bitOf e.object 23 then
    let st := (s.pubRec (bitsOf e.object 22 16)).target
    if st = 0xFFFF then none else some st
  else none

/-- The epochs of the stations that the outputs of a task address. -/
def State.outEpochs (s : State) (t : Nat) : List (Nat × Nat) :=
  ((s.ioOf t 2).filterMap s.outStation).eraseDups.map (fun st => (st, s.stationEpoch st))

/-- An input value and its quality bit written into the region at `base`. -/
def putInput (p : Bool × State) (base : Nat) (e : IoEnt) (v : Nat × Bool) : Bool × State :=
  seqBit (seqPut p (base + e.off) (leBytes (fmtBytes e.fmt) v.1)) base e.qbit (!v.2)

/-- The pour header. -/
def State.pourHeader (s : State) (r : TaskRec) (x : TaskSt) (stale : Bool) : List Byte :=
  let t := r.task
  let tr := x.trig.getD ⟨0, 0, 0, 0⟩
  let flags := ofBool s.alignedNow + ofBool x.first * 2 + ofBool x.prevEmpty * 4 + ofBool (s.flag (TFB t)) * 8
    + ofBool r.event * 16 + ofBool stale * 32 + ofBool x.heldPour * 64
  ts80Bytes s.now ++ leBytes 4 x.pourNo ++ leBytes 4 (ts32Of x.commitAt) ++ leBytes 2 flags
    ++ leBytes 1 (s.fld (TOVR_CONSEC t)) ++ leBytes 1 tr.kind ++ leBytes 4 tr.arg
    ++ leBytes 4 (ts32Of tr.ts)

/-- A pour of task `t` is not performed (R101). -/
def State.skipPour (s : State) (t : Nat) : State :=
  let s := s.setTask t { s.task t with skipped := true }
  ((s.bump (tSKIP t)).event 0x81 (taskLoc t) (leBytes 1 t ++ leBytes 1 (s.fld (TOVR_CONSEC t)) ++ [0, 0]
    ++ leBytes 4 (s.regN (tPOURS t)))).pmc1 2 0x13

/-- The pour of a task is released on its pair, whose cached lines of the input region have been invalidated before
(R143). -/
def State.releasePour (s : State) (r : TaskRec) : State :=
  let s := s.cacheInval r.pair r.inBase r.inBytes
  let s := (s.setTask r.task { s.task r.task with relAt := s.now }).setFld (TSTATE r.task) T_EXEC
  s.forceVars r.task r.pair

/-- The pours released on pair `p` whose execution has not ended. -/
def State.released (s : State) (p : Nat) : List TaskRec :=
  s.taskRecs.filter (fun r => r.pair == p && (s.tstate r.task == T_EXEC || s.tstate r.task == T_LATE))

/-- The pour that runs on pair `p`: the released one of highest priority, which has preempted the others (R117); a demoted
pour stands below every other (R88). -/
def State.runningPour (s : State) (p : Nat) : Option Nat :=
  let key (r : TaskRec) : Nat := (if s.flag (TDEMOTED r.task) then 256 else 0) + r.prio
  ((s.released p).foldl (fun (b : Option TaskRec) r =>
    match b with
    | none => some r
    | some q => if key r < key q then some r else some q) none).map TaskRec.task

/-- A SNAP unit of the present pour has arrived (R308). -/
def State.snapHere (s : State) (t : Nat) : Bool :=
  tblGet (fun _ => none) s.run.snaps t == some (s.regN (tPOURS t) % 2 ^ 24)

/-- ARG of a SNAP and of an OVEC unit (Table RUN-3). -/
def pourArg (t no : Nat) : Nat := t % 32 + no % 2 ^ 24 * 256

/-- SNAPSHOT of task `t` at its snapshot instant. A standby discards an event task's own trigger (R309). A write into the
input region that meets an uncorrectable error is a module fault (R34). POUR_NO counts the pour itself (DEDUCED, log 18). -/
def State.snapshot (s : State) (t : Nat) : State :=
  match s.taskRec? t with
  | none => s
  | some r =>
    let x := s.task t
    let due := r.cyclic || x.trig.isSome
    let early := r.cyclic && decide (s.seqNow < s.pour.openAt)
    if s.fld POUR_STATE != P_RUN || s.tstate t == 0 || s.blind || !due || s.tstate t == T_SNAP || early then s
    else if s.isStandby && r.event then s.setTask t { x with trig := none }
    else
      let s := (s.atSnapStack t).bump (tPOURS t)
      if s.inProgress t then s.skipPour t
      else
        let s := s.pmc1 2 0x10
        let x := { x with snapAt := s.now, pourNo := s.regN (tPOURS t), epochs := s.outEpochs t,
                          commitAt := if r.cyclic then s.now + r.cmt * 1000 else x.commitAt }
        let s := (s.setTask t { x with first := false }).setFld (TSTATE t) T_SNAP
        let s := s.setFlag (TDEMOTED t) false
        if s.isStandby then (if s.snapHere t then s.releasePour r else s)
        else
          let ios := s.ioOf t 1
          let vals := ios.map (fun e => (e, s.inputOf e))
          let p := seqPut (false, s) r.inBase (s.pourHeader r x (ios.any s.inputStale))
          let p := vals.foldl (fun p v => putInput p r.inBase v.1 v.2) p
          let (ue, s) := forceInputs p t r.inBase
          if ue then s.moduleFault 6 0x3FF
          else if s.isPrimary then
            let (bs, s) := s.blockRead issRunner r.inBase r.inBytes
            s.sendLink 2 (pourArg t x.pourNo) bs
          else s

/-- POUR_RELEASE: the snapshot transfer of task `t` ends. -/
def State.pourRelease (s : State) (t : Nat) : State :=
  match s.taskRec? t with
  | none => s
  | some r => if s.tstate t = T_SNAP && !s.isStandby && s.pourActive then s.releasePour r else s

/-- SNAP_FRAME: an input region of the primary; an event pour starts from it, with the primary's acceptance instant
(R308, R309). -/
def State.snapFrame (s : State) (t no : Nat) (region : List Byte) : State :=
  match s.taskRec? t with
  | none => s
  | some r =>
    if !s.isStandby || s.blind || !s.pourActive || s.tstate t == 0 then s
    else
      let s := { s with run := { s.run with snaps := tblPut (fun _ => none) s.run.snaps t [some no] } }
      let s := s.blockWrite issRunner r.inBase (padTo r.inBytes region)
      let n := s.regN (tPOURS t)
      let s := if s.sstate = SS_SYNCING then s.setRegN (tPOURS t) (n / 2 ^ 24 * 2 ^ 24 + no) else s
      let s :=
        if r.event && !s.inProgress t then
          let at80 := ts80Val region
          let com := (extendTs32 at80 (fieldAt region 16 4)).toNat
          let x := { s.task t with snapAt := at80, commitAt := com, pourNo := fieldAt region 12 4,
                                   prevAccept := some (at80 - r.trigLat * 1000), epochs := s.outEpochs t, first := false }
          ((s.setRegN (tPOURS t) (fieldAt region 12 4)).setTask t x).setFld (TSTATE t) T_SNAP
        else s
      if s.tstate t == T_SNAP && s.snapHere t then s.releasePour r else s

/-- REPLAY_RELEASE: the latest release of a pour on the standby; a region that has not arrived is lost. That of an event
task comes once for each pour of the primary, and uses up the arrival of its SNAP unit, which alone starts the pour
(R308, R309). -/
def State.replayRelease (s : State) (t : Nat) : State :=
  match s.taskRec? t with
  | none => s
  | some r =>
  if !s.isStandby || s.blind || !s.pourActive || s.tstate t == 0 then s
  else if r.event && s.tstate t != T_SNAP then
    if (tblGet (fun _ => none) s.run.snaps t).isSome then
      { s with run := { s.run with snaps := tblPut (fun _ => none) s.run.snaps t [none] } }
    else s.replayLost
  else if s.tstate t != T_SNAP then s
  else if s.snapHere t then s.releasePour r
  else ((s.setTask t { s.task t with skipped := true }).setFld (TSTATE t) T_IDLE).replayLost

/-! ### Execution (R88, R89, R101) -/

/-- BUDGET_EXHAUSTED: only the pour that runs consumes execution time. -/
def State.budgetExhausted (s : State) (t : Nat) : State :=
  match s.taskRec? t with
  | none => s
  | some r => if s.runningPour r.pair = some t then s.setFlag (TDEMOTED t) true else s

/-- POUR_TnRESP holds the longest response. -/
def State.response (s : State) (t : Nat) : State :=
  let d := min (s.now - (s.task t).relAt) (2 ^ 32 - 1)
  if s.regN (tRESP t) < d then s.setRegN (tRESP t) d else s

/-- POUR_DONE: only AP0 and AP1 write it. -/
def State.pourDone (s : State) (who : Initiator) (t : Nat) : State :=
  if who != .ap0 && who != .ap1 then { s with bus := ⟨[], true⟩ }
  else if s.tstate t = T_EXEC then
    let s := (s.response t).setFld (TSTATE t) T_DONE
    if s.flag (TDEMOTED t) then
      ((s.bump (tBUDX t)).setFlag (TDEMOTED t) false).event 0x84 (taskLoc t) (leBytes 1 t
        ++ leBytes 1 (s.fld (TOVR_CONSEC t)) ++ [0, 0] ++ leBytes 4 (s.task t).pourNo)
    else s
  else if s.tstate t = T_LATE then
    (((s.response t).setTask t { s.task t with trig := none }).setFld (TSTATE t) T_IDLE).setFlag (TDEMOTED t) false
  else s.setFlag POUR_BADDONE true

/-! ### Fallback (R101, R102) -/

/-- Cells that the outputs of a task command. -/
def State.taskCells (s : State) (t : Nat) : List Nat :=
  ((s.ioOf t 2).filter (fun e => e.kind == 1)).map (fun e => e.object % 32)

/-- The task's fallback starts. -/
def State.startFallback (s : State) (t : Nat) (r : TaskRec) : State :=
  let s := ((s.setFlag (TFB t) true).setFld (TRECOV t) 0).event 0x82 (taskLoc t) (leBytes 1 t
    ++ leBytes 1 r.fbAction ++ [0, 0] ++ leBytes 4 (s.regN (tPOURS t)))
  if r.fbAction = 1 then
    (s.taskCells t).foldl (fun s n => (s.setCell n { s.cell n with fbSubst := true }).outSub n) s
  else if r.fbAction = 2 then s.enterHalt 2
  else s

/-- The fallback ends with the pour that commits now. -/
def State.endFallback (s : State) (t : Nat) (r : TaskRec) : State :=
  let s := ((s.setFlag (TFB t) false).setFld (TRECOV t) 0).event 0x83 (taskLoc t) (leBytes 1 t
    ++ leBytes 1 r.fbAction ++ [0, 0] ++ leBytes 4 (s.task t).pourNo)
  (s.taskCells t).foldl (fun s n => s.setCell n { s.cell n with fbSubst := false }) s

/-- In SAFE a commit instant of task `t` puts the cells that it writes into their substitute states, whatever it commits
(R127, Table PRG-7). -/
def State.safeOuts (s : State) (t : Nat) : State :=
  if s.mode = SAFE then
    (((s.ioOf t 2).filter (fun e => e.kind == 1)).map (fun e => e.object % 32)).foldl (fun s n => s.outSub n) s
  else s

/-- A commit instant at which nothing is committed; `late`: because of an overrun, which is recorded first. -/
def State.noCommit (s : State) (t : Nat) (r : TaskRec) (late : Bool) : State :=
  let s := (s.bumpSat (TOVR_CONSEC t)).setFld (TRECOV t) 0
  let s := (s.setTask t { s.task t with prevEmpty := true, skipped := false }).safeOuts t
  let s := if late then
      (s.event 0x80 (taskLoc t) (leBytes 1 t ++ leBytes 1 (s.fld (TOVR_CONSEC t)) ++ [0, 0]
        ++ leBytes 4 (s.task t).pourNo)).pmc1 2 0x12
    else s
  if r.fbCount != 0 && r.fbCount ≤ s.fld (TOVR_CONSEC t) && !s.flag (TFB t) then s.startFallback t r else s

/-! ### Commit (R89, R104, R105, R312, R315) -/

/-- The OVEC unit (Table RUN-6). -/
def State.ovec (s : State) (t : Nat) (nocommit : Bool) (ocrc : Nat) (cmds : List (Nat × Nat)) : List Byte :=
  let mask := cmds.foldl (fun m c => nbit m c.1 true) 0
  let excl := s.outCells.foldl (fun m n =>
    let o := s.regN (cOSTAT n)
    nbit m n (o % 8 != 0 || s.regN (cFFLT n) % 64 != 0 || s.flag (CFAULT n) || bitsOf o 9 8 != 0)) 0
  leBytes 1 t ++ leBytes 1 (ofBool nocommit + ofBool (s.flag (TFB t)) * 2) ++ [0, 0]
    ++ leBytes 4 (s.regN (tPOURS t)) ++ leBytes 4 (ts32Of s.now) ++ leBytes 4 ocrc ++ leBytes 4 mask
    ++ leBytes 4 excl ++ List.replicate 8 0
    ++ (List.range 32).flatMap (fun n => leBytes 4 (((cmds.find? (fun c => c.1 == n)).map (·.2)).getD 0))

/-! ### COPY units on the standby (R313, R314) -/

/-- Registers that a resynchronisation copies: the force table, the sequencer's counters and the station epochs. -/
def copiedReg (a : Nat) : Bool :=
  decide (0x20031000 ≤ a ∧ a < 0x20035000)
    || (decide (0x20020100 ≤ a ∧ a < 0x20020500) && decide (4 ≤ a % 0x20 ∧ a % 0x20 ≤ 0x18))
    || decide (0x20511000 ≤ a ∧ a < 0x20512000) || a == POUR_REANCHOR || a == POUR_STALEDROP || a == POUR_TRGCOAL || a == POUR_ACYREF

/-- OVR_CONSEC, RECOV and FB of a task, with the SUBST action on its cells, as the primary's POUR_TnSTAT `w` has them
(R241, R314). -/
def State.copyStat (s : State) (t w : Nat) : State :=
  let put (s : State) (f : Fld) : State := s.setFld f (bitsOf w f.hi f.lo)
  let s := put (put (put s (TOVR_CONSEC t)) (TRECOV t)) (TFB t)
  match s.taskRec? t with
  | none => s
  | some r => (s.taskCells t).foldl (fun s n =>
      let was := (s.cell n).fbSubst
      let now := r.fbAction == 1 && s.flag (TFB t)
      let s := s.setCell n { s.cell n with fbSubst := now }
      if now then s.outSub n else if was then s.endSub n else s) s

/-- A register of POUR_TnSTAT. -/
def statReg (a : Nat) : Bool := decide (0x20020100 ≤ a ∧ a < 0x20020500) && a % 0x20 == 0

/-- A line applied: to memory, or to the copied registers among its words. -/
def State.applyLine (s : State) (a : Nat) (bs : List Byte) : State :=
  let a := a / 64 * 64
  let bs := padTo 64 bs
  if regLine (a / 64) then
    (List.range 16).foldl (fun s i =>
      if copiedReg (a + 4 * i) then s.setRegN (a + 4 * i) (fieldAt bs (4 * i) 4)
      else if statReg (a + 4 * i) then s.copyStat ((a + 4 * i - 0x20020100) / 0x20) (fieldAt bs (4 * i) 4)
      else s) s
  else if (memKind a).isSome then s.blockWrite issRunner a bs
  else s

/-- A copy applied: its lines, and RUN_AGE starts again. -/
def State.applyLines (s : State) (ls : List (Nat × List Byte)) : State :=
  let s := ls.foldl (fun s l => s.applyLine l.1 l.2) s
  let s := if ls.any (fun l => decide (0x20031000 ≤ l.1 ∧ l.1 < 0x20035000)) then s.forcesCopied else s
  s.setRegN RUN_AGE 0

/-- The own commit of task `t` at ts32 `c`: the COPY units that wait for it are applied. -/
def State.applyCopies (s : State) (t c : Nat) : State :=
  let ws := tblGet (fun _ => []) s.run.copies t
  let s := { s with run := { s.run with
    copies := tblPut (fun _ => []) s.run.copies t [ws.filter (fun w => w.ts != c)] } }
  (ws.filter (fun w => w.ts == c)).foldl (fun s w => s.applyLines w.lines) s

/-- COPY_FRAME: lines of a task's state at the primary's commit `c`. They wait for the own commit of the same pour if
that is still to come. -/
def State.copyFrame (s : State) (t c : Nat) (ls : List (Nat × List Byte)) : State :=
  if !s.isStandby then s
  else if s.inProgress t && ts32Of (s.task t).commitAt == c then
    let old := tblGet (fun _ => []) s.run.copies t
    { s with run := { s.run with copies := tblPut (fun _ => []) s.run.copies t [old ++ [⟨c, ls⟩]] } }
  else s.applyLines ls

/-- The vector goes to the partner; a standby compares, and then applies the copies that belong to the pour (R313). -/
def State.handOvec (s : State) (t : Nat) (v : List Byte) : State :=
  let s := { s with run := { s.run with ovec := tblPut (fun _ => []) s.run.ovec t [v] } }
  if s.isPrimary then s.sendLink 4 (pourArg t (s.regN (tPOURS t))) v
  else if s.isStandby then (s.compareOvec t).applyCopies t (ts32Of s.now)
  else s

/-- The loops that task `t` carries. -/
def State.carriedLoops (s : State) (t : Nat) : List Nat :=
  if s.carrier.map TaskRec.task = some t then (List.range 256).filter s.loopEn else []

/-- The COPY unit of a commit: the task's dirty lines and those left over from earlier copies, as far as COPY_BYTES
goes, then the records of the loops that it carries (R312). Lines beyond travel with the next copy of any task (R313). -/
def State.sendCopy (s : State) (t : Nat) (r : TaskRec) : State :=
  if !s.isPrimary then s
  else
    let left := tblGet (fun _ => []) s.run.dirty 32
    let own := tblGet (fun _ => []) s.run.dirty t
    let loops := s.carriedLoops t
    let all := left ++ own.filter (fun l => !left.contains l)
    let room := r.copyBytes / 64 - loops.length
    let rest := all.drop room
    let put := tblPut (fun _ => ([] : List Nat))
    let s := { s with run := { s.run with dirty := put (put s.run.dirty t [[]]) 32 [rest] } }
    let (bs, s) := s.passData (all.take room)
    let s := s.sendCopyUnit t (bs ++ loops.flatMap s.loopRec)
    if rest = [] then s else (s.bump RUN_CPYOVF).event 0x10C RUN_LOC []

/-- An output's value in binary32, for a cell. -/
def cellCmdVal (e : IoEnt) (v : Nat) : F32 :=
  if e.fmt = 1 then (if v % 256 = 0 then f32ofInt 0 else f32ofInt 1) else BitVec.ofNat 32 v

/-- One output staged and in effect. -/
def State.stageOut (s : State) (e : IoEnt) (v : Nat) : State :=
  if e.kind = 1 then s.cellCommand (e.object % 32) (cellCmdVal e v)
  else if e.kind = 2 then s.setLoopValue (e.object / 16 % 256) (e.object % 16) v
  else s.plnStage e.object v

/-- The output addresses a station that is stale (R104). -/
def State.staleOut (s : State) (t : Nat) (e : IoEnt) : Option (Nat × Nat × Nat) :=
  match s.outStation e with
  | none => none
  | some st =>
    let was := (((s.task t).epochs.find? (fun x => x.1 == st)).map (·.2)).getD 0
    let now := s.stationEpoch st
    if s.stationLive st && was == now then none else some (st, was, now)

/-- A discarded output, recorded once per station and epoch. -/
def State.discard (s : State) (t : Nat) (d : Nat × Nat × Nat) : State :=
  let s := (s.bump (tSTALE t)).bump POUR_STALEDROP
  if s.pour.staleSeen.contains (d.1, d.2.2) then s
  else
    let s := { s with pour := { s.pour with staleSeen := (d.1, d.2.2) :: s.pour.staleSeen } }
    s.event 0x85 (taskLoc t) (leBytes 1 t ++ [0] ++ leBytes 2 d.1 ++ leBytes 4 d.2.1 ++ leBytes 4 d.2.2)

/-- The outputs of a task with their values, forces applied (commit steps 1 and 2). -/
def State.outputsOf (s : State) (t : Nat) (r : TaskRec) : List (IoEnt × Nat) :=
  (s.ioOf t 2).map (fun e =>
    (e, (s.forcedOut t e.off).getD (s.mnat (r.outBase + e.off) (fmtBytes e.fmt))))

/-- Steps 3 and 4: what is stale is discarded, the rest takes effect. -/
def State.commitOuts (s : State) (t : Nat) (outs : List (IoEnt × Nat)) : State :=
  outs.foldl (fun s x =>
    match s.staleOut t x.1 with
    | some d => s.discard t d
    | none => s.stageOut x.1 x.2) s

/-- The I/O map entry of an input or output symbol of the image in force. -/
def State.symIo (s : State) (y : Sym) : Option IoEnt :=
  if y.isInput || y.isOutput then
    (ioMap s.prg.image).find? (fun e => e.sym == y.id && e.dir == (if y.isInput then 1 else 2))
  else none

/-- The pair whose runtime reads a symbol: its task's, and AP0's for a global one (DESIGN CHOICE, log 7). -/
def State.symPair (s : State) (y : Sym) : Nat :=
  match s.taskRec? y.task with
  | some r => r.pair
  | none => 0

/-- What a symbol of the image in force holds now, and whether its quality bit says bad. -/
def State.symNow (s : State) (y : Sym) : Nat × Bool :=
  match s.symIo y with
  | none => (s.coreNat (s.symPair y) y.addr (min y.size 8), false)
  | some e =>
    match s.taskRec? e.task with
    | none => (0, true)
    | some r =>
      if e.dir = 1 then
        (s.mnat (r.inBase + e.off) (fmtBytes e.fmt), (s.mget (r.inBase + e.qbit / 8)).toNat.testBit (e.qbit % 8))
      else (s.mnat (r.outBase + e.off) (fmtBytes e.fmt), false)

/-- The task that owns a symbol; none: global. -/
def State.symTask (s : State) (y : Sym) : Option Nat :=
  match s.symIo y with
  | some e => some e.task
  | none => if y.task < 32 then some y.task else none

/-- The values of the symbols of task `t` at its commit (R365 READ). -/
def State.commitVals (s : State) (t : Nat) : List (Nat × Nat × Bool) :=
  ((syms s.prg.image).filter (fun y => s.symTask y == some t)).map (fun y => (y.id, s.symNow y))

/-- The outputs that take effect at a commit of task `t` (commit steps 1 and 2): all of them; in a fallback, which keeps
those of the last commit, the forced ones alone, and in a SUBST fallback none (R102, R126, R355). -/
def State.effectiveOuts (s : State) (t : Nat) (r : TaskRec) : List (IoEnt × Nat) :=
  if !s.flag (TFB t) then s.outputsOf t r
  else if r.fbAction = 1 then []
  else (s.ioOf t 2).filterMap (fun e => (s.forcedOut t e.off).map (fun v => (e, v)))

/-- The cells of a task in a fallback drive again what its last commit left in effect, once nothing else holds them in
their substitute states (R102, R241). -/
def State.heldOuts (s : State) (t : Nat) : State :=
  if s.flag (TFB t) then (s.taskCells t).foldl (fun s n => s.endSub n) s else s

/-- The on-time pour of a task commits. -/
def State.commitDone (s : State) (t : Nat) (r : TaskRec) : State :=
  let s := (s.setFld (TOVR_CONSEC t) 0).pmc1 2 0x11
  let s := if s.flag (TFB t) then s.bumpSat (TRECOV t) else s
  let s := if s.flag (TFB t) && r.recover ≤ s.fld (TRECOV t) then s.endFallback t r else s
  let ocrc := if r.outBytes = 0 then 0 else crc32c (s.mread r.outBase r.outBytes)
  let fb := s.flag (TFB t)
  let outs := s.effectiveOuts t r
  let s := ((s.commitOuts t outs).heldOuts t).safeOuts t
  let last := if fb then (s.task t).last
    else outs.map (fun x => ⟨x.1.kind, x.1.object, x.1.fmt, x.2⟩)
  let s := (s.setTask t { s.task t with last := last, vals := s.commitVals t, trig := none, heldPour := false, prevEmpty := false,
                                        skipped := false }).setFld (TSTATE t) T_IDLE
  let cmds := (outs.filter (fun x => x.1.kind == 1)).map
    (fun x => (x.1.object % 32, (cellCmdVal x.1 x.2).toNat))
  (s.handOvec t (s.ovec t false ocrc cmds)).sendCopy t r

/-- Commit step 1: the output region and the state region of a task are cleaned in its pair's caches (R143). -/
def State.commitClean (s : State) (r : TaskRec) : State :=
  let s := s.cacheClean r.pair r.outBase r.outBytes
  ((imgTasks s.prg.image).filter (fun e => e.task == r.task)).foldl
    (fun s e => s.cacheClean r.pair e.stateBase e.stateBytes) s

/-- The sequencer cleans and reads the output region of a task; an uncorrectable error in it is a module fault (R34). -/
def State.commitRead (s : State) (t : Nat) (r : TaskRec) : State :=
  let (out, s) := (s.commitClean r).busRead issPour r.outBase r.outBytes
  if out.isNone then s.moduleFault 6 0x3FF else s.commitDone t r

/-- COMMIT of task `t` at its commit instant. -/
def State.commit (s : State) (t : Nat) : State :=
  match s.taskRec? t with
  | none => s
  | some r =>
    if !s.pourActive || s.tstate t == 0 || s.blind then s
    else if s.tstate t = T_DONE then (s.atCommitStack t).commitRead t r
    else if s.tstate t = T_EXEC || s.tstate t = T_SNAP then
      let s := (((s.atCommitStack t).bump (tOVR t)).setFld (TSTATE t) T_LATE).setFlag (TDEMOTED t) true
      let s := s.noCommit t r true
      s.handOvec t (s.ovec t true 0 [])
    else if (s.task t).skipped then
      let s := s.atCommitStack t
      let s := s.noCommit t r false
      s.handOvec t (s.ovec t true 0 [])
    else s

/-! ### Triggers (R90 to R92) -/

/-- TRIG_TS of an entry, extended against now. -/
def State.trigTs (s : State) (e : List Byte) : Nat := (extendTs32 s.now (fieldAt e 0 4)).toNat

/-- The trigger queues that hold an entry. -/
def State.trigQueues (s : State) : List Nat := [56, 57, 58, 59].filter (fun q => s.qUsable q && s.qFill q != 0)

/-- The queue of Q56 to Q59 whose oldest entry has the earliest TRIG_TS; the lowest among equals (DESIGN CHOICE, log 83). -/
def State.trigQueue (s : State) : Option Nat :=
  let head (q : Nat) : Nat := s.trigTs (s.mread (s.qEntry q (s.cidx q)) 16)
  s.trigQueues.foldl (fun b q =>
    match b with
    | none => some q
    | some p => if head q < head p then some q else some p) none

/-- The sequencer reads the oldest entry of each trigger queue: whether a read meets an uncorrectable error (R34). -/
def State.readTriggers (s : State) : Bool × State :=
  s.trigQueues.foldl (fun p q =>
    let (e, s) := p.2.busRead issPour (p.2.qEntry q (p.2.cidx q)) 16
    (p.1 || e.isNone, s)) (false, s)

/-- The task's acceptance of a trigger at instant `a`. -/
def State.acceptTrig (s : State) (r : TaskRec) (g : Trig) (a : Nat) (held : Bool) : State :=
  let x := s.task r.task
  let x := { x with trig := some g, prevAccept := some a, heldPour := held, held := none,
                    snapAt := a + r.trigLat * 1000, commitAt := a + r.cmt * 1000 }
  ((s.setTask r.task x).setFlag (TTRIG_HELD r.task) false).pmc1 2 0x14

/-- A pour of the event task runs or waits for its snapshot. -/
def State.eventBusy (s : State) (t : Nat) : Bool := s.inProgress t || (s.task t).trig.isSome

/-- The payload of 0x0087 and 0x0088 (Table EVR-9). -/
def trigPayload (e : List Byte) : List Byte :=
  slice e 4 1 ++ slice e 5 1 ++ slice e 6 2 ++ slice e 0 4 ++ slice e 8 4

/-- A trigger entry that the sequencer has taken. -/
def State.triggerTaken (s : State) (e : List Byte) : State :=
    let t := fieldAt e 4 1
    let loc := taskLoc (t % 32)
    if s.isStandby || !(s.mode == RUN || s.mode == SAFE) || s.fld POUR_STATE != P_RUN then s
    else match s.taskRec? t with
      | none => (s.setFlag POUR_BADTRIG true).event 0x88 loc (trigPayload e)
      | some r =>
        if !r.event then (s.setFlag POUR_BADTRIG true).event 0x88 loc (trigPayload e)
        else
          let x := s.task t
          let g : Trig := ⟨s.trigTs e, fieldAt e 5 1, fieldAt e 6 2, fieldAt e 8 4⟩
          let free := (match x.prevAccept with
            | none => true
            | some a => decide (a + r.period * 1000 ≤ g.ts)) && !s.eventBusy t
          if x.held.isSome then (s.bump POUR_TRGCOAL).event 0x87 loc (trigPayload e)
          else if free then s.acceptTrig r g g.ts false
          else (s.setTask t { x with held := some g }).setFlag (TTRIG_HELD t) true

/-- TRIGGER_ENTRY: the sequencer reads the oldest entries and takes the one with the earliest TRIG_TS; an uncorrectable
error in one is a module fault (R34). -/
def State.triggerEntry (s : State) : State :=
  match s.trigQueue with
  | none => s
  | some q =>
    let e := s.mread (s.qEntry q (s.cidx q)) 16
    let (ue, s) := s.readTriggers
    if ue then s.moduleFault 6 0x3FF else (s.bump (qreg q 0x10)).triggerTaken e

/-- HELD_TRIGGER_ACCEPT: the held trigger of task `t` becomes conforming; a standby discards it (R309). -/
def State.heldAccept (s : State) (t : Nat) : State :=
  match s.taskRec? t, (s.task t).held with
  | some r, some g =>
    if s.fld POUR_STATE != P_RUN || s.eventBusy t then s
    else if s.isStandby then (s.setTask t { s.task t with held := none }).setFlag (TTRIG_HELD t) false
    else
      let a := match (s.task t).prevAccept with
        | none => s.now
        | some p => max s.now (p + r.period * 1000)
      s.acceptTrig r g a true
  | _, _ => s

/-- POUR_SWTRIG: one software trigger for each bit set, in ascending task order. -/
def State.swTrig (s : State) (who : Initiator) (m : Nat) : State :=
  if who != .ap0 && who != .ap1 then { s with bus := ⟨[], true⟩ }
  else (List.range 32).foldl (fun s t =>
    if bitOf m t then s.trigger 59 t 6 (if who = .ap0 then 0x2FF else 0x37F) 0 else s) s

/-! ### Re-anchor and slew (R81) -/

/-- Instants of a period and phase, µs, from sequencer time `lo` up to `hi`, ns. -/
def instantsIn (period phase lo hi : Nat) : Nat :=
  let p := period * 1000
  let o := phase * 1000
  if p = 0 ∨ hi ≤ lo then 0 else (hi + p - 1 - o) / p - (lo + p - 1 - o) / p

/-- `f` done `n` times. -/
def State.times (s : State) (n : Nat) (f : State → State) : State := (List.range n).foldl (fun s _ => f s) s

/-- A pour whose snapshot instant falls in the gap of a re-anchor (R81). -/
def State.gapPour (s : State) (t : Nat) : State := (s.bump (tPOURS t)).skipPour t

/-- An occurrence of a CRUCIBLE entry in the gap of a re-anchor: its loops overrun (R173). -/
def State.gapLoops (s : State) (e : Entry) : State :=
  (groupLoops e).foldl (fun s n =>
    if s.loopEn n && s.loopMode n != LM_OFF && !(s.loop n).first then s.loopOverrun n else s) s

/-- A re-anchor (R81): the tasks, then the CRUCIBLE entries, miss what falls in the gap (log 10), which a step backwards
leaves only the first 4 µs of the new timeline. -/
def State.reanchor (s : State) : State :=
  let old := s.seqNow
  let off := s.pourOffset
  let s := { s with pour := { s.pour with offsetPs := 0 } }
  let s := (s.setFlag POUR_REANCHOR_PEND false).bump POUR_REANCHOR
  let hi := s.seqNow + 4000
  let old := min old s.seqNow
  let s := { s with pour := { s.pour with openAt := hi } }
  let gaps := (s.taskRecs.filter TaskRec.cyclic).map (fun r => (r.task, instantsIn r.period r.phase old hi))
  let s := gaps.foldl (fun s g => s.times g.2 (fun s => s.gapPour g.1)) s
  let s := (s.entries.filter (fun e => e.kind == KIND_CRUCIBLE)).foldl
    (fun s e => s.times (instantsIn e.period e.offset old hi) (fun s => s.gapLoops e)) s
  (s.event 0x8A POUR_LOC (sBytes 8 off ++ leBytes 4 (gaps.foldl (fun a g => a + g.2) 0))).updAligned

/-- HYPERPERIOD_START; a BLIND standby performs no occurrences (R324). -/
def State.hyperperiod (s : State) : State :=
  if !s.pourActive || s.blind then s
  else
    let s := if s.isPrimary && s.taskRecs.all (fun r => !r.cyclic) then
        s.sendCopyUnit 0xFF (((List.range 256).filter s.loopEn).flatMap s.loopRec)
      else s
    if s.flag POUR_REANCHOR_PEND then s.reanchor else s

/-- SLEW_COMPLETE. -/
def State.slewComplete (s : State) : State :=
  if !s.flag POUR_SLEW then s
  else
    let o := s.pour.offsetPs
    let o := if o > 3999 then 3999 else if o < -3999 then -3999 else o
    (({ s with pour := { s.pour with offsetPs := o } }).setFlag POUR_SLEW false).updAligned

/-! ### Table swaps (R107, R108) -/

/-- The owner of a swap table is enabled in the pattern. -/
def State.swapOwner (s : State) (b : Nat) : Bool :=
  let canOn (n : Nat) : Bool := s.hasSec SEC_CAN && canMode (s.canRec n) != 0
  if b < 4 then canOn b
  else if b < 6 then s.hasSec SEC_POURLINE
  else if b = 6 then s.hasSec SEC_EVENTS
  else canOn 0 || canOn 1 || canOn 2 || canOn 3

/-- POUR_SWAPDONE. -/
def State.swapDone (s : State) (who : Initiator) (m : Nat) : State :=
  if who != .ap0 && who != .ap1 then { s with bus := ⟨[], true⟩ }
  else [4, 5, 6, 7].foldl (fun s b =>
    if bitOf m b && s.swapOwner b then s.setBit POUR_SWAPSTAT b true else s) s

/-- A swap of table `b` refused. -/
def State.swapRefuse (s : State) (b reason : Nat) : State :=
  let s := (s.setBit POUR_SWAPREQ b false).setBit POUR_SWAPERR b true
  let s := (s.setFld SWAPRSN_REASON reason).setFld SWAPRSN_TABLE b
  s.event 0x8D POUR_LOC (leBytes 1 b ++ [0] ++ leBytes 2 reason)

/-- POUR_SWAPREQ. -/
def State.swapReq (s : State) (who : Initiator) (m : Nat) : State :=
  if who != .ap0 && who != .ap1 then { s with bus := ⟨[], true⟩ }
  else (List.range 8).foldl (fun s b =>
    if !bitOf m b then s
    else if s.swapOwner b then s.setBit POUR_SWAPREQ b true
    else s.swapRefuse b 0xFFFF) s

/-- The shadow of the scheduled CAN list and its place in SRAM, as it is read for its test; none: the read meets an
uncorrectable error (R34, R389). -/
def State.schedShadow (s : State) : Option (List Byte) × State :=
  s.busRead (issCan 255) (fieldAt (s.sec SEC_CAN) 4 4) s.can.sched.length

/-- The shadow of table `b` as it is read at its boundary; filter lists stay where they are. -/
def State.shadow (s : State) (b : Nat) : Option (List Byte) × State :=
  if b = 4 ∨ b = 5 then s.plnShadow b
  else if b = 6 then s.busRead issEvr s.rateTable.1 s.rateTable.2.length
  else if b = 7 then s.schedShadow
  else (some [], s)

/-- The run-time test of a table with shadow `l`. -/
def State.swapOk (s : State) (b : Nat) (l : List Byte) : Bool :=
  if b = 4 ∨ b = 5 then s.plnSwapOk b l else if b = 7 then s.schedSwapOk l else true

/-- Active and shadow `l` exchanged. -/
def State.swapTable (s : State) (b : Nat) (l : List Byte) : State :=
  if b < 4 then s.swapFilters b
  else if b < 6 then
    let (signals, s) := s.plnSwap b l
    s.owdSignal signals
  else if b = 6 then s.swapRate l
  else
    let s' := (s.busWrite (issCan 255) (fieldAt (s.sec SEC_CAN) 4 4) s.can.sched).2
    { s' with can := { s'.can with sched := l } }

/-- The reason code with which the shadow of table `b` is refused at run time (R367, R389; for table 6, which has no
test: log 60). -/
def swapReason (b : Nat) : Nat := if b = 7 then 0x20B else 0x20A

/-- A pending table at its boundary: swapped, or refused by its test. A shadow that cannot be read fails the test (DESIGN
CHOICE, log 60). -/
def State.swapOne (s : State) (b : Nat) : State :=
  match s.shadow b with
  | (some l, s) =>
    if s.swapOk b l then
      (((s.swapTable b l).setBit POUR_SWAPREQ b false).setBit POUR_SWAPSTAT b false).event 0x8C POUR_LOC
        (leBytes 1 b ++ [0, 0, 0])
    else (s.setBit POUR_SWAPSTAT b false).swapRefuse b (swapReason b)
  | (none, s) => (s.setBit POUR_SWAPSTAT b false).swapRefuse b (swapReason b)

/-- SWAP_BOUNDARY: every pending table is swapped, refused or deferred. -/
def State.swapBoundary (s : State) : State :=
  if !s.pourActive || s.blind then s
  else (List.range 8).foldl (fun s b =>
    if s.bit POUR_SWAPREQ b && s.bit POUR_SWAPSTAT b then s.swapOne b else s) s

end Sys2Proof.Machine
end

