-- ==== Sys2Proof/Machine/CheckLoad.lean ====
section
/-! DEFINITION. Loading a slot and verifying it, and the format of the SYSTEM, TIMETABLE and PROGRAM
sections (R47 to R51, R86, R119 to R123, R485, R486). -/

namespace Sys2Proof.Machine

/-- A refusal: reason code and argument of Table PAT-17; none: accepted. -/
abbrev Rsn := Option (Nat × Nat)

/-- A single test. -/
def rtest (bad : Bool) (code arg : Nat) : Rsn := if bad then some (code, arg) else none

/-- The test that fails for every argument of a list reports the lowest (R485). -/
def leastRsn (code : Nat) (l : List Nat) : Rsn := l.min?.map (fun a => (code, a))

/-- A field of a table: its offset, and whether it is faulty. -/
abbrev FTest := Nat × Bool

/-- The offset of the first faulty field. -/
def firstBad (ts : List FTest) : Option Nat := (ts.find? (fun t => t.2)).map (·.1)

/-- Bytes that must be 0. -/
def zeros (bs : List Byte) (o n : Nat) : FTest := (o, leVal (slice bs o n) != 0)

/-- Fields of record `i` in a table at `base` with records of `z` bytes. -/
def recTests (base z n : Nat) (f : Nat → List FTest) : List FTest :=
  (List.range n).flatMap (fun i => (f i).map (fun t => (base + z * i + t.1, t.2)))

/-- The first byte offset from `o` on at which `n` bytes are not all 0. -/
def firstNonzero (bs : List Byte) (o n : Nat) : Option Nat :=
  match (slice bs o n).findIdx? (fun b => b != 0) with
  | some i => some (o + i)
  | none => none

/-- A duplicate of an earlier element. -/
def dupAt (l : List Nat) (i : Nat) : Bool := (l.take i).contains (l.getD i 0)

/-- Intervals, as start and length, meet. -/
def meets (a b : Nat × Nat) : Bool := decide (a.1 < b.1 + b.2 ∧ b.1 < a.1 + a.2)

/-- The parts of the bytes from `lo` to `hi` outside every interval. -/
def gapsOf (lo hi : Nat) (ws : List (Nat × Nat)) : List (Nat × Nat) :=
  freePieces lo hi ((ws.map (fun w => (w.1, w.1 + w.2))).foldr insWin [])

/-! ### Key and slot (R44 to R50) -/

/-- Bytes filled to length `n` with erased flash. -/
def padFF (n : Nat) (bs : List Byte) : List Byte := bs.take n ++ List.replicate (n - bs.length) 0xFF

def State.keySlot (s : State) (k : Nat) : List Byte := if k = 0 then s.pat.key0 else s.pat.key1

def State.keyPresent (s : State) : Bool := s.pat.keyId != 0 && s.pat.keyId != 0xFFFFFF

/-- A read of `n` bytes from the start of a slot meets the key address from which reads fault. -/
def State.keyReadFault (s : State) (slot n : Nat) : Rsn :=
  match s.pat.keyFault with
  | some a => rtest (decide (a < slot * 0x800000 + n)) 0x10F (max a (slot * 0x800000))
  | none => none

/-- A header is usable: MAGIC, HDR_LEN and HDR_CRC (R55). -/
def headerUsable (h : List Byte) : Bool :=
  fieldAt h 0 4 == 0x54505745 && fieldAt h 6 2 == 256 && fieldAt h 252 4 == crc32c (slice h 0 252)

def sectionType (t : Nat) : Bool := (1 ≤ t && t ≤ 15) || t == 32

/-- Group 0x01 codes of the header (step 2). -/
def headerRsn (slot : Nat) (h : List Byte) : Rsn :=
  rtest (!headerUsable h) 0x102 slot
    <|> rtest (fieldAt h 4 2 != 1) 0x103 (fieldAt h 4 2)
    <|> rtest (fieldAt h 16 2 != 0x9632) 0x104 (fieldAt h 16 2)
    <|> rtest (decide (8388608 < fieldAt h 8 4) || fieldAt h 8 4 % 64 != 0) 0x105 (fieldAt h 8 4)
    <|> (firstBad [(18, fieldAt h 18 1 / 16 != 0), (19, fieldAt h 19 1 != 0), (22, fieldAt h 22 1 != 0),
          (23, fieldAt h 23 1 != 0), (25, fieldAt h 25 1 / 4 != 0)]).map (fun o => (0x110, o))
    <|> (firstNonzero h 60 192).map (fun o => (0x110, o))

/-- The directory (step 3). -/
def directoryRsn (p : List Byte) : Rsn :=
  let c := fieldAt p 20 2
  let lim := fieldAt p 8 4 - 128
  let es := directory p
  let bad (i : Nat) : Bool :=
    let e := dirEntry p i
    e.len == 0 || e.off % 64 != 0 || decide (e.off < 256 + 32 * c) || decide (lim < e.off + e.len)
      || (es.take i).any (fun d => meets (d.off, d.len) (e.off, e.len))
  rtest (decide (c < 2) || decide (64 < c)) 0x106 0xFFFF
    <|> ((List.range c).find? bad).map (fun i => (0x106, i))
    <|> ((List.range c).find? (fun i => !sectionType (dirEntry p i).type
          || dupAt (es.map Sect.type) i)).map (fun i => (0x108, i))
    <|> rtest (findSect p SEC_SYSTEM).isNone 0x109 SEC_SYSTEM
    <|> rtest (findSect p SEC_TIMETABLE).isNone 0x109 SEC_TIMETABLE
    <|> (List.range c).findSome? (fun i => (firstNonzero p (256 + 32 * i + 12) 4).map (fun o => (0x110, o)))

/-- The section digests (step 4). -/
def digestRsn (p : List Byte) : Rsn :=
  ((directory p).find? (fun e =>
    (sha256 (slice p e.off e.len)).take 16 != slice p (256 + 32 * e.index + 16) 16)).map (fun e => (0x107, e.index))

/-- The filler between the parts (step 5). -/
def fillerRsn (p : List Byte) : Rsn :=
  (gapsOf (256 + 32 * fieldAt p 20 2) (fieldAt p 8 4 - 128) ((directory p).map (fun e => (e.off, e.len)))).findSome?
    (fun g => (firstNonzero p g.1 (g.2 - g.1)).map (fun o => (0x110, o)))

/-- State of a verification key slot: 0 EMPTY, 1 VALID, 2 REVOKED; a slot that does not exist is EMPTY. -/
def State.keyState (s : State) (k : Nat) : Nat := if k < 4 then (tblGet (fun _ => (0, [])) s.cope.keys k).1 else 0

/-- The point of a key slot. -/
def State.keyPoint (s : State) (k : Nat) : Nat × Nat :=
  let b := (tblGet (fun _ => (0, [])) s.cope.keys k).2
  (beVal (slice b 0 32), beVal (slice b 32 32))

/-- The signature of a signed region by a key (R49). -/
def sigOk (point : Nat × Nat) (region blk : List Byte) : Bool :=
  ecdsaVerify point.1 point.2 (sha256 region) (beVal (slice blk 8 32)) (beVal (slice blk 40 32))

/-- The state of the key slot that a signature names. -/
def State.keyRsn (s : State) (k : Nat) : Rsn :=
  rtest (s.keyState k == 0) 0xA01 k <|> rtest (s.keyState k == 2) 0xA02 k

/-- The signature step (step 6). -/
def State.signatureRsn (s : State) (p : List Byte) : Rsn :=
  let o := fieldAt p 8 4 - 128
  let b := slice p o 128
  let k := fieldAt b 6 2
  rtest (fieldAt b 0 4 != 0x47535745) 0x10E k
    <|> (firstNonzero p (o + 72) 56).map (fun o => (0x110, o))
    <|> rtest (fieldAt b 4 2 != 1) 0xA03 (fieldAt b 4 2)
    <|> s.keyRsn k
    <|> rtest (!sigOk (s.keyPoint k) (p.take o) b) 0x10E k

/-- The bytes of a slot as its header measures them, the directory of at most 64 entries at least. -/
def State.slotBytes (s : State) (slot : Nat) : List Byte :=
  let h := padFF 256 (s.keySlot slot)
  padFF (max (fieldAt h 8 4) (256 + 32 * min (fieldAt h 20 2) 64)) (s.keySlot slot)

/-- Loading and verifying a slot, before the consistency check (R485). -/
def State.loadRsn (s : State) (slot : Nat) : Rsn :=
  let h := padFF 256 (s.keySlot slot)
  rtest (!s.keyPresent) 0x101 0
    <|> s.keyReadFault slot 256
    <|> headerRsn slot h
    <|> s.keyReadFault slot (fieldAt h 8 4)
    <|> directoryRsn (s.slotBytes slot)
    <|> digestRsn (s.slotBytes slot)
    <|> fillerRsn (s.slotBytes slot)
    <|> s.signatureRsn (s.slotBytes slot)

/-! ### The state as a candidate pattern would make it -/

/-- The pattern digest (R50). -/
def patternDigest (p : List Byte) : List Byte := (sha256 (p.take (fieldAt p 8 4 - 128))).take 16

/-- The queue descriptors of the SYSTEM section (R51); `exact`: a check sees the bits that the registers drop (R35). -/
def State.loadQueues (s : State) (exact : Bool) : State :=
  let y := s.sec SEC_SYSTEM
  (List.range 64).foldl (fun s q =>
    let lo := fieldAt y (16 + 16 * q) 4
    let hi := fieldAt y (20 + 16 * q) 4
    let s := s.setRegN (qreg q 0) (if exact then lo else lo / 64 * 64)
    let s := s.setRegN (qreg q 4) (if exact then hi else hi % 16)
    let c := fieldAt y (24 + 16 * q) 4
    s.setRegN (qreg q 8) (c % 128 + queuePolicy q * 256 + c / 2 ^ 31 * 2 ^ 31)) s

/-- The state that the check of a candidate examines: its sections, its RWL registers and its image. -/
def State.candidate (s : State) (slot : Nat) (p : List Byte) : State :=
  let s := { s with pat := { s.pat with force := some ⟨slot, p⟩ } }
  let s := (s.loadQueues true).loadLoops
  let s := s.putWords 0x20010008 (toWords (patternDigest p))
  { s with prg := { s.prg with image := s.sec SEC_PROGRAM },
           can := { s.can with sched := canSched (s.sec SEC_CAN) },
           net := { s.net with pubList := plnPubList s.plnSec, subList := plnSubList s.plnSec } }

/-! ### Formats: SYSTEM, TIMETABLE, CURVES and LOOPS headers -/

def systemTests (b : List Byte) : List FTest :=
  (List.range 6).map (fun i => (4 + i, decide (1 < fieldAt b (4 + i) 1))) ++ [zeros b 10 6]
    ++ recTests 16 16 64 (fun q => [zeros (slice b (16 + 16 * q) 16) 12 4])

/-- Table POUR-2, but for the fields of group 0x02 (R86). -/
def taskTests (b : List Byte) (i : Nat) : List FTest :=
  let r := taskRecAt b i
  let ids := (taskRecs b).map TaskRec.task
  let prios := (taskRecs b).map TaskRec.prio
  [(0, decide (31 < r.task) || dupAt ids i), (1, decide (31 < r.prio) || dupAt prios i),
   (2, !r.cyclic && !r.event), (3, decide (1 < r.pair)), (12, r.cmt == 0),
   (16, decide (r.margin < 256) || decide (4096 < r.margin)), (19, decide (2 < r.fbAction)),
   zeros (slice b (16 + 64 * i) 64) 21 1, (22, r.cyclic && r.trigLat != 0),
   (24, r.inBase % 64 != 0), (28, decide (r.inBytes < 32) || r.inBytes % 32 != 0), (32, r.outBase % 64 != 0),
   (36, r.outBytes % 32 != 0), zeros (slice b (16 + 64 * i) 64) 44 20]

def entryTests (b : List Byte) (i : Nat) : List FTest :=
  let e := entryAt b i
  let raw := slice b (16 + 64 * fieldAt b 4 1 + 16 * i) 16
  [(0, decide (e.kind < 3) || decide (8 < e.kind)), zeros raw 1 1,
   (2, decide (7 ≤ e.kind) && e.object != 0),
   (4, e.period == 0 || decide (10000000 < e.period)),
   (12, (e.kind == 3 && decide (255 < e.arg)) || (decide (4 ≤ e.kind ∧ e.kind ≤ 7) && e.arg != 0))]

def timetableTests (b : List Byte) : List FTest :=
  let n := fieldAt b 4 1
  [(4, decide (32 < n)), zeros b 5 1, (6, decide (512 < fieldAt b 6 2)), zeros b 8 8]
    ++ recTests 16 64 n (taskTests b) ++ recTests (16 + 64 * n) 16 (fieldAt b 6 2) (entryTests b)

def timetableLen (b : List Byte) : Nat := 16 + 64 * fieldAt b 4 1 + 16 * fieldAt b 6 2

/-- The curves of a CURVES section as their offsets. -/
def curveOffsets (b : List Byte) : Nat → Nat → List Nat
  | 0, _ => []
  | n + 1, o => o :: curveOffsets b n (o + 32 + 80 * fieldAt b (o + 1) 1)

def curvesLen (b : List Byte) : Nat :=
  (curveOffsets b (fieldAt b 0 2) 4).foldl (fun _ o => o + 32 + 80 * fieldAt b (o + 1) 1) 4

/-- The field tests of the CURVES section (Table PAT-7). NAME passes with any 16 bytes (DESIGN CHOICE, log 77). -/
def curvesTests (b : List Byte) : List FTest :=
  let os := curveOffsets b (fieldAt b 0 2) 4
  let ids := os.map (fun o => fieldAt b o 1)
  [(0, fieldAt b 0 2 == 0 || decide (32 < fieldAt b 0 2)), zeros b 2 2]
    ++ (List.range os.length).flatMap (fun i =>
      let o := os.getD i 0
      let n := fieldAt b (o + 1) 1
      [(o, decide (31 < fieldAt b o 1) || dupAt ids i), (o + 1, n == 0 || decide (64 < n)),
       (o + 2, decide (1 < fieldAt b (o + 2) 2)), (o + 24, fieldAt b (o + 24) 8 != 0)]
        ++ (List.range n).map (fun k => (o + 32 + 80 * k + 73, fieldAt b (o + 32 + 80 * k + 73) 7 != 0)))

def loopsTests (b : List Byte) : List FTest :=
  let ens := ((List.range 256).filter (fun n => bitOf (fieldAt b (16 + 128 * n + 4) 1) 0)).length
  [(0, fieldAt b 0 2 != ens), zeros b 2 14]

/-! ### The program image (R119 to R123) -/

/-- Bytes of an image's tables: offset and length. -/
def imageParts (im : List Byte) : List (Nat × Nat) :=
  [(fieldAt im 36 4, 32 * fieldAt im 35 1), (fieldAt im 40 4, 48 * fieldAt im 34 1),
   (fieldAt im 44 4, 8 * fieldAt im 34 1), (fieldAt im 48 4, 32 * fieldAt im 52 4),
   (fieldAt im 56 4, 24 * fieldAt im 60 4), (fieldAt im 64 4, fieldAt im 68 4)]
    ++ (segs im).map (fun g => (g.fileOff, g.fileLen))

/-- A part lies at a multiple of 64 wholly inside the image, clear of the parts before it. -/
def partBad (im : List Byte) (k : Nat) : Bool :=
  let ps := imageParts im
  let x := ps.getD k (0, 0)
  x.2 != 0 && (x.1 % 64 != 0 || decide (x.1 < 128) || decide (fieldAt im 8 4 - 128 < x.1 + x.2)
    || (ps.take k).any (fun y => y.2 != 0 && meets x y))

def imageHeadTests (im : List Byte) (len tasks : Nat) : List FTest :=
  let total := fieldAt im 8 4
  [(0, fieldAt im 0 4 != 0x49505745), (4, fieldAt im 4 2 != 1), (6, fieldAt im 6 2 != 128),
   (8, total != len || total % 64 != 0 || decide (8388608 < total) || decide (total < 256)),
   (12, fieldAt im 12 2 != 0x9632), zeros im 14 2, (34, fieldAt im 34 1 != tasks),
   (35, fieldAt im 35 1 == 0 || decide (16 < fieldAt im 35 1)), (36, partBad im 0), (40, partBad im 1),
   (44, partBad im 2), (48, partBad im 3), (52, decide (65536 < fieldAt im 52 4)), (56, partBad im 4),
   (60, decide (16384 < fieldAt im 60 4)), (64, partBad im 5 || (fieldAt im 68 4 == 0 && fieldAt im 64 4 != 0)),
   (72, fieldAt im 78 2 != 0 || decide (NS ≤ fieldAt im 80 4)), zeros im 88 36, (124, fieldAt im 124 4 != crc32c (slice im 0 124))]

def segTests (im : List Byte) (i : Nat) : List FTest :=
  let g := segAt im i
  let raw := slice im (fieldAt im 36 4 + 32 * i) 32
  [(0, g.kind == 0 || decide (6 < g.kind)), (1, if g.kind = 5 then g.pair != 255 else decide (1 < g.pair)),
   zeros raw 2 2, (4, partBad im (6 + i) || (g.kind == 4 && g.fileOff != 0)), (8, g.kind == 4 && g.fileLen != 0),
   (12, decide (g.memLen < g.fileLen)), (16, g.load % 64 != 0 || decide (2 ^ 36 ≤ g.load)), zeros raw 24 8]

def imgTaskTests (im : List Byte) (rs : List TaskRec) (i : Nat) : List FTest :=
  let e := imgTaskAt im i
  let raw := slice im (fieldAt im 40 4 + 48 * i) 48
  let r := rs.find? (fun r => r.task == e.task)
  [(0, r.isNone || dupAt ((imgTasks im).map ImgTask.task) i),
   (1, match r with | some r => r.pair != e.pair | none => true), zeros raw 2 2,
   (4, decide (e.stackBytes < 1024) || e.stackBytes % 64 != 0),
   (8, !(segs im).any (fun g => g.kind == 1 && g.pair == e.pair && decide (g.load ≤ e.entry)
     && decide (e.entry < g.load + g.memLen))),
   (16, e.stackBase % 64 != 0 || decide (2 ^ 36 ≤ e.stackBase)),
   (24, e.stateBase % 64 != 0 || decide (2 ^ 36 ≤ e.stateBase) || (e.stateBytes == 0 && e.stateBase != 0)),
   (32, e.stateBytes % 64 != 0), zeros raw 36 12]

def wcetTests (im : List Byte) (rs : List TaskRec) (i : Nat) : List FTest :=
  let raw := slice im (fieldAt im 44 4 + 8 * i) 8
  let ids := (List.range (fieldAt im 34 1)).map (fun k => fieldAt im (fieldAt im 44 4 + 8 * k) 1)
  [(0, !rs.any (fun r => r.task == fieldAt raw 0 1) || dupAt ids i), zeros raw 1 3, (4, fieldAt raw 4 4 == 0)]

/-- A symbol TYPE of Table PRG-5. -/
def symTypeOk (t : Nat) : Bool := (1 ≤ t && t ≤ 17) || t == 0x20

/-- Bytes of a variable of a TYPE; none: a string or a structure, of any size. Table PRG-5 gives those of BOOL and
TIME, the others are those of IEC 61131-3 (PRESUMED, log 46). -/
def symTypeBytes (t : Nat) : Option Nat :=
  if 1 ≤ t ∧ t ≤ 16 then some ([1, 1, 2, 4, 8, 1, 2, 4, 8, 4, 8, 8, 1, 2, 4, 8].getD (t - 1) 0) else none

/-- No NUL-terminated ASCII name stands at an offset of the string table. -/
def nameBad (im : List Byte) (off : Nat) : Bool :=
  let str := (slice im (fieldAt im 64 4) (fieldAt im 68 4)).drop off
  match str.findIdx? (fun b => b == 0) with
  | some k => (str.take k).any (fun b => decide (128 ≤ b.toNat))
  | none => true

/-- Table PRG-5. ADDR of a symbol with INPUT or OUTPUT is not tested, whatever its RETAIN (DESIGN CHOICE, log 46). -/
def symTests (im : List Byte) (ids : List Nat) (i : Nat) : List FTest :=
  let y := symAt im i
  let raw := slice im (fieldAt im 48 4 + 32 * i) 32
  let ios (d : Nat) := ((ioMap im).filter (fun e => e.sym == y.id && e.dir == d)).length
  [(0, y.id == 0 || y.id == 0xFFFFFFFF || dupAt ids i), (4, !symTypeOk y.type),
   (5, decide (32 ≤ y.attr) || (y.isInput && ios 1 != 1) || (y.isOutput && ios 2 != 1)),
   (6, decide (31 < y.task) && y.task != 255), zeros raw 7 1,
   (8, !y.isInput && !y.isOutput && (decide (2 ^ 36 ≤ y.addr) || (y.retain && !(segs im).any (fun g =>
     g.kind == 6 && decide (g.load ≤ y.addr) && decide (y.addr + y.size ≤ g.load + g.memLen))))),
   (16, match symTypeBytes y.type with | some z => y.size != z | none => false),
   (24, fieldAt raw 24 4 != 0xFFFFFFFF && nameBad im (fieldAt raw 24 4)), zeros raw 28 4]

/-- Table PRG-6 and the bits of OBJECT that R208 leaves 0. A quality bit inside the pour header is outside what holds values, and refused too (DESIGN CHOICE,
log 46). -/
def ioTests (im : List Byte) (rs : List TaskRec) (ids : List Nat) (i : Nat) : List FTest :=
  let e := ioEntAt im i
  match rs.find? (fun r => r.task == e.task) with
  | none => [(0, !ids.contains e.sym), (4, true)]
  | some r =>
    let z := fmtBytes e.fmt
    let len := if e.dir = 1 then r.inBytes else r.outBytes
    [(0, !ids.contains e.sym), (5, e.dir == 0 || decide (2 < e.dir)), (6, e.kind == 0 || decide (3 < e.kind)),
     (7, e.fmt == 0 || decide (5 < e.fmt)),
     (8, e.kind == 1 && e.object != e.object % 32 + 256 * bitsOf e.object 10 8),
     (12, e.off % z != 0 || (e.dir == 1 && decide (e.off < 32)) || decide (len < e.off + z)),
     (16, if e.dir = 1 then decide (8 * len ≤ e.qbit) || decide (e.qbit < 256) else e.qbit != 0xFFFFFFFF),
     zeros (slice im (fieldAt im 56 4 + 24 * i) 24) 20 4]

/-- Bytes between the parts of an image that are not 0. -/
def imageFiller (im : List Byte) : Option Nat :=
  (gapsOf 128 (fieldAt im 8 4 - 128) ((imageParts im).filter (fun x => x.2 != 0))).findSome?
    (fun g => firstNonzero im g.1 (g.2 - g.1))

/-- The format of an image: header, then MIN_FW, then its tables. The argument of 0x010A is the offset in the
image. `len`: its length; `fw`: the running version. -/
def imageRsn (im : List Byte) (len : Nat) (rs : List TaskRec) (fw : Nat) : Rsn :=
  let ids := (syms im).map Sym.id
  let n := fieldAt im 34 1
  let tests : List FTest :=
    recTests (fieldAt im 36 4) 32 (fieldAt im 35 1) (segTests im)
      ++ recTests (fieldAt im 40 4) 48 n (imgTaskTests im rs)
      ++ [(fieldAt im 40 4, !rs.all (fun r => (imgTasks im).any (fun e => e.task == r.task)))]
      ++ recTests (fieldAt im 44 4) 8 n (wcetTests im rs)
      ++ [(fieldAt im 44 4, !rs.all (fun r => wcetOf im r.task != 0))]
      ++ recTests (fieldAt im 48 4) 32 (fieldAt im 52 4) (symTests im ids)
      ++ recTests (fieldAt im 56 4) 24 (fieldAt im 60 4) (ioTests im rs ids)
  (firstBad (imageHeadTests im len rs.length)).map (fun o => (0x10A, o))
    <|> rtest (decide (fw < fieldAt im 32 2)) 0x10D fw
    <|> (firstBad tests).map (fun o => (0x10A, o))
    <|> (imageFiller im).map (fun o => (0x10A, o))

/-- The signature of an image: any failure is 0x0A04 (R120). -/
def State.imageSigRsn (s : State) (im : List Byte) : Rsn :=
  let o := fieldAt im 8 4 - 128
  let b := slice im o 128
  let k := fieldAt b 6 2
  rtest (fieldAt b 0 4 != 0x47535745 || (firstNonzero b 72 56).isSome || fieldAt b 4 2 != 1 || s.keyState k != 1
    || !sigOk (s.keyPoint k) (im.take o) b) 0xA04 0

end Sys2Proof.Machine
end

