-- ==== Sys2Proof/Machine/CheckField.lean ====
section
/-! DEFINITION. Groups 0x03 and 0x04 of the consistency check: curves, channel cells and loops (R54, R154,
R168, R172, R181, R198, R208, R212, R251). -/

namespace Sys2Proof.Machine

/-! ### Group 0x03 -/

/-- `a` is finite and lies in the closed interval. -/
def inRange (lo hi a : F64) : Bool := ffin a && fle lo a && fle a hi

/-- The first derivative of a segment at `x`. -/
def polySlope (g : List Byte) (x : F64) : F64 :=
  let u := fsub x (segF g 16)
  let d := fieldAt g 72 1
  (List.range d).foldl (fun y i =>
    let j := d - i
    fadd (fmul y u) (fmul (f64ofInt j) (segF g (24 + 8 * j)))) f0

/-- Segment `k` of a curve breaks R54. -/
def segBad (c : List Byte) (k : Nat) : Bool :=
  let gs := curveSegs c
  let g := gs.getD k []
  let lo := segF g 0
  let hi := segF g 8
  let deg := fieldAt g 72 1
  let step := fdiv (fsub hi lo) (f64ofInt 64)
  let point (i : Nat) : F64 := if i = 64 then hi else fadd lo (fmul (f64ofInt i) step)
  !flt lo hi || (decide (k + 1 < gs.length) && !feq hi (segF (gs.getD (k + 1) []) 0)) || decide (5 < deg)
    || (List.range 6).any (fun j => decide (deg < j) && !feq (segF g (24 + 8 * j)) f0)
    || (bitOf (fieldAt c 2 1) 0 && (List.range 65).any (fun i => fle (polySlope g (point i)) f0))

/-- The CURVES section (0x0305). -/
def State.curvesRsn (s : State) : Rsn :=
  (curvesOf (s.sec SEC_CURVES)).findSome? (fun c =>
    ((List.range (fieldAt c 1 1)).find? (segBad c)).map (fun k => (0x305, fieldAt c 0 1 * 256 + k)))

/-- The highest RANGE of a mode; none: no such mode. -/
def topRange (m : Nat) : Option Nat :=
  match m with
  | 0 => some 0 | 1 => some 3 | 2 => some 1 | 3 => some 2 | 4 => some 1 | 5 => some 7
  | 6 => some 2 | 7 => some 1 | 8 => some 1 | 9 => some 0 | 10 => some 2 | _ => none

/-- WIRING codes of a mode (Tables CH-2 and CHO-9). -/
def wiringOk (m w : Nat) : Bool :=
  if m = 2 ∨ m = 6 ∨ m = 7 then decide (w < 2) else if m = 3 ∨ m = 4 then decide (2 ≤ w ∧ w ≤ 4) else w == 0

/-- FF_EN bits that Table CHO-7 allows for a mode and wiring. -/
def ffMask (m w : Nat) : Nat :=
  if m = 1 ∨ m = 5 then 9 else if m = 2 then (if w = 0 then 12 else 15)
  else if m = 3 ∨ m = 4 then (if w = 3 then 31 else 15) else if m = 8 then 12
  else if m = 6 then (if w = 0 then 11 else 13) else if m = 7 then 11 else if m = 9 then 15 else 0

/-- The unit code of a mode's measured unit, in its range (Tables CH-1 and CH-9). -/
def modeUnit (m range : Nat) : Nat :=
  if m = 1 then 1 else if m = 2 then 2 else if m = 3 then 5 else if m = 4 then 3
  else if m = 10 then (if range = 2 then 2 else 1) else 4

def gridMode (m : Nat) : Bool := decide (1 ≤ m ∧ m ≤ 5)

/-- 0x0301 of the bytes that an input mode uses (Table CH-17). A field that the settings of other fields leave unused must
be 0 (DESIGN CHOICE, log 65). -/
def State.inputBad (s : State) (r : List Byte) : Bool :=
  let m := crMode r
  let w := crWiring r
  let cv := crCurve r
  let use := fieldAt r 6 1
  let cj := fieldAt r 7 1
  let trig := fieldAt r 43 1
  let thr := trig == 4 || trig == 5
  let scaled := cv == 255 && (m == 1 || m == 2 || m == 4)
  let zero (o n : Nat) : Bool := fieldAt r o n == 0
  let unit := modeUnit m (crRange r)
  let curveBad := match s.curve cv with
    | some c => if use = 0 then fieldAt c 4 2 != unit else fieldAt c 6 2 != unit || !bitOf (fieldAt c 2 1) 0
    | none => false
  !wiringOk m w || (if gridMode m ∨ m = 10 then decide (1 < crFilter r) else crFilter r != 0)
    || decide (1 < use) || (cv == 255 && use != 0) || (!gridMode m && m != 10 && cv != 255)
    || ((m == 3 || m == 5) && cv == 255) || (m == 5 && use != 1) || curveBad || (m == 10 && use != 0)
    || (if m = 5 then decide (1 < cj) else cj != 0)
    || (if m = 5 ∧ cj = 1 then !inRange (f64ofInt (-50)) (f64ofInt 100) (crF r 32) else !zero 32 4)
    || (if scaled then !ffin (crScaleLo r) || !ffin (crScaleHi r) || feq (crScaleLo r) (crScaleHi r)
        else if m = 10 then !zero 16 4 || !ffin (crScaleHi r) || feq (crScaleHi r) f0
        else !zero 16 4 || !zero 20 4)
    || (if gridMode m then decide (60000 < fieldAt r 24 2) else !zero 24 2)
    || (m != 8 && !zero 26 2)
    || (if (m = 3 ∨ m = 4) ∧ w = 2 then !inRange f0 (f64ofInt 50) (crF r 28) else !zero 28 4)
    || (if m = 8 then !zero 36 4 else !zero 36 4 && !inRange (f64ofRat 2 10) (f64ofInt 10) (crF r 36))
    || (if m = 8 then !zero 8 4 || !zero 12 4 else false)
    || decide (1 < fieldAt r 40 1) || decide (1 < fieldAt r 41 1)
    || (fieldAt r 41 1 == 1 && !(m == 2 && crRange r == 1))
    || (if m = 8 then decide (3 < trig) else if m = 10 then trig != 0 else !(trig == 0 || thr))
    || (if trig = 0 then !zero 44 1 else decide (31 < fieldAt r 44 1)) || !zero 45 3
    || (if thr then !ffin (crF r 52) || !ffin (crF r 56) || flt (crF r 56) f0 else !zero 52 4 || !zero 56 4)
    || !zero 60 4

/-- 0x0301 of the bytes that an output mode uses (Table CHO-9). -/
def outputBad (r : List Byte) : Bool :=
  let m := crMode r
  let zero (o n : Nat) : Bool := fieldAt r o n == 0
  !wiringOk m (crWiring r) || (if m = 9 then crFilter r != 0 else decide (1 < crFilter r))
    || decide (2 < fieldAt r 5 1) || !zero 6 2
    || (if m = 9 then !zero 8 4 || !zero 12 4 || !zero 16 4 || !zero 20 4 || !zero 28 4
        else !ffin (crScaleLo r) || !ffin (crScaleHi r) || feq (crScaleLo r) (crScaleHi r)
          || !inRange (f64ofRat 1 10) (f64ofInt 10) (crF r 28))
    || (m == 9 && !(feq (crF r 24) f0 || feq (crF r 24) f1))
    || (if m = 7 then !inRange f0 (f64ofInt 5) (crF r 32) else !zero 32 4)
    || (if m = 9 then decide (fieldAt r 36 2 < 10) || decide (60000 < fieldAt r 36 2) else !zero 36 2)
    || (firstNonzero r 38 26).isSome

/-- 0x0301 of bytes 64 to 127 (Table CHO-10). -/
def tailBad (r : List Byte) : Bool :=
  let m := crMode r
  let ao := m == 6 || m == 7
  let ff := fieldAt r 64 1
  (List.range 8).any (fun k => bitOf ff k && !bitOf (ffMask m (crWiring r)) k)
    || (if m = 1 ∨ m = 5 then decide (1 < fieldAt r 65 1) else fieldAt r 65 1 != 0)
    || (if ao then decide (1 < fieldAt r 66 1) else fieldAt r 66 1 != 0 || fieldAt r 68 8 != 0)
    || fieldAt r 67 1 != 0 || (firstNonzero r 76 52).isSome

/-- R189 and R204, the mode's RATE codes, and the gap of the open-wire test (R236; 0x0303). -/
def rateBad (r : List Byte) : Bool :=
  let m := crMode r
  let top := if m = 1 ∨ m = 2 then 13 else if m = 6 ∨ m = 7 then 10 else if gridMode m then 7 else 0
  let p := ratePeriod (crRate r)
  if top = 0 then crRate r != 0 || (m == 10 && (crGrid r != 0 || crGphase r != 0 || crFilter r != 0 || crCurve r != 255))
  else crRate r == 0 || decide (top < crRate r) || crGrid r == 0 || crGrid r % p != 0
    || decide (10000000 < crGrid r) || decide (crGrid r ≤ crGphase r)
    || (fieldAt r 65 1 == 1 && (m == M_AI_V || m == M_TC) && decide (crGrid r < windowLen r + 150))

/-- A user trim point is off by more than 2 % of the nominal span (0x0306). -/
def trimBad (r : List Byte) : Bool :=
  let (pl, ph) := trimPoints r
  let off (a b : F64) : Bool := !ffin a || flt (fmul (f64ofRat 2 100) (nomSpan r)) (fabs (fsub a b))
  fieldAt r 66 1 == 1 && (off (crF r 68) pl || off (crF r 72) ph)

/-- The substitute value of an input cell (0x0307); a DI cell's values are 0 and 1, a WAVE cell's reach from 0 to
RMS at the range's limit (DEDUCED, log 27). -/
def State.substBad (s : State) (r : List Byte) : Bool :=
  let v := crF r 48
  let m := crMode r
  let lim (x : F64) : F64 := if m = 3 then fdiv x (rNom r) else x
  let a := if m = 10 || m = 8 then f0 else (s.scaled r (lim (limLo r))).1
  let b := if m = 10 then fmul (limHi r) (crScaleHi r) else if m = 8 then f1 else (s.scaled r (lim (limHi r))).1
  !ffin v || !inRange (fmin a b) (fmax a b) v

/-- The substitute value of an output cell (0x0307). -/
def ovalBad (r : List Byte) : Bool :=
  let v := crF r 24
  let p := fadd (nomLo r) (fdiv (fmul (fsub v (crScaleLo r)) (fsub (nomHi r) (nomLo r)))
    (fsub (crScaleHi r) (crScaleLo r)))
  !ffin v || (crMode r != 9 && !inRange (limLo r) (limHi r) p)

/-- The tests of one cell in ascending reason code. A CURVE_ID or WAVE_PAIR of 32 to 254 names nothing, and is refused so
(DESIGN CHOICE, log 65). -/
def State.cellRsn (s : State) (n : Nat) : Rsn :=
  let r := s.cellRec n
  let m := crMode r
  let pair := fieldAt r 42 1
  let rangeBad := match topRange m with
    | none => true
    | some t => decide (t < crRange r)
  if m = 0 then
    rtest (fieldAt r 0 5 != 0 || crCurve r != 255 || fieldAt r 6 36 != 0 || (firstNonzero r 43 85).isSome) 0x301 n
      <|> rtest (pair != 255) 0x302 n
  else
    let out := isOutMode m
    rtest (rangeBad || tailBad r || (if out then outputBad r else s.inputBad r)) 0x301 n
      <|> rtest (!out && pair != 255 && (m != 10 || pair == n || decide (31 < pair) || s.cellMode pair != 10)) 0x302 n
      <|> rtest (rateBad r) 0x303 n
      <|> rtest (!out && crCurve r != 255 && (s.curve (crCurve r)).isNone) 0x304 n
      <|> rtest (trimBad r) 0x306 n
      <|> rtest (if out then ovalBad r else s.substBad r) 0x307 n

/-- The FMT of a result item in a mode; none: not delivered (Tables CH-14 and CHO-5). -/
def itemFmt (r : List Byte) (i : Nat) : Option Nat :=
  let m := crMode r
  if m = 0 then none
  else if isOutMode m then
    (if i = 0 then some (if m = 9 then 1 else 3) else if i = 1 ∨ i = 2 ∨ i = 4 then some 5
     else if i < 8 then some 3 else none)
  else if i = 0 then some (if m = 8 then 1 else 3)
  else if i = 1 ∨ i = 2 then some 5
  else if i = 3 then some 3
  else if i = 4 then (if m = 10 then some 3 else none)
  else if i = 5 then (if m = 10 ∧ fieldAt r 42 1 ≠ 255 then some 3 else none)
  else if i = 6 then (if m = 5 then some 3 else none)
  else if i = 7 then (if m = 8 then none else some 3)
  else none

/-- An I/O map entry uses a cell against its mode (0x0308). -/
def State.ioCellBad (s : State) (e : IoEnt) : Bool :=
  let r := s.cellRec (e.object % 32)
  let i := bitsOf e.object 10 8
  itemFmt r i != some e.fmt
    || (e.dir == 2 && (!isOutMode (crMode r) || i != 0))

/-- Group 0x03. -/
def State.group03 (s : State) : Rsn :=
  s.curvesRsn
    <|> (if s.hasSec SEC_CHANNELS then (List.range 32).findSome? s.cellRsn else none)
    <|> ((ioMap s.prg.image).find? (fun e => e.kind == 1 && s.ioCellBad e)).map (fun e => (0x308, e.object % 32))

/-! ### Group 0x04 -/

/-- A word of loop `n`'s descriptor in the LOOPS section. -/
def State.lsec (s : State) (n off : Nat) : Nat := fieldAt (s.sec SEC_LOOPS) (16 + 128 * n + off) 4

/-- A descriptor field as a number. -/
def State.lnum (s : State) (n off : Nat) : F64 := f64of32 (s.reg (lreg n off))

/-- The CRUCIBLE entries that hold loop `n`. -/
def State.loopEntries (s : State) (n : Nat) : List Entry :=
  s.entries.filter (fun e => e.kind == KIND_CRUCIBLE && decide (e.object ≤ n) && decide (n ≤ e.object + e.arg % 256))

/-- A reference of a kind and index that Table CRU-2 allows in the field. -/
def refOk (allowed : List Nat) (r : Nat) : Bool :=
  let k := refKind r
  let i := refIndex r
  allowed.contains k && (if k = 1 then decide (i < 32) else if k = 2 then decide (i < 256)
    else if k = 4 then decide (i < 2 ^ 24) else i == 0)

/-- Some enabled loop's LINK names loop `n`. -/
def State.innerOf (s : State) (n : Nat) : List Nat :=
  (List.range 256).filter (fun o => s.loopEn o && refKind (s.regN (lreg o 0x14)) == 2
    && refIndex (s.regN (lreg o 0x14)) == n)

/-- What R181 asks of loop `n`'s descriptor in the pattern: all 0 with EN = 0, else CRU_LCTL as INIT_MODE and dynamic
fields of 0. -/
def State.lsecBad (s : State) (n : Nat) : Bool :=
  let c := s.lsec n 4
  if bitOf c 0 then s.lsec n 0 != bitsOf c 10 8 || (List.range 9).any (fun i => s.lsec n (0x5C + 4 * i) != 0)
  else (List.range 32).any (fun i => s.lsec n (4 * i) != 0)

/-- R181 for loop `n`: its descriptor in the pattern, and the RWL fields as they stand. -/
def State.descBad (s : State) (n : Nat) : Bool :=
  let c := s.regN (lreg n 4)
  let num := s.lnum n
  let aw := bitsOf c 3 2
  let im := bitsOf c 10 8
  let nonneg (o : Nat) : Bool := ffin (num o) && fle f0 (num o)
  let unit (o : Nat) : Bool := inRange f0 f1 (num o)
  s.lsecBad n ||
  if !s.loopEn n then (List.range 32).any (fun i => i != 0 && s.regN (lreg n (4 * i)) != 0)
  else
    aw == 3 || decide (4 < im) || bitsOf c 15 11 != 0
      || !refOk [1, 3, 4] (s.regN (lreg n 8)) || !refOk [0, 1, 4, 5] (s.regN (lreg n 0xC))
      || !refOk [0, 1, 3, 4] (s.regN (lreg n 0x10)) || !refOk [0, 1, 2, 4] (s.regN (lreg n 0x14))
      || !nonneg 0x1C || !nonneg 0x20 || !nonneg 0x24 || !ffin (num 0x28)
      || (flt f0 (num 0x24) && !inRange f1 (f64ofInt 1000) (num 0x28))
      || !ffin (num 0x2C) || (aw == 0 && flt f0 (num 0x20) && !flt f0 (num 0x2C))
      || !unit 0x30 || !unit 0x34 || !ffin (num 0x38) || !ffin (num 0x3C) || !flt (num 0x38) (num 0x3C)
      || !flt f0 (num 0x40) || !inRange (num 0x38) (num 0x3C) (num 0x44) || !ffin (num 0x58)
      || [0x5C, 0x68, 0x6C, 0x70, 0x74, 0x78, 0x7C].any (fun o => !ffin (num o))
      || (im == 2 && refKind (s.regN (lreg n 0xC)) == 0) || (im == 3 && (s.innerOf n).isEmpty)
      || (im == 4 && refKind (s.regN (lreg n 0x10)) == 0)
      || (match s.loopEntries n with
        | [e] => e.period != s.regN (lreg n 0x18)
        | _ => true)

/-- R172 for loop `n`. -/
def State.modelBad (s : State) (n : Nat) : Bool :=
  let c := s.regN (lreg n 0x50)
  let a := s.lnum n 0x48
  s.loopEn n && (!(ffin a && fle f0 a && flt a f1) || !ffin (s.lnum n 0x4C) || !ffin (s.lnum n 0x54)
    || !flt f0 (s.lnum n 0x54) || decide (64 < bitsOf c 6 0) || bitOf c 7 || bitsOf c 15 8 == 0
    || bitsOf c 23 16 == 0 || decide (bitsOf c 15 8 < bitsOf c 23 16) || bitsOf c 31 28 != 0)

/-- A handle of a publication variable, or of a subscription variable (`sub`). -/
def State.handleOk (s : State) (sub : Bool) (h : Nat) : Bool :=
  let i := bitsOf h 22 16
  decide (h < 2 ^ 24) && bitOf h 23 == sub && bitsOf h 15 12 == 0
    && (if sub then decide (i < s.subCount) && decide (bitsOf h 11 0 < (s.subRec i).nvar)
        else decide (i < s.pubCount) && decide (bitsOf h 11 0 < (s.pubRec i).nvar))

/-- The output entries of the I/O map. -/
def State.ioOuts (s : State) : List IoEnt := (ioMap s.prg.image).filter (fun e => e.dir == 2)

def State.feeds (s : State) (kind object : Nat) : Bool := s.ioOuts.any (fun e => e.kind == kind && e.object == object)

/-- The reference tests of loop `n` (R154). -/
def State.refRsn (s : State) (n : Nat) : Rsn :=
  if !s.loopEn n then none
  else
    let pv := s.regN (lreg n 8)
    let sp := s.regN (lreg n 0xC)
    let trk := s.regN (lreg n 0x10)
    let dst := s.regN (lreg n 0x14)
    let cellBad (r : Nat) : Bool := refKind r == 1 &&
      (s.cellMode (refIndex r) == 0 || isOutMode (s.cellMode (refIndex r)))
    let plnBad (r : Nat) : Bool := refKind r == 4 && !s.handleOk true (refIndex r)
    rtest (cellBad pv || cellBad sp || cellBad trk
      || (refKind pv == 3 && !s.feeds 2 (16 * n + 6)) || (refKind trk == 3 && !s.feeds 2 (16 * n + 5))
      || (refKind dst == 1 && !(s.cellMode (refIndex dst) == 6 || s.cellMode (refIndex dst) == 7))
      || (refKind dst == 2 && !s.loopEn (refIndex dst)) || (refKind dst == 4 && !s.handleOk false (refIndex dst)))
      0x401 n
      <|> rtest (plnBad pv || plnBad sp || plnBad trk) 0x407 n

/-- An I/O map entry of KIND 0x02 against Table CRU-3. -/
def State.ioLoopBad (s : State) (e : IoEnt) : Bool :=
  let n := e.object / 16
  let v := e.object % 16
  let out := e.dir == 2
  decide (255 < n) || !s.loopEn n ||
    (match v with
    | 0 | 2 => out || e.fmt != 3
    | 1 => e.fmt != 3 || (out && refKind (s.regN (lreg n 0xC)) != 5)
    | 3 => e.fmt != 2
    | 4 => e.fmt != 3
    | 5 => !out || e.fmt != 3 || refKind (s.regN (lreg n 0x10)) != 3
    | 6 => !out || e.fmt != 3 || refKind (s.regN (lreg n 8)) != 3
    | 7 => out || e.fmt != 5
    | _ => true)

/-- A destination reference written by an I/O map output entry too. -/
def State.dstShared (s : State) (n : Nat) : Bool :=
  let d := s.regN (lreg n 0x14)
  let k := refKind d
  s.loopEn n && k != 0 && ((List.range 256).any (fun m => m != n && s.loopEn m && s.regN (lreg m 0x14) == d)
    || (k == 1 && s.feeds 1 (refIndex d)) || (k == 4 && s.feeds 3 (refIndex d)))

/-- The second of two output entries with one object. -/
def dupOut (im : List Byte) : Option Nat :=
  let es := ioMap im
  (List.range es.length).find? (fun i =>
    let e := es.getD i ⟨0, 0, 0, 0, 0, 0, 0, 0⟩
    e.dir == 2 && (es.take i).any (fun f => f.dir == 2 && f.kind == e.kind && f.object == e.object))

/-- Loop `n` lies on a cycle of links. -/
def State.onCycle (s : State) (n : Nat) : Bool :=
  let next (m : Nat) : Option Nat :=
    let d := s.regN (lreg m 0x14)
    if s.loopEn m && refKind d == 2 then some (refIndex d % 256) else none
  let rec go : Nat → Nat → Bool
    | 0, _ => false
    | k + 1, m => match next m with
      | none => false
      | some i => i == n || go k i
  go 256 n

/-- Group 0x04. -/
def State.group04 (s : State) : Rsn :=
  let all := List.range 256
  all.findSome? (fun n => rtest (s.descBad n) 0x405 n <|> rtest (s.modelBad n) 0x406 n)
    <|> ((s.entries.find? (fun e => e.kind == KIND_CRUCIBLE && decide (255 < e.object + e.arg % 256))).map
      (fun e => (0x405, e.object)))
    <|> all.findSome? s.refRsn
    <|> ((ioMap s.prg.image).find? (fun e => e.kind == 2 && s.ioLoopBad e)).map (fun e => (0x401, e.object / 16))
    <|> (all.find? s.dstShared).map (fun n => (0x402, n))
    <|> (dupOut s.prg.image).map (fun i => (0x402, 0x80000000 + i))
    <|> (all.find? s.onCycle).map (fun n => (0x403, n))
    <|> (all.find? (fun i => s.loopEn i && (s.innerOf i).any (fun o =>
      decide (s.regN (lreg o 0x18) < s.regN (lreg i 0x18))))).map (fun n => (0x404, n))

end Sys2Proof.Machine
end

