-- ==== Sys2Proof/Machine/CheckSafety.lean ====
section
/-! DEFINITION. Group 0x05 of the consistency check: the SAFETY section, its lattice, its program and its
declared reaction times (R258 to R262, R267, R270, R289, R290). -/

namespace Sys2Proof.Machine

/-! ### Format (0x0502) -/

def isSource (c : Nat) : Bool := decide (c < 0x12 ∨ (0x20 ≤ c ∧ c < 0x60)) || c == 0xFE || c == 0xFF

def sdiTests (r : List Byte) : List FTest :=
  let m := fieldAt r 0 1
  let tp := fieldAt r 1 1
  let d := fieldAt r 2 2
  if m = 0 then (List.range 8).map (fun i => zeros r i 1)
  else [(0, decide (3 < m)), (1, decide (3 < tp) && tp != 0xFF),
    (2, if m = 1 then d != 0 else decide (d < 10 ∨ 10000 < d)), zeros r 4 4]

/-- An SDO record; `low`: the least T_DISC_MS by R267, in tenths of a µs. -/
def sdoTests (r : List Byte) (low : Nat) : List FTest :=
  let k := fieldAt r 3 1
  let td := fieldAt r 12 4
  if fieldAt r 0 1 = 0 then (List.range 16).map (fun i => zeros r i 1)
  else [(0, decide (1 < fieldAt r 0 1)), (1, decide (1 < fieldAt r 1 1)), (2, decide (1 < fieldAt r 2 1)),
    (3, decide (1 < k)), (4, decide ((if k = 0 then 15 else 63) < fieldAt r 4 2)),
    (6, fieldAt r 6 2 % 10 != 0), zeros r 10 2, (12, decide (td < 5 ∨ 10000 < td ∨ td * 10000 < low))]

def elemTests (r : List Byte) : List FTest :=
  let f := fieldAt r 0 1
  let n := fieldAt r 1 1
  if f = 0xFF then [zeros r 1 1, zeros r 2 1, zeros r 3 1] ++
    (List.range 4).map (fun i => (4 + i, fieldAt r (4 + i) 1 != 0xFD))
  else [(0, decide (5 < f)),
    (1, if f < 2 then decide (n < 1 ∨ 4 < n) else if f = 2 then n != 3 else n != 2),
    (2, decide (2 ^ n ≤ fieldAt r 2 1)), zeros r 3 1]

def timerTests (r : List Byte) : List FTest :=
  if fieldAt r 0 1 = 0xFF then [(1, fieldAt r 1 1 != 0xFD), zeros r 2 1, zeros r 3 1]
  else [(0, decide (2 < fieldAt r 0 1)), (2, decide (fieldAt r 2 1 < 10 ∨ 99 < fieldAt r 2 1)),
    (3, decide (4 < fieldAt r 3 1))]

def funcTests (c : List Byte) (i : Nat) : List FTest :=
  let r := slice c (816 + 16 * i) 16
  let ids := (List.range (funcCount c)).map (fun j => fieldAt c (816 + 16 * j) 1)
  let m := fieldAt r 2 1
  [(0, decide (31 < fieldAt r 0 1) || dupAt ids i), (1, decide (15 < fieldAt r 1 1)),
   (2, m == 0 || (List.range 8).any (fun n => m.testBit n && !sdoUsed c n)), zeros r 3 1,
   (12, decide (7 < fieldAt r 12 2) && fieldAt r 12 2 != 0xFFFF), zeros r 14 2]

def stmtTests (r : List Byte) : List FTest :=
  let op := fieldAt r 0 1
  let par := fieldAt r 12 4
  let opt (o : Nat) : FTest := (o, decide (0x3FF < fieldAt r o 2) && fieldAt r o 2 != 0xFFFF)
  [(0, decide (op < 1 ∨ 8 < op)), (1, decide (7 < fieldAt r 1 1)), (2, decide (0x3FF < fieldAt r 2 2)),
   (4, decide (0x3FF < fieldAt r 4 2)), opt 6, opt 8, zeros r 10 2,
   (12, if op = 5 ∨ op = 6 then decide (par < 1 ∨ 60000 < par) else par != 0)]

/-! ### The lattice (0x0503, R267, R270) -/

def elemRecOf (c : List Byte) (e : Nat) : Elem :=
  let r := slice c (336 + 8 * e) 8
  ⟨fieldAt r 0 1, fieldAt r 1 1, fieldAt r 2 1, (List.range 4).map (fun i => fieldAt r (4 + i) 1)⟩

def tmrRecOf (c : List Byte) (t : Nat) : List Byte := slice c (720 + 4 * t) 4
def sinkSrc (c : List Byte) (k : Nat) : Nat := fieldAt c (784 + 2 * k) 1
def sinkInv (c : List Byte) (k : Nat) : Bool := bitOf (fieldAt c (785 + 2 * k) 1) 0

/-- T_nom of a timer record in µs (R259). -/
def tNomUs (r : List Byte) : Nat := fieldAt r 2 1 * 10 ^ fieldAt r 3 1 * 100

/-- A source names a used element or timer, or neither. -/
def sourceUsed (c : List Byte) (x : Nat) : Bool :=
  if 0x20 ≤ x ∧ x < 0x50 then (elemRecOf c (x - 0x20)).func != 0xFF
  else if 0x50 ≤ x ∧ x < 0x60 then fieldAt (tmrRecOf c (x - 0x50)) 0 1 != 0xFF
  else true

/-- The elements that feed element `e` through no latch and no timer, one step, as a mask. -/
def combFeeds (c : List Byte) (e : Nat) : Nat :=
  let x := elemRecOf c e
  if 3 < x.func then 0
  else (x.srcs.take x.nin).foldl (fun m y =>
    if 0x20 ≤ y ∧ y < 0x50 ∧ (elemRecOf c (y - 0x20)).func < 4 then nbit m (y - 0x20) true else m) 0

def spread (feeds : List Nat) : Nat → Nat → Nat
  | 0, m => m
  | k + 1, m =>
    spread feeds k ((List.range 48).foldl (fun w e => if m.testBit e then w ||| feeds.getD e 0 else w) m)

/-- Element `e` depends on itself through no latch and no timer (R260). -/
def combLoop (c : List Byte) (e : Nat) : Bool :=
  let feeds := (List.range 48).map (combFeeds c)
  (spread feeds 48 (feeds.getD e 0)).testBit e

/-- Faults of element `e` (0x0503). -/
def elemBad (c : List Byte) (e : Nat) : Bool :=
  let x := elemRecOf c e
  x.func != 0xFF && ((List.range 4).any (fun i =>
    let y := x.srcs.getD i 0xFD
    if i < x.nin then !isSource y || !sourceUsed c y else y != 0xFD) || combLoop c e)

def timerBad (c : List Byte) (t : Nat) : Bool :=
  let r := tmrRecOf c t
  fieldAt r 0 1 != 0xFF && (!isSource (fieldAt r 1 1) || !sourceUsed c (fieldAt r 1 1))

def sinkBad (c : List Byte) (k : Nat) : Bool :=
  let y := sinkSrc c k
  y != 0xFD && (!isSource y || !sourceUsed c y)

/-- 0x0503; timers are named 48 on and sinks 64 on (DESIGN CHOICE, log 27). -/
def latticeRsn (c : List Byte) : Rsn :=
  ((List.range 48).find? (elemBad c)).or
    ((((List.range 16).find? (timerBad c)).map (· + 48)).or (((List.range 10).find? (sinkBad c)).map (· + 64)))
  |>.map (fun a => (0x503, a))

/-- Nodes of the lattice in one numbering: source codes below 0x20, elements 0x20 on, timers 0x50 on. -/
def nodeInputs (c : List Byte) (x : Nat) : List Nat :=
  if 0x20 ≤ x ∧ x < 0x50 then
    let e := elemRecOf c (x - 0x20)
    if e.func = 0xFF then [] else e.srcs.take e.nin
  else if 0x50 ≤ x ∧ x < 0x60 then
    if fieldAt (tmrRecOf c (x - 0x50)) 0 1 = 0xFF then [] else [fieldAt (tmrRecOf c (x - 0x50)) 1 1]
  else []

def reachBack (c : List Byte) : Nat → List Nat → List Nat
  | 0, m => m
  | k + 1, m => reachBack c k ((m ++ m.flatMap (nodeInputs c)).eraseDups)

/-- The sum of T_nom in µs of the timers between an SDI and LSn (R267). -/
def timersBetween (c : List Byte) (n : Nat) : Nat :=
  let back := reachBack c 64 [sinkSrc c n]
  ((List.range 16).filter (fun t => back.contains (0x50 + t)
    && (reachBack c 64 [0x50 + t]).any (fun x => decide (x < 16)))).foldl
      (fun a t => a + tNomUs (tmrRecOf c t)) 0

/-- A node in a demand: its healthy level, and after how many µs of timers it leaves it (R270). -/
structure Arr where
  v : Bool
  at? : Option Nat
  deriving DecidableEq, Repr

def arrGet (t : List Arr) (x : Nat) : Arr := t.getD x ⟨x == 0xFF, none⟩

/-- The level of a node once every change up to `k` has come. -/
def Arr.after (a : Arr) (k : Nat) : Bool :=
  match a.at? with
  | some j => if j ≤ k then !a.v else a.v
  | none => a.v

def elemLevel (f : Nat) (old : Bool) (v : List Bool) : Bool :=
  match f with
  | 0 => v.all id
  | 1 => v.any id
  | 2 => decide (2 ≤ v.countP id)
  | 3 => (v.getD 0 false).xor (v.getD 1 false)
  | 4 => !v.getD 1 false && (v.getD 0 false || old)
  | 5 => v.getD 0 false || (old && !v.getD 1 false)
  | _ => false

/-- One node from the others: `latch` is the level a latch holds while neither set nor reset. The timers of `out` are on
no demand path. -/
def arrNode (c : List Byte) (latch : Bool) (out : List Nat) (t : List Arr) (x : Nat) : Arr :=
  if 0x20 ≤ x ∧ x < 0x50 then
    let e := elemRecOf c (x - 0x20)
    let ins := (List.range (min e.nin 4)).map (fun i => (arrGet t (e.srcs.getD i 0xFD), e.inv.testBit i))
    let v := elemLevel e.func latch (ins.map (fun a => a.1.v.xor a.2))
    let ks := (ins.filterMap (fun a => a.1.at?)).mergeSort (fun a b => decide (a ≤ b))
    ⟨v, ks.find? (fun k => elemLevel e.func v (ins.map (fun a => (a.1.after k).xor a.2)) != v)⟩
  else if 0x50 ≤ x ∧ x < 0x60 then
    let r := tmrRecOf c (x - 0x50)
    let i := arrGet t (fieldAt r 1 1)
    let at? := if out.contains x then none else i.at?
    match fieldAt r 0 1 with
    | 0 => ⟨i.v, at?.map (· + tNomUs r)⟩
    | 1 => ⟨i.v, at?.map (fun k => if i.v then k + tNomUs r else k)⟩
    | 2 => ⟨false, if i.v then none else at?⟩
    | _ => ⟨false, none⟩
  else arrGet t x

def arrRun (c : List Byte) (latch : Bool) (out : List Nat) : Nat → List Arr → List Arr
  | 0, t => t
  | k + 1, t => arrRun c latch out k ((List.range 0x60).map (arrNode c latch out t))

/-- The healthy level of a source: the odd member of an antivalent pair is healthy at 0 (R275). -/
def healthy (c : List Byte) (x : Nat) : Bool :=
  decide (x < 18) && !(decide (x < 16 ∧ x % 2 = 1) && pairMode c (x / 2) == 3)

/-- The nodes when the sources of `srcs` take their demand levels. -/
def arrOf (c : List Byte) (latch : Bool) (out srcs : List Nat) : List Arr :=
  arrRun c latch out 64
    ((List.range 0x60).map (fun x => (⟨healthy c x, if srcs.contains x then some 0 else none⟩ : Arr)))

/-- The timers that act only while the two sources of a pair disagree: they do not when both take their demand levels
(R270). -/
def discTimers (c : List Byte) (latch : Bool) (src : Nat) : List Nat :=
  if 16 ≤ src ∨ pairMode c (src / 2) = 0 then []
  else
    let t := arrOf c latch [] [src / 2 * 2, src / 2 * 2 + 1]
    ((List.range 16).map (0x50 + ·)).filter (fun x => (arrGet t x).at?.isNone)

/-- The timer sum by which LSn falls when source `src` takes its demand level, if it falls. -/
def demandPath (c : List Byte) (latch : Bool) (src n : Nat) : Option Nat :=
  let a := arrGet (arrOf c latch (discTimers c latch src) [src]) (sinkSrc c n)
  if a.v.xor (sinkInv c n) then a.at? else none

/-- The largest demand path into the outputs of a mask, µs; a latch may stand either way (DEDUCED, log 27). -/
def foxPath (c : List Byte) (mask : Nat) : Nat :=
  ((List.range 8).filter (fun n => mask.testBit n)).foldl (fun m n =>
    (List.range 18).foldl (fun m src =>
      max m (max ((demandPath c true src n).getD 0) ((demandPath c false src n).getD 0))) m) 0

/-! ### Inputs and outputs (0x0504, 0x0505) -/

/-- SDI `n` is named by the lattice, the program or an acknowledge. -/
def sdiNamed (c : List Byte) (n : Nat) : Bool :=
  (List.range 48).any (fun e => (nodeInputs c (0x20 + e)).contains n)
  || (List.range 16).any (fun t => (nodeInputs c (0x50 + t)).contains n)
  || (List.range 10).any (fun k => sinkSrc c k == n)
  || (List.range (stmtCount c)).any (fun i =>
    [4, 6, 8].any (fun o => fieldAt (stmtRec c i) o 2 == n))
  || (List.range 8).any (fun o => sdoUsed c o && fieldAt (sdoRec c o) 3 1 == 0 && fieldAt (sdoRec c o) 4 2 == n)

def sdiBad (c : List Byte) (n : Nat) : Bool :=
  let r := sdiRec c n
  let q := sdiRec c (if n % 2 = 0 then n + 1 else n - 1)
  let m := fieldAt r 0 1
  let tp := fieldAt r 1 1
  let tq := fieldAt q 1 1
  (decide (2 ≤ m) && (fieldAt q 0 1 != m || fieldAt q 2 2 != fieldAt r 2 2
      || (tp == tq && tp != 0xFF) || (tp == 0xFF) != (tq == 0xFF)))
  || (m == 1 && tp == 0xFF) || (m != 0 && decide (tp < 4) && !tpEn c tp) || (m == 0 && sdiNamed c n)

def offPulseBad (c : List Byte) (n : Nat) : Bool :=
  let r := sdoRec c n
  sdoUsed c n && decide (fieldAt r 6 2 < 200 ∨ 800 < fieldAt r 6 2 ∨ fieldAt r 8 2 < 1 ∨ 60 < fieldAt r 8 2)

/-! ### The safety program (0x0506) -/

/-- Used inputs of a statement: variable and inversion. -/
def stmtInputs (r : List Byte) : List (Nat × Bool) :=
  let inv := fieldAt r 1 1
  let use (i : Nat) : Bool := fieldAt r (4 + 2 * i) 2 != 0xFFFF
  let n := match fieldAt r 0 1 with
    | 1 => 3
    | 2 => 3
    | 3 => 2
    | 4 => 2
    | 8 => 2
    | _ => 1
  ((List.range n).filter use).map (fun i => (fieldAt r (4 + 2 * i) 2, inv.testBit i))

/-- A statement passes taint (R290); `m` holds the tainted variables. -/
def taints (r : List Byte) (m : Nat) : Bool :=
  let ins := stmtInputs r
  let n := ins.length
  match fieldAt r 0 1 with
  | 1 => (List.range n).any (fun i =>
      let x := ins.getD i (0, false)
      m.testBit x.1 && (x.2 || (List.range n).all (fun j => j == i || m.testBit (ins.getD j (0, false)).1)))
  | 4 => (List.range n).any (fun i =>
      let x := ins.getD i (0, false)
      m.testBit x.1 && (i == 0 || x.2))
  | _ => ins.any (fun x => m.testBit x.1)

def taintRun (rs : List (List Byte)) : Nat → Nat → Nat
  | 0, m => m
  | k + 1, m => taintRun rs k (rs.foldl (fun m r => if taints r m then nbit m (fieldAt r 2 2) true else m) m)

/-- Variables that Table SIO-10 assigns to the runtime. -/
def runtimeVar (v : Nat) : Bool := decide (v < 0x18 ∨ (0x20 ≤ v ∧ v < 0x70))

def safProgBad (c : List Byte) : Bool :=
  let rs := (List.range (stmtCount c)).map (stmtRec c)
  let outs := rs.map (fun r => fieldAt r 2 2)
  let w := fieldAt c 8 2
  let t := taintRun rs (rs.length + 1) (0xFFFF * 2 ^ 0x60)
  (List.range outs.length).any (dupAt outs) || outs.any runtimeVar
  || (List.range 8).any (fun n => !sdoUsed c n && outs.contains (0x80 + n))
  || decide (2 * w < 40 + stmtCount c) || decide (700 < w)
  || varBits t 0x80 16 != 0 || varBits t 0x90 64 != 0
  || rs.any (fun r => (fieldAt r 0 1 == 4 || fieldAt r 0 1 == 8) && t.testBit (fieldAt r 4 2))

/-! ### Declared reaction times (0x0507) -/

/-- Longest TON sums in ms from an input variable, variable by variable; a loop counts once a pass (DESIGN
CHOICE, log 27). -/
def delayRun (rs : List (List Byte)) : Nat → Tbl Nat → Tbl Nat
  | 0, t => t
  | k + 1, t => delayRun rs k (rs.foldl (fun t r =>
      let here := (stmtInputs r).filterMap (fun x =>
        if x.1 < 0x70 then some 0 else match cget t x.1 with
          | 0 => none
          | d + 1 => some d)
      let d := here.foldl max 0 + (if fieldAt r 0 1 = 5 then fieldAt r 12 4 else 0)
      let out := fieldAt r 2 2
      if here.isEmpty then t else cset t out (max (cget t out) (d + 1))) t)

def State.functionBad (s : State) (c : List Byte) (i : Nat) : Bool :=
  let r := slice c (816 + 16 * i) 16
  let rs := (List.range (stmtCount c)).map (stmtRec c)
  let t := delayRun rs (rs.length + 1) []
  let mask := fieldAt r 2 1
  let longest := ((List.range 8).filter (fun n => mask.testBit n)).foldl (fun m n =>
    max m (cget t (0x80 + n) - 1)) 0
  let paths := fieldAt r 1 1
  let tc := fieldAt s.plnSec 0 4
  let wd := match s.sconns.find? (fun k => k.conn == fieldAt r 12 2) with
    | some k => k.wdMs
    | none => 0
  let prog := fieldAt r 8 4
  -- T_mod in tenths of a µs
  let tmod := max (if bitOf paths 0 then 15000 + 11 * foxPath c mask else 0)
    (max (if bitOf paths 1 then 40000 + 10 * prog else 0)
      (max (if bitOf paths 2 then 30 * tc + 80000 else 0)
        (if bitOf paths 3 then 10000 * wd + 29000 else 0)))
  decide (prog < 1000 * longest) || decide (10 * fieldAt r 4 4 < tmod)

/-! ### Group 0x05 -/

def safetyTests (c : List Byte) : List FTest :=
  [(0, fieldAt c 0 4 != 0x46535745), (4, decide (32 < funcCount c)), zeros c 5 1,
   (6, decide (512 < stmtCount c)), (8, fieldAt c 8 2 == 0), zeros c 10 54]
  ++ recTests 64 8 16 (fun n => sdiTests (sdiRec c n))
  ++ recTests 192 4 4 (fun k => [(0, decide (1 < fieldAt c (192 + 4 * k) 1)), zeros (slice c (192 + 4 * k) 4) 1 3])
  ++ recTests 208 16 8 (fun n => sdoTests (sdoRec c n) (50000 + timersBetween c n))
  ++ recTests 336 8 48 (fun e => elemTests (slice c (336 + 8 * e) 8))
  ++ recTests 720 4 16 (fun t => timerTests (tmrRecOf c t))
  ++ recTests 784 2 10 (fun k => [(1, decide (1 < fieldAt c (785 + 2 * k) 1)
      || (sinkSrc c k == 0xFD && sinkInv c k))])
  ++ [zeros c 804 12]
  ++ recTests 816 16 (funcCount c) (funcTests c)
  ++ recTests (816 + 16 * funcCount c) 16 (stmtCount c) (fun i => stmtTests (stmtRec c i))

/-- 0x0502; a wrong LENGTH is reported with 0xFFFFFF (DESIGN CHOICE, log 27). -/
def safetyFormatRsn (c : List Byte) : Rsn :=
  let n := 816 + 16 * funcCount c + 16 * stmtCount c
  if fieldAt c 0 4 = 0x46535745 ∧ c.length ≠ n then some (0x502, 0xFFFFFF)
  else (firstBad (safetyTests c)).map (fun o => (0x502, o))

/-- 0x0502 to 0x0507 of a SAFETY section. The function that 0x0507 names is its FUNC_ID (DEDUCED, log 68), the lowest
that fails (R485). -/
def State.safetySecRsn (s : State) (c : List Byte) : Rsn :=
  (safetyFormatRsn c).or ((latticeRsn c).or
    ((((List.range 16).find? (sdiBad c)).map (fun n => (0x504, n))).or
      ((((List.range 8).find? (offPulseBad c)).map (fun n => (0x505, n))).or
        ((rtest (safProgBad c) 0x506 0).or
          (leastRsn 0x507 (((List.range (funcCount c)).filter (s.functionBad c)).map (fun i => fieldAt c (816 + 16 * i) 1)))))))

/-- The CRC of the SAFETY section of the state examined; 0 when absent (R289). -/
def State.safetyCrc (s : State) : Nat :=
  match s.sec? SEC_SAFETY with
  | some c => crc32c c
  | none => 0

/-- 0x0501 (R294). -/
def State.authRsn (s : State) : Rsn := rtest (s.safetyCrc != s.safNv.authCrc) 0x501 s.safetyCrc

/-- The locked lattice is the one that a section describes (R74). -/
def State.foxSame (s : State) (c : List Byte) : Bool :=
  let (e, t, k) := foxConfigWords c
  s.regBytes 0x20210100 96 == e.flatMap (fun w => leBytes 4 w.toNat)
    && s.regBytes 0x20210280 16 == t.flatMap (fun w => leBytes 4 w.toNat)
    && s.regBytes 0x202102C0 10 == k.flatMap (fun w => leBytes 4 w.toNat)

/-- Group 0x05 but for 0x0501; `readback`: the lattice returns what was written to it (R261). -/
def State.group05 (s : State) (readback : Bool) : Rsn :=
  let sec := s.sec? SEC_SAFETY
  let c := sec.getD []
  (match sec with
    | some c => s.safetySecRsn c
    | none => none).or
  ((rtest (s.safState == S_FAILSAFE) 0x508 s.saf.test).or
    ((rtest (!s.flag FOX_LOCKED && !readback) 0x508 0x40).or
      (rtest (s.flag FOX_LOCKED && !s.foxSame c) 0x509 0)))

end Sys2Proof.Machine
end

