-- ==== Sys2Proof/Machine/Sensors.lean ====
section
/-! DEFINITION. The sensors of the cope processor, their ranges and limits (R446, R454). -/

namespace Sys2Proof.Machine

/-- A sensor of Table COPE-1 in the units of Table COPE-2: its range, the warning limits in force and the alarm
limits; a limit that a sensor lacks is none. -/
structure Sensor where
  lo : Int
  hi : Int
  warnLo : Option Int
  warnHi : Option Int
  alarmLo : Option Int
  alarmHi : Option Int
  deriving DecidableEq, Repr

/-- A temperature sensor, limits in 0.01 degrees. -/
def tempSensor (hi warn alarm : Int) : Sensor := ⟨-5500, hi, none, some warn, none, some alarm⟩

/-- A supply of `mv` within `w` and `a` per mille. -/
def railSensor (top mv w a : Int) : Sensor :=
  ⟨0, top, some (mv * (1000 - w) / 1000), some (mv * (1000 + w) / 1000), some (mv * (1000 - a) / 1000),
    some (mv * (1000 + a) / 1000)⟩

/-- Table COPE-1 with its default warning limits; the ≥ limits of S28 stand one unit lower. -/
def sensorTable : List Sensor :=
  [⟨-5500, 12500, some (-4000), some 7000, none, some 8000⟩, ⟨-5500, 12500, some (-4000), some 7000, none, some 8000⟩,
   tempSensor 15000 10000 11500, tempSensor 15000 10000 11500, tempSensor 15000 9500 11000,
   tempSensor 15000 9500 11000, tempSensor 15000 9500 11000, tempSensor 15000 9500 11000,
   tempSensor 15000 8500 9500, tempSensor 15000 8500 9500, tempSensor 15000 7500 8500,
   tempSensor 15000 10000 12000]
  ++ [⟨0, 60000, some 19000, some 33000, some 18000, some 36000⟩,
   ⟨0, 60000, some 19000, some 33000, some 18000, some 36000⟩, ⟨0, 60000, some 44000, none, some 40000, none⟩,
   railSensor 20000 12000 30 50, railSensor 6000 5000 30 50, railSensor 6000 3300 30 50, railSensor 6000 1800 30 50,
   railSensor 6000 1100 30 50, railSensor 6000 600 30 50, railSensor 6000 800 30 50, railSensor 6000 1000 30 50,
   ⟨0, 60000, some 19000, some 30000, some 18000, some 32000⟩, railSensor 6000 3300 40 50,
   railSensor 6000 3000 30 50, ⟨0, 5000, none, some 3400, none, some 4000⟩,
   ⟨0, 20000, none, some 15000, none, some 16500⟩, ⟨0, 10000, none, some 4999, none, some 7999⟩,
   ⟨0, 16000, none, some 1000, none, some 2500⟩]

/-- A sensor's reading or limit from its encoding: signed for the temperatures. -/
def sensorNum (i v : Nat) : Int := if i < 12 then signedOf 16 v else (v : Int)

/-- The warning limit that a COPE section gives sensor `i` at offset `o`; none: the default. -/
def sensorLimit (c : List Byte) (i o : Nat) : Option Int :=
  let v := fieldAt c (16 + 4 * i + o) 2
  if c.isEmpty || v == 0xFFFF then none else some (sensorNum i v)

/-- Sensor `i` with the limits of a COPE section; empty: none. -/
def sensorOf (c : List Byte) (i : Nat) : Sensor :=
  let d := sensorTable.getD i ⟨0, 0, none, none, none, none⟩
  { d with warnLo := (sensorLimit c i 0).or d.warnLo,
           warnHi := ((sensorLimit c i 2).map (fun v => if i = 28 then v - 1 else v)).or d.warnHi }

/-- A warning limit of a COPE section lies outside the range or beyond the alarm limit of its side (R446). -/
def sensorLimitBad (c : List Byte) (i o : Nat) : Bool :=
  let d := sensorTable.getD i ⟨0, 0, none, none, none, none⟩
  match sensorLimit c i o with
  | none => false
  | some v =>
    decide (v < d.lo ∨ d.hi < v) ||
    (if o = 0 then (match d.alarmLo with
        | some a => decide (v < a)
        | none => false)
      else (match d.alarmHi with
        | some a => decide ((if i = 28 then a + 1 else a) < v)
        | none => false))

/-- The hysteresis of a sensor: 2 K, or 1 % of its range. -/
def Sensor.hyst (d : Sensor) (i : Nat) : Int := if i < 12 then 200 else (d.hi - d.lo) / 100

end Sys2Proof.Machine
end

