-- ==== Sys2Proof/Machine/CheckNet.lean ====
section
/-! DEFINITION. The formats of the sections beside SYSTEM, TIMETABLE, LOOPS, CURVES and PROGRAM, the network
and CAN groups of the consistency check (R328, R332, R333, R350 to R353, R357 to R368, R375, R395,
R396, R413, R432, R442, R454). -/

namespace Sys2Proof.Machine

/-- A field outside a closed range. -/
def outOf (bs : List Byte) (o n lo hi : Nat) : FTest := (o, decide (fieldAt bs o n < lo ∨ hi < fieldAt bs o n))

/-! ### Fields (0x010A) -/

def channelsTests (b : List Byte) : List FTest :=
  [(0, (List.range 32).any (fun n => bitOf (fieldAt b 0 4) n != (fieldAt b (16 + 128 * n) 1 != 0))), zeros b 4 12]

def canRecTests (r : List Byte) : List FTest :=
  let m := canMode r
  [(0, decide (3 < m)), (1, decide (3 < fieldAt r 1 1)),
   (3, if m = 3 then decide (canNcand r < 1 ∨ 16 < canNcand r) else canNcand r != 0),
   outOf r 12 1 0 127, outOf r 13 1 1 50, outOf r 14 2 10 10000, outOf r 16 4 1 100000, outOf r 20 4 0 1000000,
   zeros r 40 24]

def schedTests (r : List Byte) : List FTest :=
  let f := fieldAt r 2 1
  let n := fieldAt r 3 1
  [(0, decide (3 < fieldAt r 0 1)), (1, decide (31 < fieldAt r 1 1)), (2, decide (15 < f)),
   (3, if bitOf f 1 then !fdLen n else decide (8 < n)), (4, decide (2 ^ 29 ≤ fieldAt r 4 4)),
   outOf r 8 4 1 1000000, zeros r 12 4]

def canLen (b : List Byte) : Nat := 272 + 8 * canSum b 3 4 + 16 * canSum b 2 4 + 16 * fieldAt b 0 2

def canTests (b : List Byte) : List FTest :=
  [zeros b 2 2, zeros b 8 8] ++ recTests 16 64 4 (fun n => canRecTests (canRecOf b n))
    ++ recTests (canLen b - 16 * fieldAt b 0 2) 16 (fieldAt b 0 2) (fun i =>
      schedTests (slice b (canLen b - 16 * fieldAt b 0 2 + 16 * i) 16))

def networkLen (b : List Byte) : Nat := netFdbOff b + 12 * fieldAt b 12 2

def networkTests (b : List Byte) : List FTest :=
  [(0, decide (2 < fieldAt b 0 1)), (1, decide (3 < fieldAt b 1 1)), outOf b 4 2 64 1522, outOf b 6 1 0 32,
   outOf b 7 1 0 32, (8, fieldAt b 6 1 == 0 && fieldAt b 7 1 == 0 && fieldAt b 8 4 != 0), outOf b 12 2 0 256,
   outOf b 14 1 0 16, zeros b 15 1]
  ++ (List.range 8).map (fun c => (16 + 4 * c, fieldAt b (16 + 4 * c) 4 % 64 != 0)) ++ [zeros b 48 80]
  ++ recTests 128 8 (fieldAt b 14 1) (fun i =>
    let r := slice b (128 + 8 * i) 8
    [outOf r 2 1 0 7, outOf r 3 1 0 7, zeros r 4 4])
  ++ recTests (netGclOff b) 8 (fieldAt b 6 1 + fieldAt b 7 1) (fun i =>
    let r := slice b (netGclOff b + 8 * i) 8
    [(0, fieldAt r 0 4 == 0), zeros r 5 3])
  ++ recTests (netFdbOff b) 12 (fieldAt b 12 2) (fun i =>
    let r := slice b (netFdbOff b + 12 * i) 12
    [outOf r 8 1 0 7, zeros r 9 3])

def pourlineLen (b : List Byte) : Nat := plnLayOff b + plnLayoutBytes b

def pubTests (r : List Byte) (i : Nat) : List FTest :=
  [(0, fieldAt r 0 1 != i), (1, decide (1 < fieldAt r 1 1)), outOf r 2 2 0 1024, (4, fieldAt r 4 2 % 4 != 0),
   (14, decide (1023 < fieldAt r 14 2) && fieldAt r 14 2 != 0xFFFF), zeros r 24 8]

def subTests (r : List Byte) (i own : Nat) : List FTest :=
  [(0, fieldAt r 0 1 != i), (1, decide (5 < fieldAt r 1 1)), (2, decide (1023 < fieldAt r 2 2) || fieldAt r 2 2 == own),
   outOf r 4 1 0 63, outOf r 5 1 2 255, outOf r 6 2 0 1024, outOf r 20 1 0 31, zeros r 21 1, zeros r 26 6]

def connTests (r : List Byte) (i : Nat) : List FTest :=
  let n := fieldAt r 5 1
  [(0, fieldAt r 0 1 != i), zeros r 1 1, outOf r 2 2 0 1023, outOf r 4 1 0 63,
   (5, decide (n < 1 ∨ 64 < fieldAt r 4 1 + n)), (6, decide (63 < fieldAt r 6 1 ∨ 64 < fieldAt r 6 1 + n)), zeros r 7 1,
   zeros r 10 6]

def pourlineTests (b : List Byte) (own : Nat) : List FTest :=
  [outOf b 0 4 100 1000000, outOf b 4 2 1 1024, outOf b 6 1 0 64, outOf b 7 1 0 128, outOf b 8 1 0 8,
   outOf b 9 1 0 4, zeros b 10 2]
  ++ (List.range 4).map (fun i => (12 + 2 * i, decide (i < fieldAt b 9 1) && decide (1023 < fieldAt b (12 + 2 * i) 2)))
  ++ [(20, plnLayoutBytes b % 4 != 0), zeros b 32 32]
  ++ recTests plnPubOff 32 (plnPubs b) (fun i => pubTests (slice b (plnPubOff + 32 * i) 32) i)
  ++ recTests (plnSubOff b) 32 (plnSubs b) (fun i => subTests (slice b (plnSubOff b + 32 * i) 32) i own)
  ++ recTests (plnConnOff b) 16 (plnConns b) (fun i => connTests (slice b (plnConnOff b + 16 * i) 16) i)
  ++ recTests (plnLayOff b) 4 (plnLayoutBytes b / 4) (fun i =>
    let r := slice b (plnLayOff b + 4 * i) 4
    [outOf r 0 1 1 5, zeros r 1 1])

/-- Fields of the TIME section that name no PTP option (R333). -/
def timeTests (b : List Byte) : List FTest :=
  let acc := fieldAt b 13 1
  let asym (o : Nat) : FTest :=
    let v := signedOf 32 (fieldAt b o 4)
    (o, decide (v < -100000 ∨ 100000 < v))
  [(12, decide (fieldAt b 12 1 < 6) || (fieldAt b 5 1 == 1 && fieldAt b 12 1 != 255)),
   (13, (decide (acc < 0x17) || decide (0x31 < acc)) && acc != 0xFE), outOf b 16 4 1000 1000000000,
   outOf b 20 4 10 100000, outOf b 24 2 0 10000, outOf b 26 1 4 64, outOf b 27 1 0 15, outOf b 28 1 1 200,
   outOf b 29 1 0 1, zeros b 30 2, asym 32, asym 36, zeros b 40 24]

/-- Fields that name a PTP option (0x0706). -/
def ptpTests (b : List Byte) : List FTest :=
  let lg (o : Nat) (hi : Int) : FTest :=
    let v := signedOf 8 (fieldAt b o 1)
    (o, decide (v < -7 ∨ hi < v))
  [outOf b 0 1 0 1, outOf b 1 1 1 3, outOf b 2 1 0 127, outOf b 3 1 0 1, outOf b 4 1 0 1, outOf b 5 1 0 1, lg 6 1,
   outOf b 7 1 0 4, lg 8 5, outOf b 9 1 2 10]

def redTests (b ch : List Byte) : List FTest :=
  [outOf b 0 1 0 1, outOf b 1 1 0 1, outOf b 2 1 2 16, zeros b 3 1,
   (4, !inRange (f64ofRat 2 10) (f64ofRat 10 1) (crF b 4)), outOf b 8 2 20 10000, zeros b 10 2,
   (12, (List.range 32).any (fun n => bitOf (fieldAt b 12 4) n && !isOutMode (fieldAt ch (16 + 128 * n) 1))),
   zeros b 16 16]

def eventsTests (b : List Byte) : List FTest :=
  [zeros b 1 3, zeros b 8 8]
  ++ (List.range 4).map (fun p => zeros b (28 + 16 * p) 4)
  ++ (List.range 1024).map (fun c => (80 + 2 * c,
      decide (4095 < fieldAt b (80 + 2 * c) 2) || decide (6 < bitsOf (fieldAt b (80 + 2 * c) 2) 9 6)))
  ++ (List.range 64).flatMap (fun k =>
    let o := 2128 + 8 * k
    if k = 63 then [zeros b o 8] else [outOf b o 4 1 100000000, outOf b (o + 4) 2 1 1000, zeros b (o + 6) 2])

def countersTests (b : List Byte) : List FTest :=
  [outOf b 0 4 10 10000000, zeros b 8 8] ++ (List.range 128).flatMap (fun n =>
    let o := 16 + 4 * n
    [(o, !pmcSelOk (n / 8) (fieldAt b o 1) (fieldAt b (o + 1) 1)
        && !pmcSelOk (n / 8) (fieldAt b o 1) 0xFF),
     (o + 1, !pmcSelOk (n / 8) (fieldAt b o 1) (fieldAt b (o + 1) 1)), zeros b (o + 2) 2])

def ladleTests (b : List Byte) : List FTest :=
  [(0, (List.range 32).any (fun c => bitOf (fieldAt b 0 4) c != (fieldAt b (16 + 32 * c) 1 != 0))), zeros b 4 12]
  ++ recTests 16 32 32 (fun c =>
    let r := slice b (16 + 32 * c) 32
    let k := fieldAt r 0 1
    if k = 0 then (List.range 32).map (fun i => zeros r i 1)
    else [outOf r 0 1 1 2, outOf r 1 1 0 31, (2, decide (15 < fieldAt r 2 1) && fieldAt r 2 1 != 0xFF),
      outOf r 3 1 0 3, (4, if k = 1 then decide (fieldAt r 4 4 < 1 ∨ 10000000 < fieldAt r 4 4) else fieldAt r 4 4 != 0),
      (12, k == 2 && fieldAt r 12 4 != 0),
      (16, if k = 1 then decide (2 ^ 36 ≤ fieldAt r 16 8) else fieldAt r 16 8 != 0), zeros r 24 8])

def copeTests (b : List Byte) : List FTest :=
  [outOf b 6 1 0 4, zeros b 7 9] ++ (List.range 30).flatMap (fun i =>
    [(16 + 4 * i, sensorLimitBad b i 0), (18 + 4 * i, sensorLimitBad b i 2)]) ++ [zeros b 136 8]

/-! ### Group 0x07 -/

/-- Two periodic intervals, as start, length and period, meet somewhere. -/
def periodicMeet (a1 w1 p1 a2 w2 p2 : Nat) : Bool :=
  let g := Nat.gcd p1 p2
  if g = 0 then false
  else
    let d := (a2 % g + g - a1 % g) % g
    decide (d < w1) || decide (g < w2 + d)

def stateHyper (s : State) : Nat := fieldAt (s.sec SEC_TIMETABLE) 0 4

/-- The transit windows of a gate control list: start and length within its cycle. -/
def transits (es : List (List Byte)) : List (Nat × Nat) :=
  (es.foldl (fun (x : Nat × List (Nat × Nat)) e =>
    let i := fieldAt e 0 4
    (x.1 + i, if bitOf (fieldAt e 4 1) 7 then (x.1, i) :: x.2 else x.2)) (0, [])).2

/-- Lowest port of a mask. -/
def lowPort (m : Nat) : Nat := ((List.range 3).find? (fun p => m.testBit p)).getD 0

/-- A gate control list of port `p` fails R351. -/
def State.gclBad (s : State) (p : Nat) : Bool :=
  let b := s.netSec
  let es := netGcl b p
  let cyc := fieldAt b 8 4
  let guard := (8 * (fieldAt b 4 2 + 20) + 999) / 1000
  !es.isEmpty && ((es.map (fun e => fieldAt e 0 4)).foldl (· + ·) 0 != cyc || cyc == 0 || stateHyper s % cyc != 0
    || (transits es).any (fun w => (s.entries.filter (fun e => e.kind == KIND_PLN_PUB)).any (fun e =>
      periodicMeet w.1 w.2 cyc (e.offset + e.period - guard % e.period) (guard + (s.pubRec e.object).win) e.period)))

/-- 0x0702: failing ports of R351 (ports of a VID: DESIGN CHOICE, log 27). -/
def State.vlanPorts (s : State) : List Nat :=
  let b := s.netSec
  let vs := netVlans b
  let vids := vs.map (fun v => fieldAt v 0 2)
  let vidBad (v : Nat) : Bool := decide (v < 1 ∨ 4094 < v)
  ((List.range vs.length).filter (fun i => vidBad (vids.getD i 0) || dupAt vids i)).map
      (fun i => lowPort (fieldAt (vs.getD i []) 2 1))
  ++ ((netFdb b).filter (fun e => vidBad (fieldAt e 6 2))).map (fun e => lowPort (fieldAt e 8 1))
  ++ (if vidBad (fieldAt b 2 2) || !bitOf (s.vidPorts (fieldAt b 2 2)) 0 then [0] else [])
  ++ [1, 2].filter s.gclBad

/-- 0x0705 (R350). -/
def State.redPorts (s : State) : List Nat :=
  let b := s.netSec
  let m := fieldAt b 0 1
  let ct := (s.sec? SEC_TIME).map (fun t => fieldAt t 1 1)
  (if m = 1 ∨ m = 2 then [1, 2].filter (fun p => !bitOf (fieldAt b 1 1) (p - 1)) else [])
  ++ (if m = 1 ∧ ct = some 1 then [1] else [])
  ++ (if m = 2 ∧ ct ≠ none ∧ ct ≠ some 1 then [1] else [])
  ++ (if m = 2 then ((netFdb b).filter (fun e => fieldAt e 8 1 / 2 == 1 || fieldAt e 8 1 / 2 == 2)).map
      (fun e => lowPort (fieldAt e 8 1 / 2 * 2)) else [])

/-- Table PLN-7. -/
def minCycle (g : Nat) : Nat :=
  if g ≤ 32 then 100 else if g ≤ 64 then 250 else if g ≤ 128 then 500 else if g ≤ 256 then 1000
  else if g ≤ 512 then 2500 else 10000

/-- Connection `i` fails R362. -/
def State.connBad (s : State) (i : Nat) : Bool :=
  let cs := s.sconns
  let c := sconnAt s.plnSec i
  decide (c.wdMs < 5 ∨ 2000 < c.wdMs ∨ 1000 * c.wdMs < 3 * fieldAt s.plnSec 0 4 + 2000)
    || (cs.take i).any (fun d => d.mask &&& c.mask != 0)
    || !(List.range s.subCount).any (fun n => carrySub (s.subRec n) c.station)

/-- A Pourline entry of the I/O map names no variable of its direction. -/
def State.ioPlnBad (s : State) (e : IoEnt) : Bool := e.kind == 3 && !s.handleOk (e.dir == 1) e.object

/-- List indices of 0x0704. -/
def State.listFaults (s : State) : List Nat :=
  let subs := (List.range s.subCount).map (fun i => (s.subRec i).station)
  let io := ioMap s.prg.image
  (pubListRefusal s.net.pubList s.pubCount subs).toList
    ++ (subListRefusal s.net.subList s.subCount s.stationId [] []).toList
    ++ (List.range (plnConns s.plnSec)).filter s.connBad
    ++ (List.range io.length).filter (fun i => match io[i]? with
      | some e => s.ioPlnBad e
      | none => false)

/-- A frame with the own station ID from a foreign source was heard in the last 20 ms (R368). -/
def State.dupHeard (s : State) : Bool :=
  match s.net.dupAt with
  | some t => decide (s.mono ≤ t + 20000000)
  | none => false

def State.group07 (s : State) : Rsn :=
  let pl := s.plnSec
  let tc := fieldAt pl 0 4
  (rtest s.dupHeard 0x701 s.stationId)
    <|> (if s.hasSec SEC_NETWORK then leastRsn 0x702 s.vlanPorts else none)
    <|> (if s.hasSec SEC_POURLINE then
        rtest (decide (tc < minCycle (fieldAt pl 4 2)) || tc == 0 || stateHyper s % tc != 0) 0x703 tc else none)
    <|> leastRsn 0x704 s.listFaults
    <|> (if s.hasSec SEC_NETWORK then leastRsn 0x705 s.redPorts else none)
    <|> (if s.hasSec SEC_TIME then (firstBad (ptpTests (s.sec SEC_TIME))).map (fun o => (0x706, o)) else none)

/-! ### Group 0x08 -/

/-- A pair of bit timing words outside R375, apart from the rates of 0x0803. -/
def timingBad (nw dw : Nat) (tdc : Bool) : Bool :=
  let (_, n1, n2, sj) := nbt nw
  let (_, d1, d2, dj) := dbt dw
  decide (2 ^ 31 ≤ nw) || decide (n2 < sj) || decide (2 ^ 18 ≤ dw) || decide (d2 < dj)
    || decide (1 + n1 + n2 < 8) || decide (385 < 1 + n1 + n2)
    || decide (nomCycles nw < 40) || decide (4000 < nomCycles nw)
    || decide (1 + d1 + d2 < 5) || (!tdc && decide (dataCycles dw < 40))

def dataRateBad (nw dw : Nat) : Bool := decide (dataCycles dw < 8 ∨ nomCycles nw < dataCycles dw)

def State.canTxEntries (s : State) : List Nat :=
  (s.entries.filter (fun e => e.kind == KIND_CAN_TX)).map (fun e => e.object)

/-- Controller `n` fails 0x0805 (R396). -/
def State.bufsBad (s : State) (n : Nat) : Bool :=
  let recs := (schedRecs s.can.sched).map (fun r => fieldAt r 0 1 * 256 + fieldAt r 1 1)
  let mine := recs.filter (fun k => k / 256 == n)
  let es := s.canTxEntries.filter (fun k => k / 256 == n)
  es.any (fun k => decide (31 < k % 256) || !recs.contains k) || mine.any (fun k => es.count k != 1 || mine.count k != 1)

/-- Group 0x08; an absent CAN section has no records to test, and a CAN_TX entry fails all the same (R375, R396). -/
def State.group08 (s : State) : Rsn :=
  let b := s.sec SEC_CAN
  let ctl := List.range 4
  let r (n : Nat) : List Byte := canRecOf b n
  let tdc (n : Nat) : Bool := bitOf (fieldAt (r n) 1 1) 1
  let test (code : Nat) (f : Nat → Bool) : Rsn := (ctl.find? f).map (fun n => (code, n))
  let recs : Rsn := test 0x801 (fun n => timingBad (fieldAt (r n) 4 4) (fieldAt (r n) 8 4) (tdc n))
    <|> ctl.findSome? (fun n =>
      ((List.range (min 128 (canFltCount (r n)))).find? (fun i => filterBad (slice (canFilters b n) (16 * i) 16))).map
        (fun i => (0x802, n * 256 + i))
      <|> rtest (decide (128 < canFltCount (r n))) 0x802 (n * 256 + 128))
    <|> test 0x803 (fun n => dataRateBad (fieldAt (r n) 4 4) (fieldAt (r n) 8 4))
    <|> test 0x804 (fun n => canMode (r n) == 3 && (List.range (canNcand (r n))).any (fun k =>
      let c := canCand b n k
      timingBad c.1 c.2 (tdc n) || dataRateBad c.1 c.2))
  (if s.hasSec SEC_CAN then recs else none)
    <|> leastRsn 0x805 (ctl.filter s.bufsBad ++ (s.canTxEntries.filter (fun k => decide (1023 < k))).map (· / 256))

end Sys2Proof.Machine
end

