-- ==== Sys2Proof/Machine/CheckSeq.lean ====
section
/-! DEFINITION. Groups 0x02 and 0x09 of the consistency check: admission of the timetable, and placement
of rings, images, regions and buffers (R20, R28, R35, R59, R65, R84 to R99, R118, R122, R134, R146, R152,
R307, R308, R354, R387, R406, R413, R432). -/

namespace Sys2Proof.Machine

/-- Quotient rounded up. -/
def ceilDiv (a b : Nat) : Nat := (a + b - 1) / b

/-! ### Stacks (R84, R85) -/

/-- Snapshot and commit windows of a task in µs. -/
def snapUs (r : TaskRec) : Nat := 2 + ceilDiv r.inBytes 2000
def commitUs (r : TaskRec) : Nat := 3 + ceilDiv r.outBytes 2000

/-- Tasks in priority order. -/
def State.byPrio (s : State) : List TaskRec := s.taskRecs.mergeSort (fun a b => decide (a.prio ≤ b.prio))
def State.cyclicTasks (s : State) : List TaskRec := s.taskRecs.filter TaskRec.cyclic

/-- Cyclic tasks in priority order whose snapshot instant, or commit instant, is `t` modulo the hyperperiod. -/
def State.snapStack (s : State) (t : Nat) : List TaskRec :=
  s.byPrio.filter (fun r => r.cyclic && r.period != 0 && t % r.period == r.phase % r.period)
def State.commitStack (s : State) (t : Nat) : List TaskRec :=
  s.byPrio.filter (fun r => r.cyclic && r.period != 0 && t % r.period == (r.phase + r.cmt) % r.period)

def sumUs (f : TaskRec → Nat) (rs : List TaskRec) : Nat := rs.foldl (fun a r => a + f r) 0

/-- The tasks of a stack up to and including `r`. -/
def upTo (rs : List TaskRec) (r : TaskRec) : List TaskRec := rs.filter (fun q => decide (q.prio ≤ r.prio))

/-- Instants of a cyclic task in one hyperperiod `h`. -/
def instants (r : TaskRec) (h : Nat) : List Nat :=
  (List.range (if r.period = 0 then 0 else h / r.period)).map (fun m => r.phase + m * r.period)

/-- A window on the circle of the hyperperiod: start, length, entry index. -/
abbrev Win := Nat × Nat × Nat

/-- A window cut at the end of the hyperperiod. -/
def cutWin (h : Nat) (w : Win) : List Win :=
  let a := w.1 % h
  if a + w.2.1 ≤ h then [(a, w.2)] else [(a, h - a, w.2.2), (0, a + w.2.1 - h, w.2.2)]

/-- Greater indices of the pairs of windows, sorted by start, that meet. -/
def clashes : List Win → List Nat
  | [] => []
  | w :: r => ((r.takeWhile (fun v => decide (v.1 < w.1 + w.2.1))).map (fun v => max w.2.2 v.2.2)) ++ clashes r

/-- The windows of every task in its stacks over one hyperperiod. -/
def State.stackWins (s : State) (h : Nat) : List Win :=
  let cs := s.cyclicTasks
  (List.range cs.length).flatMap (fun k =>
    match cs[k]? with
    | none => []
    | some r =>
      (instants r h).flatMap (fun t =>
        let up := upTo (s.snapStack t) r
        let c := t + r.cmt
        let all := s.commitStack c
        let at' := c + h + sumUs commitUs (upTo all r) - sumUs commitUs all - commitUs r
        [(t + sumUs snapUs up - snapUs r, snapUs r, 2 * k), (at', commitUs r, 2 * k + 1)]))

/-- Resource of an entry and the length of its claim in µs (Table POUR-4); an entry that names nothing of its kind claims
no time. -/
def State.claimOf (s : State) (e : Entry) : Option (Nat × Nat) :=
  let claim (k w : Nat) : Option (Nat × Nat) := if w = 0 then none else some (k, w)
  if e.kind = KIND_CRUCIBLE then claim 0 (ceilDiv (1000 + 160 * ceilDiv (e.arg % 256 + 1) 2) 1000)
  else if e.kind = KIND_CAN_TX then
    claim (1 + e.object / 256) (match s.schedRec (e.object / 256) (e.object % 256) with
      | some r => fieldAt r 8 4
      | none => 0)
  else if e.kind = KIND_PLN_PUB then claim 300 (if e.object < s.pubCount then (s.pubRec e.object).win else 0)
  else if e.kind = KIND_LADLE then claim 301 (fieldAt (s.ldlRec e.object) 4 4)
  else none

/-- Entry `i` (section order) meets an earlier claim of its resource, or a CRUCIBLE entry its own next occurrence
(R146); a window that ends exactly at that instant reaches it (DEDUCED, log 79). -/
def State.claimClash (s : State) (es : List Entry) (i : Nat) : Bool :=
  match es[i]? with
  | none => false
  | some e =>
    match s.claimOf e with
    | none => false
    | some (k, w) =>
      (k == 0 && decide (e.period ≤ w)) || (es.take i).any (fun f =>
        match s.claimOf f with
        | some (j, v) => j == k && periodicMeet f.offset v f.period e.offset w e.period
        | none => false)

/-- 0x0203 (R85), its causes in index order (R99). An OFFSET_US or PERIOD_US that R85 names is refused here and not
with the 0x010A of R86 (DEDUCED, log 48). -/
def State.overlapRsn (s : State) : Rsn :=
  let h := s.hyperUs
  let es := s.entries
  let base := 2 * s.cyclicTasks.length
  if 512 < base + es.length then some (0x203, 512)
  else
    let idx := List.range es.length
    let one := idx.filter (fun i => match es[i]? with
      | some e => h % e.period != 0 || decide (e.period ≤ e.offset)
      | none => false)
    let meet := idx.filter (s.claimClash es)
    let wins := ((s.stackWins h).flatMap (cutWin h)).mergeSort (fun a b => decide (a.1 ≤ b.1))
    leastRsn 0x203 (one.map (base + ·) ++ meet.map (base + ·) ++ clashes wins)

/-- 0x0204 (R85). -/
def State.hyperRsn (s : State) : Rsn :=
  let h := s.hyperUs
  rtest (decide (h < 50 ∨ 10000000 < h)) 0x204 0xFF
    <|> (s.cyclicTasks.find? (fun r => h % r.period != 0)).map (fun r => (0x204, r.task))

/-! ### Times of a pour (R94, R308) -/

/-- W_f (R305). -/
def wireBytes (b : Nat) : Nat := b + 20 * ceilDiv b 1024
/-- The replay time of one input region. -/
def replayUs (r : TaskRec) : Nat := ceilDiv (wireBytes r.inBytes) 500

/-- Hyperperiod instants of every cyclic task. -/
def State.allInstants (s : State) : List Nat := s.cyclicTasks.flatMap (fun r => instants r s.hyperUs)

/-- F - E in µs of a task's tightest pour; `replay`: with E'. -/
def State.slack (s : State) (replay : Bool) (r : TaskRec) : Int :=
  if r.cyclic then
    let one (t : Nat) : Int :=
      let up := upTo (s.snapStack t) r
      let e := sumUs snapUs up
      let e := if replay then max e (3 + sumUs replayUs up) else e
      (r.cmt : Int) - sumUs commitUs (s.commitStack (t + r.cmt)) - e
    ((instants r s.hyperUs).map one).min?.getD 0
  else
    let ts := s.allInstants
    let others := s.byPrio.filter (fun q => q.event && q.task != r.task)
    let stack := ts.foldl (fun m t => max m (sumUs snapUs (s.snapStack t))) 0
    let cstack := (s.cyclicTasks.flatMap (fun q => (instants q s.hyperUs).map (· + q.cmt))).foldl
      (fun m t => max m (sumUs commitUs (s.commitStack t))) 0
    let b := max stack cstack + sumUs (fun q => snapUs q + commitUs q) others
    let br := ts.foldl (fun m t => max m (3 + sumUs replayUs (s.snapStack t))) 0
      + sumUs (fun q => 3 + replayUs q) others
    let e := if replay then r.trigLat + br + 3 + replayUs r else r.trigLat + b + snapUs r
    (r.cmt : Int) - commitUs r - b - e

/-- D in ns. -/
def State.avail (s : State) (replay : Bool) (r : TaskRec) : Int := s.slack replay r * 9995 / 10

/-- The budget C in ns (R88). -/
def State.budget (s : State) (r : TaskRec) : Nat := ceilDiv (wcetOf s.prg.image r.task * r.margin) 256 + 2000

/-- The response iteration of R95: true when it exceeds `d`. -/
def respBad (c : Nat) (hi : List (Nat × Nat)) (d : Int) : Nat → Nat → Bool
  | 0, _ => true
  | k + 1, resp =>
    let nxt := c + hi.foldl (fun a j => a + ceilDiv resp j.1 * j.2) 0
    if d < (nxt : Int) then true else if nxt = resp then false else respBad c hi d k nxt

def State.pairBad (s : State) (replay : Bool) (p : Nat) : Bool :=
  let ts := s.byPrio.filter (fun r => r.pair == p)
  let use : Rat := ts.foldl (fun a r => a + mkRat (s.budget r) (r.period * 1000)) 0
  decide (1 < use) || ts.any (fun r =>
    let hi := (ts.filter (fun q => decide (q.prio < r.prio))).map (fun q => (q.period * 1000, s.budget q))
    let d := s.avail replay r
    respBad (s.budget r) hi d (d.toNat + 2) (s.budget r))

/-! ### Capacities (R97, R98, R307) -/

/-- The first task in priority order whose addition lifts a running sum above `lim`. -/
def sumOver (lim : Rat) (f : TaskRec → Rat) : Rat → List TaskRec → Option Nat
  | _, [] => none
  | a, r :: rs => if lim < a + f r then some r.task else sumOver lim f (a + f r) rs

def State.copyRsn (s : State) : Rsn :=
  let ts : List TaskRec := s.byPrio
  let cru : Rat := (s.entries.filter (fun e => e.kind == KIND_CRUCIBLE)).foldl (fun a e =>
    let n := e.arg % 256 + 1
    a + mkRat (32 * n + 36 * ceilDiv n 31) e.period) 0
  ((ts.find? (fun (r : TaskRec) => decide (TaskRec.period r * 65536 < TaskRec.copyBytes r * 100))).map TaskRec.task
    <|> sumOver (mkRat 65536 100) (fun r => mkRat r.copyBytes r.period) 0 ts
    <|> (if (480 : Rat) < cru then some 0xFF else none)
    <|> sumOver 480 (fun r => mkRat (wireBytes r.inBytes + 180) r.period) cru ts).map (fun a => (0x207, a))

/-- The replay load that the check admitted, and the copy load, in bytes per µs rounded up (R97, R307). -/
def State.replayLoad (s : State) : Nat :=
  let cru : Rat := (s.entries.filter (fun e => e.kind == KIND_CRUCIBLE)).foldl (fun a e =>
    let n := e.arg % 256 + 1
    a + mkRat (32 * n + 36 * ceilDiv n 31) e.period) 0
  let q : Rat := s.taskRecs.foldl (fun a r => a + mkRat (wireBytes r.inBytes + 180) r.period) cru
  ceilDiv q.num.toNat q.den

def State.copyLoad (s : State) : Nat :=
  let q : Rat := s.taskRecs.foldl (fun a r => a + mkRat r.copyBytes r.period) 0
  ceilDiv q.num.toNat q.den

/-- Results of a cell in bytes per µs (R210). The 64 bytes of a WAVE cycle result stand in place of the 16 of a result
(DESIGN CHOICE, log 67). -/
def cellTraffic (r : List Byte) : Rat :=
  let m := crMode r
  if m = M_WAVE then mkRat (64 * 70) 1000000
  else if m = M_DO then mkRat 16 100
  else if m = M_DI then mkRat 16 100 + mkRat 16 (max (fieldAt r 26 2) 1)
  else if m = M_UNUSED then 0 else mkRat 16 (crGrid r)

/-- CAN traffic of a controller: its rate in detection is that of its fastest candidate (DESIGN CHOICE, log 27). -/
def canTraffic (sec : List Byte) (n : Nat) : Rat :=
  let r := canRecOf sec n
  let c := if canMode r = 3 then ((List.range (canNcand r)).map (fun k => nomCycles (canCand sec n k).1)).min?.getD 0
    else nomCycles (fieldAt r 4 4)
  if canMode r = 0 then 0 else mkRat (2128 * 40) (c * 47)

/-- The fraction of the hyperperiod that ACYCLIC windows cover (R98). -/
def State.acyclicShare (s : State) : Rat :=
  let h := s.hyperUs
  let ws := (s.entries.filter (fun e => e.kind == KIND_ACYCLIC)).flatMap (fun e =>
    (List.range (if e.period = 0 then 0 else h / e.period)).flatMap (fun m =>
      cutWin h (e.offset + m * e.period, min e.arg h, 0)))
  let free : Nat := (gapsOf 0 h (ws.map (fun w => (w.1, w.2.1)))).foldl (fun a g => a + (g.2 - g.1)) 0
  mkRat ((h : Int) - (free : Int)) h

/-- The class 0 and 1 traffic of target port `p` in MB/s (R98). The declared copies count against port 10, wherever
the state regions lie (DESIGN CHOICE, log 49). -/
def State.portLoad (s : State) (p : Nat) : Rat :=
  let ladle : Rat := (s.entries.filter (fun e => e.kind == KIND_LADLE)).foldl (fun a e =>
    a + mkRat (2 * fieldAt (s.ldlRec e.object) 12 4 + 64) e.period) 0
  let both := ladle + 9600 * s.acyclicShare + 751
  if p = 11 then both
  else
    let tasks : Rat := s.taskRecs.foldl (fun a r => a + mkRat (r.inBytes + r.outBytes + r.copyBytes) r.period) 0
    let loops : Rat := ((List.range 256).filter s.loopEn).foldl (fun a n =>
      let t := s.regN (lreg n 0x18)
      let r := s.regN (lreg n 0x14)
      a + mkRat (if refKind r = 1 then 80 else 64) t) 0
    let cells : Rat := if s.hasSec SEC_CHANNELS then
        (List.range 32).foldl (fun a n => a + cellTraffic (s.cellRec n)) 0 else 0
    let cmds : Rat := (s.ioOuts.filter (fun e => e.kind == 1)).foldl (fun a e =>
      a + (match s.taskRec? e.task with
        | some r => mkRat 16 r.period
        | none => 0)) 0
    let pubs : Rat := (s.entries.filter (fun e => e.kind == KIND_PLN_PUB)).foldl (fun a e =>
      a + mkRat ((s.pubRec e.object).bytes + 32) e.period) 0
    let subs : Rat := (List.range s.subCount).foldl (fun a n =>
      a + mkRat ((s.subRec n).bytes + 32) (s.subRec n).period) 0
    let can : Rat := if s.hasSec SEC_CAN then (List.range 4).foldl (fun a n => a + canTraffic (s.sec SEC_CAN) n) 0
      else 0
    both + tasks + loops + cells + cmds + pubs + subs + can

/-! ### Group 0x02 -/

/-- Ladle channel `c` fails R406. -/
def State.ladleBad (s : State) (c : Nat) : Bool :=
  let r := s.ldlRec c
  let k := fieldAt r 0 1
  let es := s.entries.filter (fun e => e.kind == KIND_LADLE && e.object == c)
  (k != 0 && (decide (fieldAt r 8 4 < 1 ∨ 2000 < fieldAt r 8 4)
      || (List.range c).any (fun d => fieldAt (s.ldlRec d) 0 1 != 0 && fieldAt (s.ldlRec d) 1 1 == fieldAt r 1 1)))
  || (k == 1 && (decide (fieldAt r 4 4 < fieldAt r 8 4) || es.length != 1
      || es.any (fun e => decide (e.period < fieldAt r 4 4))))
  || (k != 1 && !es.isEmpty)

/-- Publication `p` fails R354. -/
def State.pubBadWin (s : State) (p : Nat) : Bool :=
  let r := s.pubRec p
  let es := s.entries.filter (fun e => e.kind == KIND_PLN_PUB && e.object == p)
  decide (r.win < 2 + ceilDiv (wireNs r.bytes s.redMode) 1000) || es.length != 1
    || es.any (fun e => e.period % fieldAt s.plnSec 0 4 != 0)

/-- The objects of the entries of a kind in index order (R99), then the `n` objects that may lack an entry by number
(DESIGN CHOICE, log 61). -/
def State.objectsOf (s : State) (kind n : Nat) : List Nat :=
  (s.entries.filter (fun e => e.kind == kind)).map (·.object) ++ List.range n

def loopPeriodBad (s : State) (n : Nat) : Bool :=
  let t := s.regN (lreg n 0x18)
  s.loopEn n && decide (t < 10 ∨ 10000000 < t)

def State.group02 (s : State) : Rsn :=
  let ts := s.byPrio
  let task (code : Nat) (bad : TaskRec → Bool) : Rsn := (ts.find? bad).map (fun r => (code, r.task))
  let evs := ts.filter TaskRec.event
  let loops := (List.range 256).filter s.loopEn
  let evals : Rat := loops.foldl (fun a n => a + mkRat 1000000 (s.regN (lreg n 0x18))) 0
  let noSlack (replay : Bool) (r : TaskRec) : Bool :=
    decide (s.slack replay r ≤ 0) || (r.cyclic && decide (r.period < r.phase + r.cmt)) || (r.event && r.phase != 0)
  let above (replay : Bool) (r : TaskRec) : Bool := decide (s.avail replay r < (s.budget r : Int))
  let pair (replay : Bool) : Rsn := ([0, 1].find? (s.pairBad replay)).map (fun p => (0x202, p))
  let pubs := (s.objectsOf KIND_PLN_PUB s.pubCount).filter (fun p => decide (s.pubCount ≤ p) || s.pubBadWin p)
  let ladles := (s.objectsOf KIND_LADLE 32).filter (fun c => decide (32 ≤ c) || s.ladleBad c)
  task 0x20C (fun r => decide (r.period < 50 ∨ 10000000 < r.period))
    <|> s.hyperRsn
    <|> s.overlapRsn
    <|> task 0x208 (noSlack false) <|> task 0x208 (noSlack true)
    <|> task 0x201 (above false) <|> task 0x201 (above true)
    <|> pair false <|> pair true
    <|> (evs[16]?).map (fun r => (0x20D, r.task))
    <|> task 0x20D (fun r => r.event && decide (r.trigLat < 4 ∨ r.period < r.cmt))
    <|> ((List.range 256).find? (loopPeriodBad s)).map (fun n => (0x206, n))
    <|> rtest (decide (10000000 < evals)) 0x205 evals.floor.toNat
    <|> (ladles.head?).map (fun c => (0x209, c))
    <|> (pubs.head?).map (fun p => (0x20A, p))
    <|> (schedRefusal (s.sec SEC_CAN) s.can.sched s.canTxPeriod).map (fun a => (0x20B, a))
    <|> s.copyRsn
    <|> ([10, 11].find? (fun p => decide (7200 < s.portLoad p))).map (fun p => (0x20E, p))

/-! ### Group 0x09 -/

/-- Bytes of [a, a + n) that lie in [lo, hi). -/
def inside (a n lo hi : Nat) : Nat := min (a + n) hi - max a lo
def outside (a n lo hi : Nat) : Nat := n - inside a n lo hi

/-- Areas of R118 and Table SYS-10: the SRAM general area, the runtime area, LPDDR4X and its pattern area. -/
abbrev GEN_END : Nat := 0x700000
abbrev RT_LO : Nat := 0x680000
abbrev DDR_LO : Nat := 0x100000000
abbrev DDR_HI : Nat := 0x200000000
abbrev PATAREA : Nat := 0x1FF000000

/-- Enabled rings as start and bytes. -/
def State.rings (s : State) : List (Nat × Nat) :=
  ((List.range 64).filter s.qEnabled).map (fun q => (s.qBase q, ringBytes (s.qLog q) (s.qEsize q)))

/-- Input and output regions of the tasks. -/
def State.taskRegions (s : State) : List (Nat × Nat) :=
  s.taskRecs.flatMap (fun r => [(r.inBase, r.inBytes), (r.outBase, r.outBytes)])
def State.stacks (s : State) : List (Nat × Nat) := (imgTasks s.prg.image).map (fun t => (t.stackBase, t.stackBytes))
/-- State regions of the tasks. -/
def State.stateRegions (s : State) : List (Nat × Nat) := (imgTasks s.prg.image).map (fun t => (t.stateBase, t.stateBytes))
def State.segPlaces (s : State) : List (Nat × Nat) := (segs s.prg.image).map (fun g => (g.load, g.memLen))

/-- Bytes of a segment outside the areas of its KIND (R122). -/
def segOutside (g : Seg) : Nat :=
  if g.kind = 6 then outside g.load g.memLen 0x1000000 0x1200000
  else min (outside g.load g.memLen 0 GEN_END) (outside g.load g.memLen DDR_LO DDR_HI)

/-- Buffer areas of SRAM that the sections name: start and bytes (R351, R395, R432). -/
def State.bufferAreas (s : State) : List (Nat × Nat) :=
  let net := if s.hasSec SEC_NETWORK then
      ((List.range 8).filter (fun c => s.qEnabled (32 + c))).map (fun c =>
        (fieldAt s.netSec (16 + 4 * c) 4, s.qSize (32 + c) * 1536)) else []
  let can := if s.hasSec SEC_CAN then
      (List.range 4).flatMap (fun n =>
        let r := s.canRec n
        [(fieldAt r 24 4, 2048), (fieldAt r 28 4, 2048)] ++ [0, 1].map (fun f =>
          (fieldAt r (32 + 4 * f) 4, if s.qEnabled (16 + 2 * n + f) then s.qSize (16 + 2 * n + f) * 64 else 0)))
      ++ [(fieldAt (s.sec SEC_CAN) 4 4, 16 * fieldAt (s.sec SEC_CAN) 0 2)] else []
  let evr := if s.hasSec SEC_EVENTS then [(fieldAt (s.sec SEC_EVENTS) 4 4, 2560)] else []
  net ++ can ++ evr

/-- HEADs of the scheduled Ladle channels. -/
def State.heads (s : State) : List Nat :=
  ((List.range 32).filter (fun c => s.ldlKind c == 1)).map (fun c => fieldAt (s.ldlRec c) 16 8)

/-- The byte counts of every violation of 0x0905. -/
def State.placeFaults (s : State) : List Nat :=
  let gs := segs s.prg.image
  let ps := s.segPlaces
  let others := s.taskRegions ++ s.stacks ++ s.rings
  let above := ((List.range ps.length).flatMap (fun i => (ps.take i ++ others).map (fun q =>
      let p := ps.getD i (0, 0)
      inside p.1 p.2 q.1 (q.1 + q.2)))).filter (· != 0)
  let outs := (gs.map segOutside ++ (s.taskRegions ++ s.stacks).map (fun q => outside q.1 q.2 0 GEN_END)).filter (· != 0)
  let rt := ((ps ++ others ++ s.stateRegions).map (fun q => inside q.1 q.2 RT_LO GEN_END)).filter (· != 0)
  let bufs := s.bufferAreas.flatMap (fun q =>
    let n := outside q.1 q.2 0 GEN_END
    if n ≠ 0 ∨ q.1 % 64 ≠ 0 ∨ GEN_END < q.1 then [n] else [])
  let hs := s.heads.flatMap (fun a =>
    let n := min (outside a 32 0 GEN_END) (outside a 32 DDR_LO DDR_HI)
    if n ≠ 0 ∨ a % 32 ≠ 0 then [n] else [])
  above ++ outs ++ rt ++ bufs ++ hs

/-- Bytes by which the retentive data and its map exceed their partition (R134). -/
def State.retainOver (s : State) : List Nat :=
  let n := ((syms s.prg.image).filter Sym.retain).length
  let top := 0x11FFFC0 - 16 * n
  (((segs s.prg.image).filter (fun g => g.kind == 6)).map (fun g => g.load + g.memLen - top)).filter (· != 0)

/-- The size of the saved runtime state (R65). -/
def State.saveBytes (s : State) : Nat :=
  16384 + (imgTasks s.prg.image).foldl (fun a t => a + t.stateBytes) 0 + 384 * ((List.range 256).filter s.loopEn).length

/-- Everything that the pattern places in memory: start and bytes (R28). -/
def State.placedAreas (s : State) : List (Nat × Nat) :=
  s.segPlaces ++ s.taskRegions ++ s.stacks ++ s.stateRegions ++ s.rings ++ s.bufferAreas ++ s.heads.map (fun a => (a, 32))

/-- Admitted activity references domain `d` (R28). -/
def State.domainRefd (s : State) (d : Nat) : Bool :=
  if d < 2 then s.taskRecs.any (fun r => r.pair == d)
  else if d = 2 then (List.range 256).any s.loopEn || s.entries.any (fun e => e.kind == KIND_CRUCIBLE)
  else if d = 3 then (List.range 32).any (fun c => s.ldlKind c != 0) || s.entries.any (fun e => e.kind == KIND_LADLE)
  else if d < 8 then (List.range 8).any (fun c => crMode (s.cellRec (8 * (d - 4) + c)) != 0) && s.hasSec SEC_CHANNELS
  else if d < 12 then (s.hasSec SEC_CAN && canMode (s.canRec (d - 8)) != 0)
    || s.canTxEntries.any (fun o => o / 256 == d - 8)
  else if d = 12 then s.patFlag 2 || s.placedAreas.any (fun q => inside q.1 q.2 DDR_LO DDR_HI != 0)
  else true

/-- Partition `p` fails R432. -/
def partitionBad (b : List Byte) (p : Nat) : Bool :=
  let n := fieldAt b 0 1
  let z := fieldAt b (16 + 16 * p) 4
  (if p < n then decide (z < 1 ∨ 1024 < z) else z != 0)
    || (decide (n ≤ p) && (List.range 1024).any (fun c => bitsOf (fieldAt b (80 + 2 * c) 2) 11 10 == p))

/-- 0x0909; a PCOUNT outside 1 to 4 names itself, a total above 4,032 MiB the last partition used (DESIGN
CHOICE, log 27). -/
def State.partitionRsn (s : State) : Rsn :=
  let b := s.sec SEC_EVENTS
  let n := fieldAt b 0 1
  let total := ((List.range 4).map (fun p => fieldAt b (16 + 16 * p) 4)).foldl (· + ·) 0
  if !s.hasSec SEC_EVENTS then none
  else rtest (decide (n < 1 ∨ 4 < n)) 0x909 n
    <|> ((List.range 4).find? (partitionBad b)).map (fun p => (0x909, p))
    <|> rtest (decide (4032 < total)) 0x909 (n - 1)

def State.group09 (s : State) : Rsn :=
  let total := s.rings.foldl (fun a r => a + r.2) 0
  let qs := (List.range 64).filter s.qEnabled
  let off := (List.range 14).filter (fun d => bitOf (fieldAt (s.sec SEC_SYSTEM) 0 4) d && s.domainRefd d)
  let placed := s.segPlaces ++ s.taskRegions ++ s.stateRegions ++ s.stacks ++ s.heads.map (fun a => (a, 32))
  let pat := placed.filterMap (fun (q : Nat × Nat) =>
    if inside q.1 q.2 PATAREA DDR_HI = 0 then none else some (max q.1 PATAREA / 16))
  rtest (decide (0x100000 < total)) 0x901 total
    <|> (qs.find? (fun q => ringPlaceBad (s.qBase q) (s.qLog q) (s.qEsize q))).map (fun q => (0x902, q))
    <|> (qs.find? (fun q => ringSizeBad q (s.qLog q) (s.qEsize q))).map (fun q => (0x903, q))
    <|> leastRsn 0x904 off
    <|> leastRsn 0x905 s.placeFaults
    <|> leastRsn 0x906 s.retainOver
    <|> rtest (decide (524224 < s.saveBytes)) 0x907 (s.saveBytes - 524224)
    <|> s.partitionRsn
    <|> leastRsn 0x90A pat

end Sys2Proof.Machine
end

