-- ==== Sys2Proof/Machine/Check.lean ====
section
/-! DEFINITION. The consistency check as a whole (R58, R75, R298, R304, R325, R485, R486). -/

namespace Sys2Proof.Machine

/-- The LENGTH that a section must have, if it is fixed by its fields, and its fields (R486); none: a type whose
fields other groups test. -/
def State.sectionFormat (s : State) (ty : Nat) (b : List Byte) : Option (Nat × List FTest) :=
  let noProg := !s.hasSec SEC_PROGRAM
  if ty = SEC_SYSTEM then some (1040, systemTests b)
  else if ty = SEC_TIMETABLE then
    some (timetableLen b, (4, noProg && fieldAt b 4 1 != 0) :: timetableTests b)
  else if ty = SEC_LOOPS then some (32784, loopsTests b)
  else if ty = SEC_CHANNELS then some (4112, channelsTests b)
  else if ty = SEC_CURVES then some (curvesLen b, curvesTests b)
  else if ty = SEC_CAN then some (canLen b, canTests b)
  else if ty = SEC_NETWORK then some (networkLen b, networkTests b)
  else if ty = SEC_POURLINE then some (pourlineLen b, pourlineTests b s.stationId)
  else if ty = SEC_TIME then some (64, timeTests b)
  else if ty = SEC_REDUNDANCY then some (32, redTests b (s.sec SEC_CHANNELS))
  else if ty = SEC_EVENTS then some (2640, eventsTests b)
  else if ty = SEC_COUNTERS then some (528, countersTests b)
  else if ty = SEC_LADLE then some (1040, ladleTests b)
  else if ty = SEC_COPE then some (144, copeTests b)
  else none

/-- The cope firmware version in force. -/
def State.fwVer (s : State) : Nat := s.fld ⟨0x20A00008, 15, 0⟩

/-- The argument of 0x010A: directory index and offset. -/
def fieldArg (i o : Nat) : Nat := i * 2 ^ 24 + o

/-- The format of the image examined, under directory index `i`. -/
def State.imageInRsn (s : State) (i : Nat) : Rsn :=
  let im := s.prg.image
  (imageRsn im im.length s.taskRecs s.fwVer).map (fun r => if r.1 = 0x10A then (r.1, fieldArg i r.2) else r)

/-- The test of one section in the order of R485 step 4. -/
def State.sectionRsn (s : State) (e : Sect) : Rsn :=
  let b := slice s.pattern e.off e.len
  if e.ver ≠ 1 then some (0x10A, fieldArg e.index 0xFFFFFF)
  else if e.type = SEC_PROGRAM then
    rtest (e.len != fieldAt b 8 4) 0x10A (fieldArg e.index 0xFFFFFF) <|> s.imageInRsn e.index
  else match s.sectionFormat e.type b with
    | none => none
    | some (n, ts) =>
      if e.len ≠ n then some (0x10A, fieldArg e.index 0xFFFFFF)
      else (firstBad ts).map (fun o => (0x10A, fieldArg e.index o))

/-- The working copy in LPDDR4X (R59). -/
def State.workingCopy (s : State) : List Byte := s.mread PATAREA (fieldAt s.pattern 8 4)

/-- Group 0x01; `atRun`: a check that RUN_REQ starts. -/
def State.group01 (s : State) (atRun : Bool) : Rsn :=
  let h := s.pattern
  (if atRun && s.patFlag 2 then digestRsn s.workingCopy else none)
    <|> rtest (!s.pat.strapParity) 0x10C s.pat.straps
    <|> rtest (fieldAt h 24 2 != s.stationId) 0x10B s.pat.straps
    <|> rtest (decide (s.fwVer < fieldAt h 26 2)) 0x10D s.fwVer
    <|> (directory h).findSome? s.sectionRsn
    <|> (if !s.hasSec SEC_PROGRAM && s.prg.image != [] then s.imageInRsn 0 else none)

/-- Group 0x0A. -/
def State.group0A (s : State) : Rsn :=
  let p := s.pattern
  rtest s.pat.wpHigh 0xA05 0 <|> s.keyRsn (fieldAt p (fieldAt p 8 4 - 128 + 6) 2)
    <|> (if s.prg.image = [] then none else s.imageSigRsn s.prg.image)

/-- Group 0x06 (R298, R304, R325). -/
def State.group06 (s : State) : Rsn :=
  let up := s.pairPresent && s.linkUp
  let r := if up then s.pairRefusal (if s.prg.image = [] then 0 else crc32c s.prg.image) s.fwVer else none
  let wrong : Rsn := rtest ((fieldAt s.redSec 0 1 == 1) != s.pairPresent) 0x604 (ofBool (!s.pairPresent))
  match r with
  | some (c, a) => if c < 0x604 then r else wrong <|> some (c, a)
  | none =>
    wrong <|> rtest (s.pairPresent && !s.linkUp && s.fld PL_ALIVE == AL_ALIVE) 0x605
      (if s.flag (RUN_L 0) then 1 else 0)

/-- What a check finds: the groups before 0x05, 0x0501, the rest of group 0x05, the groups after it. -/
structure Verdict where
  before : Rsn
  auth : Rsn
  safety : Rsn
  after : Rsn
  deriving DecidableEq, Repr

/-- The check of the pattern and image that the state holds (R75). -/
def State.verdict (s : State) (atRun readback : Bool) : Verdict where
  before := s.group01 atRun <|> s.group0A <|> s.group09 <|> s.group03 <|> s.group04
  auth := s.authRsn
  safety := s.group05 readback
  after := s.group08 <|> s.group07 <|> s.group02 <|> s.group06

/-- The refusal a check reports; `note`: 0x0501 is noted and the rest goes on (R58). -/
def Verdict.refusal (v : Verdict) (note : Bool) : Rsn :=
  if note then v.before <|> v.safety <|> v.after <|> v.auth
  else v.before <|> v.auth <|> v.safety <|> v.after

/-- Group 0x05 was reached and accepted. -/
def Verdict.safetyAccepted (v : Verdict) : Bool := v.before.isNone && v.auth.isNone && v.safety.isNone

/-- Acceptance of group 0x05: the lattice is written and locked the first time, and the safety processor loads
its parts in CONFIG; the acceptance of the whole check with a changed SAFETY section takes it there first (R261, R291,
Table SAF-7). PAT_STAT.SAFEUNAUTH ends (Table PAT-19). -/
def State.acceptSafety (s : State) (v : Verdict) (sec : List Byte) (readback : Bool) : State :=
  if !v.safetyAccepted then s
  else
    let s := ((s.foxConfigure sec readback).2).setFlag ⟨0x20010000, 5, 5⟩ false
    let s := if s.safState = S_OPERATE && v.after.isNone && s.saf.cfg != sec then (s.setSafState S_CONFIG).updSwitches else s
    if s.safState = S_CONFIG then
      let s := s.safLoad sec
      if s.dragStarted then s.safOperate else s
    else s

end Sys2Proof.Machine
end

