-- ==== Sys2Proof/Machine/Save.lean ====
section
/-! DEFINITION. The runtime state save, the cold and the warm restart (R64 to R66, R111, R178, R466). The layout
of the payload is the model's own (DESIGN CHOICE, log 20). -/

namespace Sys2Proof.Machine

/-! ### The payload -/

/-- CRU_LnMAN. -/
def lMAN (n : Nat) : Nat := lst n 0xC

/-- Bools as bytes of 8 bits, first bit lowest. -/
def packBits (bs : List Bool) (n : Nat) : List Byte :=
  leBytes n ((List.range (8 * n)).foldl (fun a i => if bs.getD i false then a + 2 ^ i else a) 0)

def unpackBits (v n : Nat) : List Bool := (List.range n).map (bitOf v)

/-- The 384 bytes of a loop: its state record fields, CRU_LnMAN, CRU_LnSTAT, history and failure window. -/
def State.saveLoop (s : State) (n : Nat) : List Byte :=
  let l := s.loop n
  let dyn := (List.range 9).flatMap (fun i => leBytes 4 (s.regN (lreg n (0x5C + 4 * i))))
  padTo 384 (dyn ++ leBytes 4 (s.regN (lMAN n)) ++ leBytes 4 (s.regN (lst n 0x10)) ++ leBytes 4 l.hist.length
    ++ leBytes 4 l.win.length ++ leBytes 4 (ofBool l.fbSubst) ++ padTo 260 (l.hist.flatMap (fun w => leBytes 4 w.toNat))
    ++ packBits l.win 32)

/-- A loop restored: its mode, every dynamic field, CRU_LnMAN, OVR_CONSEC, QBAD_CONSEC, PLAUS, the model's history
and the failure window (R178). -/
def State.loadLoop (s : State) (n : Nat) (b : List Byte) : State :=
  let s := s.putWords (lreg n 0x5C) (toWords (slice b 0 36))
  let s := s.setRegN (lMAN n) (fieldAt b 36 4)
  let st := fieldAt b 40 4
  let s := s.putLoopMode n (st % 8)
  let s := ((s.setFld (LS_OVRC n) (bitsOf st 23 16)).setFld (LS_QBADC n) (bitsOf st 31 24)).setFld (LS_FBC n)
    (bitsOf st 14 12)
  let s := (s.setFlag (LS_PLAUS n) (bitOf st 8)).setFlag (cruPL n) (bitOf st 8)
  s.setLoop n { s.loop n with
    hist := (toWords (slice b 56 260)).take (fieldAt b 44 4)
    win := unpackBits (fieldAt b 316 32) (fieldAt b 48 4)
    fbSubst := fieldAt b 52 4 == 1
    cold := false }

/-- The runtime's own 16,384 bytes: role, sequencer counters, recorder cursors, force table. -/
def State.saveRuntime (s : State) : List Byte :=
  let tasks := (List.range 32).flatMap (fun t =>
    leBytes 4 (s.regN (tPOURS t)) ++ leBytes 4 (s.fld (TOVR_CONSEC t)) ++ List.replicate 8 0)
  let cur (k : Nat) := leBytes 8 (s.cursor k).ord ++ leBytes 8 (s.fld (CK_PART k))
  let forces := (List.range 512).flatMap (fun n =>
    leBytes 4 (s.regN (freg n 0)) ++ leBytes 4 (s.regN (freg n 4)) ++ leBytes 8 (s.forceReg n) ++ leBytes 8 (s.forceVal n))
  padTo 16384 (padTo 1024 (padTo 64 [BitVec.ofNat 8 s.role] ++ tasks) ++ padTo 1024 (cur 0 ++ cur 1) ++ forces)

/-- The tasks' state regions, in image order, as `i` reads them; and whether a read met an uncorrectable error. -/
def State.saveTasks (s : State) (i : Issuer) : List Byte × Bool × State :=
  (imgTasks s.prg.image).foldl (fun p t =>
    let (e, s) := p.2.2.busRead i t.stateBase t.stateBytes
    (p.1 ++ e.getD (List.replicate t.stateBytes 0), p.2.1 || e.isNone, s)) ([], false, s)

/-- The payload of a full copy (R65), `tasks` being the state regions. -/
def State.savePayload (s : State) (tasks : List Byte) : List Byte :=
  s.saveRuntime ++ tasks ++ ((List.range 256).filter s.loopEn).flatMap s.saveLoop

/-! ### The two copies (Table PAT-11) -/

def copyAddr (c : Nat) : Nat := 0x1200000 + 0x80000 * c
abbrev COPY_MAX : Nat := 524224

/-- SEQ of a copy whose header of 64 bytes has a valid MAGIC. -/
def headerSeq (h : List Byte) : Option Nat := if fieldAt h 0 4 = 0x53525745 then some (fieldAt h 4 4) else none

/-- The copy with a valid MAGIC and the larger SEQ, of the SEQs of both. -/
def newestOf (a b : Option Nat) : Option Nat :=
  match a, b with
  | some a, some b => if a < b then some 1 else some 0
  | some _, none => some 0
  | none, some _ => some 1
  | none, none => none

/-- The copy with a valid MAGIC and the larger SEQ. -/
def State.newestCopy (s : State) : Option Nat :=
  newestOf (headerSeq (s.mread (copyAddr 0) 64)) (headerSeq (s.mread (copyAddr 1) 64))

/-- The headers of both copies, as `i` reads them; none: the read meets an uncorrectable error (R34). -/
def State.readHeaders (s : State) (i : Issuer) : Option (List Byte) × Option (List Byte) × State :=
  let (a, s) := s.busRead i (copyAddr 0) 64
  let (b, s) := s.busRead i (copyAddr 1) 64
  (a, b, s)

/-- The copy that a save writes, and its SEQ (R65), from the headers that it has read: 1 when neither copy has a valid MAGIC
(DESIGN CHOICE, log 78), and a header that cannot be read has none (DEDUCED, log 41). -/
def nextCopy (a b : Option (List Byte)) : Nat × Nat :=
  let x := a.bind headerSeq
  let y := b.bind headerSeq
  match newestOf x y with
  | none => (0, 1)
  | some c => (1 - c, ((if c = 0 then x else y).getD 0 + 1) % 2 ^ 32)

/-- The CRC of the image in force; 0: none. -/
def State.imageCrc (s : State) : Nat := if s.prg.image = [] then 0 else crc32c s.prg.image

/-- A copy `c`, with its SEQ, written by `i`: `cause`, SAVE_TIME in ns, payload, CONSUMED, and whether the write ran to its
end; a save cut short leaves a CRC that fails. -/
def State.writeCopy (s : State) (i : Issuer) (c : Nat × Nat) (cause ts : Nat) (payload : List Byte) (consumed : Nat)
    (whole : Bool) : State :=
  let h := leBytes 4 0x53525745 ++ leBytes 4 c.2 ++ leBytes 1 cause ++ [0, 0, 0] ++ leBytes 4 payload.length
    ++ s.patDigest ++ leBytes 4 s.imageCrc ++ ts80Bytes ts ++ List.replicate 8 0
  let crc := crc32c (h ++ payload)
  let s := s.blockWrite i (copyAddr c.1 + 64) payload
  s.blockWrite i (copyAddr c.1) (h ++ leBytes 4 (if whole then crc else 2 ^ 32 - 1 - crc) ++ leBytes 4 consumed)

/-- SAVE_TIME of the newest copy, as Marigold reads the headers; 0 when no copy has a valid MAGIC (R338). A header that it
cannot read has none (DEDUCED, log 41). -/
def State.saveTime (s : State) : Nat × State :=
  let (a, b, s) := s.readHeaders issMgd
  match newestOf (a.bind headerSeq) (b.bind headerSeq) with
  | none => (0, s)
  | some c => (ts80Val (slice ((if c = 0 then a else b).getD []) 36 12), s)

/-! ### Cold and warm restart (R64, R66, R111) -/

/-- The WHY for which a warm restart becomes cold, or the copy's payload. -/
def State.warmCopy (s : State) : Nat × Nat × List Byte :=
  match s.newestCopy with
  | none => (1, 0, [])
  | some c =>
    let a := copyAddr c
    let len := s.mnat (a + 12) 4
    let p := s.mread (a + 64) (min len COPY_MAX)
    if s.mnat (a + 60) 4 ≠ 0 then (1, c, [])
    else if COPY_MAX < len ∨ s.mnat (a + 56) 4 ≠ crc32c (s.mread a 56 ++ p) then (2, c, [])
    else if s.mread (a + 16) 16 ≠ s.patDigest then (3, c, [])
    else if s.mnat (a + 32) 4 ≠ s.imageCrc then (4, c, [])
    else (0, c, p)

/-- The runtime on AP0 reads the headers of both copies and the payload of the newer: whether a read meets an
uncorrectable error (R34). -/
def State.copyReads (s : State) : Bool × State :=
  let (a, b, s) := s.readHeaders (issAp 0)
  match s.newestCopy with
  | none => (a.isNone || b.isNone, s)
  | some c =>
    let (p, s) := s.busRead (issAp 0) (copyAddr c + 64) (min (s.mnat (copyAddr c + 12) 4) COPY_MAX)
    (a.isNone || b.isNone || p.isNone, s)

/-- Fields of PAT_RSTCAUSE. -/
def RST_CAUSE : Fld := ⟨0x20010020, 3, 0⟩
def RST_WARM_SEL : Fld := ⟨0x20010020, 4, 4⟩
def RST_WARM : Fld := ⟨0x20010020, 5, 5⟩
def RST_WHY : Fld := ⟨0x20010020, 10, 8⟩

/-- A task's restored OVR_CONSEC has reached FB_COUNT: it resumes in its fallback (R111). A fallback of action HALT
resumes with FB = 1, and the station does not enter HALT (DESIGN CHOICE, log 52). -/
def State.resumeFallback (s : State) (r : TaskRec) : State :=
  if r.fbCount = 0 ∨ s.fld (TOVR_CONSEC r.task) < r.fbCount then s
  else
    let s := s.setFlag (TFB r.task) true
    if r.fbAction = 1 then
      (s.taskCells r.task).foldl (fun s n => s.setCell n { s.cell n with fbSubst := true }) s
    else s

/-- The pour counters of a saved task (Table PAT-10). -/
def State.restoreTask (s : State) (p : List Byte) (r : TaskRec) : State :=
  let o := 64 + 16 * r.task
  let s := s.setRegN (tPOURS r.task) (fieldAt p o 4)
  (s.setFld (TOVR_CONSEC r.task) (fieldAt p (o + 4) 1)).resumeFallback r

/-- A saved force entry (Table PAT-10). -/
def State.restoreForce (s : State) (p : List Byte) (n : Nat) : State :=
  let o := 2048 + 24 * n
  let s := (s.setRegN (freg n 0) (fieldAt p o 4)).setRegN (freg n 4) (fieldAt p (o + 4) 4)
  let s := (s.setRegN (freg n 0x10) (fieldAt p (o + 8) 4)).setRegN (freg n 0x14) (fieldAt p (o + 12) 4)
  { s with prg := { s.prg with applied := tblSet (fun _ => 0) s.prg.applied n (fieldAt p (o + 16) 8) } }

/-- A saved recorder cursor; `k` numbers it (Table PAT-10). Records freed since then count when it is used (R427). -/
def State.restoreCursor (s : State) (p : List Byte) (k : Nat) : State :=
  let o := 1024 + 16 * k
  s.cursorPut k (fieldAt p (o + 8) 1 % 4) (fieldAt p o 8)

/-- The saved task state regions, one after the other from payload offset `o` (R65). -/
def State.restoreRegions (s : State) (p : List Byte) : List ImgTask → Nat → State
  | [], _ => s
  | t :: ts, o => (s.blockWrite (issAp 0) t.stateBase (slice p o t.stateBytes)).restoreRegions p ts (o + t.stateBytes)

/-- The saved loops, 384 bytes each from payload offset `o` (R65). -/
def State.restoreLoops (s : State) (p : List Byte) : List Nat → Nat → State
  | [], _ => s
  | n :: ns, o => (s.loadLoop n (slice p o 384)).restoreLoops p ns (o + 384)

/-- The parts of the runtime's own state in the first 16,384 bytes of the payload (R65). A force that the copy no longer holds
is recorded as released, with RREASON 0 (R138; DESIGN CHOICE, log 52). -/
def State.restoreRuntime (s : State) (p : List Byte) : State :=
  let s := { s with run := { s.run with offer := fieldAt p 0 1 == R_PRIMARY } }
  let s := s.taskRecs.foldl (fun s r => s.restoreTask p r) s
  let s := (List.range 2).foldl (fun s k => s.restoreCursor p k) s
  let gone := s.activeForces.filter (fun n => !bitOf (fieldAt p (2048 + 24 * n + 4) 4) 0)
  let s := gone.foldl (fun s n => s.event 0x91 PRG_LOC (s.forcePayload n 0)) s
  (List.range 512).foldl (fun s n => s.restoreForce p n) (s.clearRegs 0x20031000 0x20035000)

/-- Table PAT-10, warm: the payload `p` restored. -/
def State.restore (s : State) (p : List Byte) : State :=
  let s := s.restoreRuntime p
  let s := s.resolveForces s.prg.image s.prg.image false
  let tasks := imgTasks s.prg.image
  let s := s.restoreRegions p tasks 16384
  s.restoreLoops p ((List.range 256).filter s.loopEn) (16384 + (tasks.map ImgTask.stateBytes).sum)

/-- The restart of the runtime at the end of start-up (R64, R66); `cause` 6, a reload, is always cold. An uncorrectable
error that it meets in the saved state is a module fault (R34). -/
def State.runtimeRestart (s : State) (cause : Nat) : State :=
  let sel := decide (cause < 6) && fieldAt (s.sec SEC_SYSTEM) (4 + cause) 1 == 1
  let s := s.setRegN 0x20010020 (cause + ofBool sel * 16)
  let (ue, s) := if sel then s.copyReads else (false, s)
  let w := s.warmCopy
  if ue then s.moduleFault 6 0x2FF
  else if sel && w.1 == 0 then
    let s := s.restore w.2.2
    (s.busWrite (issAp 0) (copyAddr w.2.1 + 60) (leBytes 4 0xFFFFFFFF)).2.setFlag RST_WARM true
  else
    let s := (if cause < 6 then s.clearForces else s).coldModes
    let s := (List.range 2).foldl (fun s k => s.cursorStart k) s
    if sel then (s.setFld RST_WHY w.1).copeEvent (Config.coldCode.val + 1) (leBytes 1 w.1) else s

end Sys2Proof.Machine
end

