-- ==== Sys2Proof/Machine/Startup.lean ====
section
/-! DEFINITION. Start-up, run control and the reload (R55 to R74, R109, R325, R449). -/

namespace Sys2Proof.Machine

def PAT_SLOT : Fld := ⟨0x20010000, 0, 0⟩
def PAT_FALLBACK : Fld := ⟨0x20010000, 1, 1⟩
def PAT_NOPAT : Fld := ⟨0x20010000, 2, 2⟩
def PAT_WCOPY : Fld := ⟨0x20010000, 3, 3⟩
def PAT_KEYWS : Fld := ⟨0x20010000, 4, 4⟩
def PAT_SAFEUNAUTH : Fld := ⟨0x20010000, 5, 5⟩
abbrev PAT_RSNARG : Nat := 0x20010018
abbrev PAT_RSN_ALT : Nat := 0x2001001C
abbrev PAT_STARTMS : Nat := 0x20010024
abbrev PAT_KEYID : Nat := 0x20010028

/-! ### The cope boot (R449, Table COPE-3) -/

/-- The firmware bank of an index: 0 A, 1 B. -/
def State.bank (s : State) (k : Nat) : List Byte := if k = 0 then s.cope.bankA else s.cope.bankB

/-- The point of a Falfaler firmware key. -/
def firmwarePoint (k : Nat) : Nat × Nat :=
  let n := (Config.firmwareKey k).toNat
  (n / 2 ^ 256, n % 2 ^ 256)

/-- The header of a bank is one of Table COPE-3. -/
def bankHeaderOk (b : List Byte) : Bool :=
  let len := fieldAt b 8 4
  fieldAt b 0 4 == 0x42465745 && fieldAt b 4 2 == 1 && fieldAt b 6 2 == 128 && fieldAt b 14 2 == 0x9632
    && len % 64 == 0 && decide (256 ≤ len) && decide (len ≤ 16777216)
    && decide (fieldAt b 24 4 + fieldAt b 28 4 ≤ len) && decide (fieldAt b 32 4 + fieldAt b 36 4 ≤ len)
    && decide (fieldAt b 36 4 ≤ 524288) && leVal (slice b 52 72) == 0 && fieldAt b 124 4 == crc32c (slice b 0 124)

/-- The signature of a bank by a firmware key. -/
def bankSigned (b : List Byte) : Bool :=
  let o := fieldAt b 8 4 - 128
  let blk := slice b o 128
  fieldAt blk 0 4 == 0x47535745 && fieldAt blk 4 2 == 1 && decide (fieldAt blk 6 2 < 2)
    && sigOk (firmwarePoint (fieldAt blk 6 2)) (slice b 0 o) blk

/-- The bank works with the safety runtime in the store. -/
def bankWorks (b : List Byte) : Bool :=
  Config.safetyRuntime != 0 &&
    (List.range 4).any (fun i => fieldAt b (16 + 2 * i) 2 == Config.safetyRuntime.toNat)

def bankOk (b : List Byte) : Bool := bankHeaderOk b && bankSigned b && bankWorks b

/-- COPE_KEYST: two bits per key slot. -/
def State.updKeySt (s : State) : State :=
  s.setRegN 0x20A0000C ((List.range 4).foldl (fun a k => a + s.keyState k * 4 ^ k) 0)

/-- COPE_FWVER: the version in force, and that of the other bank when it is valid. -/
def State.updFwVer (s : State) (own : Nat) : State :=
  let o := s.bank (1 - s.fld ⟨0x20A00000, 2, 2⟩)
  (s.setFld ⟨0x20A00008, 15, 0⟩ own).setFld ⟨0x20A00008, 31, 16⟩ (if bankOk o then fieldAt o 12 2 else 0)

/-- The bank taken: its index and its version. -/
def State.takeBank (s : State) (k : Nat) (fallback : Bool) : State :=
  let s := ((s.setFld COPE_STATE 1).setFlag ⟨0x20A00000, 2, 2⟩ (k == 1)).setFlag ⟨0x20A00000, 3, 3⟩ fallback
  let s := (s.setFlag ⟨0x20A00000, 6, 6⟩ s.cope.pw.isSome).updFwVer (fieldAt (s.bank k) 12 2)
  s.updKeySt

/-- The runtime of a bank enters the runtime area before the drag plane starts (R118). -/
def State.loadRuntime (s : State) (k : Nat) : State :=
  let b := s.bank k
  s.blockWrite issCope RT_LO (slice b (fieldAt b 32 4) (fieldAt b 36 4))

/-- The boot ROM's choice: the ACTIVE bank, else the other, else RECOVERY. -/
def State.bootRom (s : State) : State :=
  let a := s.cope.active
  if bankOk (s.bank a) then (s.takeBank a false).loadRuntime a
  else if bankOk (s.bank (1 - a)) then (s.takeBank (1 - a) true).loadRuntime (1 - a)
  else ((s.setFld COPE_STATE 3).setFlag ⟨0x20A00000, 6, 6⟩ s.cope.pw.isSome).updKeySt

/-- The events of a boot: 0x017A for a session that the reset ended, 0x0170, and 0x0178 for a fallback boot or RECOVERY. -/
def State.bootEvents (s : State) : State :=
  let s := if s.cope.endOwed then ({ s with cope := { s.cope with endOwed := false } }).copeEvent 0x17A [] else s
  let s := s.copeEvent 0x170 (leBytes 2 s.fwVer ++ leBytes 1 (s.fld ⟨0x20A00000, 2, 2⟩))
  if s.flag ⟨0x20A00000, 3, 3⟩ || s.fld COPE_STATE == 3 then s.copeEvent 0x178 [] else s

/-- PWR_LASTSAVE from the save record that the tail restores (R466). -/
def State.lastSave (s : State) (tail : List Record) : State :=
  match tail.reverse.find? (fun r => r.code == 0x1C2) with
  | none => s.setRegN 0x20B00030 0
  | some r =>
    let p := r.payload
    s.setRegN 0x20B00030 (fieldAt p 0 1 + fieldAt p 1 1 % 4 * 256 + 1024 + min (fieldAt p 8 4) 65535 * 65536)

/-- MODE NONE: no pattern in force (R57). -/
def State.noPattern (s : State) (c a : Nat) : State :=
  let s := ((s.setFld RUNSTAT_PHASE 6).modeChange NONE 0).setFld RUNSTAT_REASON c
  let s := (s.setRegN PAT_RSNARG a).setFlag PAT_NOPAT true
  { s with evr := { s.evr with hold := false }, pat := { s.pat with force := none, staged := none } }

/-- Every front indicator is lit for 500 ms (R479). -/
def State.lampTest (s : State) : State := { s with pwr := { s.pwr with lampEnd := s.mono + 500000000 } }

/-- COPE_BOOT_COMPLETE at start: the bank, the recorder, then pattern loading (R67, R430, R449). The change of MODE to
STARTING is recorded here, since the recorder runs from here on (R131; DESIGN CHOICE, log 45). -/
def State.copeBoot (s : State) : State :=
  if s.mode ≠ STARTING ∨ s.fld RUNSTAT_PHASE ≠ 1 then s
  else
    let s := (s.bootRom).lampTest
    let tail := s.evr.tail
    let s := ((s.evrStart true).lastSave tail).bootEvents
    let s := s.runtimeEvent 0x92 [0, BitVec.ofNat 8 STARTING, 0]
    if s.fld COPE_STATE = 3 then s.noPattern 0 0 else s.setFld RUNSTAT_PHASE 2

/-! ### Choosing the slot (R55 to R59) -/

/-- The header of slot `k` is usable. -/
def State.slotUsable (s : State) (k : Nat) : Bool :=
  s.keyPresent && (s.keyReadFault k 256).isNone && headerUsable (padFF 256 (s.keySlot k))

def State.slotGen (s : State) (k : Nat) : Nat := fieldAt (padFF 256 (s.keySlot k)) 12 4

/-- The slots in the order in which they are tried. With no usable header, slot 0 gives the refusal (DEDUCED,
log 21). -/
def State.slotOrder (s : State) : List Nat :=
  match s.slotUsable 0, s.slotUsable 1 with
  | true, true => if s.slotGen 0 < s.slotGen 1 then [1, 0] else [0, 1]
  | false, true => [1]
  | _, _ => [0]

/-- The code of the slot that is not `slot`; 0 when it was not tried. -/
def State.altCode (s : State) (slot : Nat) : Nat :=
  match s.pat.tried.find? (fun e => e.1 != slot) with
  | some e => e.2.1
  | none => 0

/-- The first slot tried in this load was another than `slot`. -/
def State.byFallback (s : State) (slot : Nat) : Bool :=
  match s.pat.tried with
  | [] => false
  | e :: _ => e.1 != slot

/-- The admitted activity of every domain is recorded at an acceptance (R28). -/
def State.recordAdmitted (s : State) : State :=
  { s with sys := { s.sys with admitted := (List.range 14).filter s.domainRefd } }

/-- The queues: descriptors from the pattern, empty. -/
def State.queuesInit (s : State) : State :=
  let s := (List.range 64).foldl (fun s q => ((s.setRegN (qreg q 0xC) 0).setRegN (qreg q 0x10) 0)) s
  s.loadQueues false

/-- A pattern comes into force: PAT registers, working copy, recorder layout. `c` and `a`: the refusal that it
keeps under R55 step 6 or R58, 0 for an acceptance. -/
def State.bringIntoForce (s : State) (sl : Slot) (c a : Nat) : State :=
  let alt := s.altCode sl.slot
  let fb := s.byFallback sl.slot
  let image := s.prg.image
  let s := ((s.candidate sl.slot sl.bytes).queuesInit).mgdOwed.recordAdmitted
  let s := { s with pat := { s.pat with staged := none, tried := [], toTry := [], unauth := none } }
  let s := { s with prg := { s.prg with image := image }, saf := { s.saf with loaded := false } }
  let s := (((s.setFld PAT_SLOT sl.slot).setFlag PAT_FALLBACK fb).setFlag PAT_NOPAT false).setFlag PAT_WCOPY (s.patFlag 2)
  let s := (s.setFlag PAT_SAFEUNAUTH (c == 0x501)).setRegN 0x20010004 (fieldAt sl.bytes 12 4)
  let s := ((s.setRegN PAT_RSNARG a).setRegN PAT_RSN_ALT alt).setFld RUNSTAT_REASON c
  let s := (s.setFlag RUNSTAT_ACCEPTED (c == 0)).blockWrite issCope PATAREA sl.bytes
  let s := s.evrPattern.mgdUnused
  if (s.mode == STARTING || s.mode == NONE) && s.pwr.cause == 0 && c == 0 then s.mgdInit (ts80Val (slice sl.bytes 28 12)) else s

/-- The load ends: R58 brings a slot into force, or none is (R57). -/
def State.loadEnds (s : State) : State :=
  match s.pat.unauth with
  | some sl =>
    (s.bringIntoForce sl 0x501 (secCrc ((sectOf sl.bytes SEC_SAFETY).getD []))).setFld RUNSTAT_PHASE 4
  | none =>
    match s.pat.tried with
    | [] => s.noPattern 0 0
    | (_, c, a) :: rest => (s.setRegN PAT_RSN_ALT ((rest.head?.map (fun e => e.2.1)).getD 0)).noPattern c a

/-- Slot `k` is refused in this load: the other slot is tried, or the load ends (R55). -/
def State.refuseSlot (s : State) (k c a : Nat) : State :=
  let s := { s with pat := { s.pat with tried := s.pat.tried ++ [(k, c, a)], staged := none } }
  let s := (s.setFlag RUNSTAT_CHECK_BUSY false).setFlag RUNSTAT_ACCEPTED false
  if s.pat.toTry = [] then s.loadEnds
  else (s.copeEvent (Config.fallbackCode.val + 1) (leBytes 1 k ++ [0] ++ leBytes 2 c)).setFld RUNSTAT_PHASE 2

/-- Slot `k` is read into the staging half of the pattern area, once its header gives its length (R59). -/
def State.stageSlot (s : State) (k : Nat) : State :=
  let h := padFF 256 (s.keySlot k)
  if !s.keyPresent || (s.keyReadFault k 256).isSome || (headerRsn k h).isSome
      || (s.keyReadFault k (fieldAt h 8 4)).isSome then s
  else s.blockWrite issCope (PATAREA + 0x800000) (s.slotBytes k)

/-- PATTERN_LOAD_COMPLETE: the next slot has been read, staged and verified. -/
def State.patternLoaded (s : State) (fault : Option Nat) : State :=
  if s.mode ≠ STARTING ∨ s.fld RUNSTAT_PHASE ≠ 2 then s
  else
    let s := { s with pat := { s.pat with keyFault := fault } }
    let s := s.setRegN PAT_KEYID s.pat.keyId
    match if s.pat.tried = [] then s.slotOrder else s.pat.toTry with
    | [] => s.loadEnds
    | k :: rest =>
      let s : State := { s with pat := { s.pat with toTry := rest } }
      let s := s.stageSlot k
      match s.loadRsn k with
      | some (c, a) => s.refuseSlot k c a
      | none =>
        let sl : Slot := ⟨k, s.slotBytes k⟩
        let s := { s with pat := { s.pat with staged := some sl } }
        (s.setFld RUNSTAT_PHASE 3).setFlag RUNSTAT_CHECK_BUSY true

/-- A start-up check ends on the staged slot. -/
def State.startChecked (s : State) (sl : Slot) (readback : Bool) : State :=
  let v := (s.candidate sl.slot sl.bytes).verdict false readback
  let safety (s : State) : State := s.acceptSafety v ((sectOf sl.bytes SEC_SAFETY).getD []) readback
  let s := s.setFlag RUNSTAT_CHECK_BUSY false
  match v.refusal true with
  | none => (safety (s.bringIntoForce sl 0 0)).setFld RUNSTAT_PHASE 4
  | some (c, a) =>
    if c / 256 = 6 then (safety (s.bringIntoForce sl c a)).setFld RUNSTAT_PHASE 4
    else
      let s := safety s
      let s := if c = 0x501 && s.pat.unauth.isNone then { s with pat := { s.pat with unauth := some sl } } else s
      s.refuseSlot sl.slot c a

/-! ### The check that RUN_REQ starts (R71, R72, Table PAT-16) -/

/-- A check ends without entry to RUN: REASON and its argument. -/
def State.checkEnds (s : State) (c a : Nat) : State :=
  let s := ((s.setFlag RUNSTAT_CHECK_BUSY false).setFlag RUNCTL_RUN_REQ false).setFlag RUNSTAT_CANCELLED false
  (((s.setFlag RUNSTAT_ACCEPTED (c == 0)).setFld RUNSTAT_REASON c).setRegN PAT_RSNARG a)

/-- On a STANDBY a refused check ends in STOP and OFFLINE (R326). -/
def State.standbyRefused (s : State) : State := if s.isStandby then s.setSstate SS_OFFLINE else s

/-- A module whose role a refusal left open resolves it at its next accepted check (R325). -/
def State.laterRole (s : State) : State := if s.role = R_NONE then s.roleResolve s.imageCrc s.fwVer else s

/-- The end of a check that RUN_REQ started. CHECK_ONLY is taken here, as SYS_RUNCTL holds it when the check ends
(DESIGN CHOICE, log 44). -/
def State.runChecked (s : State) (readback : Bool) : State :=
  let v := s.verdict true readback
  let s := s.acceptSafety v (s.sec SEC_SAFETY) readback
  match v.refusal false with
  | some (c, a) => (s.checkEnds c a).standbyRefused
  | none =>
    let s := ((s.checkEnds 0 0).recordAdmitted).laterRole
    if s.role = R_NONE then
      match s.run.refusal with
      | some (c, a) => s.checkEnds c a
      | none => s
    else if s.flag RUNCTL_CHECK_ONLY && !s.isStandby then s
    else s.enterRun false

/-- CHECK_COMPLETE: `readback`, the lattice returned what was written to it; `wpHigh`, KEY_WP# reads high while
driven low. -/
def State.checkComplete (s : State) (readback wpHigh : Bool) : State :=
  let s := { s with pat := { s.pat with wpHigh := wpHigh } }
  if !s.flag RUNSTAT_CHECK_BUSY then s
  else if s.mode = STARTING then
    match s.pat.staged with
    | some sl => s.startChecked sl readback
    | none => s
  else if s.mode = STOP && s.fld DL_STATE == 0 then s.runChecked readback
  else s

/-! ### Drag-plane start (R20, R51, R60, R64, R67, R109) -/

/-- Sequencer instants of one hyperperiod: snapshots, commits, explicit entries and the hyperperiod start. -/
def State.occurrences (s : State) : List Nat :=
  let h := s.hyperUs
  0 :: s.cyclicTasks.flatMap (fun r => (instants r h).flatMap (fun t => [t % max h 1, (t + r.cmt) % max h 1]))
    ++ s.entries.flatMap (fun e => (List.range (if e.period = 0 then 0 else h / e.period)).map
        (fun m => (e.offset + m * e.period) % max h 1))

/-- POUR_WDGAP: the longest gap between consecutive occurrences plus 100 µs (R113). -/
def State.wdGap (s : State) : Nat :=
  let os := s.occurrences
  let gap (t : Nat) : Nat := ((os.filter (fun u => decide (t < u))).min?.getD s.hyperUs) - t
  (os.map gap).foldl max 0 + 100

/-- The POUR registers of the pattern; every counter 0. ALIGNED follows its condition throughout (R82). -/
def State.pourInit (s : State) : State :=
  let was := s.flag POUR_ALIGNED
  let s := s.clearRegs 0x20020000 0x20030000
  let s := { s with pour := Pour.reset }
  let s := ((s.setRegN 0x20020004 s.hyperUs).setRegN 0x2002003C s.wdGap).setFlag POUR_ALIGNED was
  (s.taskRecs.foldl (fun s r => (s.setFld (TSTATE r.task) T_IDLE).setFld (TFB_ACTION r.task) r.fbAction) s).updAligned

/-- Memory without the bytes from `lo` up to `hi`: they read as unwritten memory does. -/
def State.dropMem (s : State) (lo hi : Nat) : State :=
  { s with mem := s.mem.filter (fun e => decide (e.1 < lo ∨ hi ≤ e.1)) }

/-- The contents of LPDDR4X are lost: it is zero-filled at power-up. -/
def State.ddrLost (s : State) : State :=
  let low (l : List Nat) : List Nat := l.filter (fun w => decide (w < DDR_LO / 16))
  let s := s.dropMem DDR_LO DDR_HI
  { s with sys := { s.sys with eccCe := low s.sys.eccCe, eccUe := low s.sys.eccUe } }

/-- A domain whose contents are lost (R20, R27, Table SYS-5): the caches of a pair, the registers and state of a
block, the contents of LPDDR4X. Trim drive of its cells ends (R231). -/
def State.domainLost (s : State) (d : Nat) : State :=
  if d < 2 then
    { s with prg := { s.prg with lines := s.prg.lines.filter (fun e => decide (e.1 / 2 ^ 30 ≠ d)) } }
  else if d = 2 then
    ({ s with cru := Cru.reset }).clearRegs 0x20040000 0x20050000 |>.clearRegs 0x20080000 0x20090000
  else if d = 3 then ({ s with ldl := Ldl.reset }).clearRegs 0x20700000 0x20710000
  else if d < 8 then
    let s := (List.range 8).foldl (fun s i => (s.endTrim (8 * (d - 4) + i)).setCell (8 * (d - 4) + i) CellSt.reset) s
    s.clearRegs (cbreg (d - 4) 0) (cbreg (d - 4) 0x10000)
  else if d < 12 then
    let c := s.canSt (d - 8)
    let s := s.clearRegs (canr (d - 8) 0) (canr (d - 8) 0x10000)
    s.setCan (d - 8) { CanSt.reset with rseq0 := c.rseq0, rseq1 := c.rseq1, tevseq := c.tevseq }
  else if d = 12 then s.ddrLost
  else s

/-- Domains from SYSTEM.PDREQ. -/
def State.domainsInit (s : State) : State :=
  let req := fieldAt (s.sec SEC_SYSTEM) 0 4 % 2 ^ 13
  let s := { s with sys := { s.sys with drainOff := [], powering := [] } }
  let s := (s.setRegN 0x20000040 req).setRegN 0x20000044 0
  (List.range 13).foldl (fun s d => if bitOf req d then (s.setFld (PDST d) D_OFF).domainLost d else s) s

/-- The image of the PROGRAM section comes into force (R121, R135, R141). -/
def State.imageInit (s : State) : State :=
  let im := s.sec SEC_PROGRAM
  let s := (s.setImage im).setFlag PRG_DLIMG false
  if im = [] then s else (s.loadSegs im).retainBind im

/-- The blocks of the drag plane, initialised from the pattern in force. -/
def State.blocksInit (s : State) : State :=
  let s := ((s.pourInit).loadLoops).startCells
  let s := ((s.canStart).netStart).plnStart
  let s := (s.ladleInit).pmcStart (s.sec SEC_COUNTERS)
  s.runStart (s.replayLoad + s.copyLoad * 65536)

/-- The drag plane starts from the pattern in force; the safety processor operates if group 0x05 was accepted for that
pattern (R58, Table SAF-7). A module fault on the way ends it. -/
def State.dragStart (s : State) : State :=
  let s := (s.domainsInit).imageInit
  if s.mode = HALT then s
  else
    let s := s.blocksInit
    let s := if s.patFlag 2 then s else s.dropMem PATAREA 0x200000000
    (if s.saf.loaded then s.safOperate else s).updAllDrives

/-- DRAG_PLANE_START: phases 4 and 5, the runtime's restart included. -/
def State.dragPlane (s : State) : State :=
  if s.mode ≠ STARTING ∨ s.fld RUNSTAT_PHASE ≠ 4 then s
  else
    let s := s.dragStart
    let s := if s.mode = HALT then s else s.runtimeRestart s.pwr.cause
    if s.mode = HALT then s else s.setFld RUNSTAT_PHASE 5

/-- MODE at the end of start-up (R56, R326, Table PAT-16). -/
def State.startMode (s : State) : State :=
  let auto := s.patFlag (if s.flag PAT_FALLBACK then 1 else 0)
  let partnerRuns := match s.run.partner with
    | some p => p.mode == RUN || p.mode == SAFE
    | none => false
  let go := s.fld RUNSTAT_REASON == 0 && s.role != R_NONE && s.sstate != SS_OFFLINE
    && (if s.isStandby then partnerRuns else auto)
  let s := s.setRegN PAT_STARTMS (min ((s.mono - s.pwr.startAt) / 1000000) 65535)
  if go then s.enterRun (s.flag RST_WARM) else s.modeChange STOP 0

/-- The role is decided by pair arbitration; a refusal of it is reported as the check's (R325, Table PAT-10). -/
def State.arbitrate (s : State) : State :=
  let s := s.roleResolve s.imageCrc s.fwVer
  match s.run.refusal with
  | some (c, a) => (s.setFld RUNSTAT_REASON c).setRegN PAT_RSNARG a
  | none => s

/-- ROLE_RESOLVE (R325): the role, then MODE. A refusal of the role is reported as the check's (0x0605). -/
def State.roleStart (s : State) : State :=
  if s.mode ≠ STARTING ∨ s.fld RUNSTAT_PHASE ≠ 5 then s
  else
    let s := s.arbitrate
    (s.startMode).setFld RUNSTAT_PHASE 6

/-! ### The end of a download (Table PRG-11) -/

abbrev PRG_DLREASON : Nat := 0x20030048
abbrev PRG_DLARG : Nat := 0x2003004C

/-- Download states (Table PRG-17). -/
abbrev DL_IDLE : Nat := 0
abbrev DL_STAGING : Nat := 1
abbrev DL_CHECKING : Nat := 2
abbrev DL_LOADING : Nat := 3

/-- On a STANDBY the outcome of a forwarded download goes to the primary: accepted or the reason code. -/
def State.dlReport (s : State) (ok : Bool) : State :=
  if s.isStandby then
    s.sendCtrl ([7] ++ leBytes 1 (if ok then 1 else 2) ++ leBytes 2 (s.regN PRG_DLREASON))
  else s

/-- A result other than accepted: back to IDLE, event 0x0095. -/
def State.dlEnds (s : State) (result : Nat) : State :=
  let s := ((s.setFld DL_STATE DL_IDLE).setFlag DL_BUSY false).setFld DL_RESULT result
  let s := { s with prg := { s.prg with staged := [] } }
  (s.runtimeEvent 0x95 (leBytes 1 result ++ [0] ++ leBytes 2 (s.regN PRG_DLREASON))).dlReport false

/-! ### Run control (R71 to R73, R130) -/

/-- Nothing that excludes RUN_REQ and RELOAD is in progress (R72, R140). -/
def State.runctlFree (s : State) : Bool :=
  !s.flag RUNSTAT_CHECK_BUSY && !s.flag RUNSTAT_RELOAD_BUSY && !s.flag DL_BUSY

/-- RUN_REQ acts. -/
def State.runReq (s : State) : State :=
  s.asPrimary (fun s =>
    if s.mode = STOP && s.runctlFree then
      ((s.setFlag RUNCTL_RUN_REQ true).setFlag RUNSTAT_CHECK_BUSY true).setFlag RUNSTAT_CANCELLED false
    else s)

/-- A check in progress is cancelled: REASON and ACCEPTED keep their values (Table PAT-15). A cancelled start-up check
leaves no pattern in force, and a cancelled download check ends the download as aborted (DESIGN CHOICE, log 50). -/
def State.cancelCheck (s : State) : State :=
  let s := ((s.setFlag RUNSTAT_CHECK_BUSY false).setFlag RUNCTL_RUN_REQ false).setFlag RUNSTAT_CANCELLED true
  if s.mode = STARTING then
    let s := { s with pat := { s.pat with staged := none, tried := [], toTry := [], unauth := none } }
    s.noPattern (s.fld RUNSTAT_REASON) (s.regN PAT_RSNARG)
  else if s.fld DL_STATE = 0 then s
  else s.dlEnds 4

/-- STOP_REQ acts: an orderly STOP in RUN, or the end of a check. -/
def State.stopReq (s : State) : State :=
  s.asPrimary (fun s =>
    if s.mode = RUN then s.beginStop
    else if s.flag RUNSTAT_CHECK_BUSY then s.cancelCheck
    else s)

/-- RELOAD acts; LPDDR4X that is OFF is powered up first (R73). In RECOVERY no pattern is loaded (R449). -/
def State.reload (s : State) : State :=
  if (s.mode = STOP || s.mode = NONE) && s.runctlFree && s.fld COPE_STATE != 3 then
    let s := (s.setFlag RUNCTL_RELOAD true).setFlag RUNSTAT_RELOAD_BUSY true
    let s := { s with pat := { s.pat with tried := [], toTry := [], staged := none } }
    if s.domain 12 = D_OFF then (s.setFld (PDST 12) D_ON).setBit 0x20000040 12 false else s
  else s

/-- A write of SYS_RUNCTL: STOP_REQ first, then RELOAD, then RUN_REQ (R71, R72). -/
def State.runctlWrite (s : State) (who : Initiator) (v : Nat) : State :=
  if who != .ap0 && who != .ap1 && who != .cope then { s with bus := ⟨[], true⟩ }
  else
    let s := (s.setFlag RUNCTL_CHECK_ONLY (bitOf v 2)).setFld RUNCTL_SLOT (bitsOf v 5 4)
    if bitOf v 1 then s.stopReq
    else if bitOf v 3 then s.reload
    else if bitOf v 0 then s.runReq
    else s

/-- ORDERLY_STOP_COMPLETE: no pour is in progress; the runtime on AP0 saves, and MODE becomes STOP (R130). A state region
or a header of the two copies that meets an uncorrectable error is a module fault (R34). The spec names no payload of 0x009A: it has none (log 23). -/
def State.orderlyStop (s : State) (writeError : Bool) : State :=
  if s.fld POUR_STATE ≠ P_STOPPING || !s.noPour then s
  else
    let s := s.pourOff
    if writeError || decide (COPY_MAX < s.saveBytes) then (s.runtimeEvent 0x9A []).enterStop
    else
      let (tasks, ue, s) := s.saveTasks (issAp 0)
      let (a, b, s) := s.readHeaders (issAp 0)
      if ue || a.isNone || b.isNone then s.moduleFault 6 0x2FF
      else (s.writeCopy (issAp 0) (nextCopy a b) 2 s.now (s.savePayload tasks) 0 true).enterStop

/-- The slots that a reload tries, by SLOT of SYS_RUNCTL as it stands when the reload completes (DESIGN CHOICE,
log 44). -/
def State.reloadOrder (s : State) : List Nat :=
  if s.fld RUNCTL_SLOT = 1 then [0] else if s.fld RUNCTL_SLOT = 2 then [1] else s.slotOrder

/-- How a reload's loading and checking ends: the slot accepted with its verdict, what was refused, the state. -/
structure Tried where
  slot : Option (Slot × Verdict)
  refused : List (Nat × Nat × Nat)
  state : State

/-- Staging, verifying and checking the slots of a reload in turn. A slot refused by a later group has its group 0x05
accepted all the same (R291). -/
def State.reloadTry (s : State) (readback : Bool) : List Nat → List (Nat × Nat × Nat) → Tried
  | [], tried => ⟨none, tried, s⟩
  | k :: rest, tried =>
    let s := s.stageSlot k
    match s.loadRsn k with
    | some (c, a) => s.reloadTry readback rest (tried ++ [(k, c, a)])
    | none =>
      let sl : Slot := ⟨k, s.slotBytes k⟩
      let v := (s.candidate k sl.bytes).verdict false readback
      match v.refusal false with
      | none => ⟨some (sl, v), tried, s⟩
      | some (c, a) =>
        let s := s.acceptSafety v ((sectOf sl.bytes SEC_SAFETY).getD []) readback
        if c / 256 = 6 then ⟨none, tried ++ [(k, c, a)], s⟩
        else s.reloadTry readback rest (tried ++ [(k, c, a)])

/-- Forces at an accepted reload (R73, R139): re-resolved against the new image, or kept when there is none. -/
def State.reloadForces (s : State) (old : List Byte) : State :=
  match s.sec? SEC_PROGRAM with
  | none => s
  | some im => s.resolveForces old im (s.patFlag 3)

/-- The events of the slots that fell back in a reload. -/
def State.fallbackEvents (s : State) (es : List (Nat × Nat × Nat)) : State :=
  es.foldl (fun s e => s.copeEvent (Config.fallbackCode.val + 1) (leBytes 1 e.1 ++ [0] ++ leBytes 2 e.2.1)) s

/-- PAT_RSN_ALT after a refused reload: the code of the slot not in force, if it was tried; with none in force, of
the slot tried second (R55; DESIGN CHOICE, log 21). -/
def State.altTried (s : State) (tried : List (Nat × Nat × Nat)) : Nat :=
  let e : Option (Nat × Nat × Nat) := match s.pat.force with
    | some sl => tried.find? (fun e => e.1 != sl.slot)
    | none => tried[1]?
  (e.map (fun e => e.2.1)).getD 0

/-- RELOAD_COMPLETE: the reload ends (R73). The refusal reported is that of the first slot tried (R57). -/
def State.reloadComplete (s : State) (fault : Option Nat) (readback wpHigh : Bool) : State :=
  if !s.flag RUNSTAT_RELOAD_BUSY then s
  else
    let s := { s with pat := { s.pat with keyFault := fault, wpHigh := wpHigh } }
    let s := (s.setRegN PAT_KEYID s.pat.keyId).setFlag RUNSTAT_RELOAD_BUSY false
    let s := (s.setFlag RUNCTL_RELOAD false).setFlag RUNSTAT_CANCELLED false
    match s.reloadTry readback s.reloadOrder [] with
    | ⟨none, tried, s⟩ =>
      let r := (tried.head?.map (fun e => e.2)).getD (0, 0)
      let s := s.fallbackEvents (tried.take (tried.length - 1))
      let s := s.setRegN PAT_RSN_ALT (s.altTried tried)
      ((s.setFlag RUNSTAT_ACCEPTED false).setFld RUNSTAT_REASON r.1).setRegN PAT_RSNARG r.2
    | ⟨some (sl, v), tried, s⟩ =>
      let first := s.mode == NONE
      let old := s.prg.image
      let s := s.fallbackEvents tried
      let s := { s with pat := { s.pat with tried := tried } }
      let s := (if first then s else s.stopDrag).bringIntoForce sl 0 0
      let s := (s.acceptSafety v (s.sec SEC_SAFETY) readback).dragStart
      let s := if s.mode = HALT then s else (s.reloadForces old).runtimeRestart 6
      let s := { s with run := { s.run with offer := false } }
      if s.mode = HALT then s else ((s.setRole R_NONE 0).arbitrate).modeChange STOP 0

end Sys2Proof.Machine
end

