-- ==== Sys2Proof/Machine/Download.lean ====
section
/-! DEFINITION. The download of a program image (R139 to R141, Table PRG-11, R328's paired procedure). -/

namespace Sys2Proof.Machine

/-- DLCTL_START: in STOP with nothing busy; anything else is refused and changes no state of the download. -/
def State.dlStart (s : State) : State :=
  if s.mode = STOP && s.runctlFree then
    let s := (s.setFld DL_STATE DL_STAGING).setFlag DL_BUSY true
    { s with prg := { s.prg with staged := [] } }
  else
    let s := s.setFld DL_RESULT 6
    s.runtimeEvent 0x95 (leBytes 1 6 ++ [0] ++ leBytes 2 (s.regN PRG_DLREASON))

/-- Bytes of the image at an offset; an image above 8,388,608 bytes ends the download. -/
def State.dlData (s : State) (off : Nat) (bs : List Byte) : State :=
  if s.fld DL_STATE ≠ DL_STAGING then s
  else if 8388608 < off + bs.length then s.dlEnds 5
  else
    let im := padTo (max s.prg.staged.length (off + bs.length)) s.prg.staged
    { s with prg := { s.prg with staged := overlay im off bs } }

/-- DLCTL_ABORT. -/
def State.dlAbort (s : State) : State := if s.fld DL_STATE = DL_STAGING then s.dlEnds 4 else s

/-- The staged image goes to its check. -/
def State.dlCheck (s : State) : State :=
  ((s.setFld DL_STATE DL_CHECKING).setFlag DL_BUSY true).setFlag RUNSTAT_CHECK_BUSY true

/-- One of the two modules has accepted a forwarded image, this one if `own`: PDL tells when both have (Table RUN-14). -/
def State.pdlAccept (s : State) (own : Bool) : State :=
  let p := if own then (true, s.run.pdl.2) else (s.run.pdl.1, true)
  let s := { s with run := { s.run with pdl := p } }
  if p.1 && p.2 then s.setFld RUN_PDL 1 else s

/-- DLCTL_APPLY; the primary forwards the image. -/
def State.dlApply (s : State) : State :=
  if s.fld DL_STATE ≠ DL_STAGING then s
  else
    let s := { s with run := { s.run with pdl := (false, false) } }
    let s := if s.isPrimary then (s.setFld RUN_PDL 0).sendCtrl ([6] ++ s.prg.staged) else s
    s.dlCheck

/-- PRG_DLCTL: only the cope processor writes it (R145). -/
def State.dlctl (s : State) (who : Initiator) (f : State → State) : State :=
  if who != .cope then { s with bus := ⟨[], true⟩ } else f s

/-- The state with the staged image in place of the image in force. -/
def State.withStaged (s : State) : State := { s with prg := { s.prg with image := s.prg.staged } }

/-- The staged image's own verification (R140 step 1). -/
def State.dlVerify (s : State) : Rsn :=
  let im := s.prg.staged
  imageRsn im im.length s.taskRecs s.fwVer <|> s.imageSigRsn im <|> leastRsn 0x906 s.withStaged.retainOver

/-- The check with the staged image in place of the image in force (R140 step 2). -/
def State.dlVerdict (s : State) (readback : Bool) : Verdict := s.withStaged.verdict false readback

/-- The check of a download accepts group 0x05 (R261, R291). -/
def State.dlSafety (s : State) (readback : Bool) : State :=
  if s.dlVerify.isSome then s else s.acceptSafety (s.dlVerdict readback) (s.sec SEC_SAFETY) readback

/-- DL_CHECK_COMPLETE. The admitted activity of an image that is to come into force is recorded (R28). -/
def State.dlChecked (s : State) (readback wpHigh : Bool) : State :=
  if s.fld DL_STATE ≠ DL_CHECKING then s
  else
    let s := { s with pat := { s.pat with wpHigh := wpHigh } }
    match s.dlVerify <|> (s.dlVerdict readback).refusal false with
    | some (c, a) =>
      let s := (s.dlSafety readback).checkEnds c a
      ((s.setRegN PRG_DLREASON c).setRegN PRG_DLARG a).dlEnds 2
    | none =>
      let s := (s.dlSafety readback).checkEnds 0 0
      let im := s.prg.staged
      match if s.patFlag 3 then none else s.noforceConflict im with
      | some id => (s.setRegN PRG_DLARG id).dlEnds 3
      | none =>
        let s := { s with sys := { s.sys with admitted := s.withStaged.recordAdmitted.sys.admitted } }
        (s.resolveForces s.prg.image im (s.patFlag 3)).setFld DL_STATE DL_LOADING

/-- DL_LOAD_COMPLETE; a module fault while binding the retentive data ends it. -/
def State.dlLoaded (s : State) : State :=
  if s.fld DL_STATE ≠ DL_LOADING then s
  else
    let im := s.prg.staged
    let s := (s.loadSegs im).retainBind im
    if s.mode = HALT then s
    else
      let s := (s.setImage im).recordAdmitted
      let s := ((s.setFld DL_STATE DL_IDLE).setFlag DL_BUSY false).setFld DL_RESULT 1
      let s := { s with prg := { s.prg with staged := [] } }
      let s := if s.isPrimary then s.pdlAccept true else s
      ((s.setFlag PRG_DLIMG true).runtimeEvent 0x94 []).dlReport true

/-- A forwarded image reaches the standby (R328): the same steps as an APPLY of its own. -/
def State.dlForwarded (s : State) (im : List Byte) : State :=
  if !s.isStandby then s
  else if s.mode = STOP && s.runctlFree && decide (im.length ≤ 8388608) then ({ s with prg := { s.prg with staged := im } }).dlCheck
  else s.dlReport false

/-- The standby's answer to a forwarded image: 1 accepted, 2 refused. -/
def State.dlAnswer (s : State) (result rsn : Nat) : State :=
  if !s.isPrimary then s
  else (if result = 1 then s.pdlAccept false else s.setFld RUN_PDL result).setRegN RUN_PDLRSN rsn

end Sys2Proof.Machine
end

