-- ==== Sys2Proof/Machine/Restart.lean ====
section
/-! DEFINITION. Resets of the module, the save and the start of the start-up timeline (R61, R62, R459, R465 to
R468, Tables PAT-9, PAT-12 and PWR-4). What a reset of causes 1 to 5 keeps is logged (log 22). -/

namespace Sys2Proof.Machine

def PWR_STATE : Fld := ⟨0x20B00000, 2, 0⟩
def PWR_RSTATE : Fld := ⟨0x20B00000, 10, 8⟩

/-- Charger states (Table PWR-10). -/
abbrev R_CHARGING : Nat := 0
abbrev R_TESTING : Nat := 1
abbrev R_CHARGED : Nat := 2
abbrev R_FAULT : Nat := 3
def PWR_RISEROK : Fld := ⟨0x20B00000, 11, 11⟩
def PWR_ERR (i : Nat) : Fld := ⟨0x20B00004, i, i⟩
def COPE_SESSION : Fld := ⟨0x20A00000, 5, 5⟩
def COPE_FWPEND : Fld := ⟨0x20A00000, 7, 7⟩

/-- Power states (Table PWR-10). -/
abbrev W_NORMAL : Nat := 1
abbrev W_HOLDUP : Nat := 2
abbrev W_SAVE : Nat := 3

/-- The location code of the power/clock controller (R14). -/
abbrev PWR_LOC : Nat := 0xD01

/-! ### The start-up timeline begins -/

/-- A session is open whose end is still to be recorded, or has been cut off already (R452). -/
def State.sessionOwed (s : State) : Bool := s.cope.endOwed || s.flag COPE_SESSION

/-- The cope processor is held in reset: sessions and transfers end (R445); the end of a session is recorded when it boots
(R452). -/
def State.copeDown (s : State) : State :=
  let owed := s.sessionOwed
  let s := ((s.setFlag COPE_SESSION false).setFlag PAT_KEYWS false).setFld COPE_STATE 2
  { s with cope := { s.cope with fwOpen := false, endOwed := owed } }

/-- Power good or the end of a reset: AON runs, phase 1, the safety processor's self-test, ALIVE_OUT toggles
(R67, R300, Table PAT-12). The first CHARGED from here on runs the bank's health test, at once where the bank is charged
already (R461, R61; DEDUCED, log 86). -/
def State.startUp (s : State) : State :=
  let s := { s with pwr := { s.pwr with inReset := false, startAt := s.mono, tested := s.fld PWR_RSTATE == R_CHARGED },
                    mgd := { s.mgd with holdAt := s.mono } }
  let s := (if s.pwr.tested then s.setFld PWR_RSTATE R_TESTING else s).setRegN MGD_HOLDMS 0
  let s := ((s.setMode STARTING).setFld RUNSTAT_PHASE 1).setRegN 0x20010020 s.pwr.cause
  let s := (s.setFld COPE_STATE 0).ddrLost
  let s := { s with pat := { s.pat with tried := [], toTry := [], staged := none, unauth := none } }
  ((s.safBoot).runAlive).updRelay

/-! ### Resets -/

/-- A result register of a cell: it keeps the last result until the next start of conversion (R213). -/
def resultReg (a : Nat) : Bool :=
  decide (0x20100000 ≤ a ∧ a < 0x20140000 ∧ 0x1000 ≤ a % 0x10000 ∧ a % 0x10000 < 0x1200 ∧ a % 0x40 < 0x20)

/-- Registers that a reset of causes 1 to 5 keeps: the results of the cells, those that count since power-on or that only a power-on
reset clears, the force table, the locked lattice, the counters (R443), and the power/clock controller's own. -/
def keptReg (a : Nat) : Bool :=
  resultReg a ||
  a == 0x20000024 || a == 0x20000030 || a == 0x20000034 || decide (0x20000050 ≤ a ∧ a < 0x20000060)
    || decide (0x20031000 ≤ a ∧ a < 0x20035000) || decide (0x20210000 ≤ a ∧ a < 0x20220000)
    || decide (0x20300000 ≤ a ∧ a < 0x20310000) || decide (0x20400000 ≤ a ∧ a < 0x20410000)
    || decide (0x20900000 ≤ a ∧ a < 0x20910000) || a == EVR_NEXTSEQ || a == EVR_BADBLK || a == EVR_TAILFILL || a == 0x20A0001C
    || decide (0x20B00000 ≤ a ∧ a < 0x20B10000)

/-- What the recorder keeps without power: tail, flash and its layout. -/
def Evr.durable (e : Evr) : Evr :=
  { Evr.reset with tail := e.tail, parts := e.parts, layout := e.layout, spares := e.spares, next := e.next,
                   badSeq := e.badSeq }

/-- What the cope processor keeps without power: keys, banks, password. -/
def Cope.durable (c : Cope) : Cope :=
  { Cope.reset with keys := c.keys, bankA := c.bankA, bankB := c.bankB, active := c.active, pw := c.pw }

/-- The pattern key and the straps stay; the pattern in force is gone. -/
def Pat.durable (p : Pat) : Pat :=
  { Pat.reset with key0 := p.key0, key1 := p.key1, keyId := p.keyId, straps := p.straps,
                   strapParity := p.strapParity }

/-- Counts that run since power-on: CAN and receive queue sequences. -/
def Can.counts (c : Can) : Can :=
  { Can.reset with ctl := c.ctl.map (fun e =>
      (e.1, { CanSt.reset with rseq0 := e.2.rseq0, rseq1 := e.2.rseq1, tevseq := e.2.tevseq })) }

/-- What a module reset of causes 1-5 does to every plain field: what is kept and what returns to its reset value. -/
def State.resetPlain (s : State) (cause : Nat) : State :=
  { s with
    regs := s.regs.filter (fun e => keptReg e.1)
    mem := s.mem.filter (fun e => decide (e.1 < DDR_LO))
    evr := s.evr.durable
    sys := { Sys.reset with eccCe := s.sys.eccCe, eccUe := s.sys.eccUe }
    pat := s.pat.durable
    pour := Pour.reset
    prg := { Prg.reset with applied := s.prg.applied }
    chan := { s.chan with conv := false, outLive := false, dual := none }
    cru := Cru.reset
    safNv := { s.safNv with fails := 0, locked := false, setPw := none }
    can := s.can.counts
    net := { Net.reset with rseq := s.net.rseq }
    ldl := Ldl.reset
    cope := { s.cope.durable with endOwed := s.sessionOwed }
    pwr := { s.pwr with inReset := true, cause := cause, save := none } }

/-- Every block of the module reset, cope region included; `cause` is the index of Table PAT-9. The force table stays, and so
does its indication (R138). -/
def State.moduleReset (s : State) (cause : Nat) : State :=
  let worn := s.flag EVR_FLASHWORN
  ((((((s.pmcStop).unpowerCells).mgdReset.resetPlain cause).setFlag EVR_FLASHWORN worn).updForced).runReset).safOff

/-- The reset has acted: start-up begins unless RST_IN# is held low or V_IN is below power good. -/
def State.afterReset (s : State) : State :=
  if s.pwr.rstHeld || s.fld PWR_STATE != W_NORMAL then s else s.startUp

/-- The ECC word lies in MRAM, which keeps its contents without power. -/
def mramWord (w : Nat) : Bool := decide (0x1000000 ≤ 16 * w ∧ 16 * w < 0x1400000)

/-- All supplies removed: only what needs no power stays; the recorder keeps the next SEQ (R429). -/
def State.powerOff (s : State) : State :=
  ({ State.reset with
      mem := s.mem.filter (fun e => decide (0x1000000 ≤ e.1 ∧ e.1 < 0x1400000))
      mono := s.mono
      free := s.free
      sys := { Sys.reset with eccCe := s.sys.eccCe.filter mramWord, eccUe := s.sys.eccUe.filter mramWord }
      evr := { s.evr.durable with next := some (s.evr.next.getD (s.regN EVR_NEXTSEQ)) }
      bus := s.bus
      outbox := s.outbox
      pat := s.pat.durable
      safNv := { s.safNv with fails := 0, locked := false, setPw := none }
      cope := s.cope.durable
      pwr := { Pwr.reset with rstHeld := s.pwr.rstHeld, disc := s.pwr.disc }
      pending := s.pending } : State)

/-! ### Records written straight to the staging tail (R62, R465) -/

def State.tailRecord (s : State) (t code src : Nat) (payload : List Byte) : State :=
  let s := s.seqRestore
  let e := s.codeEntry code
  let r := s.newRecord code src e.2.1 (ofBool (s.flag MGD_STAT_SYNC)) 0 (t / NS % 2 ^ 32) (t % NS) payload e.2.2
  if recsLen s.evr.tail + recLen r.payload ≤ TAIL_BYTES then
    ((s.tailMove (recLen r.payload) true).setTail (s.evr.tail ++ [r])).countRecord
  else s

/-! ### Watchdogs (R62, R468) -/

/-- A watchdog expires: substitute states, SDO0 to SDO7 off, ALIVE_OUT low, the event in the tail, the reset. -/
def State.watchdogReset (s : State) (cause code src : Nat) (payload : List Byte) : State :=
  if !s.pwr.on || s.pwr.inReset || s.pwr.save.isSome then s
  else
    let s := ((s.stopDrag).allOutSub).safDown
    let s := ((s.runDying).evrStop).tailRecord s.now code src payload
    (s.moduleReset cause).afterReset

/-! ### The save (R465 to R467) -/

/-- Ports and runner link of an inactive module: the PHYs are powered down, no frame leaves (R477, Table CON-7). -/
def State.contactsOff (s : State) : State :=
  let s := if s.linkUp then s.linkDown false false else s
  let s := [1, 2].foldl (fun s p => s.portLink p false) s
  { s with net := { s.net with wait := [] } }

/-- KEY_PWR supplies the pattern key; off on an inactive module (R44, R477). -/
def State.keyPwr (s : State) : Bool := s.up

/-- A save starts: everything stops (Table PWR-4). A trigger during a save changes nothing. -/
def State.saveStart (s : State) (cause vr : Nat) : State :=
  if !s.pwr.on || s.pwr.save.isSome then s
  else
    let hold := if cause = 1 then (s.mono - s.pwr.holdAt) / 1000000 else 0
    let s := { s with pwr := { s.pwr with save := some ⟨cause, s.mono, s.now, vr, hold⟩ } }
    let s := (((s.setFld PWR_STATE W_SAVE).runDying).contactsOff).stopDrag
    let s := ((s.dropWork).unpowerCells).safDown
    ((s.evrStop).copeDown).updRelay

/-- What the save writes of the runtime state: 0 nothing, 1 a full copy, 2 the marked header (R466). -/
def State.saveKind (s : State) : Nat :=
  if s.pat.force.isNone || !s.dragUp then 0
  else if s.faultHalt then 2
  else 1

/-- The save's own effect: the copy, and the record 0x01C2 when the save ran to its end (R466, Table PWR-5). -/
def State.saveWrite (s : State) (v : SaveSt) (done : Bool) : State :=
  let k := s.saveKind
  let (a, b, s) := if k = 0 then (none, none, s) else s.readHeaders issCope
  let c := nextCopy a b
  let seq := if k = 0 then 0 else c.2
  let s :=
    if k = 1 then
      let p := s.saveTasks issCope
      p.2.2.writeCopy issCope c v.cause v.ts (s.savePayload p.1) 0 done
    else if k = 2 then s.writeCopy issCope c v.cause v.ts [] 0xFFFFFFFF done else s
  if done then
    s.tailRecord v.ts 0x1C2 PWR_LOC (leBytes 1 v.cause ++ leBytes 1 k ++ leBytes 2 v.vr ++ leBytes 4 seq
      ++ leBytes 4 ((s.mono - v.start) / 1000) ++ leBytes 4 v.hold)
  else s

/-- SAVE_COMPLETE: the save is complete, or 10 ms have passed (`done` false); `vinGood`: V_IN at power good (R467). -/
def State.saveComplete (s : State) (done vinGood : Bool) : State :=
  match s.pwr.save with
  | none => s
  | some v =>
    let s := s.saveWrite v done
    if v.cause = 1 || !vinGood then s.powerOff
    else ((s.moduleReset (if v.cause = 3 then 1 else 2)).setFld PWR_STATE W_NORMAL).afterReset

/-! ### RST_IN# (R61) -/

/-- RST_IN: the line has been low for `low` tenths of a µs. In HOLDUP it starts the save even after a reset without one, when
the module waits for power good (R468, Table PWR-6). -/
def State.rstIn (s : State) (low : Nat) : State :=
  if low < 100 then s
  else
    let s := { s with pwr := { s.pwr with rstHeld := true } }
    if s.pwr.inReset && s.fld PWR_STATE != W_HOLDUP then s else s.saveStart 3 (s.regN 0x20B00014 % 65536)

/-- RST_IN_RELEASE: the line rises. -/
def State.rstRelease (s : State) : State :=
  if !s.pwr.rstHeld then s
  else
    let s := { s with pwr := { s.pwr with rstHeld := false } }
    if s.pwr.on && s.pwr.inReset then s.afterReset else s

/-- The straps of X1 as latched at the start of the timeline (R75, R298). -/
def State.latchStraps (s : State) (ids : Nat) (idPar present sideA : Bool) : State :=
  let ones := ((List.range 10).filter (bitOf ids)).length + ofBool idPar
  let s := { s with pat := { s.pat with straps := ids % 1024, strapParity := ones % 2 == 1 } }
  s.latchPair present sideA

/-- POWER_GOOD (R459): a module that is OFF starts with cause 0; one that waits in reset starts (R468). -/
def State.powerGood (s : State) (ids : Nat) (idPar present sideA : Bool)
    (key : Option (Nat × List Byte × List Byte)) : State :=
  let s := match key with
    | some (id, k0, k1) => { s with pat := { s.pat with keyId := id, key0 := k0, key1 := k1 } }
    | none => s
  if !s.pwr.on then
    let s := { s with mono := 0, pwr := { s.pwr with on := true, inReset := true, cause := 0 } }
    let (saved, s) := s.saveTime
    let s := (s.mgdPowerOn saved).latchStraps ids idPar present sideA
    let s := (s.setFld PWR_STATE W_NORMAL).setFld PWR_RSTATE 0
    if s.pwr.rstHeld then s.runDying else s.startUp
  else if s.pwr.inReset && s.pwr.save.isNone then
    let s := if s.fld PWR_STATE = W_NORMAL then s else s.setFld PWR_RSTATE R_CHARGING
    let s := ((s.latchStraps ids idPar present sideA).setFld PWR_STATE W_NORMAL)
    if s.pwr.rstHeld then s else s.startUp
  else s

end Sys2Proof.Machine
end

