-- ==== Sys2Proof/Machine/Power.lean ====
section
/-! DEFINITION. Feeds, hold-up, the Riser bank and the front indicators (R457 to R464, R470, R474, R479). -/

namespace Sys2Proof.Machine

def FEED (k : Nat) : Fld := ⟨0x20B00000, 3 + k, 3 + k⟩
def FREV (k : Nat) : Fld := ⟨0x20B00000, 5 + k, 5 + k⟩
def PWR_OVER : Fld := ⟨0x20B00000, 7, 7⟩
def PWR_EXTPRES : Fld := ⟨0x20B00000, 12, 12⟩
def PWR_EXTOK : Fld := ⟨0x20B00000, 13, 13⟩
def PWR_EXTREV : Fld := ⟨0x20B00000, 14, 14⟩
def PWR_RCAP_INT : Fld := ⟨0x20B00018, 15, 0⟩
def PWR_RCAP_EXT : Fld := ⟨0x20B00018, 31, 16⟩

/-! ### Feeds (R457, R474) -/

/-- FEED_CHANGE: feed `k` now stands at `mv` millivolts. -/
def State.feedChange (s : State) (k : Nat) (mv : Int) : State :=
  if !s.pwr.on then s
  else
    let ok := decide (18000 ≤ mv)
    let rev := decide (mv < -1000)
    if ok = s.flag (FEED k) ∧ rev = s.flag (FREV k) then s
    else
      let s := if s.flag (FEED k) && !ok then s.setFlag (PWR_ERR 0) true else s
      let s := if rev && !s.flag (FREV k) then s.setFlag (PWR_ERR 4) true else s
      ((s.setFlag (FEED k) ok).setFlag (FREV k) rev).event 0x1C0 PWR_LOC (leBytes 1 k ++ [0] ++ sBytes 2 (mv / 10))

/-- OVERVOLTAGE: V_IN above 36 V for 10 ms. -/
def State.overVoltage (s : State) : State :=
  if !s.pwr.on then s else ((s.setFlag PWR_OVER true).setFlag (PWR_ERR 5) true).event 0x1C7 PWR_LOC []

/-- INPUT_DISCONNECT and INPUT_RECONNECT of feed `k`. -/
def State.inputDisc (s : State) (k : Nat) (opened : Bool) : State :=
  { s with pwr := { s.pwr with disc := nbit s.pwr.disc k opened } }

/-! ### Hold-up (R464) -/

/-- HOLDUP_ENTRY. -/
def State.holdupEntry (s : State) : State :=
  if !s.pwr.on || s.fld PWR_STATE != W_NORMAL then s
  else
    let s := { s with pwr := { s.pwr with holdAt := s.mono } }
    (((s.setFld PWR_STATE W_HOLDUP).setFlag (PWR_ERR 1) true).bump 0x20B00028).event 0x1C1 PWR_LOC []

/-- FEED_RESTORED. -/
def State.feedRestored (s : State) : State :=
  if s.fld PWR_STATE ≠ W_HOLDUP then s
  else
    let ms := min ((s.mono - s.pwr.holdAt) / 1000000) 0xFFFFFFFF
    let s := ((s.setFld PWR_STATE W_NORMAL).setRegN 0x20B0002C ms).setFld PWR_RSTATE R_CHARGING
    s.event 0x1C4 PWR_LOC (leBytes 4 ms)

/-- SAVE_TRIGGER: V_R at or below 24.0 V, in mV. -/
def State.saveTrigger (s : State) (vr : Nat) : State :=
  if s.fld PWR_STATE = W_HOLDUP then s.saveStart 1 vr else s

/-! ### The Riser bank (R460 to R463) -/

/-- BANK_CHARGED: V_R reaches 47.0 V; the first time after power good the health test runs. -/
def State.bankCharged (s : State) : State :=
  if !s.pwr.on || s.fld PWR_RSTATE != R_CHARGING then s
  else if s.pwr.tested then s.setFld PWR_RSTATE R_CHARGED
  else ({ s with pwr := { s.pwr with tested := true } }).setFld PWR_RSTATE R_TESTING

/-- CHARGER_FAULT and CHARGER_RETRY. -/
def State.chargerFault (s : State) : State :=
  if !s.pwr.on then s
  else (((s.setFld PWR_RSTATE R_FAULT).setFlag (PWR_ERR 3) true).setFlag PWR_RISEROK false).event 0x1C5 PWR_LOC []

def State.chargerRetry (s : State) : State :=
  if s.fld PWR_RSTATE = R_FAULT then s.setFld PWR_RSTATE R_CHARGING else s

/-- RTEST: PWR_CTL.RTEST written. -/
def State.rtest (s : State) (who : Initiator) : State :=
  if who != .ap0 && who != .ap1 && who != .cope then { s with bus := ⟨[], true⟩ }
  else if s.mode = STOP && s.fld PWR_RSTATE == R_CHARGED then s.setFld PWR_RSTATE R_TESTING
  else s.setFlag (PWR_ERR 6) true

/-- HEALTH_TEST_COMPLETE: the voltage step 10 µs after the onset of 0.50 A and the further fall over 20 ms, in µV. -/
def State.healthTest (s : State) (step fall : Nat) : State :=
  if s.fld PWR_RSTATE ≠ R_TESTING then s
  else
    let cap := if fall = 0 then 65535 else min (10000000000 / fall) 65535
    let esr := min (step / 500) 65535
    let ok := decide (6600 * fall ≤ 10000000000) && decide (step ≤ 50000)
    let s := ((s.setFld PWR_RCAP_INT cap).setRegN 0x20B0001C esr).setFlag PWR_RISEROK ok
    let s := if ok then s else s.setFlag (PWR_ERR 2) true
    (s.setFld PWR_RSTATE R_CHARGING).event 0x1C3 PWR_LOC (leBytes 2 cap ++ leBytes 2 esr)

/-- The extension at `mv` while it charges: at 40 V its capacitance in 10 µF, of 0.10 A over 30 V, from the time since 10 V
(R462; DESIGN CHOICE, log 76). -/
def State.extMeasure (s : State) (mv : Nat) : State :=
  let at10 (t : Option Nat) : State := { s with pwr := { s.pwr with extAt := t } }
  if s.flag PWR_EXTOK || decide (mv < 10000) then at10 none
  else
    match s.pwr.extAt with
    | none => if mv < 40000 then at10 (some s.mono) else s
    | some t =>
      if mv < 40000 then s
      else
        let cap := min ((s.mono - t) / 3000000) 65535
        (((at10 none).setFld PWR_RCAP_EXT cap).setFlag PWR_EXTPRES (decide (100 ≤ cap)))

/-- EXTENSION_CHARGED: its capacitance in 10 µF. -/
def State.extCharged (s : State) (cap : Nat) : State :=
  if !s.pwr.on then s
  else
    let big := decide (100 ≤ cap)
    let s := ((s.setFld PWR_RCAP_EXT cap).setFlag PWR_EXTPRES big).setFlag PWR_EXTOK big
    (s.setFlag PWR_EXTREV false).event 0x1C6 PWR_LOC []

/-- EXTENSION_FAULT: below -1 V, or not above 1 V within 2 s (reversed or shorted). -/
def State.extFault (s : State) : State :=
  if !s.pwr.on then s
  else ((s.setFlag PWR_EXTREV true).setFlag PWR_EXTOK false).event 0x1C6 PWR_LOC []

/-- t_ride in ms for a capacitance in µF, V_R in mV and a power in 10 mW (R463). -/
def rideMs (c vr p : Nat) : Nat :=
  if vr ≤ 24000 then 0
  else if p = 0 then 0xFFFFFFFF
  else min (425 * c * (vr * vr - 576000000) / (p * 10000000000)) 0xFFFFFFFF

/-- PWR_MEASURE: V_IN, the feeds in 10 mV, V_R and the extension in mV, input power and charging power in 10 mW. -/
def State.pwrMeasure (s : State) (vin : Nat) (fa fb : Int) (vr vext pin chg : Nat) : State :=
  if !s.pwr.on then s
  else
    let s := (s.setRegN 0x20B0000C (vin % 65536)).setRegN 0x20B00010 (unsignedOf 16 fa + unsignedOf 16 fb * 65536)
    let s := (s.setRegN 0x20B00014 (vr % 65536 + vext % 65536 * 65536)).setRegN 0x20B00020 (pin % 65536)
    let s := if vin ≤ 36000 then s.setFlag PWR_OVER false else s
    let s := s.extMeasure vext
    let c := s.fld PWR_RCAP_INT + (if s.flag PWR_EXTOK then s.fld PWR_RCAP_EXT * 10 else 0)
    let s := s.setRegN 0x20B00024 (rideMs c vr pin)
    { s with pwr := { s.pwr with limit := if s.dragUp then some (6000 - (pin - chg)) else none } }

/-! ### Front indicators (R479, Table CON-8A) -/

inductive Lamp where
  | dark | lit | hz1 | hz4
  deriving DecidableEq, Repr

def State.ledPwr (s : State) : Lamp :=
  if s.fld PWR_STATE = W_HOLDUP then .hz4
  else if s.fld PWR_RSTATE ≠ R_CHARGED ∨ !s.flag PWR_RISEROK then .hz1 else .lit

def State.ledRun (s : State) : Lamp :=
  if s.mode = STARTING ∨ s.flag RUNSTAT_CHECK_BUSY ∨ s.flag RUNSTAT_RELOAD_BUSY ∨ s.flag DL_BUSY then .hz4
  else if s.mode = RUN then .lit
  else if s.mode = STOP ∨ s.mode = SAFE then .hz1 else .dark

def State.ledForce (s : State) : Lamp := if s.flag PRG_FORCED then .lit else .dark

def State.ledSafe (s : State) : Lamp :=
  if s.mode = SAFE then .lit
  else if s.saf.lock ≠ 0 ∨ s.saf.fault ≠ 0 ∨ s.saf.pairFault ≠ 0 ∨ s.saf.sdiFault ≠ 0 ∨ s.saf.tpFault ≠ 0 then .hz4
  else if s.safState ≠ S_OPERATE then .hz1 else .dark

/-- PAIR: green, then yellow. -/
def State.ledPair (s : State) : Lamp × Lamp :=
  if s.role = R_SOLO ∨ (s.role = R_NONE ∧ s.run.partner.isNone) then (.dark, .dark)
  else if s.role = R_PRIMARY then (.lit, .dark)
  else if s.isStandby && s.sstate == SS_SYNCED then (.hz1, .dark)
  else if s.isStandby && s.sstate == SS_SYNCING then (.dark, .lit)
  else if s.blind || s.sstate == SS_OFFLINE || !s.flag RUN_LINES then (.dark, .hz4)
  else (.dark, .dark)

def State.ledNet (s : State) (p : Nat) : Lamp :=
  let off := match oget s.pwr.blink p with | none => false | some t => decide (s.mono < t + 50000000)
  if s.flag (NET_UP p) && !off then .lit else .dark

def State.ledFault (s : State) : Lamp :=
  if s.faultHalt || s.fld COPE_STATE == 3 then .lit
  else if s.regN COPE_ALARM ≠ 0 ∨ s.regN 0x20000028 ≠ 0 ∨ s.regN 0x20000020 ≠ 0 then .hz1 else .dark

/-- Whether a lamp of a kind is lit now: flashing follows Marigold time. -/
def State.lampOn (s : State) (l : Lamp) : Bool :=
  match l with
  | .dark => false
  | .lit => true
  | .hz1 => decide (s.now % 1000000000 < 500000000)
  | .hz4 => decide (s.now % 250000000 < 125000000)

/-- The indicators PWR, RUN, FORCE, SAFE, PAIR green and yellow, NET1, NET2, FAULT as they are now: dark without
power and in a save, all lit during the lamp test. -/
def State.indicators (s : State) : List Bool :=
  let ls := [s.ledPwr, s.ledRun, s.ledForce, s.ledSafe, s.ledPair.1, s.ledPair.2, s.ledNet 1, s.ledNet 2, s.ledFault]
  if !s.pwr.on || s.pwr.save.isSome then ls.map (fun _ => false)
  else if s.mono < s.pwr.lampEnd then ls.map (fun _ => true)
  else ls.map s.lampOn

end Sys2Proof.Machine
end

