-- ==== Sys2Proof/Machine/System.lean ====
section
/-! DEFINITION. Regions, blocks, clocks, power domains, the fabric, ECC and the queue indices
(01_architecture.md, R60). -/

namespace Sys2Proof.Machine

abbrev SYS_BLKISO : Nat := 0x20000028
abbrev SYS_PDREQ : Nat := 0x20000040
abbrev SYS_PDERR : Nat := 0x20000048
abbrev SYS_FABOUT : Nat := 0x20000060

/-- The drag plane runs: it has started and no module fault has stopped it. -/
def State.dragRuns (s : State) : Bool := s.dragUp && !s.faultHalt

/-! ### Region states (Table SYS-15) -/

def RGN_FIELD : Nat := 0
def RGN_NET : Nat := 2
def RGN_COPE : Nat := 4

def regionNo : Region → Nat
  | .field => 0
  | .network => 2
  | .cope => 4

/-- The location code of a region (R14). -/
def regionLoc (r : Nat) : Nat := locBlockWhole (27 + r)

/-- The blocks of a region. -/
def regionBlocks (r : Nat) : List Nat := (List.range 26).filter (fun b => regionOfBlock b == r)

/-- A region that is neither resetting nor failed is degraded while a block of it is isolated. -/
def State.updRegion (s : State) (r : Nat) : State :=
  if s.fld (RGNSTAT r) = 1 ∨ s.fld (RGNSTAT r) = 3 then s
  else s.setFld (RGNSTAT r) (if (regionBlocks r).any (fun b => s.bit SYS_BLKISO b) then 2 else 0)

/-- CHB_STAT.STATE of the four channel blocks, and the outputs of the safety I/O front end. -/
def State.updFieldState (s : State) : State :=
  let s := (List.range 4).foldl (fun s b =>
    s.setFld (CHB_STATE b) (if s.fieldResetting then 2 else ofBool (s.bit SYS_BLKISO b))) s
  s.frontUpdate

/-- On a primary, the partner hears of a lost field region or channel block in use (R320; layout: log 20). -/
def State.tellFieldLoss (s : State) : State := if s.isPrimary then s.sendCtrl [8] else s

/-! ### Region resets (R16, R18, R60) -/

/-- RGNRSTCNT of a region. -/
def RGNRSTCNT (r : Nat) : Fld :=
  if r = 0 then ⟨0x20000034, 7, 0⟩ else if r = 2 then ⟨0x20000034, 15, 8⟩ else ⟨0x20000034, 23, 16⟩

/-- What a region loses while it is held in reset. -/
def State.regionDown (s : State) (r : Nat) : State :=
  if r = 0 then
    let s := (List.range 4).foldl (fun s b => s.blockSubst b) s
    (s.updFieldState).tellFieldLoss
  else if r = 2 then
    let s := ((s.canAllOff).plnStop).linkLoss false false
    ({ s with net := { s.net with wait := [] } }).mgdNetReset
  else s.copeDown

/-- A fault of a region that a reset contains: the reset, or at the third within 60 s a module fault. A region
that is already held in reset has no further fault (DESIGN CHOICE, log 28). -/
def State.regionFault (s : State) (r : Nat) : State :=
  if s.fld (RGNSTAT r) = 1 then s
  else
    let recent := s.sys.rgnHist.filter (fun e => decide (s.mono < e.2 + 60 * NS))
    if 2 ≤ (recent.filter (fun e => e.1 == r)).length then s.moduleFault 3 (regionLoc r)
    else
      let wait := if s.fld (RGNSTAT RGN_COPE) = 1 && r != RGN_COPE then s.sys.rgnWait ++ [r] else s.sys.rgnWait
      let s := { s with sys := { s.sys with rgnHist := (r, s.mono) :: recent, rgnWait := wait } }
      let s := ((s.setFlag (RGNFLT r) true).bumpSat (RGNRSTCNT r)).setFld (RGNSTAT r) 1
      let s := (regionBlocks r).foldl (fun s b => s.setBit SYS_BLKISO b false) s
      (s.regionDown r).updRelay

/-- The sections from which a region is re-initialised. -/
def regionSections (r : Nat) : List Nat :=
  if r = 0 then [SEC_CHANNELS, SEC_CURVES] else [SEC_CAN, SEC_NETWORK, SEC_POURLINE, SEC_TIME, SEC_REDUNDANCY]

/-- The re-read of a section from the slot in force fails: the key is gone, a read in it faults, or its digest
does not match (R60). -/
def State.rereadFails (s : State) (sl : Slot) (ty : Nat) : Bool :=
  match findSect sl.bytes ty with
  | none => false
  | some e =>
    let base := sl.slot * 0x800000
    let fault := match s.pat.keyFault with
      | some a => decide (a < base + e.off + e.len)
      | none => false
    !s.keyPresent || fault ||
      (sha256 (slice (padFF (e.off + e.len) (s.keySlot sl.slot)) e.off e.len)).take 16
        != slice sl.bytes (256 + 32 * e.index + 16) 16

/-- A re-initialisation that has to read the key meets a fault. -/
def State.reinitFails (s : State) (r : Nat) : Bool :=
  match s.pat.force with
  | none => false
  | some sl => !s.flag PAT_WCOPY && s.dragUp && (regionSections r).any (s.rereadFails sl)

/-- A health frame that waits in its transmit slot goes once the network region runs (R448). -/
def State.flushHealth (s : State) : State :=
  match s.cope.frame with
  | none => s
  | some f =>
    if s.fld (RGNSTAT RGN_NET) = 1 ∨ s.fld (RGNSTAT RGN_NET) = 3 then s
    else ({ s with cope := { s.cope with frame := none } }).fromP0 (some (s.frTci f).1) (s.outMask f) f .health

/-- The blocks of a region run again from the pattern. -/
def State.regionUp (s : State) (r : Nat) : State :=
  if !s.dragRuns then s
  else if r = 0 then (List.range 4).foldl (fun s b => s.startBlock b true) s
  else
    let (signals, s) := ((s.canStart).netStart).plnResume
    s.owdSignal signals

/-- The cope region boots again from the bank that was in force, and records its fault (R445, Table COPE-7). -/
def State.copeReboot (s : State) : State :=
  let k := s.fld ⟨0x20A00000, 2, 2⟩
  let s := s.lampTest
  let s := if bankOk (s.bank k) then s.takeBank k (s.flag ⟨0x20A00000, 3, 3⟩)
    else ((s.setFld COPE_STATE 3).setFlag ⟨0x20A00000, 6, 6⟩ s.cope.pw.isSome).updKeySt
  (s.bootEvents).copeEvent 0x17C []

/-- REGION_RESET_COMPLETE; `fault`: the key address from which reads fault. A region that fell due while the cope
region was resetting waits for the end of the cope boot. -/
def State.regionReady (s : State) (r : Nat) (fault : Option Nat) : State :=
  if s.fld (RGNSTAT r) ≠ 1 then s
  else if r = RGN_COPE then
    let s := { s with sys := { s.sys with rgnWait := [] } }
    (((s.setFld (RGNSTAT r) 0).copeReboot).updRegion r).updRelay
  else if s.sys.rgnWait.contains r then s
  else
    let s := { s with pat := { s.pat with keyFault := fault } }
    if s.reinitFails r then
      let s := s.moduleFault 8 (regionLoc r)
      if r = 0 then s.updFieldState else s
    else
      let s := ((s.setFld (RGNSTAT r) 0).regionUp r).updRegion r
      if r = 0 then (s.updFieldState).updAllDrives else s.flushHealth

/-! ### Block faults (R15, Table SYS-2) -/

/-- What isolation does to a block. -/
def State.isolateBlock (s : State) (b : Nat) : State :=
  if b < 4 then
    let used := (List.range 8).any (fun i => s.cellMode (8 * b + i) != 0)
    let s := ((s.blockSubst b).updFieldState).event 0xB8 (locBlockWhole b) []
    if used then s.tellFieldLoss else s
  else if b = 4 then s.frontUpdate
  else if b = 9 then s.ladleFault
  else if b = 13 then s.evrIsolate
  else if b = 16 then s.plnStop
  else if 18 ≤ b ∧ b ≤ 21 then s.canOff (b - 18)
  else if b = 22 then s.linkLoss false false
  else s

/-- The blocks contained at block level. -/
def blockLevel (b : Nat) : Bool :=
  decide (b ≤ 4) || b == 9 || b == 13 || b == 14 || b == 16 || decide (18 ≤ b ∧ b ≤ 22)

/-- BLOCK_FAULT and CHANNEL_BLOCK_FAULT. -/
def State.blockFault (s : State) (b : Nat) : State :=
  let r := regionOfBlock b
  if b = 15 ∨ b = 25 then s.regionFault r
  else if !blockLevel b then s.moduleFault 1 (locBlockWhole b)
  else if s.bit SYS_BLKISO b then s.setFlag (RGNFLT r) true
  else
    let s := (s.setFlag (RGNFLT r) true).setBit SYS_BLKISO b true
    (s.isolateBlock b).updRegion r

/-- A block re-initialised from the pattern. -/
def State.reinitBlock (s : State) (b : Nat) : State :=
  if b < 4 then ((s.startBlock b true).updFieldState).updAllDrives
  else if b = 4 then s.frontUpdate
  else if b = 9 then s.ladleInit
  else if b = 13 then s.evrReinit
  else if b = 14 then s.pmcStart (s.sec SEC_COUNTERS)
  else if b = 16 then s.plnStart
  else if 18 ≤ b ∧ b ≤ 21 then s.canStartOne (b - 18)
  else s

/-- BLKRST_WRITE: in STOP, isolated blocks contained at block level are re-initialised. -/
def State.blkrst (s : State) (m : Nat) : State :=
  if s.mode ≠ STOP then s
  else
    (List.range 26).foldl (fun s b =>
      if bitOf m b && s.bit SYS_BLKISO b && blockLevel b then
        ((s.setBit SYS_BLKISO b false).reinitBlock b).updRegion (regionOfBlock b)
      else s) s

/-! ### Clocks and the fabric (R17, R19, R30) -/

/-- CLOCK_LOSS. A module fault for the loss of AON, APP, FAB or TIM names the power/clock controller, which monitors
the clocks, as its origin (DESIGN CHOICE, log 40). -/
def State.clockLoss (s : State) : Clock → State
  | .fld => s.regionFault RGN_FIELD
  | .net => s.regionFault RGN_NET
  | .cop => s.regionFault RGN_COPE
  | _ => s.moduleFault 5 PWR_LOC

/-- SAF_CLOCK_LOSS: the watchdog's clock monitor opens the high-side switches. -/
def State.safClockLoss (s : State) : State := s.moduleFault 5 0xBFF

/-- MODULE_FAULT of an origin that no other command stands for. -/
def State.faultOf (s : State) : FaultOrigin → State
  | .drag => s.moduleFault 1 0xE7F
  | .safety => s.moduleFault 2 0xF7F
  | .selfCheck => s.moduleFault 7 PWR_LOC

/-- FABRIC_TIMEOUT; its origin is the fabric (DEDUCED, log 28). -/
def State.fabricTimeout (s : State) : State := s.moduleFault 4 0xD00

/-- FABRIC_PROMOTION: a class 2 or 3 request of port `p` takes the next grant as class 1. -/
def State.promote (s : State) (p cls : Nat) : State :=
  if cls < 2 ∨ 3 < cls then s
  else
    let q := if s.sys.promoted.contains p then s.sys.promoted else s.sys.promoted ++ [p]
    ({ s with sys := { s.sys with promoted := q } }).pmc1 14 0x11

/-! ### Power domains (R20 to R28, Table SYS-6) -/

/-- The running Ladle descriptor is in flight with domain `d` (R24). -/
def State.ladleInFlight (s : State) (d : Nat) : Bool :=
  match s.ldl.cur with
  | none => false
  | some x => d == 3 || domainOf (ldSrc x.bytes) == some d || domainOf (ldDst x.bytes) == some d

/-- Domains that are gated between windows; a channel block with a cell in waveform mode is not (Table SYS-5). -/
def State.gates (s : State) (d : Nat) : Bool :=
  decide (d ≤ 3) || d == 13 ||
    (decide (4 ≤ d ∧ d ≤ 7) && !(List.range 8).any (fun i => s.cellMode (8 * (d - 4) + i) == M_WAVE))

/-- Request to gate or turn off deferred (R24). -/
def State.drain (s : State) (d : Nat) : State := (s.setFld (PDST d) D_DRAINING).pmcCount 15 0x12 d 1

/-- DOMAIN_GATE: the window of domain `d` ends; `busy`: it has transactions in flight. -/
def State.domainGate (s : State) (d : Nat) (busy : Bool) : State :=
  if s.domain d ≠ D_ON || !s.gates d then s
  else if busy || s.ladleInFlight d then s.drain d
  else s.setFld (PDST d) D_GATED

/-- A gated domain wakes, from the timetable or at an access (R21, R22). -/
def State.domainWake (s : State) (d : Nat) : State :=
  if s.domain d = D_GATED then (s.setFld (PDST d) D_ON).pmcCount 15 0x10 d 1 else s

/-- A domain reaches OFF. -/
def State.domainOff (s : State) (d : Nat) : State := (s.setFld (PDST d) D_OFF).domainLost d

def State.setDrainOff (s : State) (l : List Nat) : State := { s with sys := { s.sys with drainOff := l } }

/-- DRAIN_COMPLETE. -/
def State.drainDone (s : State) (d : Nat) : State :=
  if s.domain d ≠ D_DRAINING then s
  else if s.sys.drainOff.contains d then (s.setDrainOff (s.sys.drainOff.filter (· != d))).domainOff d
  else s.setFld (PDST d) D_GATED

/-- DRAIN_LAPSE: a gating drain is incomplete when the next window is due. -/
def State.drainLapse (s : State) (d : Nat) : State :=
  if s.domain d = D_DRAINING && !s.sys.drainOff.contains d then s.setFld (PDST d) D_ON else s

/-- An OFF request for domain `d`. -/
def State.offReq (s : State) (d : Nat) (busy : Bool) : State :=
  if s.domain d = D_OFF || s.sys.drainOff.contains d then s
  else if d == 13 || s.sys.admitted.contains d then s.setBit SYS_PDERR d true
  else if s.domain d = D_DRAINING then s.setDrainOff (s.sys.drainOff ++ [d])
  else if busy || s.ladleInFlight d then (s.setDrainOff (s.sys.drainOff ++ [d])).drain d
  else s.domainOff d

/-- An ON request for domain `d`. -/
def State.onReq (s : State) (d : Nat) : State :=
  if s.sys.drainOff.contains d then (s.setDrainOff (s.sys.drainOff.filter (· != d))).setFld (PDST d) D_ON
  else if s.domain d = D_OFF && !s.sys.powering.contains d then
    { s with sys := { s.sys with powering := s.sys.powering ++ [d] } }
  else s

/-- PDREQ_WRITE; `busy` holds the domains with transactions in flight. -/
def State.pdreq (s : State) (v busy : Nat) : State :=
  if !s.dragStarted then s
  else
    let s := s.setRegN SYS_PDREQ (v % 2 ^ 14)
    (List.range 14).foldl (fun s d => if bitOf v d then s.offReq d (bitOf busy d) else s.onReq d) s

/-- The blocks of domain `d` cold-initialised from the pattern; where the drag plane or the block does not run they stay
stopped with it. -/
def State.coldInit (s : State) (d : Nat) : State :=
  let runs (b : Nat) : Bool :=
    s.dragRuns && !s.bit SYS_BLKISO b && s.fld (RGNSTAT (regionOfBlock b)) != 1 && s.fld (RGNSTAT (regionOfBlock b)) != 3
  if d = 2 then
    let s := s.loadLoops
    if s.fld POUR_STATE = P_RUN then s.cruStart false else s.cruStop (if s.mode = HALT then 2 else 0)
  else if d = 3 then
    let s := s.ladleInit
    if runs 9 then s else s.ladleDrop
  else if 4 ≤ d ∧ d ≤ 7 then
    let s := ((s.startBlock (d - 4) false).updFieldState)
    if runs (d - 4) then s else s.convOff (d - 4)
  else if 8 ≤ d ∧ d ≤ 11 then
    let s := s.canStartOne (d - 8)
    if runs (10 + d) then s else s.canOff (d - 8)
  else s

/-- DOMAIN_POWER_UP_DONE. An OFF request made meanwhile leaves it OFF. -/
def State.powerUpDone (s : State) (d : Nat) : State :=
  if !s.sys.powering.contains d then s
  else
    let s := { s with sys := { s.sys with powering := s.sys.powering.filter (· != d) } }
    if s.bit SYS_PDREQ d && s.domain d = D_OFF then s else (s.setFld (PDST d) D_ON).coldInit d

/-! ### ECC (R34) -/

/-- An error has come up in ECC word `w`. Two single-bit errors make an uncorrectable one. -/
def State.upset (s : State) (w : Nat) : Ecc → State
  | .none => s
  | .single =>
    if s.sys.eccUe.contains w then s
    else if s.sys.eccCe.contains w then
      { s with sys := { s.sys with eccCe := s.sys.eccCe.filter (· != w), eccUe := s.sys.eccUe ++ [w] } }
    else { s with sys := { s.sys with eccCe := s.sys.eccCe ++ [w] } }
  | .double =>
    if s.sys.eccUe.contains w then s
    else { s with sys := { s.sys with eccCe := s.sys.eccCe.filter (· != w), eccUe := s.sys.eccUe ++ [w] } }

/-- SCRUB_READ of the ECC word at byte address `a`, a class 3 request whose 16 bytes cross the memory's port (R29,
R437). -/
def State.scrub (s : State) (a : Nat) (e : Ecc) : State :=
  match memKind a with
  | none => s
  | some k =>
    if k == .ddr && s.domainShut 12 then s
    else
      let s := ((s.pmcCount 14 0x10 3 1).memCount a false).pmcBytes (if k == .ddr then 11 else 10) 16 0 false
      ((s.upset (a / 16) e).eccRead k (a / 16)).2

/-! ### Queue indices (R38, R39, R42) -/

/-- The initiator is the one that Table SYS-12 names for a side of queue `n`; `prod`: the producer's side. -/
def queueSide (n : Nat) (prod : Bool) (who : Initiator) : Bool :=
  let ap := who == .ap0 || who == .ap1
  if n = 52 ∨ n = 53 then if prod then ap else who == .cope
  else if n = 54 ∨ n = 55 then if prod then who == .cope else ap
  else if n = 60 ∨ n = 61 then if prod then ap else who == .saf
  else if n = 62 ∨ n = 63 then if prod then who == .saf else ap
  else if n < 40 then !prod && ap
  else if n < 48 then prod && ap
  else false

/-- QUEUE_PIDX_WRITE. -/
def State.pidxWrite (s : State) (who : Initiator) (n : Nat) (v : Word) : State :=
  if !queueSide n true who then { s with bus := ⟨[], false⟩ }
  else
    let s := { s with bus := ⟨[], false⟩ }
    let a := (v - s.reg (qreg n 0x0C)).toNat
    let room := s.qSize n - s.qFill n
    if a ≤ room then s.setReg (qreg n 0x0C) v
    else if a < 2 ^ 31 then s.qLose n (a - room)
    else s.setFlag ⟨qreg n 0x14, 1, 1⟩ true

/-- QUEUE_CIDX_WRITE. -/
def State.cidxWrite (s : State) (who : Initiator) (n : Nat) (v : Word) : State :=
  if !queueSide n false who then { s with bus := ⟨[], false⟩ }
  else
    let s := { s with bus := ⟨[], false⟩ }
    let a := (v - s.reg (qreg n 0x10)).toNat
    if a ≤ s.qFill n then s.setReg (qreg n 0x10) v
    else if queuePolicy n = 1 && 2 ^ 31 ≤ a then s
    else s.setFlag ⟨qreg n 0x14, 1, 1⟩ true

end Sys2Proof.Machine
end

