-- ==== Sys2Proof/Machine/Cope.lean ====
section
/-! DEFINITION. The cope management subsystem: sensors, health report, commands, firmware, keys
(17_cope_management.md, R46). -/

namespace Sys2Proof.Machine

/-- COPE_ERR: 0 HLATE, 1 SENSFAIL, 2 ALARM, 3 LOGINFAIL, 4 FWREF, 5 MBXERR. -/
def COPE_ERR (i : Nat) : Fld := ⟨0x20A00004, i, i⟩
abbrev COPE_WARN : Nat := 0x20A00010
abbrev COPE_FAIL : Nat := 0x20A00018
abbrev COPE_HSEQ : Nat := 0x20A0001C
abbrev COPE_HTIME : Nat := 0x20A00020
def copeS (i : Nat) : Nat := 0x20A00100 + 4 * i
def COPE_PWSET : Fld := ⟨0x20A00000, 6, 6⟩
def COPE_BANK : Fld := ⟨0x20A00000, 2, 2⟩
abbrev COPE_LOC : Nat := 0xCFF

/-! ### Sensors (R446) -/

def SensSt.reset : SensSt := ⟨0, 0, 0, 0, 0, 0⟩

/-- Beyond a low or a high limit. -/
def beyond (lo hi : Option Int) (v : Int) : Bool :=
  (match lo with
    | some l => decide (v < l)
    | none => false) ||
  (match hi with
    | some h => decide (h < v)
    | none => false)

/-- Inside every limit by the hysteresis `y`. -/
def within (d : Sensor) (y v : Int) : Bool :=
  let lo (x : Option Int) : Bool := match x with
    | some l => decide (l + y ≤ v)
    | none => true
  let hi (x : Option Int) : Bool := match x with
    | some h => decide (v ≤ h - y)
    | none => true
  lo d.warnLo && lo d.alarmLo && hi d.warnHi && hi d.alarmHi

/-- A reading at an end of the range, or missing. -/
def atEnd (d : Sensor) (v : Option Int) : Bool :=
  match v with
  | none => true
  | some x => decide (x ≤ d.lo ∨ d.hi ≤ x)

/-- A run goes on or starts again. -/
def runOf (b : Bool) (n : Nat) : Nat := if b then n + 1 else 0

/-- The classification: 0 NORMAL, 1 WARNING, 2 ALARM, 3 FAILED. -/
def SensSt.classify (x : SensSt) (old : Nat) : Nat :=
  let live := if 3 ≤ x.alarm then 2 else if 3 ≤ x.warn then 1 else if 3 ≤ x.norm || old == 3 then 0 else old
  if old = 3 then (if 3 ≤ x.valid then live else 3) else if 3 ≤ x.fail then 3 else live

/-- The runs of a reading of sensor `i` at one tick. Inside a limit of S28 by the hysteresis counts from the 50.00 % or
80.00 % that its table names. -/
def SensSt.tick (x : SensSt) (d : Sensor) (i : Nat) (v : Option Int) : SensSt :=
  let bad := atEnd d v
  let is (f : Int → Bool) : Bool := match v with
    | some n => f n
    | none => false
  let y := if i = 28 then d.hyst i - 1 else d.hyst i
  let x : SensSt := ⟨runOf (is (beyond d.warnLo d.warnHi)) x.warn, runOf (is (beyond d.alarmLo d.alarmHi)) x.alarm,
    runOf (is (within d y)) x.norm, runOf bad x.fail, runOf (!bad) x.valid, x.cls⟩
  { x with cls := x.classify x.cls }

def State.sens (s : State) (i : Nat) : SensSt := tblGet (fun _ => SensSt.reset) s.cope.sens i

/-- A change of state: flag and event. -/
def State.sensorChange (s : State) (i st v : Nat) : State :=
  let p := leBytes 1 i ++ [0] ++ leBytes 2 v
  if st = 1 then s.copeEvent 0x171 p
  else if st = 2 then (s.setFlag (COPE_ERR 2) true).copeEvent 0x172 p
  else if st = 3 then (s.setFlag (COPE_ERR 1) true).copeEvent 0x173 p
  else s

/-- The register of one reading; a reading that is missing is a free value (log 29). -/
def State.putReading (s : State) (i st : Nat) (v : Option (BitVec 16)) : State :=
  match v with
  | some x => s.setRegN (copeS i) (x.toNat + st * 65536)
  | none =>
    let (x, s) := s.draw 16
    s.setRegN (copeS i) (x + st * 65536)

/-- One sensor at a tick; its readings' registers are `i` up. The limits of S29 apply to each axis, and the sensor's state
is that of its worst axis. -/
def State.sensorTick (s : State) (c : List Byte) (i : Nat) (vs : List (Option (BitVec 16))) : State :=
  let d := sensorOf c i
  let num (v : Option (BitVec 16)) : Option Int := v.map (fun w => sensorNum i w.toNat)
  let xs := vs.zipIdx.map (fun e => (s.sens (i + e.2)).tick d i (num e.1))
  let old := s.fld ⟨copeS i, 17, 16⟩
  let st := (xs.map SensSt.cls).foldl max 0
  let s := { s with cope := { s.cope with sens := tblPut (fun _ => SensSt.reset) s.cope.sens i xs } }
  let s := vs.zipIdx.foldl (fun s e => s.putReading (i + e.2) st e.1) s
  let s := ((s.setBit COPE_WARN i (st == 1)).setBit COPE_ALARM i (st == 2)).setBit COPE_FAIL i (st == 3)
  let worst := (vs.filterMap id).foldl (fun a (w : BitVec 16) => if i = 29 then max a w.toNat else w.toNat) 0
  if st = old then s else s.sensorChange i st worst

/-! ### Health report (R448) -/

/-- The body of Table COPE-2 at the tick. -/
def State.healthBody (s : State) : List Byte :=
  let b := [1, 1] ++ leBytes 2 s.stationId ++ leBytes 4 s.statusWord ++ leBytes 4 (s.regN COPE_HSEQ) ++ ts80Bytes s.now
    ++ leBytes 2 s.fwVer ++ leBytes 1 (s.fld COPE_BANK + ofBool (s.flag ⟨0x20A00000, 3, 3⟩) * 128)
    ++ leBytes 1 (ofBool (s.flag COPE_RELAY)) ++ leBytes 4 (s.regN COPE_WARN) ++ leBytes 4 (s.regN COPE_ALARM)
    ++ leBytes 4 (s.regN COPE_FAIL) ++ leBytes 4 (s.regN SYS_MFLT) ++ leBytes 4 (s.regN 0x20000014)
    ++ (List.range 32).flatMap (fun i => leBytes 2 (s.regN (copeS i)))
  b ++ leBytes 4 (crc32c b)

/-- HDA and HCLASS of the COPE section, or their defaults. -/
def State.healthTo (s : State) : List Byte × Nat :=
  match s.sec? SEC_COPE with
  | some c => (slice c 0 6, fieldAt c 6 1)
  | none => ([0x03, 0x45, 0x57, 0x01, 0x00, 0x00], 0)

def State.healthFrame (s : State) (body : List Byte) : List Byte :=
  let (da, cls) := s.healthTo
  let tag := if s.hasSec SEC_NETWORK then beBytes 2 0x8100 ++ beBytes 2 (cls * 2 ^ 13 + s.vidPl) else []
  da ++ s.macBytes ++ tag ++ beBytes 2 0x88B6 ++ body

/-- The frame takes the transmit slot, in place of one still unsent: in the slot, or before a closed gate of a port. -/
def State.healthSend (s : State) : State :=
  let unsent := s.cope.frame.isSome || s.net.wait.any (fun w => w.kind == FrameKind.health)
  let s := if unsent then
      let s := { s with net := { s.net with wait := s.net.wait.filter (fun w => w.kind != FrameKind.health) } }
      (s.setFlag (COPE_ERR 0) true).copeEvent 0x17D []
    else s
  let body := s.healthBody
  ({ s with cope := { s.cope with body := body, frame := some (s.healthFrame body) } }).flushHealth

/-- COPE_TICK: the readings of S00 to S28 and of the three axes of S29 in the encoding of Table COPE-2; none:
missing. The firmware that serves the tick runs in state RUN only. -/
def State.copeTick (s : State) (vs : List (Option (BitVec 16))) : State :=
  if s.fld COPE_STATE ≠ 1 then s
  else
    let c := s.sec SEC_COPE
    let s := (List.range 29).foldl (fun s i => s.sensorTick c i [(vs.getD i none)]) s
    let s := s.sensorTick c 29 ((List.range 3).map (fun k => vs.getD (29 + k) none))
    let s := ((s.bump COPE_HSEQ).setRegN COPE_HTIME (ts32Of s.now)).updFwVer s.fwVer
    (s.tickRelay).healthSend

/-- COPE_WATCHDOG: 2 s without service. -/
def State.copeWatchdog (s : State) : State := s.regionFault RGN_COPE

/-! ### Sessions and passwords (R452) -/

def State.sessionEnd (s : State) : State :=
  if s.flag COPE_SESSION then (s.setFlag COPE_SESSION false).copeEvent 0x17A [] else s

def State.mgmtMatch (s : State) (pw : List Byte) : Bool :=
  match s.cope.pw with
  | some (salt, h) => sha256 (salt ++ pw) == h
  | none => false

/-- A wrong password: the fifth in a row refuses LOGIN for 60 s. -/
def State.mgmtWrong (s : State) : State :=
  let k := s.cope.fails + 1
  let s := { s with cope := { s.cope with fails := k, locked := s.cope.locked || decide (5 ≤ k) } }
  (s.setFlag (COPE_ERR 3) true).copeEvent 0x17B []

/-- LOGIN_LOCK_EXPIRY. -/
def State.loginLockExpiry (s : State) : State :=
  if s.cope.locked then { s with cope := { s.cope with locked := false, fails := 0 } } else s

/-- 12 to 64 bytes of ASCII from 0x20 to 0x7E. -/
def mgmtPwOk (p : List Byte) : Bool :=
  decide (12 ≤ p.length ∧ p.length ≤ 64) && p.all (fun b => decide (0x20 ≤ b.toNat ∧ b.toNat ≤ 0x7E))

/-! ### Commands (R453) -/

/-- What a command is answered with. -/
structure Answer where
  result : Nat
  arg : Nat
  data : List Byte
  deriving DecidableEq, Repr

def done0 : Answer := ⟨0, 0, []⟩

/-- RESULT 0x0004 with a cause that the manual does not number: ARG is a free value (log 29). -/
def State.refused (s : State) : Answer × State :=
  let (a, s) := s.draw 64
  (⟨4, a, []⟩, s)

def cmdData (e : List Byte) : List Byte := slice e 16 (fieldAt e 6 2)
def cmdArg (e : List Byte) : Nat := fieldAt e 8 8

/-- The command codes of Table COPE-5. -/
def knownCmd (c : Nat) : Bool :=
  [0x01, 0x02, 0x03, 0x10, 0x20, 0x21, 0x30, 0x31, 0x32, 0x40, 0x41, 0x42, 0x43, 0x50, 0x51, 0x52, 0x60, 0x61, 0x62,
    0x70, 0x71].contains c

/-- Commands that RECOVERY accepts (R449). -/
def recoveryCmd (c : Nat) : Bool := c == 1 || c == 2 || decide (0x50 ≤ c ∧ c ≤ 0x52)

/-- Commands that need the management privilege (Table COPE-5); SET_PW has a rule of its own. -/
def privCmd (c : Nat) : Bool :=
  decide (0x20 ≤ c ∧ c ≤ 0x52) || c == 0x60 || c == 0x61 || c == 0x70 || c == 0x71

/-- The queue that holds a command, if a queue does. -/
def srcQueue : CopeSrc → Option Nat
  | .port _ | .frame _ => none
  | .q52 => some 52
  | .q53 => some 53

/-- The entry at the head of Q52 or Q53 as the cope processor reads it; one with an uncorrectable error reads 0 (R34,
DEDUCED, log 41). -/
def State.copeHead (s : State) (q : Nat) : Option (List Byte) × State :=
  if s.fld COPE_STATE = 1 && s.qUsable q && s.qFill q != 0 then
    let (e, s) := s.blockRead issCope (s.qEntry q (s.cidx q)) 64
    (some e, s)
  else (none, s)

/-- The command layout that a source offers, if the cope processor serves it now, and the state with the entry read. -/
def State.copeRead (s : State) (src : CopeSrc) : Option (List Byte) × State :=
  match src with
  | .port b => (if s.fld COPE_STATE = 1 ∨ s.fld COPE_STATE = 3 then some ((b.drop 4).take (b.length - 8)) else none, s)
  | .frame _ => (none, s)
  | .q52 => s.copeHead 52
  | .q53 => s.copeHead 53

/-- The command layout that a source offers, if the cope processor serves it now. -/
def State.copeEntry (s : State) (src : CopeSrc) : Option (List Byte) := (s.copeRead src).1

/-- The frame around a service-port command is right: VER, KIND, CRC. -/
def srcFramed : CopeSrc → Bool
  | .port b => decide (24 ≤ b.length) && fieldAt b 0 4 == 0x0201
      && fieldAt b (b.length - 4) 4 == crc32c (b.take (b.length - 4))
  | _ => true

/-- The layout is malformed: reserved byte, RESULT, DLEN. -/
def layoutBad (src : CopeSrc) (e : List Byte) : Bool :=
  let n := fieldAt e 6 2
  fieldAt e 1 1 != 0 || fieldAt e 4 2 != 0 ||
    (match src with
      | .port _ => decide (1024 < n) || e.length != 16 + n
      | _ => decide (48 < n))

/-- A malformed command (Table COPE-7). -/
def State.malformed (s : State) : State := (s.setFlag (COPE_ERR 5) true).copeEvent 0x17E []

/-- The answer to a command, in the layout of Table COPE-4. An answer in Q54 or Q55 holds 48 data bytes
(DESIGN CHOICE, log 29: more are cut off). -/
def State.answerTo (s : State) (src : CopeSrc) (e : List Byte) (a : Answer) : State :=
  let lay (d : List Byte) : List Byte :=
    leBytes 1 (fieldAt e 0 1) ++ [0] ++ leBytes 2 (fieldAt e 2 2) ++ leBytes 2 a.result ++ leBytes 2 d.length
      ++ leBytes 8 a.arg ++ d
  match src with
  | .port _ =>
    let b := [1, 3, 0, 0] ++ lay (a.data.take 1024)
    { s with outbox := s.outbox ++ [.answer (b ++ leBytes 4 (crc32c b))] }
  | .frame _ => s
  | .q52 => s.qOffer 54 (lay (a.data.take 48))
  | .q53 => s.qOffer 55 (lay (a.data.take 48))

/-- One command: `mine` tells whether the row stands for it; a code of no command is taken by every row. The
answer's effect follows in `f`, which gets the layout. -/
def State.copeCmd (s : State) (src : CopeSrc) (mine : Nat → Nat → Bool)
    (f : State → List Byte → Answer × State) : State :=
  match s.copeEntry src with
  | none => s
  | some e =>
    let c := fieldAt e 0 1
    let known := knownCmd c && (c != 0x21 || decide (1 ≤ cmdArg e % 16 ∧ cmdArg e % 16 ≤ 5))
    if known && !mine c (cmdArg e % 16) then s
    else
      let t := (s.copeRead src).2
      let s := match (srcQueue src) with
        | some q => t.bump (qreg q 0x10)
        | none => t
      let port := (srcQueue src).isNone
      if !srcFramed src then s.malformed
      else if layoutBad src e then (s.malformed).answerTo src e ⟨6, 0, []⟩
      else if !known then
        if knownCmd c then (s.malformed).answerTo src e ⟨6, 0, []⟩ else s.answerTo src e ⟨2, 0, []⟩
      else if s.fld COPE_STATE = 3 && !recoveryCmd c then s.answerTo src e ⟨1, 0, []⟩
      else if privCmd c && !(port && s.flag COPE_SESSION) then s.answerTo src e ⟨1, 0, []⟩
      else if decide (c ≤ 3) && !port then s.answerTo src e ⟨1, 0, []⟩
      else
        let (a, s) := f s e
        let s := if a.result = 6 then s.malformed else s
        s.answerTo src e a

/-- The body of a service-port frame that is addressed to NET_MAC, untagged, of EtherType 0x88B6 (R452); DLEN tells where it
ends. -/
def State.portBody (s : State) (f : List Byte) : Option (List Byte) :=
  if frDa f = s.macBytes ∧ slice f 12 2 = beBytes 2 0x88B6 then some ((f.drop 14).take (24 + fieldAt f 24 2)) else none

/-- An answer in its frame, back to `sa`. -/
def State.answerFrame (s : State) (sa : List Byte) : Out → Out
  | .answer a => .frame 0 (sa ++ s.macBytes ++ beBytes 2 0x88B6 ++ a)
  | o => o

/-- A source is served: a frame at the service port that carries no command is no concern of the cope processor, which
answers one that does in a frame to its sender (R452). -/
def State.copeServe (s : State) (src : CopeSrc) (f : State → CopeSrc → State) : State :=
  match src with
  | .frame fr =>
    match s.portBody fr with
    | none => s
    | some b =>
      let t := f s (.port b)
      let n := s.outbox.length
      { t with outbox := t.outbox.take n ++ (t.outbox.drop n).map (s.answerFrame (frSa fr)) }
  | _ => f s src

/-- A row that stands for one command code. -/
def code (k : Nat) : Nat → Nat → Bool := fun c _ => c == k

/-! #### LOGIN, LOGOUT, SET_PW, HEALTH -/

def State.login (s : State) (e : List Byte) : Answer × State :=
  if s.flag COPE_SESSION then (⟨5, 0, []⟩, s)
  else if s.cope.locked then s.refused
  else if s.cope.pw.isNone then (⟨1, 0, []⟩, s)
  else if s.mgmtMatch (cmdData e) then
    let s := { s with cope := { s.cope with fails := 0 } }
    (done0, (s.setFlag COPE_SESSION true).copeEvent 0x17A [])
  else (⟨1, 0, []⟩, s.mgmtWrong)

def State.logout (s : State) (_ : List Byte) : Answer × State := (done0, s.sessionEnd)

/-- The old password ends at the first zero byte. -/
def splitPw (d : List Byte) : Option (List Byte × List Byte) :=
  let old := d.takeWhile (fun b => b != 0)
  if old.length < d.length then some (old, d.drop (old.length + 1)) else none

def State.setMgmtPw (s : State) (e : List Byte) : Answer × State :=
  match splitPw (cmdData e) with
  | none => (⟨6, 0, []⟩, s)
  | some (old, new) =>
    if !mgmtPwOk new then (⟨6, 0, []⟩, s)
    else if s.cope.pw.isSome && !s.flag COPE_SESSION then (⟨1, 0, []⟩, s)
    else if s.cope.pw.isSome && !s.mgmtMatch old then (⟨1, 0, []⟩, s.mgmtWrong)
    else
      let (a, s) := s.draw 64
      let (b, s) := s.draw 64
      let salt := leBytes 8 a ++ leBytes 8 b
      let s := { s with cope := { s.cope with pw := some (salt, sha256 (salt ++ new)), fails := 0 } }
      (done0, s.setFlag COPE_PWSET true)

def State.health (s : State) (_ : List Byte) : Answer × State := (⟨0, 0, s.cope.body⟩, s)

/-! #### RESET and RUNCTL -/

/-- RESET saves and resets with restart cause 2 (R61). -/
def State.copeReset (s : State) : State := s.saveStart 4 (s.regN 0x20B00014 % 65536)

/-- The cope processor writes SYS_RUNCTL or PRG_MODECTL: 1 STOP_REQ, 2 RUN_REQ, 3 RESUME, 4 TO_STOP, 5 RELOAD of
`slot`; the RESULT tells whether the mode lets it act. -/
def State.runctlAct (s : State) (k slot : Nat) : Nat × State :=
  let busy := s.flag RUNSTAT_CHECK_BUSY || s.flag RUNSTAT_RELOAD_BUSY || s.flag DL_BUSY
  let m := s.mode
  let ok := if k = 1 then m == RUN || s.flag RUNSTAT_CHECK_BUSY else if k = 2 then m == STOP
    else if k = 3 then m == SAFE else if k = 4 then m == SAFE || (m == HALT && s.fld HALT_CAUSE != 1)
    else m == STOP || m == NONE
  let r := if !ok || (s.isStandby && k != 5) then 3 else if busy && (k == 2 || k == 5) then 5 else 0
  let s := if k = 1 then s.runctlWrite .cope 2
    else if k = 2 then s.runctlWrite .cope 1
    else if k = 3 then s.asPrimary State.resume
    else if k = 4 then s.asPrimary State.toStop
    else s.runctlWrite .cope (8 + slot % 4 * 16)
  (r, s)

def State.copeRunctl (s : State) (k : Nat) (e : List Byte) : Answer × State :=
  let (r, s) := s.runctlAct k (bitsOf (cmdArg e) 5 4)
  (⟨r, 0, []⟩, s)

/-! #### Key write session (R46) -/

def State.keywsOpen (s : State) (_ : List Byte) : Answer × State :=
  if s.flag PAT_KEYWS then (⟨5, 0, []⟩, s)
  else (done0, (s.setFlag PAT_KEYWS true).copeEvent 0x17F [])

/-- Bytes written to a key slot: the sectors they touch keep their other bytes (DESIGN CHOICE, log 29). -/
def keyPut (slot : List Byte) (off : Nat) (bs : List Byte) : List Byte :=
  let n := max slot.length (off + bs.length)
  overlay (padFF n slot) off bs

/-- `fault`: the key does not answer (R45). -/
def State.keywsWrite (s : State) (fault : Bool) (e : List Byte) : Answer × State :=
  let a := cmdArg e
  let d := cmdData e
  let slot := a / 0x800000
  let off := a % 0x800000
  let inForce := match s.pat.force with
    | some f => f.slot == slot
    | none => false
  if !s.flag PAT_KEYWS || !s.keyPresent || fault || inForce || decide (1 < slot)
      || decide (0x800000 < off + d.length) then s.refused
  else
    let s : State := if slot = 0 then { s with pat := { s.pat with key0 := keyPut s.pat.key0 off d } }
      else { s with pat := { s.pat with key1 := keyPut s.pat.key1 off d } }
    (done0, s.copeEvent 0x17F [])

def State.keywsClose (s : State) (_ : List Byte) : Answer × State :=
  if s.flag PAT_KEYWS then (done0, (s.setFlag PAT_KEYWS false).copeEvent 0x17F []) else s.refused

/-! #### Downloads (R140) -/

/-- Why a START does not open a download: the mode, or something busy. -/
def State.dlStartResult (s : State) : Nat := if s.mode ≠ STOP then 3 else if !s.runctlFree then 5 else 0

def State.copeDlStart (s : State) (_ : List Byte) : Answer × State := (⟨s.dlStartResult, 0, []⟩, s.dlStart)

/-- A download step outside STAGING is refused. -/
def State.dlStaged (s : State) (f : State → State) : Answer × State :=
  if s.fld DL_STATE = DL_STAGING then (done0, f s) else s.refused

def State.copeDlData (s : State) (e : List Byte) : Answer × State :=
  s.dlStaged (fun s => s.dlData (cmdArg e) (cmdData e))
def State.copeDlApply (s : State) (_ : List Byte) : Answer × State := s.dlStaged State.dlApply
def State.copeDlAbort (s : State) (_ : List Byte) : Answer × State := s.dlStaged State.dlAbort

/-! #### Firmware (R450) -/

/-- The bank that is not in force. -/
def State.otherBank (s : State) : Nat := 1 - s.fld COPE_BANK

def State.setBank (s : State) (k : Nat) (b : List Byte) : State :=
  if k = 0 then { s with cope := { s.cope with bankA := b } } else { s with cope := { s.cope with bankB := b } }

def State.fwBegin (s : State) (_ : List Byte) : Answer × State :=
  if s.cope.fwOpen then (⟨5, 0, []⟩, s)
  else (done0, ({ s with cope := { s.cope with fwOpen := true } }).copeEvent 0x175 [])

def State.fwData (s : State) (e : List Byte) : Answer × State :=
  let off := cmdArg e
  let d := cmdData e
  if !s.cope.fwOpen || decide (16777216 < off + d.length) then s.refused
  else
    let k := s.otherBank
    let b := s.bank k
    (done0, s.setBank k (overlay (padTo (max b.length (off + d.length)) b) off d))

/-- MIN_FW of the pattern and of the image in force. -/
def State.minFw (s : State) : Nat :=
  max (fieldAt s.pattern 26 2) (if s.prg.image = [] then 0 else fieldAt s.prg.image 32 2)

/-- The refusal of an install: 1 mode, 2 verification, 3 VERSION; 0: none. -/
def State.fwRefusal (s : State) : Nat :=
  let b := s.bank s.otherBank
  if (s.mode == RUN || s.mode == SAFE || s.mode == HALT) && !s.isStandby then 1
  else if !bankOk b then 2
  else if fieldAt b 12 2 < s.minFw then 3
  else 0

/-- A FW_INSTALL: the transfer ends; the answer precedes a reset that ARG bit 0 asks for. -/
def State.fwInstall (s : State) (_ : List Byte) : Answer × State :=
  if !s.cope.fwOpen then s.refused
  else
    let k := s.fwRefusal
    let s := { s with cope := { s.cope with fwOpen := false } }
    if k ≠ 0 then (⟨4, k, []⟩, (s.setFlag (COPE_ERR 4) true).copeEvent 0x177 [])
    else
      let s := { s with cope := { s.cope with active := s.otherBank } }
      (done0, ((s.setFlag COPE_FWPEND true).updFwVer s.fwVer).copeEvent 0x176 [])

/-! #### Key store (R451) -/

/-- A change of the key store needs STOP or NONE. -/
def State.keyChange (s : State) (e : List Byte) (old new : Nat) (pt : List Byte) : Answer × State :=
  let k := cmdArg e
  if s.mode ≠ STOP ∧ s.mode ≠ NONE then (⟨3, 0, []⟩, s)
  else if decide (3 < k) || s.keyState k != old then s.refused
  else
    let s := { s with cope := { s.cope with keys := tblPut (fun _ => (0, [])) s.cope.keys k [(new, pt)] } }
    (done0, (s.updKeySt).copeEvent 0x179 [])

def State.keyInstall (s : State) (e : List Byte) : Answer × State :=
  if fieldAt e 6 2 ≠ 64 then (⟨6, 0, []⟩, s) else s.keyChange e 0 1 (cmdData e)

def State.keyRevoke (s : State) (e : List Byte) : Answer × State :=
  s.keyChange e 1 2 (tblGet (fun _ => (0, [])) s.cope.keys (cmdArg e)).2

/-- KEY_LIST: the state of the slots as COPE_KEYST holds it (DESIGN CHOICE, log 29). -/
def State.keyList (s : State) (_ : List Byte) : Answer × State := (⟨0, 0, leBytes 4 (s.regN 0x20A0000C)⟩, s)

/-! #### The recorder through the cope processor (R426, R428) -/

def State.copeEvrClear (s : State) (e : List Byte) : Answer × State :=
  (done0, s.partitionClear .cope true (cmdArg e % 16))

/-- A write of EVR_CkCTL by `who`. -/
def State.cursorCtl (s : State) (who : Initiator) (k v : Nat) : State :=
  match bitsOf v 4 2 with
  | 1 => s.cursorOldest who k (v % 4)
  | 2 => s.cursorSeq who k (v % 4)
  | 3 => s.cursorTime who k (v % 4)
  | 4 => s.cursorNewest who k (v % 4)
  | 5 => s.cursorAdvance who k
  | _ => if cursorOwner k who then s else { s with bus := ⟨[], true⟩ }

/-- EVR_READ: ARG holds EVR_C2CTL in its low word and EVR_C2ARG in its high word; the answer holds the filled
window (DESIGN CHOICE, log 29). -/
def State.copeEvrRead (s : State) (e : List Byte) : Answer × State :=
  let s := s.setRegN (evrC 2 4) (cmdArg e / 2 ^ 32)
  let s := (s.cursorCtl .cope 2 (cmdArg e % 2 ^ 32)).cursorFill 2 (fun _ => false)
  (⟨0, 0, (s.regBytes (evrWin 2) 1024).take (s.regN (evrC 2 0x10))⟩, s)

/-! ### The rows -/

def State.cmdReset (s : State) (src : CopeSrc) : State :=
  let t := s.copeCmd src (code 0x20) (fun s _ => (done0, s))
  let taken := match s.copeEntry src with
    | some e => fieldAt e 0 1 == 0x20 && srcFramed src && !layoutBad src e && (srcQueue src).isNone && s.flag COPE_SESSION
        && s.fld COPE_STATE == 1
    | none => false
  if taken then t.copeReset else t

/-- FW_INSTALL with ARG bit 0 set resets the module once the bank is marked ACTIVE. -/
def State.cmdFwInstall (s : State) (src : CopeSrc) : State :=
  let t := s.copeCmd src (code 0x52) State.fwInstall
  let bit0 := match s.copeEntry src with
    | some e => fieldAt e 0 1 == 0x52 && bitOf (cmdArg e) 0
    | none => false
  if bit0 && s.cope.fwOpen && !t.cope.fwOpen && t.flag COPE_FWPEND && t.cope.active == s.otherBank && s.fwRefusal == 0
  then t.copeReset else t

end Sys2Proof.Machine
end

