-- ==== Sys2Proof/Machine/Services.lean ====
section
/-! DEFINITION. Pourline services (R365, Tables PLN-12 and PLN-13). An answer leaves at once (log 30). -/

namespace Sys2Proof.Machine

abbrev PLN_SVCREF : Nat := 0x20510024

/-- The module that a request names, by side or as PRIMARY or SOLO, and Pourline runs. -/
def State.svcMine (s : State) (q : SvcReq) : Bool :=
  let t := q.target.toNat
  s.hasSec SEC_POURLINE && s.dragRuns && s.fld (RGNSTAT RGN_NET) != 1 && !s.bit SYS_BLKISO 16
    && bitsOf t 9 0 == s.stationId
    && (if t.testBit 10 then t.testBit 11 == s.sideA else s.role == R_PRIMARY || s.role == R_SOLO)

/-- The partner's MAC address, 0 when it has not been reported. -/
def State.partnerMac (s : State) : Nat :=
  match s.run.partner with
  | some p => p.mac
  | none => 0

/-- A request is a Pourline frame too: its sender may show a duplicate of the own station ID (R368). -/
def State.svcHear (s : State) (q : SvcReq) : State :=
  if s.hasSec SEC_NETWORK || s.stagedVid.isSome then s.dupSource s.partnerMac q.sender.toNat q.mac.toNat else s

/-- The sender is one of the engineering stations. -/
def State.svcEng (s : State) (q : SvcReq) : Bool :=
  let sec := s.sec SEC_POURLINE
  (List.range (min 4 (fieldAt sec 9 1))).any (fun i => fieldAt sec (12 + 2 * i) 2 == q.sender.toNat)

/-- The response frame, in class 5. -/
def State.svcReply (s : State) (q : SvcReq) (svc sub : Nat) (a : Answer) : State :=
  let hdr := leBytes 1 svc ++ leBytes 1 sub ++ [0, 0] ++ leBytes 2 q.target.toNat ++ leBytes 2 a.result
    ++ leBytes 4 a.arg ++ leBytes 2 a.data.length ++ [0, 0]
  let body := padTo ((a.data.length + 3) / 4 * 4) a.data
  s.sendFrame (s.plnFrame (stationAddr q.sender.toNat) 5 3 q.reqId.toNat (ts32Of s.now) 0 0 (hdr ++ body))

/-- The frame of a request as Pourline receives it (Tables PLN-4 and PLN-12). -/
def State.svcFrame (s : State) (q : SvcReq) (svc sub : Nat) : List Byte :=
  let body := leBytes 1 svc ++ leBytes 1 sub ++ [0, 0] ++ leBytes 2 q.target.toNat ++ [0, 0] ++ leBytes 4 q.arg.toNat
    ++ leBytes 2 q.data.length ++ [0, 0] ++ padTo ((q.data.length + 3) / 4 * 4) q.data
  let hdr := leBytes 1 1 ++ leBytes 1 2 ++ leBytes 2 q.sender.toNat ++ leBytes 4 q.status.toNat
    ++ leBytes 4 q.reqId.toNat ++ leBytes 4 q.ts.toNat ++ [0, 0] ++ leBytes 2 body.length ++ [0, 0, 0, 0]
  let f := stationAddr (bitsOf q.target.toNat 9 0) ++ leBytes 6 q.mac.toNat ++ beBytes 2 0x8100
    ++ beBytes 2 (5 * 2 ^ 13 + s.vidPl) ++ beBytes 2 0x88B5 ++ hdr ++ body ++ leBytes 4 (crc32c (hdr ++ body))
  f ++ List.replicate (60 - f.length) 0

/-- Pourline passes a request on: for the runtime to Q37, and one that the queue does not take the runtime does not see; a
DOWNLOAD or RUNCTL to the cope processor, which sees none while it does not run (R365). The entry stays until its consumer
moves the index. -/
def State.svcPass (s : State) (q : SvcReq) (svc sub : Nat) : Bool × State :=
  if svc = 3 ∨ svc = 4 then (s.fld COPE_STATE == 1, s) else s.rxPut 5 (if q.p2 then 2 else 1) (s.svcFrame q svc sub)

/-- A refusal for want of a place in ENG_ID. -/
def State.svcNotEng (s : State) : State :=
  ((s.bump PLN_SVCREF).setFlag (PLN_ERR 4) true).event 0x12D PLN_LOC []

/-- One request of a known service: `eng`, it needs an engineering station; `any`, a STANDBY answers it. More data
than Table PLN-12 allows is a format error. A module fault leaves no answer. -/
def State.service (s : State) (q : SvcReq) (svc sub : Nat) (eng any : Bool) (f : State → Answer × State) : State :=
  let s := s.svcHear q
  if !s.svcMine q then s
  else
    let s := s.pmc1 9 0x13
    if eng && !s.svcEng q then (s.svcNotEng).svcReply q svc sub ⟨1, 0, []⟩
    else if s.isStandby && !any then s.svcReply q svc sub ⟨3, 0, []⟩
    else if 1024 < q.data.length then s.svcReply q svc sub ⟨6, 0, []⟩
    else
      let (ok, s) := s.svcPass q svc sub
      if !ok then s
      else
        let (a, s) := f s
        if s.dragRuns then s.svcReply q svc sub a else s

/-- The SVC codes of Table PLN-13. -/
def svcKnown (svc : Nat) : Bool := decide (1 ≤ svc ∧ svc ≤ 5)

/-- Table PLN-13 has a row for this SVC and SUBOP. -/
def subKnown (svc sub : Nat) : Bool :=
  decide (1 ≤ sub) && (match svc with
    | 1 => decide (sub ≤ 1)
    | 2 => decide (sub ≤ 3)
    | 3 => decide (sub ≤ 5)
    | 4 => decide (sub ≤ 4)
    | 5 => decide (sub ≤ 2)
    | _ => false)

/-- UNKNOWN_SERVICE: Pourline itself answers an unknown SVC; a known SVC with an unknown SUBOP is passed on like any other
of that SVC and answered as an unknown service (DEDUCED, log 71). -/
def State.svcUnknown (s : State) (q : SvcReq) (svc sub : Nat) : State :=
  if subKnown svc sub then s
  else if svcKnown svc then
    s.service q svc sub (svc == 3 || svc == 4) (svc == 1 || svc == 5) (fun s => (⟨2, 0, []⟩, s))
  else
    let s := s.svcHear q
    if s.svcMine q then (s.pmc1 9 0x13).svcReply q svc sub ⟨2, 0, []⟩ else s

/-! ### READ and FORCE -/

/-- A symbol at its task's last commit; a global symbol, or one whose task has not committed, as it is now. -/
def State.symValue (s : State) (y : Sym) : Nat × Bool :=
  match s.symTask y with
  | none => s.symNow y
  | some t =>
    match (s.task t).vals.find? (fun e => e.1 == y.id) with
    | some e => e.2
    | none => s.symNow y

/-- Where a symbol lies: the pair whose runtime reads it, its address and its bytes there. -/
def State.symPlace (s : State) (y : Sym) : Nat × Nat × Nat :=
  match s.symIo y with
  | none => (s.symPair y, y.addr, min y.size 8)
  | some e =>
    match s.taskRec? e.task with
    | none => (0, 0, 0)
    | some r => (r.pair, (if e.dir = 1 then r.inBase else r.outBase) + e.off, fmtBytes e.fmt)

/-- The runtime on pair `p` reads `n` bytes that it does not hold in its cache: an uncorrectable error is a module fault
(R34). -/
def State.coreTouch (s : State) (p a n : Nat) : State :=
  if n = 0 || s.holds p a n then s
  else
    let (e, s) := s.busRead (issAp p) a n
    if e.isSome then s else s.moduleFault 6 (if p = 0 then 0x2FF else 0x37F)

/-- The 16 bytes of one symbol in the answer to READ, and the state with the symbol read. -/
def State.readSym (s : State) (id : Nat) : List Byte × State :=
  let plain (qual v : Nat) : List Byte := leBytes 4 id ++ leBytes 1 qual ++ [0, 0, 0] ++ leBytes 8 v
  match findSym s.prg.image id with
  | none => (plain 2 0, s)
  | some y =>
    if y.type = 0x11 ∨ y.type = 0x20 then (plain 3 0, s)
    else
      let (v, bad) := s.symValue y
      let (p, a, n) := s.symPlace y
      (plain (ofBool bad) v, s.coreTouch p a n)

/-- The symbols of a READ, in the order of the request. -/
def State.readSyms (s : State) : List Nat → List Byte × State
  | [] => ([], s)
  | id :: ids =>
    let (b, s) := s.readSym id
    let (bs, s) := s.readSyms ids
    (b ++ bs, s)

/-- Words of 4 bytes in a request's data. -/
def svcWords (d : List Byte) : List Nat := (List.range (d.length / 4)).map (fun i => fieldAt d (4 * i) 4)

def State.svcRead (s : State) (q : SvcReq) : State :=
  s.service q 1 1 false true (fun s =>
    if q.data.length % 4 ≠ 0 ∨ 256 < q.data.length then (⟨6, 0, []⟩, s)
    else
      let (bs, s) := s.readSyms (svcWords q.data)
      (⟨0, 0, bs⟩, s))

/-- The refusal of R136 in list order; 0: none. -/
def State.forceRefusal (s : State) (id : Nat) : Nat :=
  match findSym s.prg.image id with
  | none => 1
  | some y =>
    if y.noforce || y.isConst then 2
    else if y.type = 0x11 ∨ y.type = 0x20 then 3
    else if s.mode ≠ STOP ∧ s.mode ≠ RUN then 4
    else if (s.forceOf id).isNone && (List.range 512).all (fun n => s.flag (F_ACTIVE n)) then 5
    else 0

def State.svcForceSet (s : State) (q : SvcReq) : State :=
  s.service q 2 1 true false (fun s =>
    let id := fieldAt q.data 0 4
    if q.data.length ≠ 12 then (⟨6, 0, []⟩, s)
    else if s.forceRefusal id ≠ 0 then (⟨4, s.forceRefusal id, []⟩, s)
    else (done0, (s.forceSet id (fieldAt q.data 4 8)).2))

/-- A symbol that is not forced needs no release. -/
def State.svcForceRelease (s : State) (q : SvcReq) : State :=
  s.service q 2 2 true false (fun s =>
    let id := fieldAt q.data 0 4
    if q.data.length ≠ 4 then (⟨6, 0, []⟩, s)
    else if (findSym s.prg.image id).isNone then (⟨4, 1, []⟩, s)
    else if s.mode ≠ STOP ∧ s.mode ≠ RUN then (⟨4, 4, []⟩, s)
    else (done0, (s.forceRelease id).2))

def State.svcForceList (s : State) (q : SvcReq) : State :=
  s.service q 2 3 false false (fun s =>
    let ns := (s.activeForces.filter (fun n => decide (q.arg.toNat ≤ n))).take 64
    (⟨0, 0, ns.flatMap (fun n => leBytes 4 (s.regN (freg n 0)) ++ leBytes 8 (s.forceVal n))⟩, s))

/-! ### DOWNLOAD and RUNCTL: the cope processor, with the management privilege -/

/-- The cope processor performs it, for an engineering station. -/
def State.svcCope (s : State) (q : SvcReq) (svc sub : Nat) (f : State → Answer × State) : State :=
  s.service q svc sub true false f

/-- A refused download step reports the reason code. -/
def State.svcDl (s : State) (f : State → State) : Answer × State :=
  if s.fld DL_STATE ≠ DL_STAGING then (⟨4, s.regN PRG_DLREASON, []⟩, s)
  else
    let t := f s
    if t.fld DL_STATE = DL_IDLE ∧ t.fld DL_RESULT ≠ 4 then (⟨4, t.regN PRG_DLREASON, []⟩, t) else (done0, t)

def State.svcDlStart (s : State) (q : SvcReq) : State :=
  s.svcCope q 3 1 (fun s => (⟨s.dlStartResult, 0, []⟩, s.dlStart))
def State.svcDlData (s : State) (q : SvcReq) : State :=
  s.svcCope q 3 2 (fun s => s.svcDl (fun s => s.dlData q.arg.toNat q.data))
def State.svcDlApply (s : State) (q : SvcReq) : State := s.svcCope q 3 3 (fun s => s.svcDl State.dlApply)
def State.svcDlAbort (s : State) (q : SvcReq) : State := s.svcCope q 3 4 (fun s => s.svcDl State.dlAbort)
def State.svcDlStatus (s : State) (q : SvcReq) : State :=
  s.svcCope q 3 5 (fun s => (⟨0, 0, leBytes 4 (s.regN 0x20030044) ++ leBytes 4 (s.regN PRG_DLREASON)
    ++ leBytes 4 (s.regN PRG_DLARG)⟩, s))

def State.svcRunctl (s : State) (q : SvcReq) (k : Nat) : State :=
  s.svcCope q 4 k (fun s =>
    let (r, s) := s.runctlAct k 0
    (⟨r, s.regN 0x20000014, []⟩, s))

/-! ### DIAG -/

/-- The 56 bytes of DIAG STATUS. -/
def State.diagStatus (s : State) : List Byte :=
  [0x20000014, 0x20010004, 0x20010008, 0x2001000C, 0x20010010, 0x20010014, 0x20300000, 0x20000030, 0x20400000,
    0x20030000, 0x20200000, 0x20020000, 0x20500000, 0x20510000].flatMap (fun a => leBytes 4 (s.regN a))

def State.svcDiagStatus (s : State) (q : SvcReq) : State :=
  s.service q 5 1 false true (fun s => (⟨0, 0, s.diagStatus⟩, s))

/-- A record put into a list in SEQ order from `base`. -/
def seqInsert (base : Nat) (r : Record) : List Record → List Record
  | [] => [r]
  | x :: t =>
    if (r.seq + 2 ^ 32 - base) % 2 ^ 32 < (x.seq + 2 ^ 32 - base) % 2 ^ 32 then r :: x :: t
    else x :: seqInsert base r t

/-- The records held in flash from SEQ `a` on, in SEQ order (R415: modulo 2^32). -/
def State.recordsFrom (s : State) (a : Nat) : List Record :=
  let held := (List.range 4).flatMap (fun p => (s.part p).held)
  (held.filter (fun r => decide ((r.seq + 2 ^ 32 - a) % 2 ^ 32 < 2 ^ 31))).foldl (fun l r => seqInsert a r l) []

def State.svcDiagEvents (s : State) (q : SvcReq) : State :=
  s.service q 5 2 false true (fun s =>
    (⟨0, 0, (fitRecords 1024 (s.recordsFrom q.arg.toNat)).flatMap recBytes⟩, s))

end Sys2Proof.Machine
end

