-- ==== Sys2Proof/Machine/Link.lean ====
section
/-! DEFINITION. CTRL frames as a module receives them (R311, R318, R320, R326, R328, R393). A change of the
primary's mode, of an epoch or of a queue applies when its frame arrives (log 20). -/

namespace Sys2Proof.Machine

/-- A change of the primary's force table (R311). -/
def State.ctrlForce (s : State) (m : ForceMsg) : State := if s.isStandby then s.forceArrives m else s

/-- A mode change of the primary (R326). -/
def State.ctrlMode (s : State) (old new cause : Nat) : State :=
  if !s.isStandby then s
  else if new = RUN then
    if s.mode = SAFE ∧ old = SAFE then s.modeChange RUN 0
    else if s.mode = STOP ∧ s.runctlFree then s.setFlag RUNSTAT_CHECK_BUSY true
    else s
  else if new = SAFE then s.enterSafe cause
  else if new = HALT then if cause = 4 then s.enterHalt 4 else s
  else if new = STOP then
    if s.mode = HALT ∧ s.fld HALT_CAUSE ≠ 1 then s.enterStop else s.beginStop
  else s

/-- Live state and epoch of a station from the primary (R311). -/
def State.ctrlEpoch (s : State) (st : Nat) (live : Bool) (v : Word) : State :=
  if s.isStandby then (s.setFlag (plnLive st) live).setReg (plnEpoch st) v else s

/-- An entry of Q16 to Q27 in the same position as on the primary (R393). -/
def State.ctrlEntry (s : State) (q idx : Nat) (entry data : List Byte) : State :=
  if !s.isStandby || decide (q < 16 ∨ 27 < q) then s
  else
    let n := (q - 16) / 2
    let base := fieldAt (s.canRec n) (32 + 4 * ((q - 16) % 2)) 4
    let s := if s.qUsable q then s.setRegN (qreg q 0x0C) idx else s
    let s := if q < 24 && s.qUsable q && decide (s.qFill q < s.qSize q) then
      s.blockWrite issRunner (base + s.pidx q % s.qSize q * 64) (padTo 64 data) else s
    s.qOffer q entry

/-- The partner requests self-checks (R318). -/
def State.ctrlCheck (s : State) : State := s.setFlag RUN_CHECKING true

/-- What a frame's loss leads to beside its count (R304, R314). -/
def State.lostFrame (s : State) : State := (s.frameBad).restartSync

/-- CTRL_FRAME; `good`: its CRC is right. -/
def State.ctrlFrame (s : State) (m : CtrlMsg) (good : Bool) : State :=
  if !s.linkUp || s.bit SYS_BLKISO 22 then s
  else if !good then s.lostFrame
  else
    let s := s.frameGood
    match m with
    | .status p sync theta => s.partnerStatus p sync theta
    | .force stack n id ctl l0 l1 vlo vhi => s.ctrlForce ⟨stack.toNat, n.toNat, [id, ctl, l0, l1, vlo, vhi]⟩
    | .mode old new cause => s.ctrlMode old.toNat new.toNat cause.toNat
    | .epoch st live v => s.ctrlEpoch st.toNat live v
    | .queueEntry q idx e d => s.ctrlEntry q.toNat idx.toNat e d
    | .take cause cell => s.yieldTo cause.toNat cell.toNat
    | .selfCheck _ _ => s.ctrlCheck
    | .switchReq => if s.isStandby && s.synced then s.beginTake 6 0 false else s
    | .fieldLoss => s.partnerFieldLoss
    | .cellFault cell pass => s.partnerCellFault cell.toNat pass
    | .resync => s.startPass
    | .download im => s.dlForwarded im
    | .downloadResult r rsn => s.dlAnswer r.toNat rsn.toNat

/-- A frame of another kind on the runner link: taken when its CRC is right. -/
def State.linkFrame (s : State) (good : Bool) (f : State → State) : State :=
  if !s.linkUp || s.bit SYS_BLKISO 22 then s
  else if !good then s.lostFrame
  else f s.frameGood

end Sys2Proof.Machine
end

