-- ==== Sys2Proof/Machine/Bus.lean ====
section
/-! DEFINITION. Bus accesses: access codes and writers of every register window, registers that read live values,
memory with its partitions and ECC (R4 to R6, R22, R32 to R34 and the register tables). -/

namespace Sys2Proof.Machine

/-- An effect that needs a running module. -/
def State.whileUp (s : State) (f : State → State) : State := if s.up then f s else s

/-- Block `b` runs: neither isolated, nor in a region held in reset, nor in a domain that is OFF. -/
def State.blockRuns (s : State) (b : Nat) : Bool :=
  let off (d : Nat) : Bool := s.domain d == D_OFF
  s.up && !s.bit SYS_BLKISO b && s.fld (RGNSTAT (regionOfBlock b)) != 1
    && !(if b ≤ 3 then off (4 + b) else if 18 ≤ b ∧ b ≤ 21 then off (b - 10) else false)

/-- An effect of block `b`. -/
def State.whileBlock (s : State) (b : Nat) (f : State → State) : State := if s.blockRuns b then f s else s

/-! ### Answers of the bus -/

/-- An access that completes without error. -/
def State.busOk (s : State) (data : List Byte) : State := { s with bus := ⟨data, false⟩ }

/-- A slave error; a read of `n` bytes returns 0. -/
def State.busErr (s : State) (n : Nat) : State := { s with bus := ⟨List.replicate n 0, true⟩ }

def isAp (who : Initiator) : Bool := who == .ap0 || who == .ap1

/-- AP0, AP1 or the cope processor. -/
def isApCope (who : Initiator) : Bool := isAp who || who == .cope

/-- AP0, AP1, or the cope processor with the management privilege. -/
def isApPriv (who : Initiator) (priv : Bool) : Bool := isAp who || (who == .cope && priv)

/-! ### Where a transaction comes from (R16, R22, R24) -/

/-- The region of an initiator that can be held in reset (Table SYS-2). -/
def originRegion : Initiator → Option Nat
  | .cope => some RGN_COPE
  | .pln | .plnAcyclic | .can | .runner | .mgd => some RGN_NET
  | .ap0 | .ap1 | .saf | .pour | .cru | .ldl | .evr | .save | .pmc => none

/-- The power domain of an initiator that can be shut (Table SYS-5). -/
def originDomain : Initiator → Option Nat
  | .ap0 => some 0
  | .ap1 => some 1
  | .cru => some 2
  | .ldl => some 3
  | .cope | .saf | .pour | .pln | .plnAcyclic | .can | .evr | .save | .runner | .pmc | .mgd => none

/-- The initiator's region is held in reset: its transactions are discarded. -/
def State.discards (s : State) (who : Initiator) : Bool :=
  match originRegion who with
  | some r => s.fld (RGNSTAT r) == 1
  | none => false

/-- The initiator's domain is OFF or DRAINING: its new transactions are refused. -/
def State.originShut (s : State) (who : Initiator) : Bool :=
  match originDomain who with
  | some d => s.domainShut d
  | none => false

/-- The initiator's transactions reach the fabric. -/
def State.mayIssue (s : State) (who : Initiator) : Bool := !s.discards who && !s.originShut who

/-- A transaction of an initiator that asks for `n` bytes: discarded, refused with a slave error, or `f`. -/
def State.issue (s : State) (who : Initiator) (n : Nat) (f : State → State) : State :=
  if s.discards who then s
  else if s.originShut who then s.busErr n
  else f s

/-- A write that only some initiators may make. -/
def State.only (s : State) (ok : Bool) (f : State → State) : State := if ok then f s else s.busErr 0

/-! ### Access codes (Table SCP-3) -/

/-- W1C: ones clear the bits of `m`. -/
def State.w1c (s : State) (a m : Nat) (v : Word) : State := s.setReg a (s.reg a &&& ~~~(v &&& BitVec.ofNat 32 m))

/-- RW: the bits of `m` are set. -/
def State.rw (s : State) (a m : Nat) (v : Word) : State :=
  s.setReg a ((s.reg a &&& ~~~BitVec.ofNat 32 m) ||| (v &&& BitVec.ofNat 32 m))

/-- RWL: as RW in STOP, ignored in every other mode. -/
def State.rwl (s : State) (a m : Nat) (v : Word) : State := if s.mode = STOP then s.rw a m v else s

/-- Every bit of a word. -/
abbrev ALL : Nat := 0xFFFFFFFF

/-! ### The windows (Table SYS-10) -/

inductive BusWin where
  | sys | pat | pour | prg | cru | desc | chb (b : Nat) | saf | fox | run | mgd | net | pln | can (n : Nat)
  | ldl | evr | pmc | cope | pwr
  deriving DecidableEq, Repr

def windowOf (a : Nat) : Option BusWin :=
  if a < 0x20000000 ∨ 0x20B10000 ≤ a then none
  else
    let w := (a - 0x20000000) / 0x10000
    if 0x10 ≤ w ∧ w ≤ 0x13 then some (.chb (w - 0x10))
    else if 0x60 ≤ w ∧ w ≤ 0x63 then some (.can (w - 0x60))
    else match w with
      | 0x00 => some .sys
      | 0x01 => some .pat
      | 0x02 => some .pour
      | 0x03 => some .prg
      | 0x04 => some .cru
      | 0x08 => some .desc
      | 0x20 => some .saf
      | 0x21 => some .fox
      | 0x30 => some .run
      | 0x40 => some .mgd
      | 0x50 => some .net
      | 0x51 => some .pln
      | 0x70 => some .ldl
      | 0x80 => some .evr
      | 0x90 => some .pmc
      | 0xA0 => some .cope
      | 0xB0 => some .pwr
      | _ => none

/-- The region that a window's block lies in, when a reset of it can make the window answer errors (R16). -/
def winRegion : BusWin → Option Nat
  | .chb _ => some RGN_FIELD
  | .net | .pln | .mgd | .can _ | .run => some RGN_NET
  | .cope => some RGN_COPE
  | _ => none

/-- An access to the window fails: its region is held in reset, or its domain is OFF or DRAINING (R16, R22). -/
def State.winShut (s : State) (w : BusWin) (a : Nat) : Bool :=
  (match winRegion w with | some r => s.fld (RGNSTAT r) == 1 | none => false)
    || (match domainOf a with | some d => s.domainShut d | none => false)

/-- An access wakes the gated domain of its target (R22). -/
def State.wakeFor (s : State) (a : Nat) : State :=
  match domainOf a with
  | some d => s.domainWake d
  | none => s

/-! ### Register writes -/

/-- SYS_QnBASE, SYS_QnCFG, the indices and SYS_QnSTAT. -/
def State.queueWrite (s : State) (who : Initiator) (n off a : Nat) (v : Word) : State :=
  match off with
  | 0x00 => s.rwl a 0xFFFFFFC0 v
  | 0x04 => s.rwl a 0xF v
  | 0x08 => s.rwl a 0x8000007F v
  | 0x0C => s.pidxWrite who n v
  | 0x10 => s.cidxWrite who n v
  | 0x14 => s.w1c a 3 v
  | _ => s

def State.sysWrite (s : State) (who : Initiator) (o a : Nat) (v : Word) : State :=
  if 0x1000 ≤ o ∧ o < 0x1800 then s.queueWrite who ((o - 0x1000) / 0x20) (o % 0x20) a v
  else match o with
    | 0x10 => s.runctlWrite who v.toNat
    | 0x24 => s.w1c a 0x1F v
    | 0x2C => s.blkrst v.toNat
    | 0x40 => s.pdreq v.toNat 0
    | 0x48 => s.w1c a 0x3FFF v
    | _ => s

def State.pourWrite (s : State) (who : Initiator) (o a : Nat) (v : Word) : State :=
  match o with
  | 0x14 => s.pourDone who (v.toNat % 32)
  | 0x18 => s.swTrig who v.toNat
  | 0x1C => s.only (isAp who) (fun s => s.w1c a 3 v)
  | 0x20 => s.swapReq who (v.toNat % 256)
  | 0x28 => s.only (isAp who) (fun s => s.w1c a 0xFF v)
  | 0x40 => s.swapDone who (v.toNat % 256)
  | _ => s.only (isAp who) (fun s => s)

/-- The requests of one write of PRG_MODECTL: the highest of R131 that applies to the present mode acts. -/
def State.modeReq (s : State) (v : Nat) : State :=
  if bitOf v 3 && (s.mode == RUN || s.mode == SAFE) then s.enterHalt 4
  else if bitOf v 2 && (s.mode == SAFE || s.mode == HALT && s.fld HALT_CAUSE != 1) then s.toStop
  else if bitOf v 0 && s.mode == RUN then s.enterSafe 2
  else if bitOf v 1 then s.resume
  else s

/-- PRG_MODECTL (R126 to R131). On a STANDBY its requests are ignored (R311). -/
def State.modectl (s : State) (who : Initiator) (priv : Bool) (v : Nat) : State :=
  s.only (isApPriv who priv) (fun s => s.asPrimary (fun s => s.modeReq v))

/-- PRG_DLCTL: ABORT, then START, then APPLY. -/
def State.dlctlWrite (s : State) (who : Initiator) (v : Nat) : State :=
  s.dlctl who (fun s =>
    let s := if bitOf v 2 then s.dlAbort else s
    let s := if bitOf v 0 then s.dlStart else s
    if bitOf v 1 then s.dlApply else s)

/-- A force table register other than PRG_FnCTL: the runtime writes it in STOP and RUN (R136, R137, R311). -/
def State.forceRegWrite (s : State) (who : Initiator) (off a : Nat) (v : Word) : State :=
  s.only (isAp who) (fun s =>
    if off < 0x18 then s.asPrimary (fun s => if s.mode = STOP ∨ s.mode = RUN then s.setReg a v else s) else s)

/-- A write to the PRG window (R145). The rule names no writer of PRG_ERR: AP0 and AP1 clear it (DESIGN CHOICE,
log 63). -/
def State.prgWrite (s : State) (who : Initiator) (priv : Bool) (o a : Nat) (v : Word) : State :=
  if 0x1000 ≤ o ∧ o < 0x5000 then
    if o % 0x20 = 4 then s.forceCtlWrite who ((o - 0x1000) / 0x20) v.toNat
    else s.forceRegWrite who (o % 0x20) a v
  else match o with
    | 0x04 => s.modectl who priv v.toNat
    | 0x08 => s.only (isAp who) (fun s => s.w1c a 1 v)
    | 0x40 => s.dlctlWrite who v.toNat
    | _ => s

/-- LnSTAT: PLAUS, NUMERR, MREF and OVR are W1C; clearing PLAUS reseeds the model (R171). -/
def State.loopStatWrite (s : State) (n a : Nat) (v : Word) : State :=
  let s := if bitOf v.toNat 8 then s.clearPlaus n else s
  let s := if bitOf v.toNat 9 then s.clearNum n else s
  s.w1c a 0xC00 v

def State.cruWrite (s : State) (who : Initiator) (o a : Nat) (v : Word) : State :=
  s.only (isAp who) (fun s =>
    if 0x1000 ≤ o ∧ o < 0x3000 then
      if o % 0x20 = 0xC then s.ownWrite (fun s => s.setReg a v)
      else if o % 0x20 = 0x10 then s.ownWrite (fun s => s.loopStatWrite ((o - 0x1000) / 0x20) a v)
      else s
    else if o = 0x10 then s.w1c a 0xF v
    else s)

/-- CRU_ENi, CRU_STAT.ENCOUNT, CRU_LOAD and CRU_LINKn follow a descriptor written in STOP. -/
def State.relink (s : State) : State :=
  let s := s.clearRegs 0x20040400 0x20040800
  let s := (List.range 256).foldl (fun s n => s.setFlag (cruEN n) (s.loopEn n)) s
  ((s.setFld CRU_ENCOUNT ((List.range 256).filter (fun n => s.loopEn n)).length).setRegN CRU_LOAD s.loopLoad).linkTable

/-- A word of the loop descriptor array (Table CRU-10). -/
def State.descWrite (s : State) (who : Initiator) (o a : Nat) (v : Word) : State :=
  s.only (isAp who) (fun s =>
    if 0x8000 ≤ o then s
    else
      let off := o % 0x80
      if off = 0 then s.ownWrite (fun s => s.requestMode (o / 0x80) (v.toNat % 8) 2)
      else if off = 0x58 then s.ownWrite (fun s => s.setReg a v)
      else
        let m := if off = 4 then 0xFFFF07FF else if off = 0x50 then 0x0FFFFF7F else ALL
        let t := s.rwl a m v
        if off = 4 ∨ off = 0x14 ∨ off = 0x18 then t.relink else t)

def State.chbWrite (s : State) (who : Initiator) (b o a : Nat) (v : Word) : State :=
  if 0x1000 ≤ o ∧ o < 0x1200 then
    let n := 8 * b + (o - 0x1000) / 0x40
    match o % 0x40 with
    | 0x34 => s.w1c a 0x3F00 v
    | 0x38 => s.only (isApCope who) (fun s => s.trimWrite n (v.toNat % 4))
    | _ => s
  else if o = 0x04 then s.only (isApCope who) (fun s => s.w1c a 7 v)
  else if o = 0x80 then s.only (isApCope who) (fun s => s.w1c a 0xF v)
  else s

/-- The RUN window: RUN_CTL with SWITCH and RESYNC; another initiator's write ends in a slave error (R330). -/
def State.runWrite (s : State) (who : Initiator) (priv : Bool) (o a : Nat) (v : Word) : State :=
  match o with
  | 0x04 => s.only (isApPriv who priv) (fun s => s.w1c a 0xF v)
  | 0x08 => s.only (isApPriv who priv) (fun s =>
      let s := if bitOf v.toNat 0 then s.switchReq else s
      if bitOf v.toNat 1 then s.resyncReq else s)
  | _ => s.only (isApPriv who priv) (fun s => s)

def State.mgdWrite (s : State) (who : Initiator) (priv : Bool) (o a : Nat) (v : Word) : State :=
  let may (f : State → State) : State := s.only (isApPriv who priv) f
  if 0x60 ≤ o ∧ o < 0xA0 then
    may (fun s => if o % 0x10 = 0xC then s.armAlarm ((o - 0x60) / 0x10) v else s.setReg a v)
  else match o with
    | 0x04 => may (fun s => s.w1c a 0x7F v)
    | 0x08 => may (fun s => if bitOf v.toNat 0 then s.mgdSet else s)
    | 0x40 => may (fun s => s.setReg a v)
    | 0x44 => may (fun s => s.setReg a v)
    | 0x48 => may (fun s => s.setReg a (v &&& 0xFFFF))
    | _ => may (fun s => s)

def State.canWrite (s : State) (who : Initiator) (n o a : Nat) (v : Word) : State :=
  s.only (isAp who) (fun s =>
    if 0x1000 ≤ o ∧ o < 0x2000 then
      let b := (o - 0x1000) / 0x80
      let off := o % 0x80
      if off = 4 then s.canTbCtl n b v
      else if off = 0 ∨ off = 8 ∨ 0x40 ≤ off then s.canTbWrite n b off v
      else s
    else match o with
      | 0x04 => s.w1c a 0xFF v
      | 0x08 => s.canCtl n v
      | 0x20 => s.canFltCtl n v
      | 0x28 => s.canTxReq n v.toNat
      | 0x2C =>
        let (sof, s) := s.draw 32
        s.canCancel n v.toNat sof
      | _ => s)

/-- HEAD, DUR and DL of a channel that is PENDING or ACTIVE stay, and LDL_ERR.BUSY is set (R414). -/
def State.ldlChanWrite (s : State) (c a m : Nat) (v : Word) : State :=
  if s.ldlState c ≠ 0 then s.setFlag (LDL_ERR 1) true else s.setReg a (v &&& BitVec.ofNat 32 m)

def State.ldlWrite (s : State) (who : Initiator) (o a : Nat) (v : Word) : State :=
  s.only (isAp who) (fun s =>
    if 0x100 ≤ o ∧ o < 0x500 then
      let c := (o - 0x100) / 0x20
      match o % 0x20 with
      | 0x04 => s.ldlChanWrite c a 0xFFFFFFE0 v
      | 0x08 => s.ldlChanWrite c a 0xF v
      | 0x0C =>
        let s := if bitOf v.toNat 1 then s.ladleAbort c else s
        if bitOf v.toNat 0 then s.ladleStart c else s
      | 0x10 => s.ldlChanWrite c a ALL v
      | 0x14 => s.ldlChanWrite c a ALL v
      | _ => s
    else match o with
      | 0x04 => s.w1c a 0x7F v
      | 0x08 => if bitOf v.toNat 0 then s.ladleClrHalt else s
      | 0x0C => s.w1c a ALL v
      | _ => s)

/-- The owner of post buffer `i` (R418). -/
def postOwner (i : Nat) (who : Initiator) : Bool :=
  if i = 0 then who == .ap0 else if i = 1 then who == .ap1 else who == .cope

/-- Any write that no rule allows completes with a slave error (R434). -/
def State.evrWrite (s : State) (who : Initiator) (priv : Bool) (o a : Nat) (v : Word) : State :=
  if 0x100 ≤ o ∧ o < 0x180 then
    let k := (o - 0x100) / 0x20
    if o % 0x20 = 0 then s.cursorCtl who k v.toNat
    else if o % 0x20 = 4 then s.only (cursorOwner k who) (fun s => s.setReg a v)
    else s.busErr 0
  else if 0x180 ≤ o ∧ o < 0x18C then
    let i := (o - 0x180) / 4
    s.only (postOwner i who) (fun s =>
      s.postCtl i (bitOf v.toNat 1) (bitOf v.toNat 0))
  else if 0x2000 ≤ o ∧ o < 0x2C00 then s.only (postOwner ((o - 0x2000) / 0x400) who) (fun s =>
    s.postBufWrite ((o - 0x2000) / 0x400) a v)
  else if o = 0x04 then s.only (isApCope who) (fun s => s.w1c a 7 v)
  else if o = 0x08 then s.partitionClear who priv (v.toNat % 16)
  else s.busErr 0

/-- The implemented bits of the COPE register at an offset (Tables COPE-8, COPE-9). -/
def copeBits (o : Nat) : Nat :=
  if o = 0 ∨ o = 0x0C then 0xFF
  else if 0x10 ≤ o ∧ o ≤ 0x18 then 0x3FFFFFFF
  else if o = 0x08 ∨ o = 0x1C ∨ o = 0x20 then ALL
  else if 0x100 ≤ o ∧ o < 0x180 then 0x3FFFF
  else 0

/-- The COPE window is writable by the cope processor, and COPE_ERR as W1C by AP0 and AP1 too (R455). -/
def State.copeWrite (s : State) (who : Initiator) (o a : Nat) (v : Word) : State :=
  if o = 0x04 then s.only (isApCope who) (fun s => s.w1c a 0x3F v)
  else s.only (who == .cope) (fun s => if copeBits o = 0 then s else s.rw a (copeBits o) v)

def State.pwrWrite (s : State) (who : Initiator) (o a : Nat) (v : Word) : State :=
  match o with
  | 0x04 => s.only (isApCope who) (fun s => s.w1c a 0x7F v)
  | 0x08 => if bitOf v.toNat 0 then s.rtest who else s.only (isApCope who) (fun s => s)
  | _ => s.only (isApCope who) (fun s => s)

/-- Error flags at offset 4 of a window that AP0, AP1 and the cope processor clear. -/
def State.errWrite (s : State) (who : Initiator) (o a m : Nat) (v : Word) : State :=
  s.only (isApCope who) (fun s => if o = 0x04 then s.w1c a m v else s)

/-- The SAF window: SAF_ERR is cleared, and every other write ends in a slave error (R296). -/
def State.safWrite (s : State) (who : Initiator) (o a : Nat) (v : Word) : State :=
  if o = 0x04 then s.only (isApCope who) (fun s => s.w1c a 0x1FF v)
  else s.only false (fun s => s)

/-- The implemented bits of the PAT register at an offset (Tables PAT-18, PAT-19). -/
def patBits (o : Nat) : Nat :=
  if o = 0 then 0x3F
  else if o = 0x1C ∨ o = 0x24 then 0xFFFF
  else if o = 0x20 then 0x73F
  else if o = 0x28 then 0xFFFFFF
  else ALL

/-- The PAT window is writable by the cope processor alone (R77). -/
def State.patWrite (s : State) (who : Initiator) (o a : Nat) (v : Word) : State :=
  if who == .cope then (if o < 0x2C then s.rw a (patBits o) v else s) else s

/-- A word written to the register at address `a` of a window. An offset that no table lists reads 0 and ignores
writes (R6). -/
def State.winWrite (s : State) (w : BusWin) (who : Initiator) (priv : Bool) (a : Nat) (v : Word) : State :=
  let o := a % 0x10000
  match w with
  | .sys => s.sysWrite who o a v
  | .pat => s.patWrite who o a v
  | .pour => s.pourWrite who o a v
  | .prg => s.prgWrite who priv o a v
  | .cru => s.cruWrite who o a v
  | .desc => s.descWrite who o a v
  | .chb b => s.chbWrite who b o a v
  | .saf => s.safWrite who o a v
  | .fox => s.busErr 0
  | .run => s.runWrite who priv o a v
  | .mgd => s.mgdWrite who priv o a v
  | .net => s.errWrite who o a 0xF v
  | .pln => s.errWrite who o a 0x3F v
  | .can n => s.canWrite who n o a v
  | .ldl => s.ldlWrite who o a v
  | .evr => s.evrWrite who priv o a v
  | .pmc => s.pmcWrite who priv o v.toNat
  | .cope => s.copeWrite who o a v
  | .pwr => s.pwrWrite who o a v

/-- The pairing of CRU_LI_LO and CRU_LI_HI ends with any other access (R151). -/
def State.unpair (s : State) : State := { s with cru := { s.cru with liPair := none } }

/-- A word written by an initiator to an aligned address. -/
def State.regWrite (s : State) (who : Initiator) (priv : Bool) (a : Nat) (v : Word) : State :=
  let s := s.unpair
  match windowOf a with
  | none => s.busErr 0
  | some w =>
    if a % 4 ≠ 0 || s.winShut w a then s.busErr 0
    else (((s.wakeFor a).served who a true).busOk []).winWrite w who priv a v

/-! ### Register reads -/

/-- SYS_QnSTAT as it reads: FULL, EMPTY and CFGBAD follow the ring. -/
def State.qStat (s : State) (n : Nat) : Nat :=
  s.regN (qreg n 0x14) % 4 + ofBool (s.qFill n == s.qSize n) * 4 + ofBool (s.qFill n == 0) * 8
    + ofBool (s.qBad n) * 16

/-- What the register at address `a` holds now, for the registers that are computed when they are read. -/
def State.liveReg (s : State) (a : Nat) : Nat :=
  if 0x20001000 ≤ a ∧ a < 0x20001800 ∧ a % 0x20 = 0x14 then s.qStat ((a - 0x20001000) / 0x20)
  else if a = 0x20020008 then (if s.hyperUs = 0 then 0 else s.seqNow / 1000 % s.hyperUs)
  else if a = 0x2002000C then unsignedOf 32 (max (1 - 2 ^ 31) (satSigned 32 s.pourOffset))
  else if a = 0x20400010 then s.now % NS
  else if a = 0x2040001C then ts32Of s.now
  else if 0x20100000 ≤ a ∧ a < 0x20140000 ∧ a % 0x10000 = 0 then s.chbStat (a / 0x10000 % 4)
  else s.regN a

/-- A read of CRU_LI_LO of loop `n` keeps the high word that belongs to it for the next read of CRU_LI_HI (R151). -/
def State.liRead (s : State) (n : Nat) : State :=
  let s := s.busOk (leBytes 4 (s.regN (lreg n 0x60)))
  { s with cru := { s.cru with liPair := some (n, s.reg (lreg n 0x64)) } }

/-- A read of CRU_LI_HI. -/
def State.liHiRead (s : State) (n : Nat) : State :=
  let w := match s.cru.liPair with
    | some p => if p.1 = n then p.2 else s.reg (lreg n 0x64)
    | none => s.reg (lreg n 0x64)
  (s.busOk (leBytes 4 w.toNat)).unpair

/-- Some domain drains: transactions to it or from it are in flight (R24). -/
def State.draining (s : State) : Bool := (List.range 14).any (fun d => s.domain d == D_DRAINING)

/-- One count of SYS_FABOUT as it is read: 0 with nothing in flight, else a free value up to the group's allocation
(the access that reads it does not count: DESIGN CHOICE, log 47). -/
def State.fabGroup (s : State) (f : Fld) (top : Nat) (busy : Bool) : State :=
  if busy then
    let (v, s) := s.draw 32
    s.setFld f (v % (top + 1))
  else s.setFld f 0

/-- SYS_FABOUT as it is read (Tables SYS-9, SYS-16). -/
def State.fabCapture (s : State) : State :=
  let any := s.draining
  let s := s.fabGroup ⟨SYS_FABOUT, 5, 0⟩ 48 any
  let s := s.fabGroup ⟨SYS_FABOUT, 11, 6⟩ 32 (any || s.ldl.cur.isSome)
  let s := s.fabGroup ⟨SYS_FABOUT, 16, 12⟩ 16 any
  let s := s.fabGroup ⟨SYS_FABOUT, 21, 17⟩ 16 any
  s.fabGroup ⟨SYS_FABOUT, 26, 22⟩ 16 any

/-- A register read, with what a read does besides. -/
def State.winRead (s : State) (w : BusWin) (who : Initiator) (priv : Bool) (a : Nat) : State :=
  let o := a % 0x10000
  match w with
  | .desc =>
    if o < 0x8000 ∧ o % 0x80 = 0x60 then s.liRead (o / 0x80)
    else if o < 0x8000 ∧ o % 0x80 = 0x64 then s.liHiRead (o / 0x80)
    else (s.busOk (leBytes 4 (s.liveReg a))).unpair
  | .sys =>
    let s := if o = 0x60 then s.fabCapture else s
    (s.busOk (leBytes 4 (s.liveReg a))).unpair
  | .pmc => (if isAp who && !priv then s.pmcTask o none else s.pmcReadBy who o).unpair
  | .fox =>
    let s := if o = 4 then s.foxCapture else s
    (s.busOk (leBytes 4 (s.liveReg a))).unpair
  | .mgd =>
    let s := if o = 0x10 then s.tnsCapture else s
    (s.busOk (leBytes 4 (s.liveReg a))).unpair
  | _ => (s.busOk (leBytes 4 (s.liveReg a))).unpair

/-- A word read by an initiator from an aligned address of a window. -/
def State.regRead (s : State) (who : Initiator) (priv : Bool) (a : Nat) : State :=
  match windowOf a with
  | none => (s.busErr 4).unpair
  | some w =>
    if a % 4 ≠ 0 || s.winShut w a then (s.busErr 4).unpair
    else ((s.wakeFor a).served who a false).winRead w who priv a

/-! ### Memory (R32 to R34, R59) -/

/-- The initiator may write the MRAM byte at `a` (Table SYS-11). -/
def mramWriter (a : Nat) (who : Initiator) : Bool :=
  if a < 0x1200000 then isAp who
  else if a < 0x1300000 then isAp who || who == .save
  else if a < 0x13C0000 then who == .evr || who == .save
  else who == .saf

/-- The access ends in a slave error before it reaches the memory: unmapped, or across two memories, or in a segment that
is not mapped on the core's pair (R122; the trap that it leads to is PROGRAM_TRAP, R142); LPDDR4X shut, or its pattern area for another
than the cope processor; a partition of MRAM closed to the initiator. -/
def State.memDenied (s : State) (who : Initiator) (a n : Nat) (write : Bool) : Bool :=
  match memKind a with
  | none => true
  | some k =>
    memKind (a + n - 1) != some k ||
    (match pairOf who with | some p => s.unmapped p a n | none => false) ||
    (match k with
      | .sram => false
      | .ddr => s.domainShut 12 || (decide (0x1FF000000 < a + n) && who != .cope)
      | .mram =>
        if write then !mramWriter a who || !mramWriter (a + n - 1) who
        else decide (0x13C0000 < a + n) && who != .saf)

/-- The block of an initiator whose uncorrectable reads are module faults (R34; the origin is the reader: DEDUCED,
log 28). -/
def faultReader : Initiator → Option Nat
  | .ap0 => some 0x2FF
  | .ap1 => some 0x37F
  | .pour => some 0x3FF
  | .cru => some 0x47F
  | _ => none

/-- An uncorrectable error reaches the initiator. -/
def State.memUe (s : State) (who : Initiator) (n : Nat) : State :=
  let s := s.busErr n
  match faultReader who with
  | some loc => s.moduleFault 6 loc
  | none => s

/-- A read of `n` bytes of memory past the caches; `e`: an error that has come up in the first ECC word. -/
def State.memRead (s : State) (who : Initiator) (a n : Nat) (e : Ecc) : State :=
  match (((s.wakeFor a).upset (a / 16) e).memTraffic who a n false).hwRead a n with
  | (some bs, s) => s.busOk bs
  | (none, s) => s.memUe who n

/-- A write of bytes to memory past the caches. A partial word is read first, and an uncorrectable error there stops the
write. -/
def State.memWrite (s : State) (who : Initiator) (a : Nat) (bs : List Byte) (e : Ecc) : State :=
  match (((s.wakeFor a).upset (a / 16) e).memTraffic who a bs.length true).hwWrite a bs with
  | (false, s) => (s.markDirty a bs.length).busOk []
  | (true, s) => s.memUe who 0

/-! ### The application cores and their caches (R116, R144) -/

/-- A corrected cache error of pair `p` is counted and recorded. -/
def State.cacheCe (s : State) (p : Nat) : State :=
  (s.bumpSat (if p = 0 then ⟨0x20030020, 15, 0⟩ else ⟨0x20030020, 31, 16⟩)).event 0x98
    (if p = 0 then 0x2FF else 0x37F) []

/-- Every byte of the range is held by the cores in some mode of caching. -/
def State.cacheable (s : State) (a n : Nat) : Bool := (linesOf a n).all (fun l => s.cacheMode (64 * l) != 0)

/-- Lines of pair `p` filled from memory where they are missing, each an L2 miss (Table PMC-1); true: a fill met an
uncorrectable error. -/
def State.fillLines (s : State) (p : Nat) : List Nat → Bool × State
  | [] => (false, s)
  | l :: ls =>
    if (s.line p l).isSome then s.fillLines p ls
    else
      match (((s.wakeFor (64 * l)).transfer (issAp p) (64 * l) 64 false).pmc1 p 0x13).hwRead (64 * l) 64 with
      | (some bs, s) => (s.setLine p l (some ⟨bs, false⟩)).fillLines p ls
      | (none, s) => (true, s)

/-- An error comes up in what a core accesses: in its cache where it holds the lines, else in the first ECC word of
memory (DESIGN CHOICE, log 43). True: an uncorrectable cache error, which is a module fault. -/
def State.coreUpset (s : State) (p a n : Nat) (e : Ecc) : Bool × State :=
  if !s.holds p a n then (false, s.upset (a / 16) e)
  else match e with
    | .none => (false, s)
    | .single => (false, s.cacheCe p)
    | .double => (true, s.moduleFault 1 (if p = 0 then 0x2FF else 0x37F))

/-- A core reads cacheable memory. -/
def State.coreRead (s : State) (p a n : Nat) (e : Ecc) : State :=
  match s.coreUpset p a n e with
  | (true, s) => s.busErr n
  | (false, s) =>
    match s.fillLines p (linesOf a n) with
    | (true, s) => s.memUe (pairCore p) n
    | (false, s) => s.busOk (s.coreBytes p a n)

/-- A core writes cacheable memory: write-back into its lines, or write-through to memory and into the lines it
holds. -/
def State.coreWrite (s : State) (p a : Nat) (bs : List Byte) (e : Ecc) : State :=
  if s.cacheMode a = 2 then
    match s.coreUpset p a bs.length e with
    | (true, s) => s.busErr 0
    | (false, s) =>
      match s.fillLines p (linesOf a bs.length) with
      | (true, s) => s.memUe (pairCore p) 0
      | (false, s) => (s.intoLines p a bs true).busOk []
  else
    let t := s.memWrite (pairCore p) a bs e
    if t.bus.err then t else t.intoLines p a bs false

/-- A memory read; one that the fabric denies has been granted too. -/
def State.readFrom (s : State) (who : Initiator) (a n : Nat) (e : Ecc) : State :=
  if s.memDenied who a n false then (s.granted who).busErr n
  else match pairOf who with
    | some p => if s.cacheable a n then s.coreRead p a n e else s.memRead who a n e
    | none => s.memRead who a n e

/-- A memory write. -/
def State.writeTo (s : State) (who : Initiator) (a : Nat) (bs : List Byte) (e : Ecc) : State :=
  if s.memDenied who a bs.length true then (s.granted who).busErr 0
  else match pairOf who with
    | some p => if s.cacheable a bs.length then s.coreWrite p a bs e else s.memWrite who a bs e
    | none => s.memWrite who a bs e

/-- MEMORY_ACCESS: `wr`, the bytes written, or none for a read of `n` bytes. In a register window only whole aligned
words are accesses (R4). An access of no bytes does nothing. What a core finds in its cache takes no transaction (R435). -/
def State.access (s : State) (who : Initiator) (priv : Bool) (a n : Nat) (wr : Option (List Byte)) (e : Ecc) : State :=
  if n = 0 then (s.busOk []).unpair
  else s.issue who (if wr.isSome then 0 else n) (fun s =>
    if (windowOf a).isSome then
      let s := s.granted who
      match wr with
      | some bs => if bs.length = 4 then s.regWrite who priv a (BitVec.ofNat 32 (leVal bs)) else (s.busErr 0).unpair
      | none => if n = 4 then s.regRead who priv a else (s.busErr n).unpair
    else
      let s := s.unpair
      match wr with
      | some bs => s.writeTo who a bs e
      | none => s.readFrom who a n e)

/-- The runtime's cache calls of a pair, and an eviction: nothing for an initiator without a cache. -/
def State.cacheOp (s : State) (who : Initiator) (f : State → Nat → State) : State :=
  match pairOf who with
  | some p => f s p
  | none => s

/-! ### The tick (log 1) -/

/-- A microsecond of slewing at 500 ppm, until |POUR_OFFSET| is below 4 ns (R81); ALIGNED follows (R82). -/
def State.slew (s : State) : State :=
  let o := s.pour.offsetPs
  if !s.flag POUR_SLEW then s
  else if 4000 ≤ o then ({ s with pour := { s.pour with offsetPs := o - 500 } } : State).updAligned
  else if o ≤ -4000 then ({ s with pour := { s.pour with offsetPs := o + 500 } } : State).updAligned
  else s

/-- RUN_AGE: µs since the last applied copy, saturating, on a STANDBY (Table RUN-13). -/
def State.ageTick (s : State) : State := if s.isStandby then s.bumpSat ⟨RUN_AGE, 31, 0⟩ else s

/-- The CTRL message of every 10 µs (Table RUN-4; layout internal to the module, log 20): role, mode, pattern, image,
firmware, MAC address. -/
def State.ctrlStatus (s : State) : List Byte :=
  [0] ++ leBytes 1 (s.role + s.sstate * 8 + ofBool s.sideA * 32 + ofBool (s.flag RUN_OWN) * 64 + ofBool s.run.offer * 128)
    ++ leBytes 1 s.mode ++ leBytes 1 (ofBool (s.flag MGD_STAT_SYNC)) ++ s.patDigest ++ leBytes 4 s.imageCrc
    ++ leBytes 2 s.fwVer ++ leBytes 4 (s.regN 0x20500008) ++ leBytes 2 (s.regN 0x2050000C)

/-- Every 10 µs a CTRL message goes. -/
def State.statusTick (s : State) : State := if s.monoUs % 10 = 0 then s.sendCtrl s.ctrlStatus else s

/-- One microsecond passes with no command waiting: the AON time and the Marigold counter advance, slewing goes on,
RUN_AGE counts, the runner link sends (DESIGN CHOICE, log 1). In a reset or a save only time goes on (R339, R477), and
without power nothing does. -/
def State.tick (s : State) : State :=
  if !s.pwr.on then s
  else
    let s : State := { s with mono := s.mono + 1000 }
    let s := s.mgdTick
    if !s.up then s
    else
      ((((((((((s.slew).canTick).wavesReady).ageTick).statusTick).passTick).linkTick).ptpTick).supTick).gateTick).dupForget

end Sys2Proof.Machine
end

