-- ==== Sys2Proof/WellFormed.lean ====
section
/-! DEFINITION. Which commands are well formed. A command that is not carries more, or less, than the thing it stands
for holds; its meaning takes what fits, or treats the frame as an errored one (log 20). -/

namespace Sys2Proof

/-- An Ethernet frame without its FCS: 14 to 1,522 bytes, the largest with two tags. -/
def frameOk (f : List Byte) : Bool := decide (14 ≤ f.length) && decide (f.length ≤ 1522)

/-- A bus access carries 1 to 64 bytes (a cache line, R34; log 38). -/
def BusOp.ok : BusOp → Bool
  | .read n => decide (1 ≤ n) && decide (n ≤ 64)
  | .write d => decide (1 ≤ d.length) && decide (d.length ≤ 64)
  | .clean _ | .inval _ | .cleanInval _ => true

/-- A key slot holds 8 MiB (R44). -/
def keyInOk : Option KeyIn → Bool
  | none => true
  | some k => decide (k.slot0.length ≤ 0x800000) && decide (k.slot1.length ≤ 0x800000)

/-- The fields of a partner's status in their widths (Tables RUN-14, PAT-15). -/
def Partner.ok (p : Partner) : Bool :=
  decide (p.role < 4) && decide (p.sstate < 4) && decide (p.mode < 6) && decide (p.digest < 2 ^ 128)
    && decide (p.image < 2 ^ 256) && decide (p.fw < 2 ^ 32) && decide (p.mac < 2 ^ 48)

def CtrlMsg.ok : CtrlMsg → Bool
  | .status p _ _ => p.ok
  | .queueEntry _ _ e d => e.length == 16 && decide (d.length ≤ 64)
  | .download im => decide (im.length ≤ 0x800000)
  | .force _ _ _ _ _ _ _ _ => true
  | .mode _ _ _ => true
  | .epoch _ _ _ => true
  | .take _ _ => true
  | .selfCheck _ _ => true
  | .switchReq => true
  | .fieldLoss => true
  | .cellFault _ _ => true
  | .resync => true
  | .downloadResult _ _ => true

/-- A line is 64 bytes (Table RUN-4). -/
def CopyLine.ok (l : CopyLine) : Bool := l.bytes.length == 64

/-- A loop state record carries eleven registers (R312; log 20). -/
def LoopCopy.ok (l : LoopCopy) : Bool := l.words.length == 11

/-- Well-formed commands: what a command carries fits the thing it stands for. -/
def Instr.wf : Instr → Bool
  | .memoryAccess _ _ _ op _ => op.ok
  | .powerGood _ _ _ _ key => keyInOk key
  | .ctrlFrame m _ => m.ok
  | .latchFrame payload _ => decide (payload.length ≤ 1008)
  | .snapFrame _ _ region _ => decide (region.length ≤ 65536)
  | .ovecFrame vector _ => decide (vector.length ≤ 160)
  | .copyFrame _ lines loops _ => lines.all CopyLine.ok && loops.all LoopCopy.ok
  | .cyclicFrameRx _ frame => frameOk frame
  | .rxFrame _ frame => frameOk frame
  | .canFrameRx _ _ _ _ fdf _ _ _ rx => decide (rx.data.length ≤ if fdf then 64 else 8)
  | .copeTick readings => readings.length == 32
  | .frameForward _ frame _ _ => frameOk frame
  | .subWordAccess _ _ _ _ | .registerWrite _ _ _ _ | .scrubRead _ _ | .moduleFault _ | .blockFault _
  | .regionReset _ | .regionResetComplete _ _ | .clockLoss _ | .safClockLoss | .fabricTimeout
  | .fabricPromotion _ _ | .domainGate _ _ | .domainWake _ | .drainComplete _ | .drainLapse _
  | .pdreqWrite _ _ _ | .domainPowerUpDone _ | .queuePidxWrite _ _ _ | .queueCidxWrite _ _ _ | .blkrstWrite _ _
  | .copeBootComplete | .patternLoadComplete _ | .checkComplete _ _ | .dragPlaneStart | .roleResolve | .rstIn _
  | .runReq _ _ | .stopReq _ | .reload _ _ | .reloadComplete _ _ _ | .orderlyStopComplete _ | .snapshot _
  | .pourRelease _ | .pourDone _ _ | .budgetExhausted _ | .commit _ | .triggerEntry | .heldTriggerAccept _
  | .pourSwtrig _ _ | .hyperperiodStart | .slewComplete | .swapBoundary | .pourSwapdone _ _ | .pourSwapreq _ _
  | .sequencerWatchdog | .safeReq _ _ | .resume _ _ | .toStop _ _ | .haltReq _ _ | .programTrap _ _ _ _ _
  | .applicationWatchdog _ _ | .forceCtlWrite _ _ _ | .dlctlStart _ | .dlctlApply _ | .dlctlAbort _
  | .dlCheckComplete _ _ | .dlLoadComplete | .crucibleStage _ | .crucibleSample _ _ | .loopModeWrite _ _ _
  | .plausClear _ _ | .integratorRead _ _ | .cellPowerOn _ | .cellResult _ _ | .resultMissing _ | .cellReinit _
  | .diAccept _ _ | .diRawReport _ _ | .waveSample _ _ _ | .nocycleResult _ | .openWireTest _ _ _
  | .doResult _ _ | .fieldFaultTimeout _ _ _ | .doShort _ | .doRetry _ | .stageTest _ _ _ _ _ _
  | .stageOvertemp _ | .trimDrive _ _ _ | .channelBlockFault _ | .supplySupervisorTrip _
  | .supplySupervisorRecover _ | .latticeSourceChange _ | .latticeTimerExpiry _ | .safetyCycle _ _ _ _ _ _ _
  | .safetyWatchdog | .safetySelftestDone _ | .tpSchedule _ _ _ _ _ | .preEnergiseTest _ _ _ | .offPulse _ _
  | .offPulseEnd _ _ | .overcurrent _ | .lfLow | .lfRestored | .authorise | .setPassword | .setPasswordNew
  | .readLog | .pwlockExpiry | .aliveInChange _ | .ownInChange _ | .ownershipClaim | .dualDriveEnd _
  | .linkTrained | .linkLoss _ _ | .linkRetrain | .replayRelease _ | .resync _ _ | .resyncComplete
  | .selfCheckResult _ _ _ _ | .switch _ _ | .offsetMeasurement _ _ | .announce _ _ | .announceTimeout _
  | .syncHoldExpiry | .mgdSet _ _ | .ref10mLost | .ref10mRestored | .ppsInEdge | .ppsLost | .alarmArm _ _ _ _
  | .alarmFire _ | .tnsRead _ | .publication _ | .subscriptionStale _ | .safetyMsgWatchdog _
  | .portLinkChange _ _ | .redundantPathChange _ _ | .txQueueEntry _ | .read _ | .forceSet _ | .forceRelease _
  | .forceList _ | .downloadStart _ | .downloadData _ | .downloadApply _ | .downloadAbort _ | .downloadStatus _
  | .runctlStopReq _ | .runctlRunReq _ | .runctlResume _ | .runctlToStop _ | .diagStatus _ | .diagEvents _
  | .unknownService _ _ _ | .detectDwellEnd _ | .recover _ _ | .goNormal _ _ | .redetect _ _ | .canFltctl _ _ _
  | .filterScanEnd _ | .canTxreq _ _ _ | .canTxcancel _ _ _ _ | .canTbctlWrite _ _ _ _ | .canTxEnd _ _ _
  | .canTxOccurrence _ _ | .canSlotEnd _ _ _ | .busoffRecoveryComplete _ | .ladleOccurrence _ | .start _ _
  | .abort _ _ | .chainTake | .descriptorEnd | .ladleBusError _ _ | .clrhalt _ | .ingestEntry | .post _ _ _
  | .summaryRecord _ | .tailCopy | .flashWrite _ _ | .oldest _ _ _ | .seq _ _ _ | .time _ _ _ | .newest _ _ _
  | .advance _ _ | .cursorFillDone _ _ | .partitionClear _ _ _ | .pmcWindowEnd _ | .pmcStagedWrite _ _ _ _
  | .pmcTaskAccess _ _ | .pmcCounterRead _ _ | .copeWatchdog | .login _ | .logout _ | .setPw _ | .health _
  | .reset _ | .copeStopReq _ | .copeRunReq _ | .copeResume _ | .copeToStop _ | .copeReload _ | .keywsOpen _
  | .keywsWrite _ _ | .keywsClose _ | .dlStart _ | .dlData _ | .dlApply _ | .dlAbort _ | .fwBegin _ | .fwData _
  | .fwInstall _ | .keyInstall _ | .keyRevoke _ | .keyList _ | .evrClear _ | .evrRead _ | .sessionTimeout
  | .serviceLinkLoss | .loginLockExpiry | .feedChange _ _ | .overvoltage | .inputDisconnect _
  | .inputReconnect _ | .holdupEntry | .feedRestored | .saveTrigger _ | .saveComplete _ _ | .bankCharged
  | .chargerFault | .chargerRetry | .rtest _ | .healthTestComplete _ _ | .extensionCharged _ | .extensionFault
  | .pwrMeasure _ _ _ _ _ _ _ | .rstInRelease | .foxSrcRead _ | .canBusIdle _ | .canBusError _ _ _
  | .learnedEntryAgeOut _ _ | .transitFrameDrop _ | .pathDelayMeasurement _ _ | .canAllocationEnd _ _ _
  | .partitionClearDone _ => true

end Sys2Proof
end

