-- ==== Sys2Proof/Machine/Commands.lean ====
section
/-! DEFINITION. What the meanings of the commands share: payloads, register commands, and the commands that join more than
one unit. -/

namespace Sys2Proof.Machine

/-- An effect that needs power only. -/
def State.whileOn (s : State) (f : State → State) : State := if s.pwr.on then f s else s

/-! ### Payloads that do not fit what they stand for (log 20) -/

/-- The data bytes of a CAN frame: no frame has more than its format holds. -/
def canBytes (fdf : Bool) (data : List Byte) : List Byte := data.take (if fdf then 64 else 8)

/-- The readings of the 32 sensors; one that is not given is missing. -/
def sensors (rs : List (Option (BitVec 16))) : List (Option (BitVec 16)) := (rs ++ List.replicate 32 none).take 32

/-- A slot of the key holds 8 MiB (R44). -/
def keySlot (bs : List Byte) : List Byte := bs.take 0x800000

/-- A frame that the switch passes on to the module: one of another length it has discarded (R347). -/
def State.withFrame (s : State) (frame : List Byte) (f : State → State) : State := if frameOk frame then f s else s

/-! ### Register commands -/

/-- A register write in the window at `a`, which is never shut: it completes, and `f` acts. -/
def State.busCmd (s : State) (who : Initiator) (a : Nat) (f : State → State) : State :=
  (s.unpair).issue who 0 (fun s => f (((s.granted who).served who a true).busOk []))

/-- An access of task code at `a` on a pair that the command does not name: AP0's (DESIGN CHOICE, log 42). -/
def State.taskCmd (s : State) (a : Nat) (write : Bool) (f : State → State) : State :=
  f ((((s.unpair).granted .ap0).served .ap0 a write).busOk [])

/-- A register write at `a`: a slave error where the window is shut, else it completes and `f` acts. -/
def State.regCmd (s : State) (who : Initiator) (a : Nat) (f : State → State) : State :=
  (s.unpair).issue who 0 (fun s =>
    let s := s.granted who
    match windowOf a with
    | none => s.busErr 0
    | some w => if s.winShut w a then s.busErr 0 else f (((s.wakeFor a).served who a true).busOk []))

/-- A register read at `a`, its answer in `bus`. -/
def State.readCmd (s : State) (who : Initiator) (a : Nat) : State :=
  s.issue who 4 (fun s => (s.granted who).regRead who true a)

/-- MEMORY_ACCESS with its operation. -/
def State.busAccess (s : State) (who : Initiator) (priv : Bool) (a : Nat) (op : BusOp) (e : Ecc) : State :=
  match op with
  | .read n => s.access who priv a n none e
  | .write d => s.access who priv a d.length (some d) e
  | .clean n => (s.unpair).cacheOp who (fun s p => s.cacheClean p a n)
  | .inval n => (s.unpair).cacheOp who (fun s p => s.cacheInval p a n)
  | .cleanInval n => (s.unpair).cacheOp who (fun s p => s.cacheFlush p a n)

/-! ### Commands of several units -/

/-- An effect of entry `k` of the timetable in force; nothing when there is no such entry. -/
def State.atEntry (s : State) (k : Nat) (f : State → Entry → State) : State :=
  match s.entries[k]? with
  | some e => f s e
  | none => s

/-- SAFETY_CYCLE: the cycle, the module fault that it may find, the demand on the station mode. -/
def State.safetyTick (s : State) (x : SafIn) : State :=
  match s.safetyCycle s.stationId x with
  | (some loc, s) => s.moduleFault 1 loc
  | (none, s) => s.safDemand

/-- A LATCH unit whose CRC is wrong is discarded; the sample that misses its records finds it lost (R309, R310). -/
def State.latchLost (s : State) : State :=
  if !s.linkUp || s.bit SYS_BLKISO 22 then s else s.frameBad

/-- The model history, the action in FALLBACK and the failure window of a resynchronisation. -/
def State.loopHistory (s : State) (n : Nat) (hist : List Word) (subst : Bool) (win : List Bool) : State :=
  if s.isStandby && !hist.isEmpty then
    let l := s.loop n
    s.setLoop n { l with hist := hist.take 65, fbSubst := subst, win := win.take 255 }
  else s

/-- A COPY unit: its lines, then its loop state records. -/
def State.copyUnit (s : State) (t c : Nat) (lines : List CopyLine) (loops : List LoopCopy) : State :=
  let s := s.copyFrame t c (lines.map (fun l => (l.addr.toNat, l.bytes)))
  loops.foldl (fun s l =>
    (s.loopRecord l.loop.toNat l.sample.toNat l.words).loopHistory l.loop.toNat l.hist l.subst l.win) s

/-- The fields of an Announce as Marigold compares them. -/
def announceOf (a : AnnounceMsg) : Announce :=
  { domain := a.domain.toNat, prio1 := a.prio1.toNat, cls := a.cls.toNat, acc := a.acc.toNat, var := a.var.toNat
    prio2 := a.prio2.toNat, gm := a.gm.toNat, steps := a.steps.toNat, sender := a.sender.toNat }

/-- Mean path delay, ns (11_marigold_time.md, register map). -/
abbrev MGD_MPD : Nat := 0x20400024

/-- PATH_DELAY_MEASUREMENT: MGD_MPD takes the delay on `port`, unless another port carries the master (log 16). -/
def State.pathDelay (s : State) (port : Nat) (delay : Word) : State :=
  let mine : Bool := match s.mgd.parent with
    | some p => p.1 == port
    | none => true
  if s.hasSec SEC_TIME && mine then s.setReg MGD_MPD delay else s

/-- SUBSCRIPTION_STALE: a subscription times out (R358, R360). -/
def State.subscriptionStale (s : State) (n : Nat) : State :=
  let (signals, s) := s.subStale n
  s.owdSignal signals

/-- SAFETY_MSG_WATCHDOG of connection `k` of the pattern in force. -/
def State.connWatchdog (s : State) (k : Nat) : State :=
  match s.sconns[k]? with
  | some c => s.safMsgWd c
  | none => s

end Sys2Proof.Machine
end

