-- ==== Sys2Proof/Machine/CmdCan.lean ====
section
/-! DEFINITION. Commands of the CAN controllers (13_can_controllers.md). One definition per command: its effect
on everything but the queue. -/

namespace Sys2Proof.Machine

/-- CAN_FRAME_RX (R378). A received CAN frame is filtered and written to a receive FIFO. -/
def execCanFrameRx (n : BitVec 2) (ident : BitVec 29) (xtd : Bool) (rtr : Bool) (fdf : Bool) (brs : Bool) (esi : Bool) (dlc : BitVec 4) (rx : CanRx) (s : State) :
    Host.Outcome State Fault Refusal :=
  .next (s.whileBlock (18 + n.toNat) (fun s =>
    s.canRx n.toNat ⟨ident.toNat, xtd, rtr, fdf, brs, esi, dlc.toNat, canBytes fdf rx.data⟩ rx.former))

/-- DETECT_DWELL_END (R377). A detection candidate's dwell ends or errors and the next candidate is applied. -/
def execDetectDwellEnd (n : BitVec 2) (s : State) : Host.Outcome State Fault Refusal :=
  .next (s.whileBlock (18 + n.toNat) (fun s => s.canDwellEnd n.toNat))

/-- RECOVER (R391). CAN_CTL.RECOVER starts bus-off recovery. -/
def execRecover (who : Initiator) (n : BitVec 2) (s : State) : Host.Outcome State Fault Refusal :=
  .next (s.whileUp (fun s => s.regCmd who (canr n.toNat 8) (fun s => s.only (isAp who) (fun s => s.canCtl n.toNat 1))))

/-- GO_NORMAL (R376). CAN_CTL.GO_NORMAL moves a controller from LISTEN to NORMAL. -/
def execGoNormal (who : Initiator) (n : BitVec 2) (s : State) : Host.Outcome State Fault Refusal :=
  .next (s.whileUp (fun s => s.regCmd who (canr n.toNat 8) (fun s => s.only (isAp who) (fun s => s.canCtl n.toNat 2))))

/-- REDETECT (R376). CAN_CTL.REDETECT restarts bit-rate detection. -/
def execRedetect (who : Initiator) (n : BitVec 2) (s : State) : Host.Outcome State Fault Refusal :=
  .next (s.whileUp (fun s => s.regCmd who (canr n.toNat 8) (fun s => s.only (isAp who) (fun s => s.canCtl n.toNat 4))))

/-- CAN_FLTCTL (R379). A write of CAN_FLTCTL with DONE declares the shadow filter list complete. -/
def execCanFltctl (who : Initiator) (n : BitVec 2) (value : Word) (s : State) : Host.Outcome State Fault Refusal :=
  .next
    (s.whileUp (fun s => s.regCmd who (canr n.toNat 0x20) (fun s => s.only (isAp who) (fun s =>
      s.canFltCtl n.toNat value))))

/-- FILTER_SCAN_END (R379). The scan in the former filter list ends after a swap and SHFREE becomes 1. -/
def execFilterScanEnd (n : BitVec 2) (s : State) : Host.Outcome State Fault Refusal :=
  .next (s.whileBlock (18 + n.toNat) (fun s => s.canScanEnd n.toNat))

/-- CAN_TXREQ (R382). A write of CAN_TXREQ requests transmission of a buffer. -/
def execCanTxreq (who : Initiator) (n : BitVec 2) (mask : Word) (s : State) : Host.Outcome State Fault Refusal :=
  .next
    (s.whileUp (fun s => s.regCmd who (canr n.toNat 0x28) (fun s => s.only (isAp who) (fun s =>
      s.canTxReq n.toNat mask.toNat))))

/-- CAN_TXCANCEL (R384). A write of CAN_TXCANCEL cancels a pending transmission. -/
def execCanTxcancel (who : Initiator) (n : BitVec 2) (mask : Word) (sof : Word) (s : State) :
    Host.Outcome State Fault Refusal :=
  .next
    (s.whileUp (fun s => s.regCmd who (canr n.toNat 0x2C) (fun s => s.only (isAp who) (fun s =>
      s.canCancel n.toNat mask.toNat sof.toNat))))

/-- CAN_TBCTL_WRITE (R382). A write of CAN_TBbCTL commits the buffer contents. -/
def execCanTbctlWrite (who : Initiator) (n : BitVec 2) (buf : BitVec 5) (value : Word) (s : State) :
    Host.Outcome State Fault Refusal :=
  .next
    (s.whileUp (fun s => s.regCmd who (tbReg n.toNat buf.toNat 4) (fun s => s.only (isAp who) (fun s =>
      s.canTbCtl n.toNat buf.toNat value))))

/-- CAN_TX_END (R385). A transmission request ends, and a transmit event entry is produced. -/
def execCanTxEnd (n : BitVec 2) (buf : BitVec 5) (outcome : TxOutcome) (s : State) :
    Host.Outcome State Fault Refusal :=
  .next (s.whileBlock (18 + n.toNat) (fun s => s.canTxEnd n.toNat buf.toNat outcome))

/-- CAN_TX_OCCURRENCE (R388). At a CAN_TX occurrence the staging copy enters arbitration. -/
def execCanTxOccurrence (n : BitVec 2) (buf : BitVec 5) (s : State) : Host.Outcome State Fault Refusal :=
  .next (s.whileBlock (18 + n.toNat) (fun s => s.canOccurrence n.toNat buf.toNat))

/-- CAN_SLOT_END (R388). A scheduled frame not started by the end of its slot is withdrawn. -/
def execCanSlotEnd (n : BitVec 2) (buf : BitVec 5) (started : Bool) (s : State) : Host.Outcome State Fault Refusal :=
  .next (s.whileBlock (18 + n.toNat) (fun s => s.canSlotEnd n.toNat buf.toNat started))

/-- BUSOFF_RECOVERY_COMPLETE (R391). 128 occurrences of 11 recessive bits complete the recovery. -/
def execBusoffRecoveryComplete (n : BitVec 2) (s : State) : Host.Outcome State Fault Refusal :=
  .next (s.whileBlock (18 + n.toNat) (fun s => s.canRecovered n.toNat))

/-- CAN_BUS_IDLE (R376). A controller waiting for 11 recessive bits or bus idle sees them and enters NORMAL or LISTEN,
or its MODE after a switchover. -/
def execCanBusIdle (n : BitVec 2) (s : State) : Host.Outcome State Fault Refusal :=
  .next (s.whileBlock (18 + n.toNat) (fun s => s.canBusIdle n.toNat))

/-- CAN_BUS_ERROR (R391). An error on the CAN bus updates TEC or REC, counts receive errors, and may lead into error
passive or bus-off. -/
def execCanBusError (n : BitVec 2) (tx : Bool) (eight : Bool) (s : State) : Host.Outcome State Fault Refusal :=
  .next (s.whileBlock (18 + n.toNat) (fun s => s.canBusError n.toNat tx eight))

/-- CAN_ALLOCATION_END (R390). An admitted acyclic CAN frame not started by the end of its allocated time ends
WITHDRAWN. -/
def execCanAllocationEnd (n : BitVec 2) (buf : BitVec 5) (started : Bool) (s : State) :
    Host.Outcome State Fault Refusal :=
  .next (s.whileBlock (18 + n.toNat) (fun s => s.canAllocEnd n.toNat buf.toNat started))

end Sys2Proof.Machine
end

