-- ==== Sys2Proof/Machine/CmdCells.lean ====
section
/-! DEFINITION. Commands of the channel cells (06_channel_cells_inputs.md, 07_channel_outputs_diagnostics.md). One definition per command: its effect
on everything but the queue. -/

namespace Sys2Proof.Machine

/-- CELL_POWER_ON (R192). A cell powers its converters and excitation 20 µs before its window. -/
def execCellPowerOn (cell : BitVec 5) (s : State) : Host.Outcome State Fault Refusal :=
  .next (s.whileBlock (cell.toNat / 8) (fun s => s.cellPowerOn cell.toNat))

/-- CELL_RESULT (R194). At a ready instant a cell forms its result, value and status word. -/
def execCellResult (cell : BitVec 5) (m : Meas) (s : State) : Host.Outcome State Fault Refusal :=
  .next (s.whileBlock (cell.toNat / 8) (fun s => (s.cellResult cell.toNat m).monCompare cell.toNat))

/-- RESULT_MISSING (R215). A ready instant passes without a result and STALE is set; three in a row make a cell fault.
-/
def execResultMissing (cell : BitVec 5) (s : State) : Host.Outcome State Fault Refusal :=
  .next (s.whileBlock (cell.toNat / 8) (fun s => if s.delivers cell.toNat then s.missing cell.toNat else s))

/-- CELL_REINIT (R215). A faulted cell re-initialises itself once per second. -/
def execCellReinit (cell : BitVec 5) (s : State) : Host.Outcome State Fault Refusal :=
  .next (s.whileBlock (cell.toNat / 8) (fun s => s.cellReinit cell.toNat))

/-- DI_ACCEPT (R203). A DI level that has held for DEBOUNCE_US is accepted and DI_STATE changes; `v` is the terminal voltage at the
comparison that ends that time. -/
def execDiAccept (cell : BitVec 5) (v : BitVec 64) (s : State) : Host.Outcome State Fault Refusal :=
  .next
    (s.whileBlock (cell.toNat / 8) (fun s =>
      if s.delivers cell.toNat && s.cellMode cell.toNat == M_DI then s.diAccept cell.toNat v else s))

/-- DI_RAW_REPORT (R203). Every 100 µs a DI cell reports its terminal voltage as a result. -/
def execDiRawReport (cell : BitVec 5) (v : BitVec 64) (s : State) : Host.Outcome State Fault Refusal :=
  .next
    (s.whileBlock (cell.toNat / 8) (fun s =>
      if s.delivers cell.toNat && s.cellMode cell.toNat == M_DI then s.diRaw cell.toNat v else s))

/-- WAVE_SAMPLE (R205). A WAVE cell processes a sample, tracking DC and detecting crossings. -/
def execWaveSample (cell : BitVec 5) (x : BitVec 64) (xs : BitVec 64) (s : State) :
    Host.Outcome State Fault Refusal :=
  .next
    (s.whileBlock (cell.toNat / 8) (fun s =>
      if s.delivers cell.toNat && s.cellMode cell.toNat == M_WAVE then s.waveSample cell.toNat x xs else s))

/-- NOCYCLE_RESULT (R205). Without a crossing for 100 ms, the cell sets NOCYCLE and makes a result every 100 ms. -/
def execNocycleResult (cell : BitVec 5) (s : State) : Host.Outcome State Fault Refusal :=
  .next
    (s.whileBlock (cell.toNat / 8) (fun s =>
      if s.delivers cell.toNat && s.cellMode cell.toNat == M_WAVE then s.noCycle cell.toNat else s))

/-- OPEN_WIRE_TEST (R236). Once per second an AI_V or TC cell drives a 2 µA test and sets OPEN on a change above 50 mV.
-/
def execOpenWireTest (cell : BitVec 5) (before : BitVec 64) (after : BitVec 64) (s : State) :
    Host.Outcome State Fault Refusal :=
  .next (s.whileBlock (cell.toNat / 8) (fun s => s.openWire cell.toNat before after))

/-- DO_RESULT (R227). Every 100 µs a DO cell makes a result of its switch state and current. -/
def execDoResult (cell : BitVec 5) (m : Meas) (s : State) : Host.Outcome State Fault Refusal :=
  .next (s.whileBlock (cell.toNat / 8) (fun s => (s.doResult cell.toNat m).monCompare cell.toNat))

/-- FIELD_FAULT_TIMEOUT (R235). A field fault condition given in time persists for its duration, or is absent for 1 s.
-/
def execFieldFaultTimeout (cell : BitVec 5) (flag : Fin 5) (present : Bool) (s : State) :
    Host.Outcome State Fault Refusal :=
  .next (s.whileBlock (cell.toNat / 8) (fun s => s.ffTimeout cell.toNat flag.val present))

/-- DO_SHORT (R237). A DO switch current above 0.8 A turns the switch off within 10 µs. -/
def execDoShort (cell : BitVec 5) (s : State) : Host.Outcome State Fault Refusal :=
  .next (s.whileBlock (cell.toNat / 8) (fun s => s.doShort cell.toNat))

/-- DO_RETRY (R237). After DO_RETRY_MS the short-protected switch turns on again while commanded. -/
def execDoRetry (cell : BitVec 5) (s : State) : Host.Outcome State Fault Refusal :=
  .next (s.whileBlock (cell.toNat / 8) (fun s => s.doRetry cell.toNat))

/-- STAGE_TEST (R238). A disconnected output stage is tested once per second and reconnects after eight passes. -/
def execStageTest (cell : BitVec 5) (lo : BitVec 64) (hi : BitVec 64) (swOn : Bool) (swOff : Bool) (cool : Bool) (s : State) :
    Host.Outcome State Fault Refusal :=
  .next (s.whileBlock (cell.toNat / 8) (fun s => s.stageTest cell.toNat lo hi swOn swOff cool))

/-- STAGE_OVERTEMP (R238). The output stage temperature exceeds its limit and the stage has a cell fault. -/
def execStageOvertemp (cell : BitVec 5) (s : State) : Host.Outcome State Fault Refusal :=
  .next (s.whileBlock (cell.toNat / 8) (fun s => s.overTemp cell.toNat))

/-- TRIM_DRIVE (R231). A write of CHB_CnTRIM.POINT starts or ends trim drive under its conditions. -/
def execTrimDrive (who : Initiator) (cell : BitVec 5) (point : BitVec 2) (s : State) :
    Host.Outcome State Fault Refusal :=
  .next
    (s.whileUp (fun s => s.regCmd who (cTRIM cell.toNat) (fun s => s.only (isApCope who) (fun s =>
      s.trimWrite cell.toNat point.toNat))))

/-- CHANNEL_BLOCK_FAULT (R216). A channel block fault isolates the block, and its eight cells take substitute states. -/
def execChannelBlockFault (block : Fin 4) (s : State) : Host.Outcome State Fault Refusal :=
  .next (s.whileUp (fun s => s.blockFault block.val))

end Sys2Proof.Machine
end

