-- ==== Sys2Proof/Machine/CmdCope.lean ====
section
/-! DEFINITION. Commands of the cope processor (17_cope_management.md). One definition per command: its effect
on everything but the queue. -/

namespace Sys2Proof.Machine

/-- COPE_TICK (R446). At each tick the sensors are sampled and classified. -/
def execCopeTick (readings : List (Option (BitVec 16))) (s : State) : Host.Outcome State Fault Refusal :=
  .next (s.whileUp (fun s => s.copeTick (sensors readings)))

/-- COPE_WATCHDOG (R445). The cope watchdog expires after 2 s and resets the cope region. -/
def execCopeWatchdog (s : State) : Host.Outcome State Fault Refusal :=
  .next (s.whileUp (fun s => s.copeWatchdog))

/-- LOGIN (R452). LOGIN opens a service-port session on a correct password. -/
def execLogin (src : CopeSrc) (s : State) : Host.Outcome State Fault Refusal :=
  .next (s.whileUp (fun s => s.copeServe src (fun s src => s.copeCmd src (code 0x01) State.login)))

/-- LOGOUT (R452). LOGOUT ends the session. -/
def execLogout (src : CopeSrc) (s : State) : Host.Outcome State Fault Refusal :=
  .next (s.whileUp (fun s => s.copeServe src (fun s src => s.copeCmd src (code 0x02) State.logout)))

/-- SET_PW (R452). SET_PW sets or changes the management password. -/
def execSetPw (src : CopeSrc) (s : State) : Host.Outcome State Fault Refusal :=
  .next (s.whileUp (fun s => s.copeServe src (fun s src => s.copeCmd src (code 0x03) State.setMgmtPw)))

/-- HEALTH (R453). The HEALTH command returns the latest health body. -/
def execHealth (src : CopeSrc) (s : State) : Host.Outcome State Fault Refusal :=
  .next (s.whileUp (fun s => s.copeServe src (fun s src => s.copeCmd src (code 0x10) State.health)))

/-- RESET (R61). The RESET command saves state and resets the module with cause 2. -/
def execReset (src : CopeSrc) (s : State) : Host.Outcome State Fault Refusal :=
  .next (s.whileUp (fun s => s.copeServe src (fun s src => s.cmdReset src)))

/-- COPE_STOP_REQ (R453). RUNCTL with code 0x1 writes STOP_REQ. -/
def execCopeStopReq (src : CopeSrc) (s : State) : Host.Outcome State Fault Refusal :=
  .next (s.whileUp (fun s => s.copeServe src (fun s src => s.copeCmd src (fun c a => c == 0x21 && a == 1) (fun s e => s.copeRunctl 1 e))))

/-- COPE_RUN_REQ (R453). RUNCTL with code 0x2 writes RUN_REQ. -/
def execCopeRunReq (src : CopeSrc) (s : State) : Host.Outcome State Fault Refusal :=
  .next (s.whileUp (fun s => s.copeServe src (fun s src => s.copeCmd src (fun c a => c == 0x21 && a == 2) (fun s e => s.copeRunctl 2 e))))

/-- COPE_RESUME (R453). RUNCTL with code 0x3 requests RESUME. -/
def execCopeResume (src : CopeSrc) (s : State) : Host.Outcome State Fault Refusal :=
  .next (s.whileUp (fun s => s.copeServe src (fun s src => s.copeCmd src (fun c a => c == 0x21 && a == 3) (fun s e => s.copeRunctl 3 e))))

/-- COPE_TO_STOP (R453). RUNCTL with code 0x4 requests TO_STOP. -/
def execCopeToStop (src : CopeSrc) (s : State) : Host.Outcome State Fault Refusal :=
  .next (s.whileUp (fun s => s.copeServe src (fun s src => s.copeCmd src (fun c a => c == 0x21 && a == 4) (fun s e => s.copeRunctl 4 e))))

/-- COPE_RELOAD (R453). RUNCTL with code 0x5 requests RELOAD of a slot. -/
def execCopeReload (src : CopeSrc) (s : State) : Host.Outcome State Fault Refusal :=
  .next (s.whileUp (fun s => s.copeServe src (fun s src => s.copeCmd src (fun c a => c == 0x21 && a == 5) (fun s e => s.copeRunctl 5 e))))

/-- KEYWS_OPEN (R46). KEYWS_OPEN opens a key write session. -/
def execKeywsOpen (src : CopeSrc) (s : State) : Host.Outcome State Fault Refusal :=
  .next (s.whileUp (fun s => s.copeServe src (fun s src => s.copeCmd src (code 0x30) State.keywsOpen)))

/-- KEYWS_WRITE (R46). KEYWS_WRITE erases and programs key sectors of the slot not in force. -/
def execKeywsWrite (src : CopeSrc) (fault : Bool) (s : State) : Host.Outcome State Fault Refusal :=
  .next (s.whileUp (fun s => s.copeServe src (fun s src => s.copeCmd src (code 0x31) (fun s e => s.keywsWrite fault e))))

/-- KEYWS_CLOSE (R46). KEYWS_CLOSE closes the key write session. -/
def execKeywsClose (src : CopeSrc) (s : State) : Host.Outcome State Fault Refusal :=
  .next (s.whileUp (fun s => s.copeServe src (fun s src => s.copeCmd src (code 0x32) State.keywsClose)))

/-- DL_START (R140). Cope command DL_START writes PRG_DLCTL.START. -/
def execDlStart (src : CopeSrc) (s : State) : Host.Outcome State Fault Refusal :=
  .next (s.whileUp (fun s => s.copeServe src (fun s src => s.copeCmd src (code 0x40) State.copeDlStart)))

/-- DL_DATA (R140). Cope command DL_DATA stages image bytes. -/
def execDlData (src : CopeSrc) (s : State) : Host.Outcome State Fault Refusal :=
  .next (s.whileUp (fun s => s.copeServe src (fun s src => s.copeCmd src (code 0x41) State.copeDlData)))

/-- DL_APPLY (R140). Cope command DL_APPLY writes PRG_DLCTL.APPLY. -/
def execDlApply (src : CopeSrc) (s : State) : Host.Outcome State Fault Refusal :=
  .next (s.whileUp (fun s => s.copeServe src (fun s src => s.copeCmd src (code 0x42) State.copeDlApply)))

/-- DL_ABORT (R140). Cope command DL_ABORT writes PRG_DLCTL.ABORT. -/
def execDlAbort (src : CopeSrc) (s : State) : Host.Outcome State Fault Refusal :=
  .next (s.whileUp (fun s => s.copeServe src (fun s src => s.copeCmd src (code 0x43) State.copeDlAbort)))

/-- FW_BEGIN (R450). FW_BEGIN opens a firmware transfer. -/
def execFwBegin (src : CopeSrc) (s : State) : Host.Outcome State Fault Refusal :=
  .next (s.whileUp (fun s => s.copeServe src (fun s src => s.copeCmd src (code 0x50) State.fwBegin)))

/-- FW_DATA (R450). FW_DATA writes the bank that is not in force. -/
def execFwData (src : CopeSrc) (s : State) : Host.Outcome State Fault Refusal :=
  .next (s.whileUp (fun s => s.copeServe src (fun s src => s.copeCmd src (code 0x51) State.fwData)))

/-- FW_INSTALL (R450). FW_INSTALL verifies the new bank, marks it ACTIVE and optionally resets. -/
def execFwInstall (src : CopeSrc) (s : State) : Host.Outcome State Fault Refusal :=
  .next (s.whileUp (fun s => s.copeServe src (fun s src => s.cmdFwInstall src)))

/-- KEY_INSTALL (R451). KEY_INSTALL writes an EMPTY key slot. -/
def execKeyInstall (src : CopeSrc) (s : State) : Host.Outcome State Fault Refusal :=
  .next (s.whileUp (fun s => s.copeServe src (fun s src => s.copeCmd src (code 0x60) State.keyInstall)))

/-- KEY_REVOKE (R451). KEY_REVOKE permanently revokes a VALID key slot. -/
def execKeyRevoke (src : CopeSrc) (s : State) : Host.Outcome State Fault Refusal :=
  .next (s.whileUp (fun s => s.copeServe src (fun s src => s.copeCmd src (code 0x61) State.keyRevoke)))

/-- KEY_LIST (R451). KEY_LIST returns the key store state. -/
def execKeyList (src : CopeSrc) (s : State) : Host.Outcome State Fault Refusal :=
  .next (s.whileUp (fun s => s.copeServe src (fun s src => s.copeCmd src (code 0x62) State.keyList)))

/-- EVR_CLEAR (R428). The EVR_CLEAR command writes EVR_CLR. -/
def execEvrClear (src : CopeSrc) (s : State) : Host.Outcome State Fault Refusal :=
  .next (s.whileUp (fun s => s.copeServe src (fun s src => s.copeCmd src (code 0x70) State.copeEvrClear)))

/-- EVR_READ (R426). The EVR_READ command runs a cursor C2 command and returns the window. -/
def execEvrRead (src : CopeSrc) (s : State) : Host.Outcome State Fault Refusal :=
  .next (s.whileUp (fun s => s.copeServe src (fun s src => s.copeCmd src (code 0x71) State.copeEvrRead)))

/-- SESSION_TIMEOUT (R452). A session ends after 600 s without a command. -/
def execSessionTimeout (s : State) : Host.Outcome State Fault Refusal :=
  .next (s.whileUp (fun s => s.sessionEnd))

/-- SERVICE_LINK_LOSS (R452). Loss of link at the service port ends the session. -/
def execServiceLinkLoss (s : State) : Host.Outcome State Fault Refusal :=
  .next (s.whileUp (fun s => s.sessionEnd))

/-- LOGIN_LOCK_EXPIRY (R452). The 60 s LOGIN lockout ends. -/
def execLoginLockExpiry (s : State) : Host.Outcome State Fault Refusal :=
  .next (s.whileUp (fun s => s.loginLockExpiry))

end Sys2Proof.Machine
end

