-- ==== Sys2Proof/Machine/CmdCounters.lean ====
section
/-! DEFINITION. Commands of the counter collector (16_performance_counters.md). One definition per command: its effect
on everything but the queue. -/

namespace Sys2Proof.Machine

/-- PMC_WINDOW_END (R437). At a window end all counters are latched into the snapshot. -/
def execPmcWindowEnd (x : PmcAdds) (s : State) : Host.Outcome State Fault Refusal :=
  .next (s.whileUp (fun s => s.pmcWindowEnd x))

/-- PMC_STAGED_WRITE (R440). A write of PMC_WIN or PMC_CnSEL is staged to the next window end. -/
def execPmcStagedWrite (who : Initiator) (priv : Bool) (off : BitVec 16) (value : Word) (s : State) :
    Host.Outcome State Fault Refusal :=
  .next (s.whileUp (fun s => s.busCmd who 0x20900000 (fun s => s.pmcWrite who priv off.toNat value.toNat)))

/-- PMC_TASK_ACCESS (R441). A task-code access to the PMC window is granted or denied by PMC_ACCESS. -/
def execPmcTaskAccess (off : BitVec 16) (write : Option Word) (s : State) : Host.Outcome State Fault Refusal :=
  .next (s.whileUp (fun s => s.taskCmd (0x20900000 + off.toNat) write.isSome (fun s => s.pmcTask off.toNat write)))

/-- PMC_COUNTER_READ (R444). A read of PMC_CnLO captures PMC_CnHI. -/
def execPmcCounterRead (who : Initiator) (counter : BitVec 7) (s : State) : Host.Outcome State Fault Refusal :=
  .next (s.whileUp (fun s => s.readCmd who (0x20901000 + 8 * counter.toNat)))

end Sys2Proof.Machine
end

