-- ==== Sys2Proof/Machine/CmdCrucible.lean ====
section
/-! DEFINITION. Commands of Crucible (05_crucible_loop_engine.md). One definition per command: its effect
on everything but the queue. -/

namespace Sys2Proof.Machine

/-- CRUCIBLE_STAGE (R147). At a CRUCIBLE occurrence the stage phase writes each loop's previous output towards its
destination. -/
def execCrucibleStage (entry : BitVec 9) (s : State) : Host.Outcome State Fault Refusal :=
  .next (s.whileUp (fun s => s.atEntry entry.toNat State.crucibleStage))

/-- CRUCIBLE_SAMPLE (R147). At the sample instant staged outputs take effect, sources are latched and the loops are
evaluated. -/
def execCrucibleSample (entry : BitVec 9) (done : BitVec 9) (s : State) : Host.Outcome State Fault Refusal :=
  .next (s.whileUp (fun s => s.atEntry entry.toNat (fun s e => s.sampleEntry e done.toNat)))

/-- LOOP_MODE_WRITE (R166). A write of CRU_LCTL.MODE places a pending mode request for the next sample. -/
def execLoopModeWrite (who : Initiator) (loop : BitVec 8) (mode : BitVec 3) (s : State) :
    Host.Outcome State Fault Refusal :=
  .next
    (s.whileUp (fun s => s.regCmd who (lreg loop.toNat 0) (fun s => s.only (isAp who) (fun s =>
      s.ownWrite (fun s => s.requestMode loop.toNat mode.toNat 2)))))

/-- PLAUS_CLEAR (R171). Writing 1 to LnSTAT.PLAUS clears it and reseeds the model. -/
def execPlausClear (who : Initiator) (loop : BitVec 8) (s : State) : Host.Outcome State Fault Refusal :=
  .next
    (s.whileUp (fun s => s.regCmd who (lst loop.toNat 0x10) (fun s => s.only (isAp who) (fun s =>
      s.ownWrite (fun s => s.clearPlaus loop.toNat)))))

/-- INTEGRATOR_READ (R151). A read of CRU_LI_LO pairs the next read of CRU_LI_HI with the same integrator value. -/
def execIntegratorRead (who : Initiator) (loop : BitVec 8) (s : State) : Host.Outcome State Fault Refusal :=
  .next (s.whileUp (fun s => s.readCmd who (lreg loop.toNat 0x60)))

end Sys2Proof.Machine
end

