-- ==== Sys2Proof/Machine/CmdLadle.lean ====
section
/-! DEFINITION. Commands of Ladle (14_ladle_dma.md). One definition per command: its effect
on everything but the queue. -/

namespace Sys2Proof.Machine

/-- LADLE_OCCURRENCE (R399). A LADLE entry occurs and the scheduled channel becomes pending. -/
def execLadleOccurrence (ch : BitVec 5) (s : State) : Host.Outcome State Fault Refusal :=
  .next (s.whileUp (fun s => s.ladleOccurrence ch.toNat))

/-- START (R405). LDL_CnCTL.START of an acyclic channel is admitted or refused. -/
def execStart (who : Initiator) (ch : BitVec 5) (s : State) : Host.Outcome State Fault Refusal :=
  .next
    (s.whileUp (fun s => s.regCmd who (ldlr ch.toNat 0xC) (fun s => s.only (isAp who) (fun s => s.ladleStart ch.toNat))))

/-- ABORT (R400). LDL_CnCTL.ABORT ends a pending or active chain. -/
def execAbort (who : Initiator) (ch : BitVec 5) (s : State) : Host.Outcome State Fault Refusal :=
  .next
    (s.whileUp (fun s => s.regCmd who (ldlr ch.toNat 0xC) (fun s => s.only (isAp who) (fun s => s.ladleAbort ch.toNat))))

/-- CHAIN_TAKE (R400). The engine takes the head of the run order once free. -/
def execChainTake (s : State) : Host.Outcome State Fault Refusal :=
  .next (s.whileUp (fun s => s.chainTake))

/-- DESCRIPTOR_END (R402). A descriptor ends with its status and the chain continues or ends. -/
def execDescriptorEnd (s : State) : Host.Outcome State Fault Refusal :=
  .next (s.whileUp (fun s => s.descriptorEnd))

/-- LADLE_BUS_ERROR (R407). A slave error to a Ladle access stops the engine and ends every chain ENGINE_STOP. -/
def execLadleBusError (addr : BitVec 36) (done : Word) (s : State) : Host.Outcome State Fault Refusal :=
  .next (s.whileUp (fun s => s.ladleBusError addr.toNat done.toNat))

/-- CLRHALT (R408). LDL_CTL.CLRHALT clears the engine halt. -/
def execClrhalt (who : Initiator) (s : State) : Host.Outcome State Fault Refusal :=
  .next (s.whileUp (fun s => s.regCmd who 0x20700008 (fun s => s.only (isAp who) State.ladleClrHalt)))

end Sys2Proof.Machine
end

