-- ==== Sys2Proof/Machine/CmdMarigold.lean ====
section
/-! DEFINITION. Commands of Marigold (11_marigold_time.md). One definition per command: its effect
on everything but the queue. -/

namespace Sys2Proof.Machine

/-- OFFSET_MEASUREMENT (R335). A Sync gives an offset measurement, and the servo adjusts rate or steps. -/
def execOffsetMeasurement (p2 : Bool) (raw : Int) (s : State) : Host.Outcome State Fault Refusal :=
  .next (s.whileBlock 17 (fun s => s.offsetMeas (if p2 then 2 else 1) raw))

/-- ANNOUNCE (R334). An Announce runs the BMCA and may change the Marigold state. -/
def execAnnounce (p2 : Bool) (a : AnnounceMsg) (s : State) : Host.Outcome State Fault Refusal :=
  .next (s.whileBlock 17 (fun s => s.announce (if p2 then 2 else 1) (announceOf a)))

/-- ANNOUNCE_TIMEOUT (R334). announceReceiptTimeout expires and Marigold enters HOLDOVER or FREERUN. -/
def execAnnounceTimeout (p2 : Bool) (s : State) : Host.Outcome State Fault Refusal :=
  .next (s.whileBlock 17 (fun s => s.announceTimeout (if p2 then 2 else 1)))

/-- SYNC_HOLD_EXPIRY (R334). HOLD_SYNC_MS ends in holdover and SYNC falls to 0. -/
def execSyncHoldExpiry (s : State) : Host.Outcome State Fault Refusal :=
  .next s.syncHoldExpiry

/-- MGD_SET (R346). MGD_CTL.SET steps Marigold to the set registers, or is refused with SETREF. -/
def execMgdSet (who : Initiator) (priv : Bool) (s : State) : Host.Outcome State Fault Refusal :=
  .next (s.whileUp (fun s => s.regCmd who 0x20400008 (fun s => s.only (isApPriv who priv) State.mgdSet)))

/-- REF10M_LOST (R337). REF10M_IN is lost and the PLL moves to the module's own oscillator. -/
def execRef10mLost (s : State) : Host.Outcome State Fault Refusal :=
  .next (s.whileUp (fun s => s.refLost))

/-- REF10M_RESTORED (R337). The reference has been valid for 1 s and the PLL returns to it. -/
def execRef10mRestored (s : State) : Host.Outcome State Fault Refusal :=
  .next (s.whileUp (fun s => s.refRestored))

/-- PPS_IN_EDGE (R337). A PPS_IN edge is timestamped and may serve as an offset measurement. -/
def execPpsInEdge (s : State) : Host.Outcome State Fault Refusal :=
  .next (s.whileUp (fun s => s.ppsEdge))

/-- PPS_LOST (R337). PPS_IN missing for 1.1 s sets PPSLOST and holds the rate. -/
def execPpsLost (s : State) : Host.Outcome State Fault Refusal :=
  .next (s.whileUp (fun s => s.ppsLost))

/-- ALARM_ARM (R344). A write of MGD_ALMaCTL with ARM arms an alarm, which fires at once if late. -/
def execAlarmArm (who : Initiator) (priv : Bool) (alarm : BitVec 2) (value : Word) (s : State) :
    Host.Outcome State Fault Refusal :=
  .next
    (s.whileUp (fun s => s.regCmd who (almReg alarm.toNat 0xC) (fun s => s.only (isApPriv who priv) (fun s =>
      s.armAlarm alarm.toNat value))))

/-- ALARM_FIRE (R344). Marigold time reaches an alarm target and places a trigger in Q58. -/
def execAlarmFire (alarm : BitVec 2) (s : State) : Host.Outcome State Fault Refusal :=
  .next (s.whileUp (fun s => s.alarmFire alarm.toNat))

/-- TNS_READ (R346). A read of MGD_TNS captures the seconds registers. -/
def execTnsRead (who : Initiator) (s : State) : Host.Outcome State Fault Refusal :=
  .next (s.whileUp (fun s => s.readCmd who 0x20400010))

/-- PATH_DELAY_MEASUREMENT (R334). A completed Delay_Req/Delay_Resp or Pdelay exchange updates the measured path delay
MGD_MPD. -/
def execPathDelayMeasurement (p2 : Bool) (delay : Word) (s : State) : Host.Outcome State Fault Refusal :=
  .next (s.whileBlock 17 (fun s => s.pathDelay (if p2 then 2 else 1) delay))

end Sys2Proof.Machine
end

