-- ==== Sys2Proof/Machine/CmdNetwork.lean ====
section
/-! DEFINITION. Commands of the switch and of Pourline (12_network_pourline.md). One definition per command: its effect
on everything but the queue. -/

namespace Sys2Proof.Machine

/-- PUBLICATION (R354). At a PLN_PUB occurrence the window opens and the cyclic frame is sent. -/
def execPublication (entry : BitVec 9) (s : State) : Host.Outcome State Fault Refusal :=
  .next (s.whileBlock 16 (fun s => s.atEntry entry.toNat State.publication))

/-- CYCLIC_FRAME_RX (R357). A cyclic Pourline frame arrives and is accepted into a subscription buffer or rejected. -/
def execCyclicFrameRx (p2 : Bool) (frame : List Byte) (s : State) : Host.Outcome State Fault Refusal :=
  .next (s.whileBlock 16 (fun s => s.withFrame frame (fun s => s.cyclicRx s.partnerMac (if p2 then 2 else 1) frame)))

/-- SUBSCRIPTION_STALE (R358). TO_COUNT periods pass without an accepted frame and the subscription becomes stale,
in a reset of the network region too (R370). -/
def execSubscriptionStale (sub : BitVec 8) (s : State) : Host.Outcome State Fault Refusal :=
  .next (s.whileUp (fun s => if s.bit SYS_BLKISO 16 then s else s.subscriptionStale sub.toNat))

/-- SAFETY_MSG_WATCHDOG (R362). A safety connection watchdog expires and its input bits read 0. -/
def execSafetyMsgWatchdog (conn : BitVec 8) (s : State) : Host.Outcome State Fault Refusal :=
  .next (s.whileUp (fun s => s.connWatchdog conn.toNat))

/-- PORT_LINK_CHANGE (R347). P1 or P2 gains or loses link. -/
def execPortLinkChange (p2 : Bool) (linked : Bool) (s : State) : Host.Outcome State Fault Refusal :=
  .next (s.whileBlock 15 (fun s => s.portLink (if p2 then 2 else 1) linked))

/-- REDUNDANT_PATH_CHANGE (R350). A PRP LAN or HSR path is lost or restored. -/
def execRedundantPathChange (pathB : Bool) (ok : Bool) (s : State) : Host.Outcome State Fault Refusal :=
  .next (s.whileBlock 15 (fun s => s.redPath (ofBool pathB) ok))

/-- TX_QUEUE_ENTRY (R364). Pourline takes an entry from Q40–Q46 and sends, admits or refuses its frame. -/
def execTxQueueEntry (cls : Fin 7) (s : State) : Host.Outcome State Fault Refusal :=
  .next (s.whileBlock 16 (fun s => s.txEntry cls.val))

/-- RX_FRAME (R363). A received frame is written to its buffer and to a receive queue entry of Q32–Q38. -/
def execRxFrame (p2 : Bool) (frame : List Byte) (s : State) : Host.Outcome State Fault Refusal :=
  .next (s.whileBlock 15 (fun s => s.withFrame frame (fun s => s.rxFrame s.partnerMac (if p2 then 2 else 1) frame)))

/-- FRAME_FORWARD (R347). The switch receives a frame at a port and forwards it by MAC address and VID, learning its
source, with transparent-clock correction for PTP; a frame of a wrong length is errored. -/
def execFrameForward (port : Fin 3) (frame : List Byte) (residence : Word) (good : Bool) (s : State) :
    Host.Outcome State Fault Refusal :=
  .next (s.whileBlock 15 (fun s => s.frameForward port.val frame residence.toNat (good && frameOk frame)))

/-- LEARNED_ENTRY_AGE_OUT (R347). A learned forwarding entry ages out after 300 s. -/
def execLearnedEntryAgeOut (mac : BitVec 48) (vid : BitVec 12) (s : State) : Host.Outcome State Fault Refusal :=
  .next (s.whileBlock 15 (fun s => s.ageOut mac.toNat vid.toNat))

/-- TRANSIT_FRAME_DROP (R349). A transit class 7 frame that has waited one Pourline cycle is dropped and counted in
NET_PpDROP. -/
def execTransitFrameDrop (p2 : Bool) (s : State) : Host.Outcome State Fault Refusal :=
  .next (s.whileBlock 15 (fun s => s.transitDrop (if p2 then 2 else 1)))

end Sys2Proof.Machine
end

