-- ==== Sys2Proof/Machine/CmdPour.lean ====
section
/-! DEFINITION. Commands of the Pour sequencer (03_pour_sequencer.md). One definition per command: its effect
on everything but the queue. -/

namespace Sys2Proof.Machine

/-- SNAPSHOT (R79). At a snapshot instant the inputs are latched and copied, with a pour header, into the task's input
region. -/
def execSnapshot (task : BitVec 5) (s : State) : Host.Outcome State Fault Refusal :=
  .next (s.whileUp (fun s => s.snapshot task.toNat))

/-- POUR_RELEASE (R79). The snapshot transfer of a task ends and its pour is released on its pair. -/
def execPourRelease (task : BitVec 5) (s : State) : Host.Outcome State Fault Refusal :=
  .next (s.whileUp (fun s => s.pourRelease task.toNat))

/-- POUR_DONE (R89). The runtime writes POUR_DONE to end the execution; a write for a task that is not executing sets
BADDONE. -/
def execPourDone (who : Initiator) (task : BitVec 5) (s : State) : Host.Outcome State Fault Refusal :=
  .next (s.whileUp (fun s => s.busCmd who 0x20020000 (fun s => s.pourDone who task.toNat)))

/-- BUDGET_EXHAUSTED (R88). A pour's consumed execution time reaches its budget C and the pour is demoted. -/
def execBudgetExhausted (task : BitVec 5) (s : State) : Host.Outcome State Fault Refusal :=
  .next (s.whileUp (fun s => s.budgetExhausted task.toNat))

/-- COMMIT (R89). At a commit stack the sequencer cleans, forces, filters and stages outputs, and they take effect at
the commit instant. -/
def execCommit (task : BitVec 5) (s : State) : Host.Outcome State Fault Refusal :=
  .next (s.whileUp (fun s => s.commit task.toNat))

/-- TRIGGER_ENTRY (R92). The sequencer takes a trigger entry from Q56–Q59 and accepts, holds, coalesces or discards it.
-/
def execTriggerEntry (s : State) : Host.Outcome State Fault Refusal :=
  .next (s.whileUp (fun s => s.triggerEntry))

/-- HELD_TRIGGER_ACCEPT (R92). A held trigger becomes conforming and is accepted, fixing its pour's snapshot and commit
instants. -/
def execHeldTriggerAccept (task : BitVec 5) (s : State) : Host.Outcome State Fault Refusal :=
  .next (s.whileUp (fun s => s.heldAccept task.toNat))

/-- POUR_SWTRIG (R91). A write of POUR_SWTRIG produces one software trigger entry in Q59 per bit set. -/
def execPourSwtrig (who : Initiator) (mask : Word) (s : State) : Host.Outcome State Fault Refusal :=
  .next (s.whileUp (fun s => s.busCmd who 0x20020000 (fun s => s.swTrig who mask.toNat)))

/-- HYPERPERIOD_START (R81). A hyperperiod begins; a pending re-anchor takes effect. -/
def execHyperperiodStart (s : State) : Host.Outcome State Fault Refusal :=
  .next (s.whileUp (fun s => s.hyperperiod))

/-- SLEW_COMPLETE (R81). |POUR_OFFSET| falls below 4 ns and slewing ends. -/
def execSlewComplete (s : State) : Host.Outcome State Fault Refusal :=
  .next (s.whileUp (fun s => s.slewComplete))

/-- SWAP_BOUNDARY (R108). At a swap boundary each pending table is swapped, refused or deferred. -/
def execSwapBoundary (s : State) : Host.Outcome State Fault Refusal :=
  .next (s.whileUp (fun s => s.swapBoundary))

/-- POUR_SWAPDONE (R107). A write of POUR_SWAPDONE bit 4–7 declares a shadow complete and sets READY. -/
def execPourSwapdone (who : Initiator) (mask : BitVec 8) (s : State) : Host.Outcome State Fault Refusal :=
  .next (s.whileUp (fun s => s.busCmd who 0x20020000 (fun s => s.swapDone who mask.toNat)))

/-- POUR_SWAPREQ (R108). A write of POUR_SWAPREQ marks a table pending, or refuses it at once when its block is not
enabled. -/
def execPourSwapreq (who : Initiator) (mask : BitVec 8) (s : State) : Host.Outcome State Fault Refusal :=
  .next (s.whileUp (fun s => s.busCmd who 0x20020000 (fun s => s.swapReq who mask.toNat)))

/-- SEQUENCER_WATCHDOG (R113). The sequencer watchdog expires and causes reset cause 5. -/
def execSequencerWatchdog (s : State) : Host.Outcome State Fault Refusal :=
  .next (s.whileUp (fun s => if s.flag POUR_WDARM then s.watchdogReset 5 0x8F POUR_LOC [] else s))

end Sys2Proof.Machine
end

