-- ==== Sys2Proof/Machine/CmdPower.lean ====
section
/-! DEFINITION. Commands of the supply, the Riser bank and the save (18_power_holdup.md, R61, R474). One definition per command: its effect
on everything but the queue. -/

namespace Sys2Proof.Machine

/-- FEED_CHANGE (R457). A feed crosses 18 V or falls below −1 V. -/
def execFeedChange (feedB : Bool) (mv : Int) (s : State) : Host.Outcome State Fault Refusal :=
  .next (s.feedChange (ofBool feedB) mv)

/-- OVERVOLTAGE (R457). V_IN above 36 V for 10 ms sets OVER. -/
def execOvervoltage (s : State) : Host.Outcome State Fault Refusal :=
  .next s.overVoltage

/-- INPUT_DISCONNECT (R474). A feed above 40 V opens its input disconnect within 10 µs. -/
def execInputDisconnect (feedB : Bool) (s : State) : Host.Outcome State Fault Refusal :=
  .next (s.inputDisc (ofBool feedB) true)

/-- INPUT_RECONNECT (R474). The disconnect closes after the feed has been at or below 36 V for 10 ms. -/
def execInputReconnect (feedB : Bool) (s : State) : Host.Outcome State Fault Refusal :=
  .next (s.inputDisc (ofBool feedB) false)

/-- HOLDUP_ENTRY (R464). V_IN below 16.5 V for 50 µs enters HOLDUP. -/
def execHoldupEntry (s : State) : Host.Outcome State Fault Refusal :=
  .next s.holdupEntry

/-- FEED_RESTORED (R464). V_IN at 17.5 V or more for 10 ms returns to NORMAL and recharges the bank. -/
def execFeedRestored (s : State) : Host.Outcome State Fault Refusal :=
  .next s.feedRestored

/-- SAVE_TRIGGER (R465). V_R at or below 24.0 V starts the Riser save with cause 0x01. -/
def execSaveTrigger (vr : BitVec 16) (s : State) : Host.Outcome State Fault Refusal :=
  .next (s.saveTrigger vr.toNat)

/-- SAVE_COMPLETE (R467). The save completes, or 10 ms pass, and the module turns OFF or resets. -/
def execSaveComplete (done : Bool) (vinGood : Bool) (s : State) : Host.Outcome State Fault Refusal :=
  .next (s.saveComplete done vinGood)

/-- BANK_CHARGED (R460). The Riser bank reaches 47.0 V and becomes CHARGED. -/
def execBankCharged (s : State) : Host.Outcome State Fault Refusal :=
  .next s.bankCharged

/-- CHARGER_FAULT (R460). The bank fails to charge in time, or sags below 44.0 V, and the charger enters FAULT. -/
def execChargerFault (s : State) : Host.Outcome State Fault Refusal :=
  .next s.chargerFault

/-- CHARGER_RETRY (R460). A charger in FAULT retries every 10 s. -/
def execChargerRetry (s : State) : Host.Outcome State Fault Refusal :=
  .next s.chargerRetry

/-- RTEST (R461). PWR_CTL.RTEST in STOP with the bank CHARGED starts a health test, and is otherwise refused. -/
def execRtest (who : Initiator) (s : State) : Host.Outcome State Fault Refusal :=
  .next (s.whileUp (fun s => s.busCmd who 0x20B00000 (fun s => s.rtest who)))

/-- HEALTH_TEST_COMPLETE (R461). The bank health test ends with capacitance and ESR and sets RISEROK. -/
def execHealthTestComplete (step : Word) (fall : Word) (s : State) : Host.Outcome State Fault Refusal :=
  .next (s.healthTest step.toNat fall.toNat)

/-- EXTENSION_CHARGED (R462). The Riser extension reaches 47.0 V and EXTOK is set. -/
def execExtensionCharged (cap : BitVec 16) (s : State) : Host.Outcome State Fault Refusal :=
  .next (s.extCharged cap.toNat)

/-- EXTENSION_FAULT (R462). The extension is reversed, or does not rise above 1 V within 2 s. -/
def execExtensionFault (s : State) : Host.Outcome State Fault Refusal :=
  .next s.extFault

/-- PWR_MEASURE (R470). Every 10 ms the controller updates measurements, the ride-through estimate and the charging
limit. -/
def execPwrMeasure (vin : BitVec 16) (feedA : Int) (feedB : Int) (vr : BitVec 16) (vext : BitVec 16) (pin : BitVec 16) (chg : BitVec 16) (s : State) :
    Host.Outcome State Fault Refusal :=
  .next (s.pwrMeasure vin.toNat feedA feedB vr.toNat vext.toNat pin.toNat chg.toNat)

/-- RST_IN_RELEASE (R61). RST_IN# rises after being held low and the start-up timeline begins. -/
def execRstInRelease (s : State) : Host.Outcome State Fault Refusal :=
  .next s.rstRelease

end Sys2Proof.Machine
end

