-- ==== Sys2Proof/Machine/CmdProgram.lean ====
section
/-! DEFINITION. Commands of mode control, traps, forces and downloads (04_program_execution.md). One definition per command: its effect
on everything but the queue. -/

namespace Sys2Proof.Machine

/-- SAFE_REQ (R127). PRG_MODECTL.SAFE_REQ in RUN enters SAFE. -/
def execSafeReq (who : Initiator) (priv : Bool) (s : State) : Host.Outcome State Fault Refusal :=
  .next (s.whileUp (fun s => s.busCmd who 0x20030000 (fun s => s.modectl who priv 1)))

/-- RESUME (R129). PRG_MODECTL.RESUME in SAFE returns to RUN when no safety demand is active, and otherwise sets
RESUMEREF. -/
def execResume (who : Initiator) (priv : Bool) (s : State) : Host.Outcome State Fault Refusal :=
  .next (s.whileUp (fun s => s.busCmd who 0x20030000 (fun s => s.modectl who priv 2)))

/-- TO_STOP (R128). PRG_MODECTL.TO_STOP starts an orderly STOP from SAFE, or leaves a HALT not caused by a module fault
to STOP. -/
def execToStop (who : Initiator) (priv : Bool) (s : State) : Host.Outcome State Fault Refusal :=
  .next (s.whileUp (fun s => s.busCmd who 0x20030000 (fun s => s.modectl who priv 4)))

/-- HALT_REQ (R128). PRG_MODECTL.HALT_REQ enters HALT from RUN or SAFE. -/
def execHaltReq (who : Initiator) (priv : Bool) (s : State) : Host.Outcome State Fault Refusal :=
  .next (s.whileUp (fun s => s.busCmd who 0x20030000 (fun s => s.modectl who priv 8)))

/-- PROGRAM_TRAP (R142). Task code raises a trap; the trap registers are written and the station enters HALT. -/
def execProgramTrap (task : BitVec 5) (pair : Bool) (cause : BitVec 8) (pc : BitVec 36) (addr : BitVec 36) (s : State) :
    Host.Outcome State Fault Refusal :=
  .next (s.whileUp (fun s => s.programTrap task.toNat (ofBool pair) cause.toNat pc.toNat addr.toNat))

/-- APPLICATION_WATCHDOG (R132). The application watchdog expires and causes reset cause 3. -/
def execApplicationWatchdog (pair : Bool) (task : BitVec 5) (s : State) : Host.Outcome State Fault Refusal :=
  .next
    (s.whileUp (fun s =>
      s.watchdogReset 3 0x97 (if pair then 0x37F else 0x2FF) (leBytes 1 (ofBool pair) ++ leBytes 1 task.toNat)))

/-- FORCE_CTL_WRITE (R137). A write of PRG_FnCTL applies the force entry, with its value, from the next stack. -/
def execForceCtlWrite (who : Initiator) (entry : BitVec 9) (value : Word) (s : State) :
    Host.Outcome State Fault Refusal :=
  .next (s.whileUp (fun s => s.busCmd who 0x20030000 (fun s => s.forceCtlWrite who entry.toNat value.toNat)))

/-- DLCTL_START (R140). PRG_DLCTL.START opens a download in STOP when nothing is busy. -/
def execDlctlStart (who : Initiator) (s : State) : Host.Outcome State Fault Refusal :=
  .next (s.whileUp (fun s => s.busCmd who 0x20030000 (fun s => s.dlctl who State.dlStart)))

/-- DLCTL_APPLY (R140). PRG_DLCTL.APPLY verifies and checks the staged image. -/
def execDlctlApply (who : Initiator) (s : State) : Host.Outcome State Fault Refusal :=
  .next (s.whileUp (fun s => s.busCmd who 0x20030000 (fun s => s.dlctl who State.dlApply)))

/-- DLCTL_ABORT (R140). PRG_DLCTL.ABORT discards the staged image. -/
def execDlctlAbort (who : Initiator) (s : State) : Host.Outcome State Fault Refusal :=
  .next (s.whileUp (fun s => s.busCmd who 0x20030000 (fun s => s.dlctl who State.dlAbort)))

/-- DL_CHECK_COMPLETE (R140). Verification and check of a staged image end, with acceptance, refusal or a NOFORCE
conflict. -/
def execDlCheckComplete (readback : Bool) (wpHigh : Bool) (s : State) : Host.Outcome State Fault Refusal :=
  .next (s.whileUp (fun s => s.dlChecked readback wpHigh))

/-- DL_LOAD_COMPLETE (R140). Segments are loaded and variables initialised, and the downloaded image comes into force.
-/
def execDlLoadComplete (s : State) : Host.Outcome State Fault Refusal :=
  .next (s.whileUp (fun s => s.dlLoaded))

end Sys2Proof.Machine
end

