-- ==== Sys2Proof/Machine/CmdRecorder.lean ====
section
/-! DEFINITION. Commands of the event recorder (15_event_recorder.md). One definition per command: its effect
on everything but the queue. -/

namespace Sys2Proof.Machine

/-- INGEST_ENTRY (R419). The recorder takes an ingest entry, rate-limits it and assigns SEQ. -/
def execIngestEntry (s : State) : Host.Outcome State Fault Refusal :=
  .next (s.whileUp (fun s => s.ingestEntry))

/-- POST (R418). EVR_POSTi.GO posts the buffer as a record. -/
def execPost (who : Initiator) (buf : Fin 3) (keepTs : Bool) (s : State) : Host.Outcome State Fault Refusal :=
  .next
    (s.whileUp (fun s => s.busCmd who 0x20800000 (fun s => s.only (postOwner buf.val who) (fun s =>
      s.postCtl buf.val keepTs true))))

/-- SUMMARY_RECORD (R422). A class with suppressed records and 10 s since acceptance gets a summary record. -/
def execSummaryRecord (cls : BitVec 6) (s : State) : Host.Outcome State Fault Refusal :=
  .next (s.whileUp (fun s => s.summaryRecord cls.toNat))

/-- TAIL_COPY (R423). A staged record is copied to the MRAM staging tail, or lost. -/
def execTailCopy (s : State) : Host.Outcome State Fault Refusal :=
  .next (s.whileUp (fun s => s.tailCopy))

/-- FLASH_WRITE (R423). Records are written from the tail to flash. -/
def execFlashWrite (n : BitVec 16) (bad : Bool) (s : State) : Host.Outcome State Fault Refusal :=
  .next (s.whileUp (fun s => s.flashWrite n.toNat bad))

/-- OLDEST (R426). Cursor command OLDEST moves to the oldest record. -/
def execOldest (who : Initiator) (k : Fin 4) (part : BitVec 2) (s : State) : Host.Outcome State Fault Refusal :=
  .next (s.whileUp (fun s => s.busCmd who 0x20800000 (fun s => s.cursorOldest who k.val part.toNat)))

/-- SEQ (R426). Cursor command SEQ moves to the record at or after a SEQ. -/
def execSeq (who : Initiator) (k : Fin 4) (part : BitVec 2) (s : State) : Host.Outcome State Fault Refusal :=
  .next (s.whileUp (fun s => s.busCmd who 0x20800000 (fun s => s.cursorSeq who k.val part.toNat)))

/-- TIME (R426). Cursor command TIME moves to the first record at or after a TS_S. -/
def execTime (who : Initiator) (k : Fin 4) (part : BitVec 2) (s : State) : Host.Outcome State Fault Refusal :=
  .next (s.whileUp (fun s => s.busCmd who 0x20800000 (fun s => s.cursorTime who k.val part.toNat)))

/-- NEWEST (R426). Cursor command NEWEST moves to the newest record. -/
def execNewest (who : Initiator) (k : Fin 4) (part : BitVec 2) (s : State) : Host.Outcome State Fault Refusal :=
  .next (s.whileUp (fun s => s.busCmd who 0x20800000 (fun s => s.cursorNewest who k.val part.toNat)))

/-- ADVANCE (R426). Cursor command ADVANCE moves past the records shown. -/
def execAdvance (who : Initiator) (k : Fin 4) (s : State) : Host.Outcome State Fault Refusal :=
  .next (s.whileUp (fun s => s.busCmd who 0x20800000 (fun s => s.cursorAdvance who k.val)))

/-- CURSOR_FILL_DONE (R426). The cursor window is filled and READY is set. -/
def execCursorFillDone (k : Fin 4) (bad : Nat) (s : State) : Host.Outcome State Fault Refusal :=
  .next (s.whileUp (fun s => s.cursorFill k.val (fun i => bitOf bad i)))

/-- PARTITION_CLEAR (R428). A write of EVR_CLR clears a partition and writes a 0x0151 record. -/
def execPartitionClear (who : Initiator) (priv : Bool) (mask : BitVec 4) (s : State) :
    Host.Outcome State Fault Refusal :=
  .next (s.whileUp (fun s => s.busCmd who 0x20800000 (fun s => s.partitionClear who priv mask.toNat)))

/-- PARTITION_CLEAR_DONE (R428). A partition clear finishes freeing its blocks and its CLRBUSY bit returns to 0. -/
def execPartitionClearDone (part : BitVec 2) (s : State) : Host.Outcome State Fault Refusal :=
  .next (s.whileUp (fun s => s.clearDone part.toNat))

end Sys2Proof.Machine
end

