-- ==== Sys2Proof/Machine/CmdRunner.lean ====
section
/-! DEFINITION. Commands of the redundancy unit and the runner link (10_redundancy.md). A frame whose content cannot be that
of a valid one counts as failing its CRC (log 20). One definition per command: its effect
on everything but the queue. -/

namespace Sys2Proof.Machine

/-- ALIVE_IN_CHANGE (R301). ALIVE_IN settles into ALIVE, DYING or OPEN, and the standby reacts. -/
def execAliveInChange (cls : Fin 3) (s : State) : Host.Outcome State Fault Refusal :=
  .next (s.whileOn (fun s => if s.up then (s.aliveIn cls.val).safDemand else s.aliveClass cls.val))

/-- OWN_IN_CHANGE (R301). OWN_IN settles into OWNED, RELEASED or OPEN. -/
def execOwnInChange (cls : Fin 3) (s : State) : Host.Outcome State Fault Refusal :=
  .next (s.whileOn (fun s => if s.up then (s.ownIn cls.val).safDemand else s.ownClass cls.val))

/-- OWNERSHIP_CLAIM (R302). A claimable module raises OWN_OUT and gains ownership. -/
def execOwnershipClaim (s : State) : Host.Outcome State Fault Refusal :=
  .next (s.whileUp (fun s => (s.claim).safDemand))

/-- DUAL_DRIVE_END (R303). The releasing module disconnects its output cells 50 µs after OWN_IN OWNED, or 1.0 ms after
its OWN_OUT fell. -/
def execDualDriveEnd (timer : Bool) (s : State) : Host.Outcome State Fault Refusal :=
  .next (s.whileUp (fun s => s.dualEnd timer))

/-- LINK_TRAINED (R304). The runner link comes up with both lanes. -/
def execLinkTrained (s : State) : Host.Outcome State Fault Refusal :=
  .next (s.whileUp (fun s => s.linkTrained))

/-- LINK_LOSS (R304). No valid frame for LINK_LOSS_US, or 8 CRC failures, takes the runner link down. -/
def execLinkLoss (l0 : Bool) (l1 : Bool) (s : State) : Host.Outcome State Fault Refusal :=
  .next (s.whileUp (fun s => s.linkLoss l0 l1))

/-- LINK_RETRAIN (R304). While the link is lost, it retrains once per second. -/
def execLinkRetrain (s : State) : Host.Outcome State Fault Refusal :=
  .next (s.whileUp (fun s => s.linkRetrain))

/-- CTRL_FRAME (R311). A CTRL frame carries force changes, mode changes, epochs, queue entries and requests between the
modules. -/
def execCtrlFrame (m : CtrlMsg) (good : Bool) (s : State) : Host.Outcome State Fault Refusal :=
  .next (s.whileUp (fun s => (s.ctrlFrame m (good && m.ok)).safDemand))

/-- LATCH_FRAME (R310). A LATCH unit gives the standby's Crucible the primary's latched values. -/
def execLatchFrame (payload : List Byte) (good : Bool) (s : State) : Host.Outcome State Fault Refusal :=
  .next (s.whileUp (fun s =>
    if good && decide (payload.length ≤ 1008) then s.linkFrame true (fun s => s.latchFrame payload) else s.latchLost))

/-- SNAP_FRAME (R309). A SNAP unit is written into the standby task's input region. -/
def execSnapFrame (task : BitVec 5) (no : BitVec 24) (region : List Byte) (good : Bool) (s : State) :
    Host.Outcome State Fault Refusal :=
  .next (s.whileUp (fun s => s.linkFrame (good && decide (region.length ≤ 65536)) (fun s =>
    s.snapFrame task.toNat no.toNat region)))

/-- OVEC_FRAME (R316). An OVEC unit arrives, and the standby compares it with its own commit. -/
def execOvecFrame (vector : List Byte) (good : Bool) (s : State) : Host.Outcome State Fault Refusal :=
  .next (s.whileUp (fun s => s.linkFrame (good && decide (vector.length ≤ 160)) (fun s => s.ovecFrame vector)))

/-- COPY_FRAME (R313). A COPY unit is applied at the standby's own commit of the same pour. -/
def execCopyFrame (unit : CopyHead) (lines : List CopyLine) (loops : List LoopCopy) (good : Bool) (s : State) :
    Host.Outcome State Fault Refusal :=
  .next (s.whileUp (fun s => s.linkFrame (good && lines.all CopyLine.ok && loops.all LoopCopy.ok) (fun s =>
    s.copyUnit unit.task.toNat unit.commit.toNat lines loops)))

/-- REPLAY_RELEASE (R308). The standby releases a pour at the latest replay release. -/
def execReplayRelease (task : BitVec 5) (s : State) : Host.Outcome State Fault Refusal :=
  .next (s.whileUp (fun s => s.replayRelease task.toNat))

/-- RESYNC (R314). RUN_CTL.RESYNC starts resynchronisation, or leaves OFFLINE for SYNCING. -/
def execResync (who : Initiator) (priv : Bool) (s : State) : Host.Outcome State Fault Refusal :=
  .next (s.whileUp (fun s => s.regCmd who 0x20300008 (fun s => s.only (isApPriv who priv) State.resyncReq)))

/-- RESYNC_COMPLETE (R314). After the pass and one hyperperiod of copies the standby becomes SYNCED. -/
def execResyncComplete (s : State) : Host.Outcome State Fault Refusal :=
  .next (s.whileUp (fun s => s.resyncDone))

/-- SELF_CHECK_RESULT (R319). The self-check results arrive and Table RUN-7 decides the outcome. -/
def execSelfCheckResult (vector : Bool) (cell : BitVec 5) (own : OwnCheck) (partner : Bool) (s : State) :
    Host.Outcome State Fault Refusal :=
  .next (s.whileUp (fun s => (s.selfCheckResult vector cell.toNat own.core own.reading own.second partner).safDemand))

/-- SWITCH (R320). RUN_CTL.SWITCH requests a switchover, or is refused with SWREF. -/
def execSwitch (who : Initiator) (priv : Bool) (s : State) : Host.Outcome State Fault Refusal :=
  .next (s.whileUp (fun s => s.regCmd who 0x20300008 (fun s => (s.only (isApPriv who priv) State.switchReq).safDemand)))

end Sys2Proof.Machine
end

