-- ==== Sys2Proof/Machine/CmdSafety.lean ====
section
/-! DEFINITION. Commands of the safety subsystem (08_safety_architecture.md, 09_safety_io_configuration.md). One definition per command: its effect
on everything but the queue. -/

namespace Sys2Proof.Machine

/-- SUPPLY_SUPERVISOR_TRIP (R257). A safety channel regulator leaves ±10 % and its switches open within 100 µs. -/
def execSupplySupervisorTrip (lattice : Bool) (s : State) : Host.Outcome State Fault Refusal :=
  .next (s.whileOn (fun s => s.supplyTrip lattice))

/-- SUPPLY_SUPERVISOR_RECOVER (R257). The regulator has been within limits for 10 ms and the channel's switches are
released. -/
def execSupplySupervisorRecover (lattice : Bool) (s : State) : Host.Outcome State Fault Refusal :=
  .next (s.whileOn (fun s => s.supplyRecover lattice))

/-- LATTICE_SOURCE_CHANGE (R260). A change at a Foxglove source propagates to every sink within 10 µs. -/
def execLatticeSourceChange (src : BitVec 18) (s : State) : Host.Outcome State Fault Refusal :=
  .next (s.whileOn (fun s => s.latticeSource src.toNat))

/-- LATTICE_TIMER_EXPIRY (R259). A Foxglove RC timer reaches its time and its output changes. -/
def execLatticeTimerExpiry (timer : BitVec 4) (s : State) : Host.Outcome State Fault Refusal :=
  .next (s.whileOn (fun s => s.latticeTimer timer.toNat))

/-- SAFETY_CYCLE (R262). Every 1 ms the safety processor latches inputs, runs the program, writes outputs and runs a
self-test slice. -/
def execSafetyCycle (sdi : BitVec 16) (qp : BitVec 8) (qn : BitVec 8) (tp : BitVec 4) (lf : BitVec 16) (testFail : Bool) (mirrorBad : Bool) (s : State) :
    Host.Outcome State Fault Refusal :=
  .next (s.whileUp (fun s => s.safetyTick ⟨sdi.toNat, qp.toNat, qn.toNat, tp.toNat, lf.toNat, testFail, mirrorBad⟩))

/-- SAFETY_WATCHDOG (R264). The safety watchdog expires, opens the high-side switches and causes reset cause 4. -/
def execSafetyWatchdog (s : State) : Host.Outcome State Fault Refusal :=
  .next (s.whileUp (fun s => s.watchdogReset 4 0xD5 SAF_LOC []))

/-- SAFETY_SELFTEST_DONE (R265). The safety processor start-up self-test ends, moving to CONFIG or FAILSAFE. -/
def execSafetySelftestDone (fail : Option (BitVec 8)) (s : State) : Host.Outcome State Fault Refusal :=
  .next (s.whileUp (fun s => s.safSelftest (fail.map BitVec.toNat)))

/-- TP_SCHEDULE (R273). Every 10 ms each test-pulse source goes off for 300 µs in its slot, and read-back and SDI tests
are evaluated. -/
def execTpSchedule (w0 : BitVec 16) (w1 : BitVec 16) (w2 : BitVec 16) (w3 : BitVec 16) (bad : BitVec 4) (s : State) :
    Host.Outcome State Fault Refusal :=
  .next (s.whileUp (fun s => s.tpSchedule (fun k => ([w0, w1, w2, w3].getD k 0).toNat) bad.toNat))

/-- PRE_ENERGISE_TEST (R278). After 200 µs with the low-side switch closed, the high-side switch closes or an output
fault is declared. -/
def execPreEnergiseTest (out : BitVec 3) (qpLow : Bool) (qnLow : Bool) (s : State) :
    Host.Outcome State Fault Refusal :=
  .next (s.whileUp (fun s => s.preEnergise out.toNat qpLow qnLow))

/-- OFF_PULSE (R280). An off-pulse opens the high-side or low-side switch of an energised output for OP_WIDTH_US. -/
def execOffPulse (out : BitVec 3) (low : Bool) (s : State) : Host.Outcome State Fault Refusal :=
  .next (s.whileUp (fun s => s.offPulse out.toNat low))

/-- OFF_PULSE_END (R280). The off-pulse ends and its verdict is taken; a failure is an output fault. -/
def execOffPulseEnd (changed : Bool) (restored : Bool) (s : State) : Host.Outcome State Fault Refusal :=
  .next (s.whileUp (fun s => s.offPulseEnd changed restored))

/-- OVERCURRENT (R281). Current above 2.6 A for 20 ms, or the limit acting for 10 ms, is an output fault. -/
def execOvercurrent (out : BitVec 3) (s : State) : Host.Outcome State Fault Refusal :=
  .next (s.whileUp (fun s => s.overcurrent out.toNat))

/-- LF_LOW (R288). L+F below 18 V for 10 ms sets LFLOW and suspends test verdicts. -/
def execLfLow (s : State) : Host.Outcome State Fault Refusal :=
  .next (s.whileUp (fun s => s.lfLow))

/-- LF_RESTORED (R288). Test verdicts resume 100 ms after L+F returns above 18 V. -/
def execLfRestored (s : State) : Host.Outcome State Fault Refusal :=
  .next (s.whileUp (fun s => s.lfRestored))

/-- AUTHORISE (R293). Q60 AUTHORISE sets the authorised CRC, and the password if none is set. -/
def execAuthorise (s : State) : Host.Outcome State Fault Refusal :=
  .next (s.whileUp (fun s => s.q60 1))

/-- SET_PASSWORD (R293). Q60 SET_PASSWORD checks the old password ahead of the new-password entry. -/
def execSetPassword (s : State) : Host.Outcome State Fault Refusal :=
  .next (s.whileUp (fun s => s.q60 2))

/-- SET_PASSWORD_NEW (R293). The Q60 entry with CMD 0x03 supplies the new password, or is refused when no SET_PASSWORD
precedes it. -/
def execSetPasswordNew (s : State) : Host.Outcome State Fault Refusal :=
  .next (s.whileUp (fun s => s.q60 3))

/-- READ_LOG (R293). Q60 READ_LOG returns a change-log entry by SEQ. -/
def execReadLog (s : State) : Host.Outcome State Fault Refusal :=
  .next (s.whileUp (fun s => s.q60 4))

/-- PWLOCK_EXPIRY (R293). The 60 s password lockout ends. -/
def execPwlockExpiry (s : State) : Host.Outcome State Fault Refusal :=
  .next (s.whileUp (fun s => s.pwLockExpiry))

/-- FOX_SRC_READ (R297). A read of FOX_SRC captures FOX_SRC, FOX_ELEM0, FOX_ELEM1, FOX_TMR and FOX_SINK together for
later reads. -/
def execFoxSrcRead (who : Initiator) (s : State) : Host.Outcome State Fault Refusal :=
  .next (s.whileUp (fun s => s.readCmd who 0x20210004))

end Sys2Proof.Machine
end

