-- ==== Sys2Proof/Machine/CmdServices.lean ====
section
/-! DEFINITION. Service requests (12_network_pourline.md, R365). One definition per command: its effect
on everything but the queue. -/

namespace Sys2Proof.Machine

/-- READ (R365). Service READ returns symbol values at the last commit. -/
def execRead (q : SvcReq) (s : State) : Host.Outcome State Fault Refusal :=
  .next (s.whileBlock 16 (fun s => s.svcRead q))

/-- FORCE_SET (R365). Service FORCE SET sets a force, or is refused under R136. -/
def execForceSet (q : SvcReq) (s : State) : Host.Outcome State Fault Refusal :=
  .next (s.whileBlock 16 (fun s => s.svcForceSet q))

/-- FORCE_RELEASE (R365). Service FORCE RELEASE releases a force. -/
def execForceRelease (q : SvcReq) (s : State) : Host.Outcome State Fault Refusal :=
  .next (s.whileBlock 16 (fun s => s.svcForceRelease q))

/-- FORCE_LIST (R365). Service FORCE LIST returns force entries. -/
def execForceList (q : SvcReq) (s : State) : Host.Outcome State Fault Refusal :=
  .next (s.whileBlock 16 (fun s => s.svcForceList q))

/-- DOWNLOAD_START (R365). Service DOWNLOAD START opens a download through the cope processor. -/
def execDownloadStart (q : SvcReq) (s : State) : Host.Outcome State Fault Refusal :=
  .next (s.whileBlock 16 (fun s => s.svcDlStart q))

/-- DOWNLOAD_DATA (R365). Service DOWNLOAD DATA stages image bytes. -/
def execDownloadData (q : SvcReq) (s : State) : Host.Outcome State Fault Refusal :=
  .next (s.whileBlock 16 (fun s => s.svcDlData q))

/-- DOWNLOAD_APPLY (R365). Service DOWNLOAD APPLY applies the staged image. -/
def execDownloadApply (q : SvcReq) (s : State) : Host.Outcome State Fault Refusal :=
  .next (s.whileBlock 16 (fun s => s.svcDlApply q))

/-- DOWNLOAD_ABORT (R365). Service DOWNLOAD ABORT discards the staged image. -/
def execDownloadAbort (q : SvcReq) (s : State) : Host.Outcome State Fault Refusal :=
  .next (s.whileBlock 16 (fun s => s.svcDlAbort q))

/-- DOWNLOAD_STATUS (R365). Service DOWNLOAD STATUS returns the download state. -/
def execDownloadStatus (q : SvcReq) (s : State) : Host.Outcome State Fault Refusal :=
  .next (s.whileBlock 16 (fun s => s.svcDlStatus q))

/-- RUNCTL_STOP_REQ (R365). Service RUNCTL STOP_REQ requests an orderly STOP. -/
def execRunctlStopReq (q : SvcReq) (s : State) : Host.Outcome State Fault Refusal :=
  .next (s.whileBlock 16 (fun s => s.svcRunctl q 1))

/-- RUNCTL_RUN_REQ (R365). Service RUNCTL RUN_REQ requests a check and RUN. -/
def execRunctlRunReq (q : SvcReq) (s : State) : Host.Outcome State Fault Refusal :=
  .next (s.whileBlock 16 (fun s => s.svcRunctl q 2))

/-- RUNCTL_RESUME (R365). Service RUNCTL RESUME requests SAFE to RUN. -/
def execRunctlResume (q : SvcReq) (s : State) : Host.Outcome State Fault Refusal :=
  .next (s.whileBlock 16 (fun s => s.svcRunctl q 3))

/-- RUNCTL_TO_STOP (R365). Service RUNCTL TO_STOP requests STOP from SAFE or HALT. -/
def execRunctlToStop (q : SvcReq) (s : State) : Host.Outcome State Fault Refusal :=
  .next (s.whileBlock 16 (fun s => s.svcRunctl q 4))

/-- DIAG_STATUS (R365). Service DIAG STATUS returns the module status block. -/
def execDiagStatus (q : SvcReq) (s : State) : Host.Outcome State Fault Refusal :=
  .next (s.whileBlock 16 (fun s => s.svcDiagStatus q))

/-- DIAG_EVENTS (R365). Service DIAG EVENTS returns event records from a SEQ. -/
def execDiagEvents (q : SvcReq) (s : State) : Host.Outcome State Fault Refusal :=
  .next (s.whileBlock 16 (fun s => s.svcDiagEvents q))

/-- UNKNOWN_SERVICE (R365). A request of an unknown SVC is answered with RESULT 0x0002. -/
def execUnknownService (q : SvcReq) (svc : BitVec 8) (sub : BitVec 8) (s : State) :
    Host.Outcome State Fault Refusal :=
  .next (s.whileBlock 16 (fun s => s.svcUnknown q svc.toNat sub.toNat))

end Sys2Proof.Machine
end

