-- ==== Sys2Proof/Machine/CmdStartup.lean ====
section
/-! DEFINITION. Commands of start-up, the check, reload and orderly STOP (02_pattern_and_startup.md). One definition per command: its effect
on everything but the queue. -/

namespace Sys2Proof.Machine

/-- POWER_GOOD (R459). V_IN holds at 17.5 V or more for 20 ms and start-up begins. -/
def execPowerGood (straps : BitVec 10) (idPar : Bool) (present : Bool) (sideA : Bool) (key : Option KeyIn) (s : State) :
    Host.Outcome State Fault Refusal :=
  .next (s.powerGood straps.toNat idPar present sideA
    (key.map (fun k => (k.ident.toNat, keySlot k.slot0, keySlot k.slot1))))

/-- COPE_BOOT_COMPLETE (R67). The cope processor finishes booting a verified bank, and pattern loading and the event
recorder start. -/
def execCopeBootComplete (s : State) : Host.Outcome State Fault Refusal :=
  .next (s.whileUp (fun s => s.copeBoot))

/-- PATTERN_LOAD_COMPLETE (R55). A slot has been staged and verified, and is accepted or refused; a fallback may follow.
-/
def execPatternLoadComplete (fault : Option (BitVec 24)) (s : State) : Host.Outcome State Fault Refusal :=
  .next (s.whileUp (fun s => s.patternLoaded (fault.map BitVec.toNat)))

/-- CHECK_COMPLETE (R75). The consistency check ends with acceptance or refusal, and REASON and PAT_RSNARG are set. -/
def execCheckComplete (readback : Bool) (wpHigh : Bool) (s : State) : Host.Outcome State Fault Refusal :=
  .next (s.whileUp (fun s => s.checkComplete readback wpHigh))

/-- DRAG_PLANE_START (R67). The power/clock controller sets domains from SYSTEM.PDREQ, initialises blocks and configures
queues. -/
def execDragPlaneStart (s : State) : Host.Outcome State Fault Refusal :=
  .next (s.whileUp (fun s => s.dragPlane))

/-- ROLE_RESOLVE (R325). The pair role is resolved at start from the straps, the link and the pair lines. -/
def execRoleResolve (s : State) : Host.Outcome State Fault Refusal :=
  .next (s.whileUp (fun s => s.roleStart))

/-- RST_IN (R61). RST_IN# low for 10.0 µs or longer starts a save with cause RST_IN and resets the module. -/
def execRstIn (low : Word) (s : State) : Host.Outcome State Fault Refusal :=
  .next (s.rstIn low.toNat)

/-- RUN_REQ (R71). SYS_RUNCTL.RUN_REQ in STOP starts the consistency check. -/
def execRunReq (who : Initiator) (checkOnly : Bool) (s : State) : Host.Outcome State Fault Refusal :=
  .next (s.whileUp (fun s => s.busCmd who 0x20000000 (fun s => s.runctlWrite who (1 + 4 * ofBool checkOnly))))

/-- STOP_REQ (R130). SYS_RUNCTL.STOP_REQ in RUN starts an orderly STOP, or cancels a check in progress. -/
def execStopReq (who : Initiator) (s : State) : Host.Outcome State Fault Refusal :=
  .next (s.whileUp (fun s => s.busCmd who 0x20000000 (fun s => s.runctlWrite who 2)))

/-- RELOAD (R73). SYS_RUNCTL.RELOAD in STOP or NONE loads a slot without disturbing the pattern in force. -/
def execReload (who : Initiator) (slot : BitVec 2) (s : State) : Host.Outcome State Fault Refusal :=
  .next (s.whileUp (fun s => s.busCmd who 0x20000000 (fun s => s.runctlWrite who (8 + 16 * slot.toNat))))

/-- RELOAD_COMPLETE (R73). A reload ends: on acceptance the drag plane restarts cold from the new pattern; on refusal
the pattern in force stays. -/
def execReloadComplete (fault : Option (BitVec 24)) (readback : Bool) (wpHigh : Bool) (s : State) :
    Host.Outcome State Fault Refusal :=
  .next (s.whileUp (fun s => s.reloadComplete (fault.map BitVec.toNat) readback wpHigh))

/-- ORDERLY_STOP_COMPLETE (R130). When no pour remains in progress the runtime writes the state save and MODE becomes
STOP. -/
def execOrderlyStopComplete (writeError : Bool) (s : State) : Host.Outcome State Fault Refusal :=
  .next (s.whileUp (fun s => s.orderlyStop writeError))

end Sys2Proof.Machine
end

