-- ==== Sys2Proof/Machine/CmdSystem.lean ====
section
/-! DEFINITION. Commands of the bus, the regions, the domains and the queues (00_scope.md, 01_architecture.md). One definition per command: its effect
on everything but the queue. -/

namespace Sys2Proof.Machine

/-- SUB_WORD_ACCESS (R4). A byte or halfword access to a register window leaves the register unchanged, reads 0 and
completes with a slave error. -/
def execSubWordAccess (who : Initiator) (half : Bool) (write : Option (BitVec 16)) (addr : BitVec 36) (s : State) :
    Host.Outcome State Fault Refusal :=
  .next
    (s.whileUp (fun s => s.access who false addr.toNat (if half then 2 else 1) (write.map (fun v =>
      leBytes (if half then 2 else 1) v.toNat)) .none))

/-- REGISTER_WRITE (R5). A write to a register that has no row of its own acts according to its access code. -/
def execRegisterWrite (who : Initiator) (priv : Bool) (addr : BitVec 36) (value : Word) (s : State) :
    Host.Outcome State Fault Refusal :=
  .next (s.whileUp (fun s => s.access who priv addr.toNat 4 (some (leBytes 4 value.toNat)) .none))

/-- MEMORY_ACCESS (R34). An initiator reads or writes memory, with ECC checking and domain and partition tests. -/
def execMemoryAccess (who : Initiator) (priv : Bool) (addr : BitVec 36) (op : BusOp) (ecc : Ecc) (s : State) :
    Host.Outcome State Fault Refusal :=
  .next (s.whileUp (fun s => s.busAccess who priv addr.toNat op ecc))

/-- SCRUB_READ (R34). The background scrubber reads a memory word, writes back corrected errors and records
uncorrectable ones. -/
def execScrubRead (addr : BitVec 36) (ecc : Ecc) (s : State) : Host.Outcome State Fault Refusal :=
  .next (s.whileUp (fun s => s.scrub addr.toNat ecc))

/-- MODULE_FAULT (R17). The drag plane stops, outputs go to substitute states, SDOs de-energise, ALIVE_OUT drops, the
fault is recorded and the module halts. -/
def execModuleFault (origin : FaultOrigin) (s : State) : Host.Outcome State Fault Refusal :=
  .next (s.whileUp (fun s => s.faultOf origin))

/-- BLOCK_FAULT (R15). A block fault isolates the block, resets its region, or raises a module fault, according to Table
SYS-2. -/
def execBlockFault (block : Fin 27) (s : State) : Host.Outcome State Fault Refusal :=
  .next (s.whileUp (fun s => s.blockFault block.val))

/-- REGION_RESET (R16). A region is held in reset; transactions targeting it fail and its blocks are re-initialised from
the pattern. -/
def execRegionReset (region : Region) (s : State) : Host.Outcome State Fault Refusal :=
  .next (s.whileUp (fun s => s.regionFault (regionNo region)))

/-- REGION_RESET_COMPLETE (R16). Re-initialisation of a reset region completes and the region runs again. -/
def execRegionResetComplete (region : Region) (fault : Option (BitVec 24)) (s : State) :
    Host.Outcome State Fault Refusal :=
  .next (s.whileUp (fun s => s.regionReady (regionNo region) (fault.map BitVec.toNat)))

/-- CLOCK_LOSS (R19). No edge of a monitored clock arrives within 4 AON periods; a module fault or region reset follows.
-/
def execClockLoss (clock : Clock) (s : State) : Host.Outcome State Fault Refusal :=
  .next (s.whileUp (fun s => s.clockLoss clock))

/-- SAF_CLOCK_LOSS (R19). The safety watchdog clock monitor sees no SAF edge within 4 AON periods, opens the high-side
switches and raises a module fault. -/
def execSafClockLoss (s : State) : Host.Outcome State Fault Refusal :=
  .next (s.whileUp (fun s => s.safClockLoss))

/-- FABRIC_TIMEOUT (R17). A fabric transaction not completed within 10 ms raises a module fault with cause 0x04. -/
def execFabricTimeout (s : State) : Host.Outcome State Fault Refusal :=
  .next (s.whileUp (fun s => s.fabricTimeout))

/-- FABRIC_PROMOTION (R30). A class 2 or class 3 request that has waited 512 FAB cycles takes the next grant as class 1.
-/
def execFabricPromotion (port : Fin 10) (cls : BitVec 2) (s : State) : Host.Outcome State Fault Refusal :=
  .next (s.whileUp (fun s => s.promote port.val cls.toNat))

/-- DOMAIN_GATE (R20). A domain's window ends; the domain is gated, or enters DRAINING if transactions are in flight. -/
def execDomainGate (domain : Fin 14) (busy : Bool) (s : State) : Host.Outcome State Fault Refusal :=
  .next (s.whileUp (fun s => s.domainGate domain.val busy))

/-- DOMAIN_WAKE (R21). The sequencer wakes a gated domain 2 µs before its window. -/
def execDomainWake (domain : Fin 14) (s : State) : Host.Outcome State Fault Refusal :=
  .next (s.whileUp (fun s => s.domainWake domain.val))

/-- DRAIN_COMPLETE (R24). The last in-flight transaction of a draining domain completes, and the domain becomes GATED or
OFF. -/
def execDrainComplete (domain : Fin 14) (s : State) : Host.Outcome State Fault Refusal :=
  .next (s.whileUp (fun s => s.drainDone domain.val))

/-- DRAIN_LAPSE (R26). A domain's next window falls due while its gating drain is incomplete; the domain stays awake. -/
def execDrainLapse (domain : Fin 14) (s : State) : Host.Outcome State Fault Refusal :=
  .next (s.whileUp (fun s => s.drainLapse domain.val))

/-- PDREQ_WRITE (R28). A write of SYS_PDREQ requests OFF or ON per domain; a request for a referenced domain is refused
and sets SYS_PDERR. -/
def execPdreqWrite (who : Initiator) (off : BitVec 14) (busy : BitVec 14) (s : State) :
    Host.Outcome State Fault Refusal :=
  .next (s.whileUp (fun s => s.busCmd who 0x20000000 (fun s => s.pdreq off.toNat busy.toNat)))

/-- DOMAIN_POWER_UP_DONE (R27). A domain powered up from OFF completes power-up and its blocks are cold-initialised. -/
def execDomainPowerUpDone (domain : Fin 14) (s : State) : Host.Outcome State Fault Refusal :=
  .next (s.whileUp (fun s => s.powerUpDone domain.val))

/-- QUEUE_PIDX_WRITE (R38). A producer index write is tested by distance and accepted, treated as a full ring, or
ignored with IDXERR. -/
def execQueuePidxWrite (who : Initiator) (queue : BitVec 6) (value : Word) (s : State) :
    Host.Outcome State Fault Refusal :=
  .next (s.whileUp (fun s => s.busCmd who 0x20000000 (fun s => s.pidxWrite who queue.toNat value)))

/-- QUEUE_CIDX_WRITE (R38). A consumer index write is accepted when it lies within the fill, and is otherwise ignored
with IDXERR. -/
def execQueueCidxWrite (who : Initiator) (queue : BitVec 6) (value : Word) (s : State) :
    Host.Outcome State Fault Refusal :=
  .next (s.whileUp (fun s => s.busCmd who 0x20000000 (fun s => s.cidxWrite who queue.toNat value)))

/-- BLKRST_WRITE (R43). A write of SYS_BLKRST in STOP re-initialises isolated blocks from the pattern. -/
def execBlkrstWrite (who : Initiator) (mask : BitVec 26) (s : State) : Host.Outcome State Fault Refusal :=
  .next (s.whileUp (fun s => s.busCmd who 0x20000000 (fun s => s.blkrst mask.toNat)))

end Sys2Proof.Machine
end

