-- ==== Sys2Proof/Machine/Dispatch.lean ====
section
/-! DEFINITION. One arm per command. -/

namespace Sys2Proof.Machine

def exec (i : Instr) (s : State) : Host.Outcome State Fault Refusal :=
  match i with
  | .subWordAccess who half write addr => Sys2Proof.Machine.execSubWordAccess who half write addr s
  | .registerWrite who priv addr value => Sys2Proof.Machine.execRegisterWrite who priv addr value s
  | .memoryAccess who priv addr op ecc => Sys2Proof.Machine.execMemoryAccess who priv addr op ecc s
  | .scrubRead addr ecc => Sys2Proof.Machine.execScrubRead addr ecc s
  | .moduleFault origin => Sys2Proof.Machine.execModuleFault origin s
  | .blockFault block => Sys2Proof.Machine.execBlockFault block s
  | .regionReset region => Sys2Proof.Machine.execRegionReset region s
  | .regionResetComplete region fault => Sys2Proof.Machine.execRegionResetComplete region fault s
  | .clockLoss clock => Sys2Proof.Machine.execClockLoss clock s
  | .safClockLoss => Sys2Proof.Machine.execSafClockLoss s
  | .fabricTimeout => Sys2Proof.Machine.execFabricTimeout s
  | .fabricPromotion port cls => Sys2Proof.Machine.execFabricPromotion port cls s
  | .domainGate domain busy => Sys2Proof.Machine.execDomainGate domain busy s
  | .domainWake domain => Sys2Proof.Machine.execDomainWake domain s
  | .drainComplete domain => Sys2Proof.Machine.execDrainComplete domain s
  | .drainLapse domain => Sys2Proof.Machine.execDrainLapse domain s
  | .pdreqWrite who off busy => Sys2Proof.Machine.execPdreqWrite who off busy s
  | .domainPowerUpDone domain => Sys2Proof.Machine.execDomainPowerUpDone domain s
  | .queuePidxWrite who queue value => Sys2Proof.Machine.execQueuePidxWrite who queue value s
  | .queueCidxWrite who queue value => Sys2Proof.Machine.execQueueCidxWrite who queue value s
  | .blkrstWrite who mask => Sys2Proof.Machine.execBlkrstWrite who mask s
  | .powerGood straps idPar present sideA key => Sys2Proof.Machine.execPowerGood straps idPar present sideA key s
  | .copeBootComplete => Sys2Proof.Machine.execCopeBootComplete s
  | .patternLoadComplete fault => Sys2Proof.Machine.execPatternLoadComplete fault s
  | .checkComplete readback wpHigh => Sys2Proof.Machine.execCheckComplete readback wpHigh s
  | .dragPlaneStart => Sys2Proof.Machine.execDragPlaneStart s
  | .roleResolve => Sys2Proof.Machine.execRoleResolve s
  | .rstIn low => Sys2Proof.Machine.execRstIn low s
  | .runReq who checkOnly => Sys2Proof.Machine.execRunReq who checkOnly s
  | .stopReq who => Sys2Proof.Machine.execStopReq who s
  | .reload who slot => Sys2Proof.Machine.execReload who slot s
  | .reloadComplete fault readback wpHigh => Sys2Proof.Machine.execReloadComplete fault readback wpHigh s
  | .orderlyStopComplete writeError => Sys2Proof.Machine.execOrderlyStopComplete writeError s
  | .snapshot task => Sys2Proof.Machine.execSnapshot task s
  | .pourRelease task => Sys2Proof.Machine.execPourRelease task s
  | .pourDone who task => Sys2Proof.Machine.execPourDone who task s
  | .budgetExhausted task => Sys2Proof.Machine.execBudgetExhausted task s
  | .commit task => Sys2Proof.Machine.execCommit task s
  | .triggerEntry => Sys2Proof.Machine.execTriggerEntry s
  | .heldTriggerAccept task => Sys2Proof.Machine.execHeldTriggerAccept task s
  | .pourSwtrig who mask => Sys2Proof.Machine.execPourSwtrig who mask s
  | .hyperperiodStart => Sys2Proof.Machine.execHyperperiodStart s
  | .slewComplete => Sys2Proof.Machine.execSlewComplete s
  | .swapBoundary => Sys2Proof.Machine.execSwapBoundary s
  | .pourSwapdone who mask => Sys2Proof.Machine.execPourSwapdone who mask s
  | .pourSwapreq who mask => Sys2Proof.Machine.execPourSwapreq who mask s
  | .sequencerWatchdog => Sys2Proof.Machine.execSequencerWatchdog s
  | .safeReq who priv => Sys2Proof.Machine.execSafeReq who priv s
  | .resume who priv => Sys2Proof.Machine.execResume who priv s
  | .toStop who priv => Sys2Proof.Machine.execToStop who priv s
  | .haltReq who priv => Sys2Proof.Machine.execHaltReq who priv s
  | .programTrap task pair cause pc addr => Sys2Proof.Machine.execProgramTrap task pair cause pc addr s
  | .applicationWatchdog pair task => Sys2Proof.Machine.execApplicationWatchdog pair task s
  | .forceCtlWrite who entry value => Sys2Proof.Machine.execForceCtlWrite who entry value s
  | .dlctlStart who => Sys2Proof.Machine.execDlctlStart who s
  | .dlctlApply who => Sys2Proof.Machine.execDlctlApply who s
  | .dlctlAbort who => Sys2Proof.Machine.execDlctlAbort who s
  | .dlCheckComplete readback wpHigh => Sys2Proof.Machine.execDlCheckComplete readback wpHigh s
  | .dlLoadComplete => Sys2Proof.Machine.execDlLoadComplete s
  | .crucibleStage entry => Sys2Proof.Machine.execCrucibleStage entry s
  | .crucibleSample entry done => Sys2Proof.Machine.execCrucibleSample entry done s
  | .loopModeWrite who loop mode => Sys2Proof.Machine.execLoopModeWrite who loop mode s
  | .plausClear who loop => Sys2Proof.Machine.execPlausClear who loop s
  | .integratorRead who loop => Sys2Proof.Machine.execIntegratorRead who loop s
  | .cellPowerOn cell => Sys2Proof.Machine.execCellPowerOn cell s
  | .cellResult cell m => Sys2Proof.Machine.execCellResult cell m s
  | .resultMissing cell => Sys2Proof.Machine.execResultMissing cell s
  | .cellReinit cell => Sys2Proof.Machine.execCellReinit cell s
  | .diAccept cell v => Sys2Proof.Machine.execDiAccept cell v s
  | .diRawReport cell v => Sys2Proof.Machine.execDiRawReport cell v s
  | .waveSample cell x xs => Sys2Proof.Machine.execWaveSample cell x xs s
  | .nocycleResult cell => Sys2Proof.Machine.execNocycleResult cell s
  | .openWireTest cell before after => Sys2Proof.Machine.execOpenWireTest cell before after s
  | .doResult cell m => Sys2Proof.Machine.execDoResult cell m s
  | .fieldFaultTimeout cell flag present => Sys2Proof.Machine.execFieldFaultTimeout cell flag present s
  | .doShort cell => Sys2Proof.Machine.execDoShort cell s
  | .doRetry cell => Sys2Proof.Machine.execDoRetry cell s
  | .stageTest cell lo hi swOn swOff cool => Sys2Proof.Machine.execStageTest cell lo hi swOn swOff cool s
  | .stageOvertemp cell => Sys2Proof.Machine.execStageOvertemp cell s
  | .trimDrive who cell point => Sys2Proof.Machine.execTrimDrive who cell point s
  | .channelBlockFault block => Sys2Proof.Machine.execChannelBlockFault block s
  | .supplySupervisorTrip lattice => Sys2Proof.Machine.execSupplySupervisorTrip lattice s
  | .supplySupervisorRecover lattice => Sys2Proof.Machine.execSupplySupervisorRecover lattice s
  | .latticeSourceChange src => Sys2Proof.Machine.execLatticeSourceChange src s
  | .latticeTimerExpiry timer => Sys2Proof.Machine.execLatticeTimerExpiry timer s
  | .safetyCycle sdi qp qn tp lf testFail mirrorBad => Sys2Proof.Machine.execSafetyCycle sdi qp qn tp lf testFail mirrorBad s
  | .safetyWatchdog => Sys2Proof.Machine.execSafetyWatchdog s
  | .safetySelftestDone fail => Sys2Proof.Machine.execSafetySelftestDone fail s
  | .tpSchedule w0 w1 w2 w3 bad => Sys2Proof.Machine.execTpSchedule w0 w1 w2 w3 bad s
  | .preEnergiseTest out qpLow qnLow => Sys2Proof.Machine.execPreEnergiseTest out qpLow qnLow s
  | .offPulse out low => Sys2Proof.Machine.execOffPulse out low s
  | .offPulseEnd changed restored => Sys2Proof.Machine.execOffPulseEnd changed restored s
  | .overcurrent out => Sys2Proof.Machine.execOvercurrent out s
  | .lfLow => Sys2Proof.Machine.execLfLow s
  | .lfRestored => Sys2Proof.Machine.execLfRestored s
  | .authorise => Sys2Proof.Machine.execAuthorise s
  | .setPassword => Sys2Proof.Machine.execSetPassword s
  | .setPasswordNew => Sys2Proof.Machine.execSetPasswordNew s
  | .readLog => Sys2Proof.Machine.execReadLog s
  | .pwlockExpiry => Sys2Proof.Machine.execPwlockExpiry s
  | .aliveInChange cls => Sys2Proof.Machine.execAliveInChange cls s
  | .ownInChange cls => Sys2Proof.Machine.execOwnInChange cls s
  | .ownershipClaim => Sys2Proof.Machine.execOwnershipClaim s
  | .dualDriveEnd timer => Sys2Proof.Machine.execDualDriveEnd timer s
  | .linkTrained => Sys2Proof.Machine.execLinkTrained s
  | .linkLoss l0 l1 => Sys2Proof.Machine.execLinkLoss l0 l1 s
  | .linkRetrain => Sys2Proof.Machine.execLinkRetrain s
  | .ctrlFrame m good => Sys2Proof.Machine.execCtrlFrame m good s
  | .latchFrame payload good => Sys2Proof.Machine.execLatchFrame payload good s
  | .snapFrame task no region good => Sys2Proof.Machine.execSnapFrame task no region good s
  | .ovecFrame vector good => Sys2Proof.Machine.execOvecFrame vector good s
  | .copyFrame unit lines loops good => Sys2Proof.Machine.execCopyFrame unit lines loops good s
  | .replayRelease task => Sys2Proof.Machine.execReplayRelease task s
  | .resync who priv => Sys2Proof.Machine.execResync who priv s
  | .resyncComplete => Sys2Proof.Machine.execResyncComplete s
  | .selfCheckResult vector cell own partner => Sys2Proof.Machine.execSelfCheckResult vector cell own partner s
  | .switch who priv => Sys2Proof.Machine.execSwitch who priv s
  | .offsetMeasurement p2 raw => Sys2Proof.Machine.execOffsetMeasurement p2 raw s
  | .announce p2 a => Sys2Proof.Machine.execAnnounce p2 a s
  | .announceTimeout p2 => Sys2Proof.Machine.execAnnounceTimeout p2 s
  | .syncHoldExpiry => Sys2Proof.Machine.execSyncHoldExpiry s
  | .mgdSet who priv => Sys2Proof.Machine.execMgdSet who priv s
  | .ref10mLost => Sys2Proof.Machine.execRef10mLost s
  | .ref10mRestored => Sys2Proof.Machine.execRef10mRestored s
  | .ppsInEdge => Sys2Proof.Machine.execPpsInEdge s
  | .ppsLost => Sys2Proof.Machine.execPpsLost s
  | .alarmArm who priv alarm value => Sys2Proof.Machine.execAlarmArm who priv alarm value s
  | .alarmFire alarm => Sys2Proof.Machine.execAlarmFire alarm s
  | .tnsRead who => Sys2Proof.Machine.execTnsRead who s
  | .publication entry => Sys2Proof.Machine.execPublication entry s
  | .cyclicFrameRx p2 frame => Sys2Proof.Machine.execCyclicFrameRx p2 frame s
  | .subscriptionStale sub => Sys2Proof.Machine.execSubscriptionStale sub s
  | .safetyMsgWatchdog conn => Sys2Proof.Machine.execSafetyMsgWatchdog conn s
  | .portLinkChange p2 linked => Sys2Proof.Machine.execPortLinkChange p2 linked s
  | .redundantPathChange pathB ok => Sys2Proof.Machine.execRedundantPathChange pathB ok s
  | .txQueueEntry cls => Sys2Proof.Machine.execTxQueueEntry cls s
  | .rxFrame p2 frame => Sys2Proof.Machine.execRxFrame p2 frame s
  | .read q => Sys2Proof.Machine.execRead q s
  | .forceSet q => Sys2Proof.Machine.execForceSet q s
  | .forceRelease q => Sys2Proof.Machine.execForceRelease q s
  | .forceList q => Sys2Proof.Machine.execForceList q s
  | .downloadStart q => Sys2Proof.Machine.execDownloadStart q s
  | .downloadData q => Sys2Proof.Machine.execDownloadData q s
  | .downloadApply q => Sys2Proof.Machine.execDownloadApply q s
  | .downloadAbort q => Sys2Proof.Machine.execDownloadAbort q s
  | .downloadStatus q => Sys2Proof.Machine.execDownloadStatus q s
  | .runctlStopReq q => Sys2Proof.Machine.execRunctlStopReq q s
  | .runctlRunReq q => Sys2Proof.Machine.execRunctlRunReq q s
  | .runctlResume q => Sys2Proof.Machine.execRunctlResume q s
  | .runctlToStop q => Sys2Proof.Machine.execRunctlToStop q s
  | .diagStatus q => Sys2Proof.Machine.execDiagStatus q s
  | .diagEvents q => Sys2Proof.Machine.execDiagEvents q s
  | .unknownService q svc sub => Sys2Proof.Machine.execUnknownService q svc sub s
  | .canFrameRx n ident xtd rtr fdf brs esi dlc rx => Sys2Proof.Machine.execCanFrameRx n ident xtd rtr fdf brs esi dlc rx s
  | .detectDwellEnd n => Sys2Proof.Machine.execDetectDwellEnd n s
  | .recover who n => Sys2Proof.Machine.execRecover who n s
  | .goNormal who n => Sys2Proof.Machine.execGoNormal who n s
  | .redetect who n => Sys2Proof.Machine.execRedetect who n s
  | .canFltctl who n value => Sys2Proof.Machine.execCanFltctl who n value s
  | .filterScanEnd n => Sys2Proof.Machine.execFilterScanEnd n s
  | .canTxreq who n mask => Sys2Proof.Machine.execCanTxreq who n mask s
  | .canTxcancel who n mask sof => Sys2Proof.Machine.execCanTxcancel who n mask sof s
  | .canTbctlWrite who n buf value => Sys2Proof.Machine.execCanTbctlWrite who n buf value s
  | .canTxEnd n buf outcome => Sys2Proof.Machine.execCanTxEnd n buf outcome s
  | .canTxOccurrence n buf => Sys2Proof.Machine.execCanTxOccurrence n buf s
  | .canSlotEnd n buf started => Sys2Proof.Machine.execCanSlotEnd n buf started s
  | .busoffRecoveryComplete n => Sys2Proof.Machine.execBusoffRecoveryComplete n s
  | .ladleOccurrence ch => Sys2Proof.Machine.execLadleOccurrence ch s
  | .start who ch => Sys2Proof.Machine.execStart who ch s
  | .abort who ch => Sys2Proof.Machine.execAbort who ch s
  | .chainTake => Sys2Proof.Machine.execChainTake s
  | .descriptorEnd => Sys2Proof.Machine.execDescriptorEnd s
  | .ladleBusError addr done => Sys2Proof.Machine.execLadleBusError addr done s
  | .clrhalt who => Sys2Proof.Machine.execClrhalt who s
  | .ingestEntry => Sys2Proof.Machine.execIngestEntry s
  | .post who buf keepTs => Sys2Proof.Machine.execPost who buf keepTs s
  | .summaryRecord cls => Sys2Proof.Machine.execSummaryRecord cls s
  | .tailCopy => Sys2Proof.Machine.execTailCopy s
  | .flashWrite n bad => Sys2Proof.Machine.execFlashWrite n bad s
  | .oldest who k part => Sys2Proof.Machine.execOldest who k part s
  | .seq who k part => Sys2Proof.Machine.execSeq who k part s
  | .time who k part => Sys2Proof.Machine.execTime who k part s
  | .newest who k part => Sys2Proof.Machine.execNewest who k part s
  | .advance who k => Sys2Proof.Machine.execAdvance who k s
  | .cursorFillDone k bad => Sys2Proof.Machine.execCursorFillDone k bad s
  | .partitionClear who priv mask => Sys2Proof.Machine.execPartitionClear who priv mask s
  | .pmcWindowEnd x => Sys2Proof.Machine.execPmcWindowEnd x s
  | .pmcStagedWrite who priv off value => Sys2Proof.Machine.execPmcStagedWrite who priv off value s
  | .pmcTaskAccess off write => Sys2Proof.Machine.execPmcTaskAccess off write s
  | .pmcCounterRead who counter => Sys2Proof.Machine.execPmcCounterRead who counter s
  | .copeTick readings => Sys2Proof.Machine.execCopeTick readings s
  | .copeWatchdog => Sys2Proof.Machine.execCopeWatchdog s
  | .login src => Sys2Proof.Machine.execLogin src s
  | .logout src => Sys2Proof.Machine.execLogout src s
  | .setPw src => Sys2Proof.Machine.execSetPw src s
  | .health src => Sys2Proof.Machine.execHealth src s
  | .reset src => Sys2Proof.Machine.execReset src s
  | .copeStopReq src => Sys2Proof.Machine.execCopeStopReq src s
  | .copeRunReq src => Sys2Proof.Machine.execCopeRunReq src s
  | .copeResume src => Sys2Proof.Machine.execCopeResume src s
  | .copeToStop src => Sys2Proof.Machine.execCopeToStop src s
  | .copeReload src => Sys2Proof.Machine.execCopeReload src s
  | .keywsOpen src => Sys2Proof.Machine.execKeywsOpen src s
  | .keywsWrite src fault => Sys2Proof.Machine.execKeywsWrite src fault s
  | .keywsClose src => Sys2Proof.Machine.execKeywsClose src s
  | .dlStart src => Sys2Proof.Machine.execDlStart src s
  | .dlData src => Sys2Proof.Machine.execDlData src s
  | .dlApply src => Sys2Proof.Machine.execDlApply src s
  | .dlAbort src => Sys2Proof.Machine.execDlAbort src s
  | .fwBegin src => Sys2Proof.Machine.execFwBegin src s
  | .fwData src => Sys2Proof.Machine.execFwData src s
  | .fwInstall src => Sys2Proof.Machine.execFwInstall src s
  | .keyInstall src => Sys2Proof.Machine.execKeyInstall src s
  | .keyRevoke src => Sys2Proof.Machine.execKeyRevoke src s
  | .keyList src => Sys2Proof.Machine.execKeyList src s
  | .evrClear src => Sys2Proof.Machine.execEvrClear src s
  | .evrRead src => Sys2Proof.Machine.execEvrRead src s
  | .sessionTimeout => Sys2Proof.Machine.execSessionTimeout s
  | .serviceLinkLoss => Sys2Proof.Machine.execServiceLinkLoss s
  | .loginLockExpiry => Sys2Proof.Machine.execLoginLockExpiry s
  | .feedChange feedB mv => Sys2Proof.Machine.execFeedChange feedB mv s
  | .overvoltage => Sys2Proof.Machine.execOvervoltage s
  | .inputDisconnect feedB => Sys2Proof.Machine.execInputDisconnect feedB s
  | .inputReconnect feedB => Sys2Proof.Machine.execInputReconnect feedB s
  | .holdupEntry => Sys2Proof.Machine.execHoldupEntry s
  | .feedRestored => Sys2Proof.Machine.execFeedRestored s
  | .saveTrigger vr => Sys2Proof.Machine.execSaveTrigger vr s
  | .saveComplete done vinGood => Sys2Proof.Machine.execSaveComplete done vinGood s
  | .bankCharged => Sys2Proof.Machine.execBankCharged s
  | .chargerFault => Sys2Proof.Machine.execChargerFault s
  | .chargerRetry => Sys2Proof.Machine.execChargerRetry s
  | .rtest who => Sys2Proof.Machine.execRtest who s
  | .healthTestComplete step fall => Sys2Proof.Machine.execHealthTestComplete step fall s
  | .extensionCharged cap => Sys2Proof.Machine.execExtensionCharged cap s
  | .extensionFault => Sys2Proof.Machine.execExtensionFault s
  | .pwrMeasure vin feedA feedB vr vext pin chg => Sys2Proof.Machine.execPwrMeasure vin feedA feedB vr vext pin chg s
  | .rstInRelease => Sys2Proof.Machine.execRstInRelease s
  | .foxSrcRead who => Sys2Proof.Machine.execFoxSrcRead who s
  | .canBusIdle n => Sys2Proof.Machine.execCanBusIdle n s
  | .canBusError n tx eight => Sys2Proof.Machine.execCanBusError n tx eight s
  | .frameForward port frame residence good => Sys2Proof.Machine.execFrameForward port frame residence good s
  | .learnedEntryAgeOut mac vid => Sys2Proof.Machine.execLearnedEntryAgeOut mac vid s
  | .transitFrameDrop p2 => Sys2Proof.Machine.execTransitFrameDrop p2 s
  | .pathDelayMeasurement p2 delay => Sys2Proof.Machine.execPathDelayMeasurement p2 delay s
  | .canAllocationEnd n buf started => Sys2Proof.Machine.execCanAllocationEnd n buf started s
  | .partitionClearDone part => Sys2Proof.Machine.execPartitionClearDone part s

end Sys2Proof.Machine
end

