-- ==== Sys2Proof/Safety.lean ====
section
/-! DEFINITION. What counts as a sound state and a safe run, in the terms the statements use: the sparse tables of
registers and of memory in their canonical form, steps that answer, frames, and what the ports of the module answer and
send. -/

namespace Sys2Proof.Machine

/-- The state is in canonical form: the register store and memory list their entries by strictly rising address, and
none that is equal to what an unlisted address reads as, so that equal contents are equal data. -/
structure Inv (s : State) : Prop where
  regs : tblWf resetWord s.regs = true
  mem : Memory.wf s.mem = true

/-- What a run may count on from one state to a later one: frames sent are never taken back, and no free value is drawn
twice. -/
structure Onward (s t : State) : Prop where
  outbox : s.outbox <+: t.outbox
  free : s.free ≤ t.free

/-- A step that answers a next state: neither a fault nor a refusal. -/
def Answers (s : State) : Prop := ∃ t, step s = .next t

/-- Every register outside `R` and every byte of memory outside `M` reads after as before. -/
structure Frame (R M : Nat → Prop) (s t : State) : Prop where
  regs : ∀ a, ¬ R a → t.reg a = s.reg a
  mem : ∀ a, ¬ M a → t.mget a = s.mget a

/-- PMC_CnSEL: the collector counts what every transaction on the fabric and every served request does, and a counter that
wraps sets OVF in its selection register (R435, R436). -/
def CountSel (r : Nat) : Prop := 0x20900800 ≤ r ∧ r < 0x20900A00

/-- Table SYS-11 names the initiator as a writer of the MRAM byte at `b` (R33). -/
def MramOpen (who : Initiator) (b : Nat) : Prop :=
  (b < 0x1300000 ∧ who ∈ [Initiator.ap0, .ap1]) ∨ (0x1200000 ≤ b ∧ b < 0x13C0000 ∧ who = .save)
    ∨ (0x1300000 ≤ b ∧ b < 0x13C0000 ∧ who = .evr) ∨ (0x13C0000 ≤ b ∧ who = .saf)

/-- The `n` bytes at `a` lie in MRAM, in partitions that the initiator may reach (R33), or in LPDDR4X whose domain takes
new transactions (R22, R24), outside the pattern area for another than the cope processor (R59). -/
def Reaches (s : State) (who : Initiator) (a n : Nat) (write : Bool) : Prop :=
  (0x1000000 ≤ a ∧ a + n ≤ 0x1400000
    ∧ if write then ∀ b, a ≤ b → b < a + n → MramOpen who b else a + n ≤ 0x13C0000 ∨ who = .saf)
  ∨ (0x100000000 ≤ a ∧ a + n ≤ 0x200000000 ∧ s.domain 12 ≠ D_OFF ∧ s.domain 12 ≠ D_DRAINING
    ∧ (a + n ≤ 0x1FF000000 ∨ who = .cope))

/-- The `n` bytes at `a` lie in MRAM or in LPDDR4X, and R33, R22, R24 or R59 closes some of them to the initiator. -/
def Barred (s : State) (who : Initiator) (a n : Nat) (write : Bool) : Prop :=
  (0x1000000 ≤ a ∧ a + n ≤ 0x1400000
    ∧ if write then ∃ b, a ≤ b ∧ b < a + n ∧ ¬ MramOpen who b else 0x13C0000 < a + n ∧ who ≠ .saf)
  ∨ (0x100000000 ≤ a ∧ a + n ≤ 0x200000000
    ∧ (s.domain 12 = D_OFF ∨ s.domain 12 = D_DRAINING ∨ 0x1FF000000 < a + n ∧ who ≠ .cope))

/-- SYS_PDSTAT, which the wake of a gated LPDDR4X writes (R22), and the counter selections. -/
def WakeSel (r : Nat) : Prop := r = 0x20000044 ∨ CountSel r

/-- What a module fault of a cause and a location leaves (R17): HALT because of a module fault, SYS_MFLT, ALIVE_OUT low,
the high-side drivers held open. -/
structure ModuleFaulted (cause loc : Nat) (t : State) : Prop where
  mode : t.mode = HALT
  haltCause : t.fld HALT_CAUSE = 1
  mflt : t.regN SYS_MFLT = 2 ^ 31 + cause * 65536 + loc
  stopped : t.saf.stopped = true
  alive : t.run.aliveOut = 2

/-- A transmit entry of class `c` that R364 does not refuse: length, buffer, ports and flags as Table PLN-9 has them,
reserved bytes 0, the acyclic class marked. -/
def txGood (c : Nat) (e : List Byte) : Bool :=
  decide (60 ≤ fieldAt e 8 2 ∧ fieldAt e 8 2 ≤ 1518 ∧ fieldAt e 0 8 < 2 ^ 36 ∧ fieldAt e 10 1 ≤ 3 ∧ fieldAt e 11 1 ≤ 3)
    && (memKind (fieldAt e 0 8)).isSome && (memKind (fieldAt e 0 8 + fieldAt e 8 2 - 1)).isSome
    && fieldAt e 20 12 == 0 && (c != 5 || bitOf (fieldAt e 11 1) 1)

/-- The command layout inside a service-port frame (Table COPE-4). -/
def portLayout (b : List Byte) : List Byte := (b.drop 4).take (b.length - 8)

/-- The cope processor runs, and `b` is a right service-port frame that carries command code `k` (R453). -/
structure PortCommand (k : Nat) (b : List Byte) (s : State) : Prop where
  running : s.fld COPE_STATE = 1
  framed : srcFramed (.port b) = true
  layout : layoutBad (.port b) (portLayout b) = false
  code : fieldAt (portLayout b) 0 1 = k

/-- RESULT of the answer that left the service port last, if the last thing that left was one. -/
def portResult (t : State) : Option Nat :=
  match t.outbox.getLast? with
  | some (.answer a) => some (fieldAt a 8 2)
  | _ => none

/-- The service port has answered with RESULT `r`. -/
structure PortAnswered (r : Nat) (s t : State) : Prop where
  more : s.outbox.length < t.outbox.length
  result : portResult t = some r

/-- A frame of class `c` that comes to port `p` leaves at once (R349): the port has link, the gate of the class is open, and
no frame of the class waits there. -/
def State.goes (s : State) (p c : Nat) : Bool :=
  s.portUp p && s.gateOpen p c && !s.net.wait.any (fun w => w.port == p && w.cls == c)

/-- What leaves ports P1 and P2 when a frame of the module enters at P0, in class `c`, for the ports of `m` (R347, R349,
R350). -/
def State.leaving (s : State) (c m : Nat) (f : List Byte) : List Out :=
  ([1, 2].filter (fun k => m.testBit k && s.goes k c)).map (fun k => .frame k (redWrap s.redMode k s.net.redSeq (s.egress k f)))

/-- Pourline runs, the request names this module and comes from another station, and its answer leaves port P1 (R365): the
port has link, its gate for class 5 is open, and the answer is forwarded there. -/
structure ServiceAnswers (q : SvcReq) (s : State) : Prop where
  runs : s.blockRuns 16 = true
  mine : s.svcMine q = true
  other : q.sender.toNat ≠ s.stationId
  goes : s.goes 1 5 = true
  vidPl : s.vidPl < 4096
  way : s.redMode ≠ 0 ∨ (s.vidPorts s.vidPl).testBit 1 = true
    ∧ s.fdbFind (leVal (stationAddr q.sender.toNat)) s.vidPl = none

/-- Q37 takes requests for the runtime (R351, R365): it is enabled, and the pattern gives it buffers. -/
def State.takesRequests (s : State) : Bool := s.qUsable 37 && fieldAt s.netSec 36 4 != 0

/-- The bytes of the next buffer and entry of receive queue `q`, in class `c` (R363). -/
def RxBytes (s : State) (c a : Nat) : Prop :=
  let q := 32 + c
  let b := fieldAt s.netSec (16 + 4 * c) 4 + s.pidx q % s.qSize q * 1536
  (b ≤ a ∧ a < b + 1536) ∨ (s.qEntry q (s.pidx q) ≤ a ∧ a < s.qEntry q (s.pidx q) + esizeBytes (s.qEsize q))

/-- RESULT of the service answer that left a port last, if the last thing that left was a frame (Table PLN-12). -/
def svcResult (t : State) : Option Nat :=
  match t.outbox.getLast? with
  | some (.frame _ f) => some (fieldAt (stripRed t.redMode f) ((frType (stripRed t.redMode f)).2 + 30) 2)
  | _ => none

/-- A service request has been answered with RESULT `r`. -/
structure ServiceAnswered (r : Nat) (s t : State) : Prop where
  more : s.outbox.length < t.outbox.length
  result : svcResult t = some r

end Sys2Proof.Machine
end

