-- ==== Sys2Proof/Certificates/Slice0/Obligations.lean ====
section
/-! DEFINITION. The statements for the provers. Each formalises what the manual says a command, or the machine, does. -/

open Sys2Proof Sys2Proof.Machine

/-- A command at the front of the queue is carried out on the rest of the queue (the block's step, log 1). -/
def Obligations.StepRunsFrontCommand : Prop :=
  ∀ (c : Instr) (s : State), step { s with pending := c :: s.pending } = exec c s

/-- With no command waiting a microsecond passes: without power nothing changes; with power the monotonic time rises by
1,000 ns, no free value is taken back, and no unit is touched but those in which time passes: Marigold, the sequencer's
slewing, the WAVE cells with a result to deliver, the runner link, the frames that the switch, PTP and supervision let
out, what the switch remembers of redundant frames and a CAN controller with an admitted request offers, the indicators of
the ports, and the queues and the recorder that take the events of these. While the link is down, no WAVE result and no
frame waits, the network is not redundant and no TIME section is in force, no cell is touched and no frame leaves or waits
anew (DESIGN CHOICE, logs 1, 57, 69, 70 and 73). -/
def Obligations.IdleStepIsOneMicrosecond : Prop :=
  ∀ s : State, s.pending = [] →
    (s.pwr.on = false → step s = .next s) ∧
    (s.pwr.on = true → ∃ t, step s = .next t ∧ t.mono = s.mono + 1000 ∧ t.pending = [] ∧ s.free ≤ t.free
      ∧ t.pat = s.pat ∧ t.prg = s.prg ∧ t.cru = s.cru ∧ t.fox = s.fox ∧ t.saf = s.saf ∧ t.safNv = s.safNv
      ∧ t.can = { s.can with ctl := t.can.ctl } ∧ t.ldl = s.ldl ∧ t.cope = s.cope ∧ t.pwr = { s.pwr with blink := t.pwr.blink }
      ∧ t.net = { s.net with
          fdb := t.net.fdb, wait := t.net.wait, redSeq := t.net.redSeq, supSeq := t.net.supSeq, supAt := t.net.supAt,
          dupTab := t.net.dupTab }
      ∧ ((∀ n, n < 4 → s.canTimed n = false) → t.can = s.can)
      ∧ (s.linkUp = false → (∀ n, n < 32 → (s.cell n).wavePend = none) → s.net.wait = [] → s.net.dupTab = [] →
          s.redMode = 0 → s.hasSec SEC_TIME = false →
          t.chan = s.chan ∧ t.run = s.run ∧ t.net = s.net ∧ t.pwr = s.pwr ∧ t.outbox = s.outbox))

/-- The state right after reset is in canonical form. -/
def Obligations.ResetIsCanonical : Prop := Inv State.reset

/-- Every step that answers a next state keeps the canonical form of the registers and of memory. -/
def Obligations.StepKeepsInv : Prop :=
  ∀ s t : State, Inv s → step s = .next t → Inv t

/-- Every command, with every operand, is answered with a next state in every state; it leaves the queue alone, takes
back nothing that has left the module, draws no free value twice, and keeps the canonical form. -/
def Obligations.EveryCommandAnswers : Prop :=
  ∀ (c : Instr) (s : State), ∃ t, exec c s = .next t ∧ t.pending = s.pending ∧ Onward s t ∧ (Inv s → Inv t)

/-- The model's choice (log 20): a frame of the runner link whose content cannot be that of a valid one counts as one
with a wrong CRC; a frame that the switch receives with another length is errored, and reaches Pourline not at all; a CAN
frame carries no more than its format holds; a sensor without a reading is missing; a key slot holds 8 MiB. -/
def Obligations.IllFormedFramesAreErrored : Prop :=
  ∀ s : State,
    (∀ m : CtrlMsg, m.ok = false → exec (.ctrlFrame m true) s = exec (.ctrlFrame m false) s)
    ∧ (∀ b : List Byte, 1008 < b.length → exec (.latchFrame b true) s = exec (.latchFrame b false) s)
    ∧ (∀ (k : BitVec 5) (no : BitVec 24) (b : List Byte), 65536 < b.length →
        exec (.snapFrame k no b true) s = exec (.snapFrame k no b false) s)
    ∧ (∀ b : List Byte, 160 < b.length → exec (.ovecFrame b true) s = exec (.ovecFrame b false) s)
    ∧ (∀ (k : BitVec 8) (w : Word) (ls : List CopyLine) (lo : List LoopCopy),
        (ls.all CopyLine.ok && lo.all LoopCopy.ok) = false →
        exec (.copyFrame ⟨k, w⟩ ls lo true) s = exec (.copyFrame ⟨k, w⟩ ls lo false) s)
    ∧ (∀ f : List Byte, frameOk f = false →
        (∀ (p : Fin 3) (res : Word), exec (.frameForward p f res true) s = exec (.frameForward p f res false) s)
        ∧ ∀ p2 : Bool, exec (.cyclicFrameRx p2 f) s = .next s ∧ exec (.rxFrame p2 f) s = .next s)
    ∧ (∀ (n : BitVec 2) (id : BitVec 29) (x r br e old : Bool) (dlc : BitVec 4) (d : List Byte),
        exec (.canFrameRx n id x r false br e dlc ⟨d, old⟩) s
          = exec (.canFrameRx n id x r false br e dlc ⟨d.take 8, old⟩) s
        ∧ exec (.canFrameRx n id x r true br e dlc ⟨d, old⟩) s
          = exec (.canFrameRx n id x r true br e dlc ⟨d.take 64, old⟩) s)
    ∧ (∀ vs : List (Option (BitVec 16)),
        exec (.copeTick vs) s = exec (.copeTick ((vs ++ List.replicate 32 none).take 32)) s)
    ∧ (∀ (ids : BitVec 10) (par present sideA : Bool) (i : BitVec 24) (a b : List Byte),
        exec (.powerGood ids par present sideA (some ⟨i, a, b⟩)) s
          = exec (.powerGood ids par present sideA (some ⟨i, a.take 0x800000, b.take 0x800000⟩)) s)

/-- No command refuses. -/
def Obligations.NoCommandRefuses : Prop :=
  ∀ (c : Instr) (s : State) (r : Refusal), exec c s ≠ .refused r

/-- What a command does touches neither the queue nor what has already left the module, and draws free values only
onward. -/
def Obligations.CommandsLeaveQueueAndOutbox : Prop :=
  ∀ (c : Instr) (s t : State), exec c s = .next t → t.pending = s.pending ∧ Onward s t

/-- Every queue of commands drains: after as many steps as commands wait, none waits, the state is canonical if
it was, and what had left the module still has. -/
def Obligations.QueueDrains : Prop :=
  ∀ s : State,
    ∃ t, Sys2Proof.core.run s.pending.length s = .next t ∧ t.pending = [] ∧ (Inv s → Inv t) ∧ Onward s t

/-- A number laid into memory lowest byte first reads back as that number, and no other byte changes. -/
def Obligations.MemoryIsLittleEndian : Prop :=
  ∀ (s : State) (a n v : Nat), (s.mput a (leBytes n v)).mnat a n = v % 256 ^ n
    ∧ (∀ b, b < a ∨ a + n ≤ b → (s.mput a (leBytes n v)).mget b = s.mget b)
    ∧ (∀ b, (s.mput a (leBytes n v)).reg b = s.reg b)

/-- A field set to a value reads back as that value in the field's width; every other field of the register and every
other register keeps its value. -/
def Obligations.FieldsAreIndependent : Prop :=
  ∀ (s : State) (f : Fld) (v : Nat), f.hi < 32 → f.lo ≤ f.hi →
    (s.setFld f v).fld f = v % 2 ^ (f.hi + 1 - f.lo)
      ∧ (∀ g : Fld, g.addr ≠ f.addr ∨ f.hi < g.lo ∨ g.hi < f.lo → (s.setFld f v).fld g = s.fld g)
      ∧ (∀ a, a ≠ f.addr → (s.setFld f v).reg a = s.reg a)

/-- A ts32 extended against a reference time names the one time congruent to it that lies from -2^31 to 2^31 - 1 ns from
the reference. -/
def Obligations.Ts32Extends : Prop :=
  ∀ ref t : Nat, ref ≤ t + 2 ^ 31 → t < ref + 2 ^ 31 → extendTs32 ref (ts32Of t) = t

/-- A ts80 occupies twelve bytes laid out as R9 gives them, and reads back as the time it names. -/
def Obligations.Ts80RoundTrip : Prop :=
  ∀ t : Nat, t < 2 ^ 48 * NS →
    (ts80Bytes t).length = 12 ∧ fieldAt (ts80Bytes t) 6 2 = 0 ∧ fieldAt (ts80Bytes t) 8 4 < NS
      ∧ ts80Val (ts80Bytes t) = t

/-! ### The bus, the regions, the domains, the queues (00_scope.md, 01_architecture.md) -/

/-- R4: a byte or halfword access to a register window changes no register and no memory, reads 0, and completes with a
slave error. Besides, the request uses up a promotion of its port (R30) and ends a pairing of CRU_LI_LO (R151). R32: an
access to an unmapped address completes with a slave error; a read returns 0 and a write is ignored. -/
def Obligations.FailingAccesses : Prop :=
  (∀ (s : State) (who : Initiator) (half : Bool) (write : Option (BitVec 16)) (addr : BitVec 36),
      s.up = true → s.mayIssue who = true → (windowOf addr.toNat).isSome = true →
      ∃ t, exec (.subWordAccess who half write addr) s = .next t
        ∧ t.bus = ⟨if write.isSome then [] else List.replicate (if half then 2 else 1) 0, true⟩
        ∧ t.cru = { s.cru with liPair := none }
        ∧ t.sys = { s.sys with promoted :=
            if 2 ≤ (issuerOf who).cls then s.sys.promoted.filter (· != (issuerOf who).port) else s.sys.promoted }
        ∧ Frame CountSel (fun _ => False) s t)
    ∧ (∀ (s : State) (who : Initiator) (priv : Bool) (a : BitVec 36) (e : Ecc), s.up = true →
      s.mayIssue who = true → windowOf a.toNat = none → memKind a.toNat = none →
      (∀ n : Nat, 1 ≤ n → n ≤ 64 → ∃ t, exec (.memoryAccess who priv a (.read n) e) s = .next t
        ∧ t.bus = ⟨List.replicate n 0, true⟩ ∧ Frame CountSel (fun _ => False) s t)
      ∧ (∀ bs : List Byte, 1 ≤ bs.length → bs.length ≤ 64 →
        ∃ t, exec (.memoryAccess who priv a (.write bs) e) s = .next t
          ∧ t.bus = ⟨[], true⟩ ∧ Frame CountSel (fun _ => False) s t))

/-- R5, Table SCP-3, on registers of the SYS window and PMC_ACCESS: a write of a W1C register clears the bits written
1, a
write of an RWL register acts in STOP only, a write of an RO or RS register is ignored, a write of an RW register by an
initiator that may write it sets its bits; each completes without error and reaches no other register and no memory. A
write to an aligned address of a window that answers is what the window does with it (State.winWrite, the access codes and
writers of its register table); one that is not aligned, or whose window does not answer (R16, R22), or whose address is
mapped nowhere (R32), ends in a slave error and changes nothing. -/
def Obligations.RegisterWriteFollowsAccessCode : Prop :=
  ∀ (s : State) (who : Initiator) (priv : Bool) (v : Word), s.up = true → s.mayIssue who = true →
    (∃ t, exec (.registerWrite who priv 0x20000024 v) s = .next t ∧ t.bus = ⟨[], false⟩
      ∧ t.reg 0x20000024 = s.reg 0x20000024 &&& ~~~(v &&& 0x1F)
      ∧ Frame (fun a => a = 0x20000024 ∨ CountSel a) (fun _ => False) s t)
    ∧ (∀ q : Nat, q < 64 →
        ∃ t, exec (.registerWrite who priv (BitVec.ofNat 36 (qreg q 8)) v) s = .next t ∧ t.bus = ⟨[], false⟩
          ∧ t.reg (qreg q 8) = (if s.mode = STOP
              then (s.reg (qreg q 8) &&& ~~~0x8000007F) ||| (v &&& 0x8000007F) else s.reg (qreg q 8))
          ∧ Frame (fun a => a = qreg q 8 ∨ CountSel a) (fun _ => False) s t)
    ∧ (∀ a : BitVec 36, a ∈ [0x20000000, 0x20000014, 0x20000020, 0x20000028, 0x20000030, 0x20000034, 0x20000044] →
        ∃ t, exec (.registerWrite who priv a v) s = .next t ∧ t.bus = ⟨[], false⟩
          ∧ Frame CountSel (fun _ => False) s t)
    ∧ (who ∈ [Initiator.ap0, .ap1, .cope] → priv = true → s.pmcIsolated = false →
        ∃ t, exec (.registerWrite who priv 0x2090000C v) s = .next t ∧ t.bus = ⟨[], false⟩
        ∧ t.reg 0x2090000C = v &&& 0x1FFFF ∧ Frame (fun a => a = 0x2090000C ∨ CountSel a) (fun _ => False) s t)
    ∧ (∀ (a : BitVec 36), ∀ w ∈ (windowOf a.toNat).toList,
        (a.toNat % 4 = 0 → s.winShut w a.toNat = false → exec (.registerWrite who priv a v) s
          = .next ((((((s.granted who).unpair).wakeFor a.toNat).served who a.toNat true).busOk []).winWrite w who priv a.toNat v))
        ∧ (a.toNat % 4 ≠ 0 ∨ s.winShut w a.toNat = true → ∃ t, exec (.registerWrite who priv a v) s = .next t
          ∧ t.bus = ⟨[], true⟩ ∧ Frame CountSel (fun _ => False) s t))
    ∧ (∀ a : BitVec 36, windowOf a.toNat = none → memKind a.toNat = none →
        ∃ t, exec (.registerWrite who priv a v) s = .next t ∧ t.bus = ⟨[], true⟩
          ∧ Frame CountSel (fun _ => False) s t)

/-- R33, R34, R144: bytes that an initiator writes to SRAM without ECC errors read back as written, a read returns the
bytes that memory holds, and neither touches another byte, or a register outside the counter selections (PMC_CnSEL.OVF);
so do the cores where they hold nothing in a cache. In SRAM that a core holds write-back, its read answers what its cache
and memory behind it hold, and its write stays in its cache: memory does not change, the pair reads back what it wrote.
The same in MRAM and LPDDR4X, where a gated LPDDR4X wakes (R22); a core writes MRAM through its cache. R22, R24, R33, R59:
a read or a write that is closed to its initiator (a partition of MRAM, the pattern area, LPDDR4X that is OFF or DRAINING)
ends in a slave error, reads 0 and changes nothing. That every access to cacheable memory brings in its lines, and that
none leaves by itself, is the model's choice (log 43). -/
def Obligations.MemoryAccessReadsAndWrites : Prop :=
  ∀ (s : State) (who : Initiator) (priv : Bool) (a : Nat), s.up = true → s.mayIssue who = true →
    s.sys.eccCe = [] → s.sys.eccUe = [] →
    (∀ bs : List Byte, 1 ≤ bs.length → bs.length ≤ 64 → a + bs.length ≤ 0x800000 →
      (∀ p ∈ (pairOf who).toList, s.unmapped p a bs.length = false ∧ s.cacheable a bs.length = false) →
      ∃ t, exec (.memoryAccess who priv (BitVec.ofNat 36 a) (.write bs) .none) s = .next t ∧ t.bus = ⟨[], false⟩
        ∧ t.mread a bs.length = bs
        ∧ Frame CountSel (fun b => a ≤ b ∧ b < a + bs.length) s t)
    ∧ (∀ n : Nat, 1 ≤ n → n ≤ 64 → a + n ≤ 0x800000 →
      (∀ p ∈ (pairOf who).toList, s.unmapped p a n = false ∧ s.cacheable a n = false) →
      ∃ t, exec (.memoryAccess who priv (BitVec.ofNat 36 a) (.read n) .none) s = .next t
        ∧ t.bus = ⟨s.mread a n, false⟩
        ∧ Frame CountSel (fun _ => False) s t)
    ∧ (∀ p ∈ (pairOf who).toList, ∀ n : Nat, 1 ≤ n → n ≤ 64 → a + n ≤ 0x700000 → s.unmapped p a n = false →
      s.cacheable a n = true →
      ∃ t, exec (.memoryAccess who priv (BitVec.ofNat 36 a) (.read n) .none) s = .next t
        ∧ t.bus = ⟨s.coreBytes p a n, false⟩
        ∧ Frame CountSel (fun _ => False) s t)
    ∧ (∀ p ∈ (pairOf who).toList, ∀ bs : List Byte, 1 ≤ bs.length → bs.length ≤ 64 → a + bs.length ≤ 0x700000 →
      s.unmapped p a bs.length = false → s.cacheable a bs.length = true → s.cacheMode a = 2 →
      ∃ t, exec (.memoryAccess who priv (BitVec.ofNat 36 a) (.write bs) .none) s = .next t ∧ t.bus = ⟨[], false⟩
        ∧ t.coreBytes p a bs.length = bs
        ∧ Frame CountSel (fun _ => False) s t)
    ∧ (∀ bs : List Byte, 1 ≤ bs.length → bs.length ≤ 64 → Reaches s who a bs.length true →
      (∀ p ∈ (pairOf who).toList, s.unmapped p a bs.length = false) →
      ((∀ p ∈ (pairOf who).toList, s.cacheable a bs.length = false) →
        ∃ t, exec (.memoryAccess who priv (BitVec.ofNat 36 a) (.write bs) .none) s = .next t ∧ t.bus = ⟨[], false⟩
          ∧ t.mread a bs.length = bs ∧ (0x100000000 ≤ a → t.domain 12 ≠ D_GATED)
          ∧ Frame WakeSel (fun b => a ≤ b ∧ b < a + bs.length) s t)
      ∧ (∀ p ∈ (pairOf who).toList, s.cacheable a bs.length = true →
        (s.cacheMode a = 1 →
          ∃ t, exec (.memoryAccess who priv (BitVec.ofNat 36 a) (.write bs) .none) s = .next t ∧ t.bus = ⟨[], false⟩
            ∧ t.mread a bs.length = bs ∧ t.coreBytes p a bs.length = bs
            ∧ Frame WakeSel (fun b => a ≤ b ∧ b < a + bs.length) s t)
        ∧ (s.cacheMode a = 2 →
          ∃ t, exec (.memoryAccess who priv (BitVec.ofNat 36 a) (.write bs) .none) s = .next t ∧ t.bus = ⟨[], false⟩
            ∧ t.coreBytes p a bs.length = bs
            ∧ Frame WakeSel (fun _ => False) s t)))
    ∧ (∀ n : Nat, 1 ≤ n → n ≤ 64 → Reaches s who a n false →
      (∀ p ∈ (pairOf who).toList, s.unmapped p a n = false) →
      ∃ t, exec (.memoryAccess who priv (BitVec.ofNat 36 a) (.read n) .none) s = .next t
        ∧ ((∀ p ∈ (pairOf who).toList, s.cacheable a n = false) → t.bus = ⟨s.mread a n, false⟩
          ∧ (0x100000000 ≤ a → t.domain 12 ≠ D_GATED))
        ∧ (∀ p ∈ (pairOf who).toList, s.cacheable a n = true → t.bus = ⟨s.coreBytes p a n, false⟩)
        ∧ Frame WakeSel (fun _ => False) s t)
    ∧ ((∀ p ∈ (pairOf who).toList, ∀ l, s.line p l = none) →
      (∀ bs : List Byte, 1 ≤ bs.length → bs.length ≤ 64 → Barred s who a bs.length true →
        ∃ t, exec (.memoryAccess who priv (BitVec.ofNat 36 a) (.write bs) .none) s = .next t ∧ t.bus = ⟨[], true⟩
          ∧ Frame CountSel (fun _ => False) s t)
      ∧ (∀ n : Nat, 1 ≤ n → n ≤ 64 → Barred s who a n false →
        ∃ t, exec (.memoryAccess who priv (BitVec.ofNat 36 a) (.read n) .none) s = .next t
          ∧ t.bus = ⟨List.replicate n 0, true⟩
          ∧ Frame CountSel (fun _ => False) s t))

/-- R34: the scrubber writes back and counts a corrected error, and counts and records an uncorrectable one, which stays
in its word without a module fault; Ladle's read of a word with an uncorrectable error ends in a slave error, is counted
and recorded. SYS_ECCADDR takes the number of the ECC word (01_architecture.md, Table SYS-18). -/
def Obligations.EccErrorsAreCounted : Prop :=
  ∀ (s : State) (a : BitVec 36), s.up = true → s.sys.eccCe = [] → s.sys.eccUe = [] → a.toNat < 0x800000 →
    (∃ t, exec (.scrubRead a .single) s = .next t ∧ t.sys.eccCe = [] ∧ t.sys.eccUe = [] ∧ t.bus = s.bus
      ∧ t.fld ⟨0x20000050, 15, 0⟩ = min (s.fld ⟨0x20000050, 15, 0⟩ + 1) 0xFFFF
      ∧ Frame (fun r => r = 0x20000050 ∨ CountSel r) (fun _ => False) s t)
    ∧ (∃ t, exec (.scrubRead a .double) s = .next t ∧ t.sys.eccUe = [a.toNat / 16] ∧ t.bus = s.bus
      ∧ t.fld ⟨0x20000050, 31, 16⟩ = min (s.fld ⟨0x20000050, 31, 16⟩ + 1) 0xFFFF
      ∧ t.regN 0x2000005C = a.toNat / 16
      ∧ Frame (fun r => r = 0x20000050 ∨ r = 0x2000005C ∨ CountSel r) (fun _ => False) s t)
    ∧ (s.mayIssue .ldl = true → ∃ t, exec (.memoryAccess .ldl false a (.read 1) .double) s = .next t
      ∧ t.bus = ⟨[0], true⟩
      ∧ t.sys.eccUe = [a.toNat / 16] ∧ t.regN 0x2000005C = a.toNat / 16
      ∧ t.fld ⟨0x20000050, 31, 16⟩ = min (s.fld ⟨0x20000050, 31, 16⟩ + 1) 0xFFFF
      ∧ Frame (fun r => r = 0x20000050 ∨ r = 0x2000005C ∨ CountSel r) (fun _ => False) s t)

/-- R17, Tables SYS-2, SYS-3, SYS-4: every origin of a module fault leaves the module in HALT with cause 1, SYS_MFLT
holding the cause and the location, the safety switches held open and ALIVE_OUT low. R15, R16, R18, R19: a fault of a
region that runs resets it, sets its fault flag and counts the reset; the third within 60 s is a module fault of cause
0x03 instead. The faults are REGION_RESET, the loss of the region's clock, and the block faults of blocks 15 and 25. The
location 0xD01 at the loss of the AON, APP, FAB or TIM clock is the model's choice (log 40), as is the origin 0xD00, the
fabric, of a fabric timeout (log 28). -/
def Obligations.ModuleAndRegionFaults : Prop :=
  (∀ s : State, s.up = true →
      (∃ t, exec (.moduleFault .drag) s = .next t ∧ ModuleFaulted 1 0xE7F t)
      ∧ (∃ t, exec (.moduleFault .safety) s = .next t ∧ ModuleFaulted 2 0xF7F t)
      ∧ (∃ t, exec (.moduleFault .selfCheck) s = .next t ∧ ModuleFaulted 7 0xD01 t)
      ∧ (∃ t, exec .fabricTimeout s = .next t ∧ ModuleFaulted 4 0xD00 t)
      ∧ (∃ t, exec .safClockLoss s = .next t ∧ ModuleFaulted 5 0xBFF t)
      ∧ (∀ c : Clock, c ∈ [.aon, .app, .fab, .tim] → ∃ t, exec (.clockLoss c) s = .next t ∧ ModuleFaulted 5 0xD01 t)
      ∧ (∀ b : Fin 27, b.val ∈ [5, 6, 7, 8, 10, 11, 12, 17, 23, 24, 26] →
          ∃ t, exec (.blockFault b) s = .next t ∧ ModuleFaulted 1 (b.val * 128 + 0x7F) t))
    ∧ (∀ s : State, s.up = true → ∀ p ∈ [(Instr.regionReset .field, 0), (.regionReset .network, 2), (.regionReset .cope, 4),
        (.clockLoss .fld, 0), (.clockLoss .net, 2), (.clockLoss .cop, 4), (.blockFault 15, 2), (.blockFault 25, 4)],
      s.fld (RGNSTAT p.2) ≠ 1 →
      ∃ t, exec p.1 s = .next t ∧ t.flag (RGNFLT p.2) = true
        ∧ if 2 ≤ (s.sys.rgnHist.filter (fun e => decide (s.mono < e.2 + 60 * NS) && e.1 == p.2)).length
          then ModuleFaulted 3 ((27 + p.2) * 128 + 0x7F) t
          else t.fld (RGNSTAT p.2) = 1 ∧ t.fld (RGNRSTCNT p.2) = min (s.fld (RGNRSTCNT p.2) + 1) 255
            ∧ (p.2, s.mono) ∈ t.sys.rgnHist)

/-- R16, R60, Table SYS-15: a region that was held in reset runs again when its re-initialisation completes. The cope
region reads nothing from the pattern, and the others read nothing before the drag plane starts. After that the field and
network regions read their sections again from the slot in force, unless a working copy is kept: a section that cannot be
read, or whose digest is wrong, is a module fault of cause 0x08 with the region as its location. R15, Table SYS-2: a fault
of a block contained at block level isolates that block, and its region is degraded. -/
def Obligations.RegionRunsAgainAndBlockIsolates : Prop :=
  (∀ (s : State) (g : Region) (f : Option (BitVec 24)), s.up = true → s.fld (RGNSTAT (regionNo g)) = 1 →
      s.reg 0x20000028 = 0 → s.sys.rgnWait = [] →
      (s.dragUp = false ∨ g = .cope ∨ s.flag PAT_WCOPY = true →
        ∃ t, exec (.regionResetComplete g f) s = .next t ∧ t.fld (RGNSTAT (regionNo g)) = 0)
      ∧ (s.dragUp = true → g ≠ .cope → s.flag PAT_WCOPY = false → ∀ sl ∈ s.pat.force.toList,
        let sections := if g = .field then [SEC_CHANNELS, SEC_CURVES]
          else [SEC_CAN, SEC_NETWORK, SEC_POURLINE, SEC_TIME, SEC_REDUNDANCY]
        let fails := sections.any ({ s with pat := { s.pat with keyFault := f.map BitVec.toNat } }.rereadFails sl)
        ∃ t, exec (.regionResetComplete g f) s = .next t
          ∧ (fails = false → t.fld (RGNSTAT (regionNo g)) = 0)
          ∧ (fails = true → ModuleFaulted 8 ((27 + regionNo g) * 128 + 0x7F) t)))
    ∧ (∀ (s : State), s.up = true →
      (∀ b : Fin 27, b.val ∈ [0, 1, 2, 3, 4, 9, 13, 14, 16, 18, 19, 20, 21, 22] → s.bit 0x20000028 b.val = false →
        s.fld (RGNSTAT (regionOfBlock b.val)) = 0 →
        ∃ t, exec (.blockFault b) s = .next t ∧ t.bit 0x20000028 b.val = true
          ∧ t.flag (RGNFLT (regionOfBlock b.val)) = true ∧ t.fld (RGNSTAT (regionOfBlock b.val)) = 2)
      ∧ (∀ b : Fin 4, s.bit 0x20000028 b.val = false → s.fld (RGNSTAT 0) = 0 →
        ∃ t, exec (.channelBlockFault b) s = .next t ∧ t.bit 0x20000028 b.val = true
          ∧ t.flag (RGNFLT 0) = true ∧ t.fld (RGNSTAT 0) = 2 ∧ t.fld (CHB_STATE b.val) = 1))

/-- R20, R21, R24, Table SYS-6: the end of a window gates an idle domain and leaves a busy one DRAINING, a wake brings a
gated domain back, and the end of a drain leaves it GATED, or OFF where OFF was requested. Only SYS_PDSTAT and counter
selections (PMC_CnSEL.OVF) are written; at OFF the registers that lie in the domain lose their contents, and of memory
LPDDR4X does, at the OFF of domain 12. -/
def Obligations.DomainsGateAndDrain : Prop :=
  ∀ (s : State) (d : Fin 14), s.up = true →
    (s.domain d.val = D_ON → s.gates d.val = true → s.ladleInFlight d.val = false → ∀ busy : Bool,
      ∃ t, exec (.domainGate d busy) s = .next t ∧ t.domain d.val = (if busy then D_DRAINING else D_GATED)
        ∧ (∀ e, e ≠ d.val → e < 14 → t.domain e = s.domain e)
        ∧ Frame (fun r => r = 0x20000044 ∨ CountSel r) (fun _ => False) s t)
    ∧ (s.domain d.val = D_GATED → ∃ t, exec (.domainWake d) s = .next t ∧ t.domain d.val = D_ON
        ∧ (∀ e, e ≠ d.val → e < 14 → t.domain e = s.domain e)
        ∧ Frame (fun r => r = 0x20000044 ∨ CountSel r) (fun _ => False) s t)
    ∧ (s.domain d.val = D_DRAINING →
        ∃ t, exec (.drainComplete d) s = .next t
          ∧ t.domain d.val = (if s.sys.drainOff.contains d.val then D_OFF else D_GATED)
          ∧ (∀ e, e ≠ d.val → e < 14 → t.domain e = s.domain e)
          ∧ Frame (fun r => r = 0x20000044 ∨ s.sys.drainOff.contains d.val = true ∧ domainOf r = some d.val)
              (fun b => d.val = 12 ∧ s.sys.drainOff.contains 12 = true ∧ 0x100000000 ≤ b ∧ b < 0x200000000) s t)

/-- R26: a gating drain that is incomplete when the next window is due ends; the domain stays awake. -/
def Obligations.GatingDrainLapses : Prop :=
  ∀ (s : State) (d : Fin 14), s.up = true → s.domain d.val = D_DRAINING → s.sys.drainOff.contains d.val = false →
    ∃ t, exec (.drainLapse d) s = .next t ∧ t.domain d.val = D_ON
      ∧ (∀ e, e ≠ d.val → e < 14 → t.domain e = s.domain e)
      ∧ Frame (fun r => r = 0x20000044) (fun _ => False) s t

/-- R27, R28, Table SYS-6: a write of SYS_PDREQ before the drag plane has started is ignored. Otherwise an OFF request
for domain 13 or for a domain with admitted activity sets its SYS_PDERR bit and leaves it ON, one for an idle domain
without turns it OFF, one for a busy domain leaves it DRAINING, and an ON request cancels a drain to OFF. A domain that
has been powered up is ON. R43, R30: in STOP a write of SYS_BLKRST ends the isolation of the blocks it names that are
contained at block level, and of no other; in another mode it does nothing. A promoted request of class 2 or 3 waits for
the next grant. That SYS_PDREQ holds the request as written, with the bit of a refused one, is the model's reading (log
28). -/
def Obligations.DomainRequestsAndBlockResets : Prop :=
  ((∀ (s : State) (who : Initiator) (off busy : BitVec 14), s.up = true → s.mayIssue who = true →
      s.dragStarted = false →
      ∃ t, exec (.pdreqWrite who off busy) s = .next t ∧ t.bus = ⟨[], false⟩
        ∧ Frame CountSel (fun _ => False) s t)
    ∧ (∀ (s : State) (who : Initiator) (off busy : BitVec 14) (d : Nat), s.up = true →
      s.mayIssue who = true → s.dragStarted = true → d < 14 →
      ∃ t, exec (.pdreqWrite who off busy) s = .next t ∧ t.bus = ⟨[], false⟩ ∧ t.regN 0x20000040 = off.toNat
        ∧ (off.getLsbD d = true → s.domain d = D_ON → s.sys.drainOff.contains d = false →
            if d = 13 ∨ s.sys.admitted.contains d = true then t.domain d = D_ON ∧ t.bit 0x20000048 d = true
            else t.domain d = (if busy.getLsbD d || s.ladleInFlight d then D_DRAINING else D_OFF)
              ∧ t.bit 0x20000048 d = s.bit 0x20000048 d)
        ∧ (off.getLsbD d = false → s.domain d = D_DRAINING → s.sys.drainOff.contains d = true → t.domain d = D_ON))
    ∧ (∀ (s : State) (d : Fin 14), s.up = true → s.sys.powering.contains d.val = true → s.bit 0x20000040 d.val = false →
      ∃ t, exec (.domainPowerUpDone d) s = .next t ∧ t.domain d.val = D_ON ∧ t.sys.powering.contains d.val = false))
    ∧ ((∀ (s : State) (who : Initiator) (m : BitVec 26), s.up = true → s.mayIssue who = true →
      ∃ t, exec (.blkrstWrite who m) s = .next t
        ∧ (s.mode = STOP → ∀ b, b < 26 → t.bit 0x20000028 b = (s.bit 0x20000028 b && !(m.getLsbD b && blockLevel b)))
        ∧ (s.mode ≠ STOP → t.bus = ⟨[], false⟩ ∧ Frame CountSel (fun _ => False) s t))
    ∧ (∀ (s : State) (p : Fin 10) (c : BitVec 2), s.up = true → 2 ≤ c.toNat →
      ∃ t, exec (.fabricPromotion p c) s = .next t ∧ p.val ∈ t.sys.promoted
        ∧ Frame CountSel (fun _ => False) s t))

/-- R38, with R39 for the full ring: an index write by the initiator of its side is tested by the distance it would move
the index. Nothing but the index, or the status and the count of drops, changes. R42: a write by an initiator that is not
of that side is ignored. -/
def Obligations.IndexWritesAreTested : Prop :=
  ∀ (s : State) (who : Initiator) (q : BitVec 6) (v : Word), s.up = true →
    s.mayIssue who = true → s.qLog q.toNat ≤ 16 →
    (queueSide q.toNat true who = true →
      let a := (v - s.reg (qreg q.toNat 0x0C)).toNat
      let room := s.qSize q.toNat - s.qFill q.toNat
      ∃ t, exec (.queuePidxWrite who q v) s = .next t ∧ t.bus = ⟨[], false⟩
        ∧ (if a ≤ room then
            t.reg (qreg q.toNat 0x0C) = v ∧ Frame (fun r => r = qreg q.toNat 0x0C ∨ CountSel r) (fun _ => False) s t
          else if a < 2 ^ 31 then
            t.reg (qreg q.toNat 0x18) = s.reg (qreg q.toNat 0x18) + BitVec.ofNat 32 (a - room)
              ∧ t.flag ⟨qreg q.toNat 0x14, 0, 0⟩ = true
              ∧ Frame (fun r => r = qreg q.toNat 0x14 ∨ r = qreg q.toNat 0x18 ∨ CountSel r) (fun _ => False) s t
          else t.flag ⟨qreg q.toNat 0x14, 1, 1⟩ = true
              ∧ Frame (fun r => r = qreg q.toNat 0x14 ∨ CountSel r) (fun _ => False) s t))
    ∧ (queueSide q.toNat false who = true →
      let a := (v - s.reg (qreg q.toNat 0x10)).toNat
      ∃ t, exec (.queueCidxWrite who q v) s = .next t ∧ t.bus = ⟨[], false⟩
        ∧ (if a ≤ s.qFill q.toNat then
            t.reg (qreg q.toNat 0x10) = v ∧ Frame (fun r => r = qreg q.toNat 0x10 ∨ CountSel r) (fun _ => False) s t
          else if queuePolicy q.toNat = 1 ∧ 2 ^ 31 ≤ a then Frame CountSel (fun _ => False) s t
          else t.flag ⟨qreg q.toNat 0x14, 1, 1⟩ = true
              ∧ Frame (fun r => r = qreg q.toNat 0x14 ∨ CountSel r) (fun _ => False) s t))
    ∧ (queueSide q.toNat true who = false → ∃ t, exec (.queuePidxWrite who q v) s = .next t ∧ t.bus = ⟨[], false⟩
      ∧ Frame CountSel (fun _ => False) s t)
    ∧ (queueSide q.toNat false who = false → ∃ t, exec (.queueCidxWrite who q v) s = .next t ∧ t.bus = ⟨[], false⟩
      ∧ Frame CountSel (fun _ => False) s t)

/-! ### Start-up, resets, the check and the reload (02_pattern_and_startup.md, R130, R459) -/

/-- R459, R61, R67, Table PAT-12: power good starts a module that is off: STARTING in phase 1, restart cause 0, the
monotonic time from 0, the straps latched; while RST_IN# is held low it waits in reset instead. R61, R465, Table PAT-9:
RST_IN# low for 10.0 µs or longer starts a save of cause RST_IN and holds the module, in HOLDUP even while it waits in a
reset (R468, Table PWR-6); a shorter low level has no effect.
The line's rise starts a module that waits in reset with its supply good. -/
def Obligations.PowerGoodAndResetInput : Prop :=
  (∀ (s : State) (ids : BitVec 10) (par present sideA : Bool) (key : Option KeyIn),
      s.pwr.on = false → keyInOk key = true →
      ∃ t, exec (.powerGood ids par present sideA key) s = .next t ∧ t.pwr.on = true ∧ t.mono = 0
        ∧ t.pat.straps = ids.toNat ∧ t.pwr.inReset = s.pwr.rstHeld
        ∧ (s.pwr.rstHeld = true → t.run.aliveOut = 2)
        ∧ (s.pwr.rstHeld = false → t.mode = STARTING ∧ t.fld RUNSTAT_PHASE = 1 ∧ t.regN 0x20010020 = 0
            ∧ t.run.aliveOut = 1))
    ∧ (∀ s : State,
      (∀ low : Word, low.toNat < 100 → exec (.rstIn low) s = .next s)
      ∧ (∀ low : Word, 100 ≤ low.toNat → s.up = true → ∃ t, exec (.rstIn low) s = .next t ∧ t.pwr.rstHeld = true
          ∧ t.pwr.save = some ⟨3, s.mono, s.now, s.regN 0x20B00014 % 65536, 0⟩ ∧ t.fld PWR_STATE = 3
          ∧ t.run.aliveOut = 2 ∧ t.saf.stopped = true)
      ∧ (∀ low : Word, 100 ≤ low.toNat → s.pwr.on = true → s.pwr.inReset = true → s.pwr.save = none →
          (s.fld PWR_STATE = 2 → ∃ t, exec (.rstIn low) s = .next t ∧ t.pwr.rstHeld = true ∧ t.fld PWR_STATE = 3
            ∧ (t.pwr.save.map (fun v => v.cause)) = some 3)
          ∧ (s.fld PWR_STATE ≠ 2 → exec (.rstIn low) s = .next { s with pwr := { s.pwr with rstHeld := true } }))
      ∧ (s.pwr.on = true → s.pwr.inReset = true → s.pwr.rstHeld = true → s.fld PWR_STATE = 1 →
          ∃ t, exec .rstInRelease s = .next t ∧ t.pwr.rstHeld = false ∧ t.pwr.inReset = false ∧ t.mode = STARTING
            ∧ t.fld RUNSTAT_PHASE = 1 ∧ t.pwr.startAt = s.mono))

/-- R67, R55, R449, Table PAT-12: the phases of start-up follow one another. After the cope boot the pattern loads, or,
when neither bank can be booted, no pattern comes into force; the drag plane's start ends phase 4, and the resolution of
the role ends start-up in STOP, RUN or SAFE. R73, R130: a reload that ends clears RELOAD and RELOAD_BUSY, and leaves the
mode or ends in STOP with the pattern accepted; an orderly stop with no pour in progress ends in STOP with the sequencer
off, whether or not its save was written. -/
def Obligations.StartupReloadAndStop : Prop :=
  (∀ s : State, s.up = true → s.mode = STARTING →
      (s.fld RUNSTAT_PHASE = 1 → ∃ t, exec .copeBootComplete s = .next t
        ∧ if bankOk s.cope.bankA || bankOk s.cope.bankB then t.mode = STARTING ∧ t.fld RUNSTAT_PHASE = 2
          else t.mode = NONE ∧ t.fld RUNSTAT_PHASE = 6 ∧ t.flag PAT_NOPAT = true ∧ t.pat.force = none)
      ∧ (s.fld RUNSTAT_PHASE = 4 → ∃ t, exec .dragPlaneStart s = .next t ∧ t.mode = STARTING ∧ t.fld RUNSTAT_PHASE = 5)
      ∧ (s.fld RUNSTAT_PHASE = 5 → ∃ t, exec .roleResolve s = .next t ∧ t.fld RUNSTAT_PHASE = 6
        ∧ t.mode ∈ [STOP, RUN, SAFE]))
    ∧ (∀ s : State, s.up = true →
      (∀ (f : Option (BitVec 24)) (rb wp : Bool), s.flag RUNSTAT_RELOAD_BUSY = true →
        ∃ t, exec (.reloadComplete f rb wp) s = .next t ∧ t.flag RUNSTAT_RELOAD_BUSY = false
          ∧ t.flag RUNCTL_RELOAD = false ∧ if t.flag RUNSTAT_ACCEPTED then t.mode = STOP else
            t.mode = s.mode ∧ t.pat.force = s.pat.force)
      ∧ (∀ w : Bool, s.fld POUR_STATE = 2 → s.noPour = true →
        ∃ t, exec (.orderlyStopComplete w) s = .next t ∧ t.mode = STOP ∧ t.fld POUR_STATE = 0))

/-- R55, R57: when the first slot tried loads and verifies, it is staged and its check begins. When it is refused, the
other slot is tried next where its header is usable; where none is left the load ends with no pattern in force: MODE
NONE, PAT_STAT.NOPAT, and REASON the code of the refusal. R71, R75, Table PAT-15: a check that RUN_REQ started ends with
CHECK_BUSY and RUN_REQ 0, and ACCEPTED says whether REASON is 0; a module whose check accepted with CHECK_ONLY stays in
STOP. That CHECK_ONLY is taken when the check ends is the model's choice (log 44), as is the refusal that is reported where
no slot has a usable header (log 21). -/
def Obligations.LoadsAndChecksEnd : Prop :=
  (∀ (s : State) (f : Option (BitVec 24)), s.up = true → s.mode = STARTING → s.fld RUNSTAT_PHASE = 2 →
      s.pat.tried = [] → s.pat.unauth = none →
      s.pat.keyFault = f.map BitVec.toNat →
      ∃ t, exec (.patternLoadComplete f) s = .next t
        ∧ if (s.loadRsn (s.slotOrder.headD 0)).isNone then
            t.mode = STARTING ∧ t.fld RUNSTAT_PHASE = 3 ∧ t.flag RUNSTAT_CHECK_BUSY = true
              ∧ t.pat.staged = some ⟨s.slotOrder.headD 0, s.slotBytes (s.slotOrder.headD 0)⟩
          else if s.slotOrder.length = 1 then
            t.mode = NONE ∧ t.fld RUNSTAT_PHASE = 6 ∧ t.flag PAT_NOPAT = true ∧ t.pat.force = none
              ∧ some (t.fld RUNSTAT_REASON) = (s.loadRsn (s.slotOrder.headD 0)).map (fun e => e.1 % 2 ^ 16)
          else t.mode = STARTING ∧ t.fld RUNSTAT_PHASE = 2 ∧ t.pat.staged = none)
    ∧ (∀ (s : State) (readback wp : Bool), s.up = true → s.mode = STOP → s.flag RUNSTAT_CHECK_BUSY = true →
      s.fld DL_STATE = 0 → s.fld RUN_ROLE = 1 →
      ∃ t, exec (.checkComplete readback wp) s = .next t ∧ t.flag RUNSTAT_CHECK_BUSY = false
        ∧ t.flag RUNCTL_RUN_REQ = false ∧ (t.flag RUNSTAT_ACCEPTED = true ↔ t.fld RUNSTAT_REASON = 0)
        ∧ (t.flag RUNSTAT_ACCEPTED = false ∨ s.flag RUNCTL_CHECK_ONLY = true → t.mode = STOP))

/-- R71, R72, R73: with nothing in progress, RUN_REQ in STOP starts a check and RELOAD in STOP or NONE starts a reload
of the slot it names; STOP_REQ in RUN stops the sequencer in order, and in STOP cancels a check. Each changes the run
control registers and nothing else that is named here: not memory. In RECOVERY a RELOAD is not carried out (R449). -/
def Obligations.RunControlRequests : Prop :=
  ∀ (s : State) (who : Initiator), s.up = true → who ∈ [Initiator.ap0, .ap1, .cope] → s.mayIssue who = true → s.isStandby = false →
    (∀ only : Bool, s.mode = STOP → s.runctlFree = true → ∃ t, exec (.runReq who only) s = .next t
      ∧ t.bus = ⟨[], false⟩ ∧ t.flag RUNCTL_RUN_REQ = true ∧ t.flag RUNSTAT_CHECK_BUSY = true
      ∧ t.flag RUNSTAT_CANCELLED = false ∧ t.flag RUNCTL_CHECK_ONLY = only ∧ t.mode = STOP
      ∧ Frame (fun r => r = 0x20000010 ∨ r = 0x20000014 ∨ CountSel r) (fun _ => False) s t)
    ∧ (∀ k : BitVec 2, s.fld COPE_STATE = 3 → ∃ t, exec (.reload who k) s = .next t ∧ t.bus = ⟨[], false⟩
        ∧ t.flag RUNSTAT_RELOAD_BUSY = s.flag RUNSTAT_RELOAD_BUSY
        ∧ Frame (fun r => r = 0x20000010 ∨ CountSel r) (fun _ => False) s t)
    ∧ (∀ k : BitVec 2, s.mode = STOP ∨ s.mode = NONE → s.runctlFree = true → s.fld COPE_STATE ≠ 3 →
      ∃ t, exec (.reload who k) s = .next t ∧ t.bus = ⟨[], false⟩ ∧ t.flag RUNCTL_RELOAD = true
        ∧ t.flag RUNSTAT_RELOAD_BUSY = true ∧ t.fld RUNCTL_SLOT = k.toNat ∧ t.domain 12 ≠ D_OFF ∧ t.mode = s.mode
        ∧ Frame (fun r => r = 0x20000010 ∨ r = 0x20000014 ∨ r = 0x20000040 ∨ r = 0x20000044 ∨ CountSel r) (fun _ => False) s t)
    ∧ (s.mode = RUN → s.fld POUR_STATE = 1 → ∃ t, exec (.stopReq who) s = .next t ∧ t.fld POUR_STATE = 2
        ∧ t.mode = RUN)
    ∧ (s.mode = STOP → s.flag RUNSTAT_CHECK_BUSY = true → s.fld DL_STATE = 0 →
        ∃ t, exec (.stopReq who) s = .next t ∧ t.bus = ⟨[], false⟩ ∧ t.flag RUNSTAT_CHECK_BUSY = false
          ∧ t.flag RUNCTL_RUN_REQ = false ∧ t.flag RUNSTAT_CANCELLED = true
          ∧ t.fld RUNSTAT_REASON = s.fld RUNSTAT_REASON ∧ t.flag RUNSTAT_ACCEPTED = s.flag RUNSTAT_ACCEPTED
          ∧ Frame (fun r => r = 0x20000010 ∨ r = 0x20000014 ∨ CountSel r) (fun _ => False) s t)

/-! ### Watchdogs, pours, triggers, swaps (02, 03) -/

/-- R61, R62, R113, R132, R234: each watchdog expiry resets the module: STARTING in phase 1, PAT_RSTCAUSE holding the
cause of Table PAT-9, no pattern in force; it is no module fault and does not change SYS_MFLT. The sequencer's watchdog
expires only while it is armed. -/
def Obligations.WatchdogsReset : Prop :=
  ∀ (s : State) (pair : Bool) (task : BitVec 5), s.up = true → s.fld PWR_STATE = 1 → s.pwr.rstHeld = false →
    (∀ p ∈ [(Instr.applicationWatchdog pair task, 3), (.safetyWatchdog, 4), (.sequencerWatchdog, 5)],
      (p.2 != 5 || s.flag POUR_WDARM) = true →
      ∃ t, exec p.1 s = .next t ∧ t.mode = STARTING ∧ t.fld RUNSTAT_PHASE = 1 ∧ t.regN 0x20010020 = p.2
        ∧ t.pat.force = none ∧ t.regN SYS_MFLT = s.regN SYS_MFLT ∧ t.pwr.startAt = s.mono)
    ∧ (s.flag POUR_WDARM = false → exec .sequencerWatchdog s = .next s)

/-- R79, R101, Table POUR-16: at its snapshot instant in RUN or SAFE a task that is idle latches (SNAP): its pour is
numbered by POUR_TnPOURS, a cyclic task's commit instant lies CMT_US later, an event task's is the one that its
acceptance fixed; a task with a pour in progress skips the pour. An event task without an accepted trigger, and a task
that is stopped, have no snapshot. A standby discards an event task's own trigger (R309), and one that is BLIND has no
snapshot (R324). That POUR_NO of the pour header, which the task's pourNo keeps, counts the pour itself is the model's
reading (log 18). -/
def Obligations.SnapshotStartsOrSkips : Prop :=
  (∀ (s : State) (n : BitVec 5), s.up = true →
    (s.blind = true → exec (.snapshot n) s = .next s)
    ∧ (s.isStandby = true → s.blind = false → s.fld POUR_STATE = 1 → s.tstate n.toNat ≠ 0 → s.tstate n.toNat ≠ 2 →
      (s.task n.toNat).trig.isSome = true → ∀ r, s.taskRec? n.toNat = some r → r.event = true →
      ∃ t, exec (.snapshot n) s = .next t ∧ (t.task n.toNat).trig = none ∧ (∀ u, u ≠ n.toNat → t.task u = s.task u)
        ∧ Frame (fun _ => False) (fun _ => False) s t))
  ∧ ∀ (s : State) (n : BitVec 5), s.up = true → s.isStandby = false → s.fld POUR_STATE = 1 → s.sys.eccUe = [] →
    ∀ r, s.taskRec? n.toNat = some r →
    (s.tstate n.toNat = 1 → r.cyclic = true → s.pour.openAt ≤ s.seqNow →
      ∃ t, exec (.snapshot n) s = .next t ∧ t.tstate n.toNat = 2
        ∧ t.regN (tPOURS n.toNat) = (s.regN (tPOURS n.toNat) + 1) % 2 ^ 32
        ∧ (t.task n.toNat).pourNo = t.regN (tPOURS n.toNat) ∧ (t.task n.toNat).snapAt = s.now
        ∧ (t.task n.toNat).commitAt = s.now + r.cmt * 1000 ∧ (t.task n.toNat).first = false
        ∧ ∀ u, u ≠ n.toNat → u < 32 → t.tstate u = s.tstate u ∧ t.task u = s.task u)
    ∧ (s.tstate n.toNat = 1 → r.cyclic = false → (s.task n.toNat).trig.isSome = true →
      ∃ t, exec (.snapshot n) s = .next t ∧ t.tstate n.toNat = 2
        ∧ t.regN (tPOURS n.toNat) = (s.regN (tPOURS n.toNat) + 1) % 2 ^ 32
        ∧ (t.task n.toNat).pourNo = t.regN (tPOURS n.toNat) ∧ (t.task n.toNat).snapAt = s.now
        ∧ (t.task n.toNat).commitAt = (s.task n.toNat).commitAt ∧ (t.task n.toNat).first = false
        ∧ ∀ u, u ≠ n.toNat → u < 32 → t.tstate u = s.tstate u ∧ t.task u = s.task u)
    ∧ (3 ≤ s.tstate n.toNat → s.tstate n.toNat ≤ 5 → r.cyclic = true → s.pour.openAt ≤ s.seqNow →
      ∃ t, exec (.snapshot n) s = .next t ∧ t.tstate n.toNat = s.tstate n.toNat
        ∧ (t.task n.toNat).skipped = true
        ∧ t.regN (tPOURS n.toNat) = (s.regN (tPOURS n.toNat) + 1) % 2 ^ 32
        ∧ t.regN (tSKIP n.toNat) = (s.regN (tSKIP n.toNat) + 1) % 2 ^ 32)
    ∧ (s.tstate n.toNat = 0 ∨ r.cyclic = false ∧ (s.task n.toNat).trig = none → exec (.snapshot n) s = .next s)

/-- R79, R88, R89, R101: the release starts the execution of a latched task; POUR_DONE by AP0 or AP1 ends an execution
(DONE), is late (IDLE) after an overrun, and sets BADDONE for a task that does not execute; another initiator gets a
slave error; the budget's end demotes the pour that runs on its pair, which alone consumes execution time (R117). -/
def Obligations.ReleaseExecutionAndBudget : Prop :=
  ∀ (s : State) (n : BitVec 5), s.up = true →
    (s.isStandby = false → s.pourActive = true → s.tstate n.toNat = 2 → (s.taskRec? n.toNat).isSome = true →
      ∃ t, exec (.pourRelease n) s = .next t ∧ t.tstate n.toNat = 3 ∧ (t.task n.toNat).relAt = s.now)
    ∧ (∀ who : Initiator, who ∈ [Initiator.ap0, .ap1] → s.mayIssue who = true →
      ∃ t, exec (.pourDone who n) s = .next t
        ∧ (s.tstate n.toNat = 3 → t.tstate n.toNat = 4 ∧ t.flag (TDEMOTED n.toNat) = false
          ∧ (s.flag (TDEMOTED n.toNat) = true → t.regN (tBUDX n.toNat) = (s.regN (tBUDX n.toNat) + 1) % 2 ^ 32))
        ∧ (s.tstate n.toNat = 5 → t.tstate n.toNat = 1 ∧ t.bus = ⟨[], false⟩
          ∧ Frame (fun r => r = treg n.toNat 0 ∨ r = tRESP n.toNat ∨ CountSel r) (fun _ => False) s t)
        ∧ (s.tstate n.toNat ≠ 3 → s.tstate n.toNat ≠ 5 → t.flag POUR_BADDONE = true ∧ t.bus = ⟨[], false⟩
          ∧ Frame (fun r => r = 0x2002001C ∨ CountSel r) (fun _ => False) s t))
    ∧ (∀ who : Initiator, who ∈ [Initiator.saf, .cope, .pour, .ldl] → s.mayIssue who = true →
      ∃ t, exec (.pourDone who n) s = .next t ∧ t.bus = ⟨[], true⟩ ∧ Frame CountSel (fun _ => False) s t)
    ∧ (∀ r ∈ (s.taskRec? n.toNat).toList,
      (s.runningPour r.pair = some n.toNat → ∃ t, exec (.budgetExhausted n) s = .next t
        ∧ t.flag (TDEMOTED n.toNat) = true ∧ Frame (fun r => r = treg n.toNat 0) (fun _ => False) s t)
      ∧ (s.runningPour r.pair ≠ some n.toNat → exec (.budgetExhausted n) s = .next s))

/-- R89, R101, R102, R34: at its commit instant a pour that has ended commits: its task is IDLE with OVR_CONSEC 0, the
outputs of the commit are the values of the I/O map in the cleaned output region, or their forces, and an output cell with
no cause of a substitute state takes the command that its one entry gives it, and drives it at once (R224, R225). A commit
in a fallback ends it once RECOVER pours have been on time, and leaves the outputs of the last commit else. A pour that has
not ended overruns: LATE, counted, demoted, nothing committed. R102: the overrun at which OVR_CONSEC reaches an FB_COUNT
other than 0 starts the fallback: HOLD and SUBST go on, with the cells of the task in their substitute states under SUBST,
and HALT ends in HALT with cause 2; below FB_COUNT none starts. -/
def Obligations.CommitOrOverrun : Prop :=
  ∀ s : State, s.up = true → s.pourActive = true → s.isStandby = false → s.sys.eccUe = [] → ∀ r ∈ s.taskRecs,
    s.taskRec? r.task = some r → r.task < 32 →
    (s.tstate r.task = 4 →
      let val (e : IoEnt) : Nat := ((s.atCommitStack r.task).forcedOut r.task e.off).getD
        ((s.commitClean r).mnat (r.outBase + e.off) (fmtBytes e.fmt))
      let ios := s.ioOf r.task 2
      ∃ t, exec (.commit (BitVec.ofNat 5 r.task)) s = .next t ∧ t.tstate r.task = 1
      ∧ t.fld (TOVR_CONSEC r.task) = 0 ∧ (t.task r.task).trig = none ∧ (t.task r.task).prevEmpty = false
      ∧ (s.flag (TFB r.task) = false → t.flag (TFB r.task) = false
        ∧ (t.task r.task).last = ios.map (fun e => ⟨e.kind, e.object, e.fmt, val e⟩)
        ∧ ∀ e ∈ ios, e.kind = 1 →
          (ios.all (fun x => x == e || x.kind != 1 || x.object % 32 != e.object % 32)) = true →
          s.subCause (e.object % 32) = false →
          let n := e.object % 32
          let x := cellCmdVal e (val e)
          if ffin32 x = true then (t.cell n).p = (physOf (s.cellRec n) (f64of32 x)).1 ∧ t.reg (cCMD n) = x
            ∧ (t.cell n).sub = false ∧ (t.cell n).driven = t.driveVal n
          else (t.cell n).p = (s.cell n).p ∧ t.flag (OERR n 3) = true)
      ∧ (s.mode = SAFE → ∀ n ∈ s.taskCells r.task, (t.cell n).sub = true)
      ∧ (s.flag (TFB r.task) = true →
        t.flag (TFB r.task) = decide (min (s.fld (TRECOV r.task) + 1) 255 < r.recover)
        ∧ (min (s.fld (TRECOV r.task) + 1) 255 < r.recover → (t.task r.task).last = (s.task r.task).last)))
    ∧ (s.tstate r.task = 2 ∨ s.tstate r.task = 3 →
      let k := min (s.fld (TOVR_CONSEC r.task) + 1) 255
      let starts := r.fbCount != 0 && decide (r.fbCount ≤ k) && !s.flag (TFB r.task)
      ∃ t, exec (.commit (BitVec.ofNat 5 r.task)) s = .next t
        ∧ t.regN (tOVR r.task) = (s.regN (tOVR r.task) + 1) % 2 ^ 32
        ∧ (t.task r.task).last = (s.task r.task).last
        ∧ t.flag (TFB r.task) = (s.flag (TFB r.task) || starts)
        ∧ (starts = false ∨ r.fbAction ≠ 2 → t.tstate r.task = 5 ∧ t.fld (TOVR_CONSEC r.task) = k
          ∧ t.flag (TDEMOTED r.task) = true ∧ (t.task r.task).prevEmpty = true ∧ t.mode = s.mode)
        ∧ (starts = true → r.fbAction = 1 → ∀ n ∈ s.taskCells r.task, (t.cell n).fbSubst = true ∧ (t.cell n).sub = true)
        ∧ (starts = true → r.fbAction = 2 → s.mode = RUN ∨ s.mode = SAFE → t.mode = HALT ∧ t.fld HALT_CAUSE = 2))

/-- R91: POUR_SWTRIG produces one entry in Q59 for each bit set, in ascending order of the tasks and of the writer's
source, while the ring has room; a write of 0 has no effect, and an initiator that is neither AP0 nor AP1 gets a slave
error. R90, R92: the sequencer consumes the trigger entry it takes; for a task with no record of an event task it sets
BADTRIG; a conforming one is accepted at its TRIG_TS and fixes the snapshot and commit instants; one that does not
conform is held; further ones are counted. A held trigger is accepted when the task is free and PERIOD_US has passed
since the acceptance before; a standby discards one (R309). That SEQ, the last word of an entry of Q59, is the index at
which it stands is the model's reading (log 11). -/
def Obligations.Triggers : Prop :=
  (∀ (s : State) (who : Initiator) (m : Word), s.up = true → s.mayIssue who = true →
      (who ∈ [Initiator.ap0, .ap1] → s.qUsable 59 = true →
        let bits := (List.range 32).filter (fun n => bitOf m.toNat n)
        s.qFill 59 + bits.length ≤ s.qSize 59 →
        ∃ t, exec (.pourSwtrig who m) s = .next t ∧ t.bus = ⟨[], false⟩
          ∧ t.pidx 59 = (s.pidx 59 + bits.length) % 2 ^ 32
          ∧ (∀ i, i < bits.length → t.mread (s.qEntry 59 (s.pidx 59 + i)) 16 = leBytes 4 (ts32Of s.now)
              ++ leBytes 1 (bits.getD i 0) ++ leBytes 1 6 ++ leBytes 2 (if who = .ap1 then 0x37F else 0x2FF)
              ++ leBytes 4 0 ++ leBytes 4 (s.pidx 59 + i))
          ∧ Frame (fun r => r = qreg 59 0x0C ∨ CountSel r) (fun b => ∃ i, i < bits.length
              ∧ s.qEntry 59 (s.pidx 59 + i) ≤ b ∧ b < s.qEntry 59 (s.pidx 59 + i) + 16) s t)
      ∧ (who ∈ [Initiator.ap0, .ap1] →
        ∃ t, exec (.pourSwtrig who 0) s = .next t ∧ t.bus = ⟨[], false⟩
          ∧ Frame CountSel (fun _ => False) s t)
      ∧ (who ∉ [Initiator.ap0, .ap1] →
        ∃ t, exec (.pourSwtrig who m) s = .next t ∧ t.bus = ⟨[], true⟩ ∧ Frame CountSel (fun _ => False) s t))
    ∧ (∀ s : State, s.up = true → s.isStandby = false → s.mode = RUN ∨ s.mode = SAFE → s.fld POUR_STATE = 1 →
      (s.sys.eccUe = [] → ∀ q ∈ s.trigQueue.toList,
        let e := s.mread (s.qEntry q (s.cidx q)) 16
        let n := fieldAt e 4 1
        ((∀ r ∈ (s.taskRec? n).toList, r.event = false) → ∃ t, exec .triggerEntry s = .next t
          ∧ t.cidx q = (s.cidx q + 1) % 2 ^ 32 ∧ t.flag POUR_BADTRIG = true)
        ∧ (∀ r ∈ (s.taskRec? n).toList, r.event = true → n < 32 →
          ((s.task n).held.isSome = true → ∃ t, exec .triggerEntry s = .next t
            ∧ t.cidx q = (s.cidx q + 1) % 2 ^ 32 ∧ t.regN POUR_TRGCOAL = (s.regN POUR_TRGCOAL + 1) % 2 ^ 32
            ∧ t.task n = s.task n)
          ∧ ((s.task n).held = none →
            s.eventBusy n = true ∨ (s.task n).prevAccept.any (fun a => decide (s.trigTs e < a + r.period * 1000)) = true →
            ∃ t, exec .triggerEntry s = .next t ∧ t.cidx q = (s.cidx q + 1) % 2 ^ 32 ∧ t.flag (TTRIG_HELD n) = true
              ∧ t.task n = { s.task n with held := some ⟨s.trigTs e, fieldAt e 5 1, fieldAt e 6 2, fieldAt e 8 4⟩ }
              ∧ Frame (fun a => a = qreg q 0x10 ∨ a = (TTRIG_HELD n).addr ∨ a = 0x20000050 ∨ CountSel a) (fun _ => False) s t)
          ∧ ((s.task n).held = none → s.eventBusy n = false →
            (s.task n).prevAccept.all (fun a => decide (a + r.period * 1000 ≤ s.trigTs e)) = true →
            ∃ t, exec .triggerEntry s = .next t ∧ t.cidx q = (s.cidx q + 1) % 2 ^ 32
              ∧ t.flag (TTRIG_HELD n) = false ∧ (t.task n).prevAccept = some (s.trigTs e)
              ∧ (t.task n).trig = some ⟨s.trigTs e, fieldAt e 5 1, fieldAt e 6 2, fieldAt e 8 4⟩
              ∧ (t.task n).snapAt = s.trigTs e + r.trigLat * 1000 ∧ (t.task n).commitAt = s.trigTs e + r.cmt * 1000
              ∧ Frame (fun a => a = qreg q 0x10 ∨ a = (TTRIG_HELD n).addr ∨ a = 0x20000050 ∨ CountSel a) (fun _ => False) s t)))
      ∧ (∀ (n : BitVec 5) (r : TaskRec) (g : Trig), s.taskRec? n.toNat = some r → (s.task n.toNat).held = some g →
        s.eventBusy n.toNat = false →
        let a := match (s.task n.toNat).prevAccept with
          | none => s.now
          | some p => max s.now (p + r.period * 1000)
        ∃ t, exec (.heldTriggerAccept n) s = .next t ∧ t.flag (TTRIG_HELD n.toNat) = false
          ∧ (t.task n.toNat).held = none ∧ (t.task n.toNat).heldPour = true ∧ (t.task n.toNat).trig = some g
          ∧ (t.task n.toNat).prevAccept = some a
          ∧ (t.task n.toNat).snapAt = a + r.trigLat * 1000 ∧ (t.task n.toNat).commitAt = a + r.cmt * 1000
          ∧ Frame (fun a => a = (TTRIG_HELD n.toNat).addr ∨ CountSel a) (fun _ => False) s t))
    ∧ (∀ (s : State) (n : BitVec 5), s.up = true → s.isStandby = true → s.fld POUR_STATE = 1 →
      (s.taskRec? n.toNat).isSome = true → (s.task n.toNat).held.isSome = true → s.eventBusy n.toNat = false →
      ∃ t, exec (.heldTriggerAccept n) s = .next t ∧ t.flag (TTRIG_HELD n.toNat) = false
        ∧ t.task n.toNat = { s.task n.toNat with held := none }
        ∧ Frame (fun a => a = (TTRIG_HELD n.toNat).addr) (fun _ => False) s t)

/-- R81: slewing ends with POUR_OFFSET within 4 ns and SLEW 0; a pending re-anchor takes effect at the start of a
hyperperiod: POUR_OFFSET 0, counted; without one, on a module of its own, nothing changes. R107, R108: POUR_SWAPDONE
sets READY of the tables 4 to 7 that it names and whose owners are enabled; POUR_SWAPREQ marks a table pending, or
refuses it at once with REASON 0xFFFF; at a swap boundary a pending and ready filter table is swapped and both bits are
cleared, and a pending one that is not ready waits. R108, R367, R389, R433: a publication, subscription, rate or scheduled
list that is pending and ready, with no other table in the same boundary, is swapped when its shadow passes its run-time
test: the shadow is then in force; else it is refused with its reason, the list in force as before, and both bits are
cleared either way. With no table pending and ready, and on a BLIND standby (R324), a boundary does nothing; nor does the
start of a hyperperiod on a BLIND standby. That a shadow
which cannot be read fails its test, and the reason of the rate table, are the model's choice (log 60). -/
def Obligations.SlewReanchorAndSwaps : Prop :=
  (∀ s : State, s.up = true →
      (s.flag POUR_SLEW = true → ∃ t, exec .slewComplete s = .next t ∧ t.flag POUR_SLEW = false
        ∧ t.pourOffset.natAbs < 4)
      ∧ (s.pourActive = true → s.isPrimary = false →
        (s.flag POUR_REANCHOR_PEND = true → s.blind = false → ∃ t, exec .hyperperiodStart s = .next t
          ∧ t.flag POUR_REANCHOR_PEND = false ∧ t.pourOffset = 0
          ∧ t.regN POUR_REANCHOR = (s.regN POUR_REANCHOR + 1) % 2 ^ 32)
        ∧ (s.flag POUR_REANCHOR_PEND = false ∨ s.blind = true → exec .hyperperiodStart s = .next s)))
    ∧ (∀ (s : State) (b : Fin 8), s.up = true →
      (∀ who : Initiator, who ∈ [Initiator.ap0, .ap1] → s.mayIssue who = true →
        (∃ t, exec (.pourSwapdone who (BitVec.ofNat 8 (2 ^ b.val))) s = .next t ∧ t.bus = ⟨[], false⟩
          ∧ t.bit POUR_SWAPSTAT b.val = (s.bit POUR_SWAPSTAT b.val || (decide (4 ≤ b.val) && s.swapOwner b.val))
          ∧ Frame (fun r => r = POUR_SWAPSTAT ∨ CountSel r) (fun _ => False) s t)
        ∧ (s.swapOwner b.val = true → ∃ t, exec (.pourSwapreq who (BitVec.ofNat 8 (2 ^ b.val))) s = .next t
          ∧ t.bus = ⟨[], false⟩ ∧ t.bit POUR_SWAPREQ b.val = true
          ∧ Frame (fun r => r = POUR_SWAPREQ ∨ CountSel r) (fun _ => False) s t)
        ∧ (s.swapOwner b.val = false → ∃ t, exec (.pourSwapreq who (BitVec.ofNat 8 (2 ^ b.val))) s = .next t
          ∧ t.bit POUR_SWAPREQ b.val = false ∧ t.bit POUR_SWAPERR b.val = true
          ∧ t.fld SWAPRSN_REASON = 0xFFFF ∧ t.fld SWAPRSN_TABLE = b.val))
      ∧ (s.pourActive = true → s.blind = false → b.val < 4 → ∃ t, exec .swapBoundary s = .next t
          ∧ t.bit POUR_SWAPREQ b.val = (s.bit POUR_SWAPREQ b.val && !s.bit POUR_SWAPSTAT b.val)
          ∧ t.bit POUR_SWAPSTAT b.val = (s.bit POUR_SWAPSTAT b.val && !s.bit POUR_SWAPREQ b.val))
      ∧ (s.pourActive = true → s.blind = false → 4 ≤ b.val →
          s.bit POUR_SWAPREQ b.val = true → s.bit POUR_SWAPSTAT b.val = true →
          (∀ k, k < 8 → k ≠ b.val → (s.bit POUR_SWAPREQ k && s.bit POUR_SWAPSTAT k) = false) →
          let passed := (s.shadow b.val).1.filter (fun l => (s.shadow b.val).2.swapOk b.val l)
          ∃ t, exec .swapBoundary s = .next t ∧ t.bit POUR_SWAPREQ b.val = false ∧ t.bit POUR_SWAPSTAT b.val = false
            ∧ match passed with
              | some l => t.bit POUR_SWAPERR b.val = s.bit POUR_SWAPERR b.val
                ∧ (b.val = 4 → t.net.pubList = l) ∧ (b.val = 5 → t.net.subList = l)
                ∧ (b.val = 6 → s.evr.codeTbl.isSome = true → t.evr.codeTbl = some l) ∧ (b.val = 7 → t.can.sched = l)
              | none => t.bit POUR_SWAPERR b.val = true ∧ t.fld SWAPRSN_REASON = swapReason b.val
                ∧ t.fld SWAPRSN_TABLE = b.val ∧ t.net.pubList = s.net.pubList ∧ t.net.subList = s.net.subList
                ∧ t.evr.codeTbl = s.evr.codeTbl ∧ t.can.sched = s.can.sched)
      ∧ (s.pourActive = false ∨ s.blind = true
          ∨ (List.range 8).all (fun k => !(s.bit POUR_SWAPREQ k && s.bit POUR_SWAPSTAT k)) = true →
          exec .swapBoundary s = .next s))

/-! ### Program execution (04_program_execution.md) -/

/-- R127, R128, R129: SAFE_REQ takes RUN to SAFE with SAFE_SRC 2; RESUME takes SAFE back to RUN, or sets RESUMEREF while
a demand is active; HALT_REQ takes RUN and SAFE to HALT with cause 4; TO_STOP starts an orderly STOP from SAFE and takes
a HALT that no module fault caused to STOP. R142: a program trap writes the trap registers (04_program_execution.md,
register map), and RUN or SAFE becomes HALT with HALT_CAUSE 3. -/
def Obligations.ModeControlAndTraps : Prop :=
  (∀ (s : State) (who : Initiator), s.up = true → who ∈ [Initiator.ap0, .ap1] → s.mayIssue who = true → s.isStandby = false →
      (s.mode = RUN → ∃ t, exec (.safeReq who true) s = .next t ∧ t.mode = SAFE ∧ t.fld SAFE_SRC = 2)
      ∧ (s.mode = SAFE → s.flag SAF_SAFEDEM = false → ∃ t, exec (.resume who true) s = .next t ∧ t.mode = RUN)
      ∧ (s.mode = SAFE → s.flag SAF_SAFEDEM = true → ∃ t, exec (.resume who true) s = .next t ∧ t.mode = SAFE
          ∧ t.flag PRG_RESUMEREF = true ∧ t.bus = ⟨[], false⟩
          ∧ Frame (fun r => r = 0x20030008 ∨ CountSel r) (fun _ => False) s t)
      ∧ (s.mode = SAFE → s.fld POUR_STATE = 1 → ∃ t, exec (.toStop who true) s = .next t ∧ t.mode = SAFE
          ∧ t.fld POUR_STATE = 2)
      ∧ (s.mode = HALT → s.fld HALT_CAUSE ≠ 1 → ∃ t, exec (.toStop who true) s = .next t ∧ t.mode = STOP
          ∧ t.fld POUR_STATE = 0)
      ∧ (s.mode = RUN ∨ s.mode = SAFE → ∃ t, exec (.haltReq who true) s = .next t ∧ t.mode = HALT
          ∧ t.fld HALT_CAUSE = 4 ∧ (s.pourActive = true → t.fld POUR_STATE = 3)))
    ∧ (∀ (s : State) (task : BitVec 5) (pair : Bool) (cause : BitVec 8) (pc addr : BitVec 36), s.up = true →
      s.mode = RUN ∨ s.mode = SAFE →
      ∃ t, exec (.programTrap task pair cause pc addr) s = .next t ∧ t.mode = HALT ∧ t.fld HALT_CAUSE = 3
        ∧ t.regN 0x20030030 = task.toNat + (if pair then 32 else 0) + cause.toNat * 256
        ∧ t.regN 0x20030034 = pc.toNat % 2 ^ 32 ∧ t.regN 0x20030038 = pc.toNat / 2 ^ 32
        ∧ t.regN 0x2003003C = addr.toNat / 16)

/-- R136, R137: a write of PRG_FnCTL by the runtime in STOP or RUN takes effect with the value that PRG_FnVLO and
PRG_FnVHI hold; in other modes it is ignored without error. R140, Table PRG-11: the cope processor opens a download in
STOP when nothing is busy, applies and aborts it; every other writer gets a slave error. A check that ends leaves the
state CHECKING; a load that ends puts the staged image in force with RESULT 1. -/
def Obligations.ForcesAndDownloads : Prop :=
  (∀ (s : State) (who : Initiator) (n : BitVec 9) (v : Word), s.up = true → who ∈ [Initiator.ap0, .ap1] → s.mayIssue who = true →
      s.isStandby = false →
      (s.mode = STOP ∨ s.mode = RUN → ∃ t, exec (.forceCtlWrite who n v) s = .next t
        ∧ t.reg (freg n.toNat 4) = v &&& 0xF00FFFFF
        ∧ t.forceVal n.toNat = s.regN (freg n.toNat 0x10) + s.regN (freg n.toNat 0x14) * 2 ^ 32
        ∧ t.flag PRG_FORCED = !t.activeForces.isEmpty ∧ t.fld PRG_FCOUNT = t.activeForces.length
        ∧ ∀ m, m ≠ n.toNat → m < 512 → t.forceVal m = s.forceVal m)
      ∧ (s.mode ≠ STOP → s.mode ≠ RUN → ∃ t, exec (.forceCtlWrite who n v) s = .next t ∧ t.bus = ⟨[], false⟩
        ∧ Frame CountSel (fun _ => False) s t))
    ∧ (∀ s : State, s.up = true → s.mayIssue .cope = true → s.isPrimary = false → s.isStandby = false →
      (s.mode = STOP → s.runctlFree = true → ∃ t, exec (.dlctlStart .cope) s = .next t ∧ t.bus = ⟨[], false⟩
        ∧ t.fld DL_STATE = 1 ∧ t.flag DL_BUSY = true ∧ t.prg.staged = [] ∧ t.prg.image = s.prg.image
        ∧ Frame (fun r => r = 0x20030044 ∨ CountSel r) (fun _ => False) s t)
      ∧ (s.fld DL_STATE = 1 → ∃ t, exec (.dlctlApply .cope) s = .next t ∧ t.bus = ⟨[], false⟩ ∧ t.fld DL_STATE = 2
        ∧ t.flag RUNSTAT_CHECK_BUSY = true ∧ t.prg = s.prg
        ∧ Frame (fun r => r = 0x20030044 ∨ r = 0x20000014 ∨ CountSel r) (fun _ => False) s t)
      ∧ (s.fld DL_STATE = 1 → ∃ t, exec (.dlctlAbort .cope) s = .next t ∧ t.fld DL_STATE = 0 ∧ t.flag DL_BUSY = false
        ∧ t.fld DL_RESULT = 4 ∧ t.prg.staged = [] ∧ t.prg.image = s.prg.image)
      ∧ (∀ (rb wp : Bool), s.fld DL_STATE = 2 → ∃ t, exec (.dlCheckComplete rb wp) s = .next t
        ∧ (t.fld DL_STATE = 0 ∨ t.fld DL_STATE = 3) ∧ t.flag RUNSTAT_CHECK_BUSY = false
        ∧ t.prg.image = s.prg.image)
      ∧ (s.fld DL_STATE = 3 → s.mode = STOP → s.sys.eccUe = [] → ∃ t, exec .dlLoadComplete s = .next t ∧ t.fld DL_STATE = 0 ∧ t.flag DL_BUSY = false
        ∧ t.fld DL_RESULT = 1 ∧ t.prg.image = s.prg.staged ∧ t.flag PRG_DLIMG = true)
      ∧ (∀ who : Initiator, who ∈ [Initiator.ap0, .ap1, .saf, .ldl] → s.mayIssue who = true →
          ∀ c ∈ [Instr.dlctlStart who, .dlctlApply who, .dlctlAbort who],
          ∃ t, exec c s = .next t ∧ t.bus = ⟨[], true⟩ ∧ Frame CountSel (fun _ => False) s t))

/-! ### Crucible (05_crucible_loop_engine.md) -/

/-- R147, R173: in the stage phase each enabled loop of the group that ended its evaluation stages its held output, and
one that did not overruns; at the sample instant what was staged takes effect, and on a module that latches its own
sources the loops whose evaluation ends are done, and the others are not. A BLIND standby does neither (R324). That a
sample which ends in a numeric error counts as an evaluated one, and that the first loops of a group in ascending order are
those whose evaluation ends, are the model's reading and its choice (log 80). -/
def Obligations.CrucibleStagesAndSamples : Prop :=
  ∀ (s : State) (k : BitVec 9), s.up = true → s.fld CRU_STATE = 1 → s.blind = false → ∀ e ∈ s.entries, s.entries[k.toNat]? = some e →
    e.kind = KIND_CRUCIBLE → ∀ n ∈ groupLoops e, n < 256 → s.loopEn n = true → s.loopMode n ≠ LM_OFF →
    (∃ t, exec (.crucibleStage k) s = .next t
      ∧ if (s.loop n).done then (t.loop n).staged = (s.loop n).held ∧ t.reg (lst n 0x14) = s.reg (lst n 0x14)
        else (t.loop n).staged = none ∧ t.regN (lst n 0x14) = (s.regN (lst n 0x14) + 1) % 2 ^ 32
          ∧ t.flag (LS_OVR n) = true)
    ∧ (∀ d : BitVec 9, ∃ t, exec (.crucibleSample k d) s = .next t ∧ (t.loop n).staged = none
      ∧ (s.isStandby = false → (t.loop n).done = decide (n < e.object + d.toNat)))

/-- R157, R166: a write of CRU_LCTL.MODE by AP0 or AP1 takes its place as the loop's pending request; it changes no
register of Crucible, and no other loop. R171: writing 1 to LnSTAT.PLAUS of a loop that has it set clears it, in the
summary register too, and the model is reseeded. On a standby (R310) both complete without any effect. R151: a read of
CRU_LI_LO answers the low word and pairs the next read of CRU_LI_HI of the loop with the high word that belongs to it.
Each wakes Crucible where it is gated (R22), and ends in a slave error where its domain is OFF or draining, and where
another initiator writes. -/
def Obligations.CrucibleRequests : Prop :=
  ∀ (s : State) (who : Initiator) (n : BitVec 8), s.up = true → s.mayIssue who = true →
    (∀ m : BitVec 3, who ∈ [Initiator.ap0, .ap1] → s.domainShut 2 = false →
      ∃ t, exec (.loopModeWrite who n m) s = .next t ∧ t.bus = ⟨[], false⟩
        ∧ (t.loop n.toNat).req = (if s.isStandby then (s.loop n.toNat).req else some (m.toNat, 2))
        ∧ (∀ k, k ≠ n.toNat → t.loop k = s.loop k)
        ∧ Frame (fun r => r = 0x20000044 ∨ CountSel r) (fun _ => False) s t)
    ∧ (who ∈ [Initiator.ap0, .ap1] → s.domainShut 2 = false →
      ∃ t, exec (.plausClear who n) s = .next t ∧ t.bus = ⟨[], false⟩
        ∧ (s.isStandby = false → s.flag (LS_PLAUS n.toNat) = true → t.flag (LS_PLAUS n.toNat) = false
          ∧ t.flag (cruPL n.toNat) = false ∧ (t.loop n.toNat).reseed = true)
        ∧ (s.isStandby = true ∨ s.flag (LS_PLAUS n.toNat) = false → t.cru.loops = s.cru.loops
          ∧ t.flag (LS_PLAUS n.toNat) = s.flag (LS_PLAUS n.toNat))
        ∧ Frame (fun r => r = lst n.toNat 0x10 ∨ r = (cruPL n.toNat).addr ∨ r = 0x20000044
            ∨ CountSel r) (fun _ => False) s t)
    ∧ (s.domainShut 2 = false →
      ∃ t, exec (.integratorRead who n) s = .next t ∧ t.bus = ⟨leBytes 4 (s.regN (lreg n.toNat 0x60)), false⟩
        ∧ t.cru.liPair = some (n.toNat, s.reg (lreg n.toNat 0x64))
        ∧ Frame (fun r => r = 0x20000044 ∨ CountSel r) (fun _ => False) s t)
    ∧ (∀ m : BitVec 3, s.domainShut 2 = true ∨ who ∈ [Initiator.saf, .cope, .pour, .ldl] →
      (∃ t, exec (.loopModeWrite who n m) s = .next t ∧ t.bus = ⟨[], true⟩ ∧ t.cru.loops = s.cru.loops)
      ∧ ∃ t, exec (.plausClear who n) s = .next t ∧ t.bus = ⟨[], true⟩ ∧ t.cru.loops = s.cru.loops)
    ∧ (s.domainShut 2 = true → ∃ t, exec (.integratorRead who n) s = .next t ∧ t.bus = ⟨[0, 0, 0, 0], true⟩
      ∧ Frame CountSel (fun _ => False) s t)

/-! ### Channel cells (06_channel_cells_inputs.md, 07_channel_outputs_diagnostics.md) -/

/-- R189, R192, R194, R203, R205, R215: the results of the input cells. A grid cell that runs powers its converters and
delivers, TS being its window end; a result that is missing sets STALE, and the third in a row makes a cell fault, which
re-initialisation starts anew; a DI level is accepted with its instant, and reports leave it; a WAVE cell tracks DC, and
without crossings reports NOCYCLE. The level at and between the thresholds of a DI cell is the model's reading (log 53), and
what a result shows whose window began before conversion ran is too (log 31). -/
def Obligations.InputCellsDeliver : Prop :=
  ∀ (s : State) (c : BitVec 5), s.blockRuns (c.toNat / 8) = true → s.chan.conv = true →
    let n := c.toNat
    (∀ m : Meas, isGridIn (s.cellMode n) = true → s.flag (CFAULT n) = false →
      ∃ t, exec (.cellResult c m) s = .next t ∧ t.regN (cRES n) = (s.regN (cRES n) + 1) % 2 ^ 32
        ∧ t.fld ⟨cSTAT n, 31, 24⟩ = t.regN (cRES n) % 256
        ∧ (s.cellMode n = M_AI_V ∨ s.cellMode n = M_AI_I → t.reg (cRAW n) = f32of64 m.prim
            ∧ t.reg (cSAR n) = f32of64 m.sec ∧ t.regN (cTS n) = ts32Of (s.now - 1000)))
    ∧ (isGridIn (s.cellMode n) = true → s.flag (CFAULT n) = false → ∃ t, exec (.resultMissing c) s = .next t
        ∧ t.bit (cSTAT n) B_STALE = true ∧ t.bit (cSTAT n) B_QBAD = true ∧ t.regN (cRES n) = s.regN (cRES n)
        ∧ t.flag (CFAULT n) = decide (3 ≤ (s.cell n).missRun + 1))
    ∧ (s.flag (CFAULT n) = true → (s.cell n).stageFault = false → ∃ t, exec (.cellReinit c) s = .next t
        ∧ (t.cell n).y = none ∧ (t.cell n).missRun = 0 ∧ (t.cell n).recov = 0
        ∧ Frame (fun _ => False) (fun _ => False) s t)
    ∧ (isGridIn (s.cellMode n) = true → 40 < crGrid (s.cellRec n) - windowLen (s.cellRec n) →
        ∃ t, exec (.cellPowerOn c) s = .next t ∧ t.flag (CONV n) = true
          ∧ Frame (fun r => r = cbreg (n / 8) 0) (fun _ => False) s t)
    ∧ (s.cellMode n = M_DI →
        (∀ v : BitVec 64, ∃ t, exec (.diAccept c v) s = .next t ∧
          let l := diLevel (s.cellRec n) (s.bit (cSTAT n) B_DI) v
          if (s.cell n).diSeen = true ∧ s.bit (cSTAT n) B_DI = l then t = s
          else t.bit (cSTAT n) B_DI = l ∧ t.reg (cVAL n) = (if l then 0x3F800000 else 0)
            ∧ t.regN (cTS n) = ts32Of s.now ∧ t.regN (cRES n) = (s.regN (cRES n) + 1) % 2 ^ 32)
        ∧ (∀ v : BitVec 64, ∃ t, exec (.diRawReport c v) s = .next t ∧ t.reg (cRAW n) = f32of64 v
          ∧ t.bit (cSTAT n) B_DI = s.bit (cSTAT n) B_DI ∧ t.reg (cTS n) = s.reg (cTS n)
          ∧ t.regN (cRES n) = (s.regN (cRES n) + 1) % 2 ^ 32))
    ∧ (s.cellMode n = M_WAVE →
        (∀ x xs : BitVec 64, ∃ t, exec (.waveSample c x xs) s = .next t
          ∧ (t.cell n).dc = fadd (s.cell n).dc (fmul (f64ofRat 1 16384) (fsub x (s.cell n).dc))
          ∧ (t.cell n).zPrev = some (fsub x (t.cell n).dc))
        ∧ (∃ t, exec (.nocycleResult c) s = .next t ∧ t.bit (cSTAT n) B_NOCYCLE = true ∧ t.reg (cFREQ n) = 0
          ∧ t.reg (cPHASE n) = 0 ∧ t.regN (cTS n) = ts32Of s.now))

/-- R227, R235 to R238, R231, Table CHO-7: the results of the output cells, field faults set and cleared, short
protection, stage tests and trim drive. -/
def Obligations.OutputCellsAndFieldFaults : Prop :=
  ∀ (s : State) (c : BitVec 5), s.blockRuns (c.toNat / 8) = true → s.chan.conv = true →
    let n := c.toNat
    (∀ m : Meas, s.cellMode n = M_AO_I ∨ s.cellMode n = M_AO_V → ∃ t, exec (.cellResult c m) s = .next t
      ∧ t.regN (cRES n) = (s.regN (cRES n) + 1) % 2 ^ 32 ∧ t.reg (cRAW n) = f32of64 m.vad
      ∧ t.reg (cSAR n) = f32of64 m.sec ∧ t.reg (cHEAD n) = f32of64 m.head ∧ t.regN (cTS n) = ts32Of (s.now - 1000))
    ∧ (∀ m : Meas, s.cellMode n = M_DO → ∃ t, exec (.doResult c m) s = .next t
      ∧ t.regN (cRES n) = (s.regN (cRES n) + 1) % 2 ^ 32 ∧ t.reg (cRAW n) = f32of64 m.vad
      ∧ t.reg (cSAR n) = f32of64 m.vad ∧ t.regN (cTS n) = ts32Of s.now)
    ∧ (∀ a b : BitVec 64, fieldAt (s.cellRec n) 65 1 = 1 → s.cellMode n = M_AI_V ∨ s.cellMode n = M_TC →
      crFfEn (s.cellRec n) 0 = true → flt (milli 50) (fabs (fsub b a)) = true →
      ∃ t, exec (.openWireTest c a b) s = .next t ∧ t.bit (cFFLT n) 0 = true
        ∧ (s.bit (cFFLT n) 0 = false → t.bit (cFFLT n) 8 = true ∧ t.bit (cSTAT n) B_FIELD = true))
    ∧ (∀ f : Fin 5, crFfEn (s.cellRec n) f.val = true → ffTimed (s.cellRec n) f.val = true →
      (s.bit (cFFLT n) f.val = false → ∃ t, exec (.fieldFaultTimeout c f true) s = .next t
        ∧ t.bit (cFFLT n) f.val = true ∧ t.bit (cFFLT n) (8 + f.val) = true ∧ t.flag (OERR n 2) = true
        ∧ t.bit (cSTAT n) B_FIELD = true)
      ∧ (∃ t, exec (.fieldFaultTimeout c f false) s = .next t ∧ t.bit (cFFLT n) f.val = false
        ∧ t.bit (cFFLT n) (8 + f.val) = s.bit (cFFLT n) (8 + f.val)
        ∧ Frame (fun r => r = cFFLT n) (fun _ => False) s t))
    ∧ (s.cellMode n = M_DO → (s.cell n).driven = some f1 → s.fld (TRIM_POINT n) = 0 →
      ∃ t, exec (.doShort c) s = .next t ∧ (t.cell n).doProt = true ∧ (t.cell n).driven ≠ some f1)
    ∧ ((s.cell n).doProt = true → ∃ t, exec (.doRetry c) s = .next t ∧ (t.cell n).doProt = false
      ∧ (t.cell n).driven = t.driveVal n ∧ (s.fld (TRIM_POINT n) = 0 → Frame (fun _ => False) (fun _ => False) s t))
    ∧ ((s.cell n).stageFault = true → s.cellMode n = M_DO → ∀ lo hi : BitVec 64,
      (∃ t, exec (.stageTest c lo hi true false true) s = .next t
        ∧ (t.cell n).stageFault = decide ((s.cell n).passRun + 1 < 8)
        ∧ ((s.cell n).passRun + 1 < 8 → (t.cell n).passRun = (s.cell n).passRun + 1)
        ∧ (7 ≤ (s.cell n).passRun → t.flag (CFAULT n) = false))
      ∧ (∃ t, exec (.stageTest c lo hi false false true) s = .next t ∧ (t.cell n).stageFault = true
        ∧ (t.cell n).passRun = 0))
    ∧ (s.bit (cFFLT n) 5 = false → ∃ t, exec (.stageOvertemp c) s = .next t ∧ (t.cell n).stageFault = true
      ∧ t.flag (CFAULT n) = true ∧ t.bit (cFFLT n) 5 = true ∧ t.bit (cFFLT n) 13 = true
      ∧ t.bit (cSTAT n) B_SUBST = true ∧ t.fld (TRIM_POINT n) = 0)
    ∧ (∀ who : Initiator, who ∈ [Initiator.ap0, .ap1, .cope] → s.mayIssue who = true → s.domain (4 + n / 8) = D_ON →
      (∀ p : BitVec 2, p = 1 ∨ p = 2 → s.mode = STOP → s.cellMode n = M_AO_I ∨ s.cellMode n = M_AO_V →
        s.exciting = true → 5 ≤ s.driveLine n → ∃ t, exec (.trimDrive who c p) s = .next t
          ∧ t.fld (TRIM_POINT n) = p.toNat ∧ t.driveLine n = 5)
      ∧ (s.mode = STOP → ∃ t, exec (.trimDrive who c 0) s = .next t ∧ t.fld (TRIM_POINT n) = 0)
      ∧ (∀ p : BitVec 2, s.mode ≠ STOP → ∃ t, exec (.trimDrive who c p) s = .next t ∧ t.bus = ⟨[], false⟩
          ∧ Frame CountSel (fun _ => False) s t))

/-! ### Safety (08_safety_architecture.md, 09_safety_io_configuration.md) -/

/-- R257, R259, R260, R297: the lattice follows a change of its sources with every sink as its source gives it, and a
timer that reaches its time; a tripped regulator opens the switches of its channel until it recovers; a read of FOX_SRC
captures the five registers. The lattice reads and writes no other register, and no memory. -/
def Obligations.LatticeFollowsItsSources : Prop :=
  ∀ s : State, s.up = true →
    (∀ src : BitVec 18, ∃ t, exec (.latticeSourceChange src) s = .next t ∧ t.fox.src = s.foxSees src.toNat
      ∧ (s.flag FOX_LOCKED = true → s.flag FOX_SUPTRIP = false →
          ∀ i, i < 10 → t.fox.sink.testBit i = t.foxSink t.fox i)
      ∧ (s.flag FOX_LOCKED = false ∨ s.flag FOX_SUPTRIP = true → t.fox.sink = 0)
      ∧ Frame (fun _ => False) (fun _ => False) s t)
    ∧ (∀ k : BitVec 4,
      (oget s.fox.started k.toNat = none → exec (.latticeTimerExpiry k) s = .next s)
      ∧ (s.flag FOX_LOCKED = true → s.flag FOX_SUPTRIP = false → (oget s.fox.started k.toNat).isSome = true →
          bitsOf (s.regN (0x20210280 + 4 * k.toNat)) 7 0 = 0 → bitsOf (s.regN (0x20210280 + 4 * k.toNat)) 15 8 < 18 →
          0 < bitsOf (s.regN (0x20210280 + 4 * k.toNat)) 23 16 →
          s.fox.src.testBit (bitsOf (s.regN (0x20210280 + 4 * k.toNat)) 15 8) = true →
          s.fox.tin.testBit k.toNat = true →
          ∃ t, exec (.latticeTimerExpiry k) s = .next t ∧ t.fox.tmr.testBit k.toNat = true
            ∧ oget t.fox.started k.toNat = none ∧ Frame (fun _ => False) (fun _ => False) s t))
    ∧ (∃ t, exec (.supplySupervisorTrip true) s = .next t ∧ t.flag FOX_SUPTRIP = true ∧ t.fox.sink = 0
        ∧ ∀ n, n < 8 → t.saf.lsSw.testBit n = false)
    ∧ (∃ t, exec (.supplySupervisorTrip false) s = .next t ∧ t.saf.supTrip = true
        ∧ ∀ n, n < 8 → t.saf.hsSw.testBit n = false)
    ∧ (∃ t, exec (.supplySupervisorRecover true) s = .next t ∧ t.flag FOX_SUPTRIP = false ∧ t.fox.src = s.foxSees s.fox.raw
        ∧ Frame (fun r => r = 0x20210000) (fun _ => False) s t)
    ∧ (∃ t, exec (.supplySupervisorRecover false) s = .next t ∧ t.saf.supTrip = false
        ∧ Frame (fun _ => False) (fun _ => False) s t)
    ∧ (∀ who : Initiator, s.mayIssue who = true → ∃ t, exec (.foxSrcRead who) s = .next t
        ∧ t.reg 0x20210004 = BitVec.ofNat 32 s.fox.src ∧ t.reg 0x20210008 = BitVec.ofNat 32 s.fox.elem
        ∧ t.reg 0x2021000C = BitVec.ofNat 32 (s.fox.elem / 2 ^ 32) ∧ t.reg 0x20210010 = BitVec.ofNat 32 s.fox.tmr
        ∧ t.reg 0x20210014 = BitVec.ofNat 32 s.fox.sink ∧ t.bus = ⟨leBytes 4 (t.regN 0x20210004), false⟩
        ∧ Frame (fun r => 0x20210004 ≤ r ∧ r ≤ 0x20210014 ∨ CountSel r) (fun _ => False) s t)

/-- R262, R263, R265, Table SAF-7: the self-test ends in CONFIG or in FAILSAFE with the outputs stopped; a cycle counts
and publishes, and one whose self-test slice fails is a module fault of the safety processor. -/
def Obligations.SafetyProcessorCycles : Prop :=
  ∀ s : State, s.up = true →
    (s.safState = S_SELFTEST → (∃ t, exec (.safetySelftestDone none) s = .next t ∧ t.safState = S_CONFIG)
      ∧ ∀ k : BitVec 8, ∃ t, exec (.safetySelftestDone (some k)) s = .next t ∧ t.safState = S_FAILSAFE
          ∧ t.saf.test = k.toNat ∧ t.saf.stopped = true ∧ ∀ n, n < 8 → t.saf.hsSw.testBit n = false)
    ∧ (s.safState = S_CONFIG ∨ s.safState = S_OPERATE → s.saf.mism = 0 →
      ∀ (sdi lf : BitVec 16) (qp qn : BitVec 8) (tp : BitVec 4),
      (∃ t, exec (.safetyCycle sdi qp qn tp lf false false) s = .next t
        ∧ t.regN SAF_CYCLES = (s.regN SAF_CYCLES + 1) % 2 ^ 32 ∧ t.safState = s.safState
        ∧ t.regN 0x20200030 = lf.toNat ∧ t.fld ⟨0x20200018, 3, 0⟩ = tp.toNat)
      ∧ (∃ t, exec (.safetyCycle sdi qp qn tp lf true false) s = .next t ∧ ModuleFaulted 1 SAF_LOC t
        ∧ t.safState = S_FAILSAFE))

/-- R273, R278, R280 to R282, R288: the tests of the safety inputs and outputs. A TP source whose read-back is wrong for
the second time running is at fault; the pre-energise test closes the high-side switch or is an output fault, and waits
while L+F is low; an
off-pulse runs on an energised output and its verdict ends it; overcurrent is an output fault, which opens the high
side. -/
def Obligations.SafetyOutputTests : Prop :=
  ∀ s : State, s.up = true →
    (∀ (w0 w1 w2 w3 : BitVec 16) (bad : BitVec 4),
      (s.verdicts = false → exec (.tpSchedule w0 w1 w2 w3 bad) s = .next s)
      ∧ (s.verdicts = true → ∃ t, exec (.tpSchedule w0 w1 w2 w3 bad) s = .next t
        ∧ ∀ k, k < 4 → tpEn s.saf.cfg k = true →
          if bad.getLsbD k then cget t.saf.tpPass k = 0
            ∧ (1 ≤ cget s.saf.tpFail k → t.saf.tpFault.testBit k = true)
          else cget t.saf.tpFail k = 0 ∧ (9 ≤ cget s.saf.tpPass k → t.saf.tpFault.testBit k = false)))
    ∧ (∀ (n : BitVec 3) (a b : Bool), ∀ t0 ∈ (oget s.saf.preAt n.toNat).toList, t0 + 200000 ≤ s.mono →
      ∃ t, exec (.preEnergiseTest n a b) s = .next t
        ∧ if s.saf.lfLow then t = s else if a && b then t.saf.hsSw.testBit n.toNat = true
          ∧ oget t.saf.preAt n.toNat = none
            ∧ Frame (fun _ => False) (fun _ => False) s t
          else t.saf.fault.testBit n.toNat = true)
    ∧ (∀ (n : BitVec 3) (low : Bool), s.saf.pulse = none → s.ownsSafety = true → s.energised n.toNat = true →
      fieldAt (sdoRec s.saf.cfg n.toNat) 2 1 = 1 →
      ∃ t, exec (.offPulse n low) s = .next t ∧ t.saf.pulse = some (n.toNat, low)
        ∧ Frame (fun _ => False) (fun _ => False) s t)
    ∧ (∀ p ∈ s.saf.pulse.toList, ∀ a b : Bool, ∃ t, exec (.offPulseEnd a b) s = .next t ∧ t.saf.pulse = none
        ∧ if s.saf.lfLow || (a && b) then t.saf.fault = s.saf.fault ∧ Frame (fun _ => False) (fun _ => False) s t
          else t.saf.fault.testBit p.1 = true)
    ∧ (∀ n : BitVec 3, ∃ t, exec (.overcurrent n) s = .next t ∧ t.saf.fault.testBit n.toNat = true
        ∧ t.saf.ovc.testBit n.toNat = true ∧ t.saf.err.testBit SE_OVERCUR = true
        ∧ t.saf.hsSw.testBit n.toNat = false)
    ∧ (∃ t, exec .lfLow s = .next t ∧ t.saf.lfLow = true ∧ t.saf.err.testBit SE_LFLOW = true)
    ∧ (∃ t, exec .lfRestored s = .next t ∧ t.saf.lfLow = false ∧ Frame (fun _ => False) (fun _ => False) s t)

/-- R292 to R294: the commands of Q60, each consuming its entry. Without a password AUTHORISE sets one and takes the
CRC; with one, a match authorises and a mismatch counts, the fifth locking; SET_PASSWORD opens the way for the entry
that follows it; a read of the log changes nothing that the safety processor keeps; the lockout ends. That the count of
wrong passwords then starts anew is the model's choice (log 15). -/
def Obligations.SafetyAuthorisation : Prop :=
  ∀ s : State, s.up = true →
    (∀ e ∈ s.q60Head.toList, s.mode = STOP → s.safNv.locked = false → pwOk e = true →
      (fieldAt e 0 1 = 1 → ∃ t, exec .authorise s = .next t ∧ t.cidx 60 = (s.cidx 60 + 1) % 2 ^ 32
        ∧ if s.safNv.pw = none ∨ s.pwMatch (pwBytes e) then t.safNv.authCrc = fieldAt e 4 4 ∧ t.safNv.fails = 0
            ∧ t.safNv.pw.isSome = true ∧ t.safNv.log.length = min 64 (s.safNv.log.length + 1)
          else t.safNv.authCrc = s.safNv.authCrc ∧ t.safNv.fails = s.safNv.fails + 1
            ∧ t.safNv.locked = decide (5 ≤ s.safNv.fails + 1))
      ∧ (fieldAt e 0 1 = 2 → s.safNv.pw.isSome = true →
        ∃ t, exec .setPassword s = .next t ∧ t.cidx 60 = (s.cidx 60 + 1) % 2 ^ 32
          ∧ t.safNv.authCrc = s.safNv.authCrc ∧ t.safNv.pw = s.safNv.pw
          ∧ if s.pwMatch (pwBytes e) then t.safNv.setPw = some (fieldAt e 2 2) ∧ t.safNv.fails = 0
            else t.safNv.setPw = none ∧ t.safNv.fails = s.safNv.fails + 1)
      ∧ (fieldAt e 0 1 = 3 → s.safNv.setPw = some (fieldAt e 2 2) →
        ∃ t, exec .setPasswordNew s = .next t ∧ t.cidx 60 = (s.cidx 60 + 1) % 2 ^ 32 ∧ t.safNv.setPw = none
          ∧ t.safNv.pw.isSome = true ∧ t.safNv.authCrc = s.safNv.authCrc
          ∧ t.safNv.log.length = min 64 (s.safNv.log.length + 1)))
    ∧ (∀ e ∈ s.q60Head.toList, fieldAt e 0 1 = 4 → ∃ t, exec .readLog s = .next t
      ∧ t.cidx 60 = (s.cidx 60 + 1) % 2 ^ 32 ∧ t.safNv.setPw = none ∧ t.safNv.log = s.safNv.log
      ∧ t.safNv.pw = s.safNv.pw ∧ t.safNv.authCrc = s.safNv.authCrc ∧ t.safNv.fails = s.safNv.fails)
    ∧ (s.safNv.locked = true → ∃ t, exec .pwlockExpiry s = .next t ∧ t.safNv.locked = false ∧ t.safNv.fails = 0
      ∧ t.safNv.pw = s.safNv.pw ∧ Frame (fun _ => False) (fun _ => False) s t)

/-! ### Redundancy (10_redundancy.md) -/

/-- R301 to R304, R320: the pair lines settle into their classes, in reset too, and a synchronised standby takes over
from a dying partner; a claimable module that is to own takes ownership and excites; the releasing module disconnects; the
link comes up with both lanes once the cope boot has completed, is lost, and trains again. That a dying partner is taken
over from whatever the pair lines and the standby's eligibility, and that a standby becomes BLIND in every row of Table
RUN-10 at a loss of the link, are the model's reading (log 58). -/
def Obligations.PairLinesAndLink : Prop :=
  (∀ (s : State) (c : Fin 3), s.pwr.on = true →
    (∃ t, exec (.aliveInChange c) s = .next t ∧ t.fld PL_ALIVE = c.val
      ∧ t.run.dyingSince = (c.val == 2 || (c.val == 0 && s.run.dyingSince))
      ∧ (s.up = true → c = 2 → s.synced = true → s.run.taking = none → s.run.aliveOut = 1 → t.run.taking = some (3, 0, false)))
    ∧ ∃ t, exec (.ownInChange c) s = .next t ∧ t.fld PL_OWNIN = c.val
      ∧ (s.up = true → c = 1 → s.sideA = false → t.flag RUN_OWN = false))
    ∧ (∀ s : State, s.up = true →
    (s.flag PL_CLAIMABLE = true → s.flag RUN_OWN = false → s.run.aliveOut = 1 →
      s.fld PL_OWNIN ≠ OW_OWNED ∨ s.sideA = true →
      (s.role = R_SOLO ∨ s.role = R_PRIMARY → s.run.taking = none → ∃ t, exec .ownershipClaim s = .next t
        ∧ t.flag RUN_OWN = true ∧ t.flag RUN_EXCITE = true ∧ t.saf.ownAt = s.mono ∧ t.run.fellAt = none
        ∧ t.role = s.role)
      ∧ (s.isStandby = true → s.run.taking.isSome = true → ∃ t, exec .ownershipClaim s = .next t
        ∧ t.flag RUN_OWN = true ∧ t.role = R_PRIMARY ∧ t.run.taking = none
        ∧ t.regN RUN_SWCNT = (s.regN RUN_SWCNT + 1) % 2 ^ 32))
    ∧ (∀ b : Bool, s.run.fellAt.isSome = true → ∃ t, exec (.dualDriveEnd b) s = .next t ∧ t.run.fellAt = none
      ∧ t.flag RUN_EXCITE = false ∧ (b = true → t.flag (RUN_ERR 3) = true))
    ∧ (s.linkUp = false → s.faultHalt = false → s.fld COPE_STATE ≠ 0 → s.bit 0x20000028 22 = false →
      s.fld (RGNSTAT 2) ≠ 1 → ∃ t, exec .linkTrained s = .next t ∧ t.linkUp = true ∧ t.flag (RUN_L 0) = true ∧ t.flag (RUN_L 1) = true)
    ∧ (∀ a b : Bool, s.linkUp = true → ∃ t, exec (.linkLoss a b) s = .next t ∧ t.linkUp = false
      ∧ t.flag (RUN_L 0) = a ∧ t.flag (RUN_L 1) = b ∧ t.flag (RUN_ERR 0) = true ∧ t.run.tx = [] ∧ t.run.pass = []
      ∧ (s.isStandby = true → s.sstate ≠ SS_OFFLINE → t.sstate = SS_BLIND))
    ∧ (s.linkUp = false → ∃ t, exec .linkRetrain s = .next t ∧ t.flag (RUN_L 0) = false ∧ t.flag (RUN_L 1) = false
      ∧ Frame (fun r => r = 0x20300010) (fun _ => False) s t))

/-- R304: a frame with a wrong CRC is discarded and counted, and the eighth in a row takes the link down. R308 to R316,
R320, R326, R328, R369, R393: a CTRL message of each kind does what it tells; on a standby latched values are held for
Crucible, a SNAP unit arrives, a vector is compared, lines of state and loop records are written, or wait for the standby's
own commit of the same pour. PDL tells that both modules have accepted a download (Table RUN-14). The operands of CTRL
messages and COPY lines are the model's own layout (log 20), and PIDX of a queue follows the index that the primary
forwards (log 74). -/
def Obligations.RunnerFrames : Prop :=
  ∀ s : State, s.up = true → s.linkUp = true → s.bit 0x20000028 22 = false →
    (∀ (m : CtrlMsg) (k : BitVec 5) (no : BitVec 24) (b : List Byte) (w : Word) (ls : List CopyLine) (lo : List LoopCopy),
      ∀ c ∈ [Instr.ctrlFrame m false, .latchFrame b false, .snapFrame k no b false, .ovecFrame b false,
        .copyFrame ⟨k.setWidth 8, w⟩ ls lo false],
      ∃ t, exec c s = .next t ∧ t.regN RUN_FRERR = (s.regN RUN_FRERR + 1) % 2 ^ 32
        ∧ t.linkUp = decide (s.run.crcRun + 1 < 8) ∧ t.run.crcRun = s.run.crcRun + 1
        ∧ (s.synced = true → s.run.crcRun + 1 < 8 → t.sstate = SS_SYNCED)
        ∧ t.run.snaps = s.run.snaps ∧ t.cru.remote = s.cru.remote)
    ∧ (∀ (p : Partner) (sync : Bool) (theta : Int), p.ok = true →
      ∃ t, exec (.ctrlFrame (.status p sync theta) true) s = .next t ∧ t.run.partner = some p
        ∧ t.regN RUN_PVER = p.fw ∧ (s.role = R_SOLO → s.pairPresent = true → p.role = R_STANDBY → t.role = R_PRIMARY))
    ∧ (∀ (ts : Word) (n : BitVec 9) (id ctl l0 l1 lo hi : Word), s.isStandby = true →
      ∃ t, exec (.ctrlFrame (.force ts n id ctl l0 l1 lo hi) true) s = .next t
        ∧ if extendTs32 s.now ts.toNat ≤ s.now then t.reg (freg n.toNat 0) = id
            ∧ t.reg (freg n.toNat 4) = ctl &&& 0xF00FFFFF ∧ t.reg (freg n.toNat 8) = l0 ∧ t.reg (freg n.toNat 0xC) = l1
            ∧ t.forceVal n.toNat = lo.toNat + hi.toNat * 2 ^ 32
          else t.run.forces = s.run.forces ++ [⟨ts.toNat, n.toNat, [id, ctl, l0, l1, lo, hi]⟩]
            ∧ Frame CountSel (fun _ => False) s t)
    ∧ (∀ (old c : BitVec 4), s.isStandby = true →
      (s.mode = RUN → ∃ t, exec (.ctrlFrame (.mode old 4 c) true) s = .next t ∧ t.mode = SAFE
        ∧ t.fld SAFE_SRC = c.toNat % 4)
      ∧ (s.mode = SAFE → ∃ t, exec (.ctrlFrame (.mode 4 2 c) true) s = .next t ∧ t.mode = RUN)
      ∧ (s.mode = STOP → s.runctlFree = true → ∃ t, exec (.ctrlFrame (.mode old 2 c) true) s = .next t
        ∧ t.mode = STOP ∧ t.flag RUNSTAT_CHECK_BUSY = true)
      ∧ (s.mode = RUN ∨ s.mode = SAFE → ∃ t, exec (.ctrlFrame (.mode old 3 4) true) s = .next t ∧ t.mode = HALT
        ∧ t.fld HALT_CAUSE = 4)
      ∧ (s.mode = HALT → s.fld HALT_CAUSE ≠ 1 → ∃ t, exec (.ctrlFrame (.mode old 1 c) true) s = .next t ∧ t.mode = STOP)
      ∧ (s.mode = RUN ∨ s.mode = SAFE → s.fld POUR_STATE = 1 →
        ∃ t, exec (.ctrlFrame (.mode old 1 c) true) s = .next t ∧ t.mode = s.mode ∧ t.fld POUR_STATE = 2))
    ∧ (∀ (st : BitVec 8) (live : Bool) (v : Word), s.isStandby = true →
      ∃ t, exec (.ctrlFrame (.epoch (st.setWidth _) live v) true) s = .next t ∧ t.flag (plnLive st.toNat) = live
        ∧ t.reg (plnEpoch st.toNat) = v)
    ∧ (∀ (q : BitVec 6) (idx : Word) (e d : List Byte), s.isStandby = true → e.length = 16 → d.length ≤ 64 → 16 ≤ q.toNat →
      q.toNat ≤ 27 → s.qUsable q.toNat = true → (idx - s.reg (qreg q.toNat 0x10)).toNat < s.qSize q.toNat →
      ∃ t, exec (.ctrlFrame (.queueEntry q idx e d) true) s = .next t ∧ t.pidx q.toNat = (idx.toNat + 1) % 2 ^ 32
        ∧ t.mread (s.qEntry q.toNat idx.toNat) (min 16 (esizeBytes (s.qEsize q.toNat)))
          = e.take (esizeBytes (s.qEsize q.toNat)))
    ∧ (∀ (c : BitVec 8) (k : BitVec 5), s.role = R_PRIMARY → ∃ t, exec (.ctrlFrame (.take c k) true) s = .next t
      ∧ if s.fld PL_ALIVE = AL_ALIVE then t.isStandby = true ∧ t.flag RUN_OWN = false ∧ t.sstate = s.run.after % 4
          ∧ (c = 2 → t.bit RUN_MONEXCL k.toNat = true)
        else t.role = R_PRIMARY)
    ∧ (∀ (v : Bool) (k : BitVec 5), (∃ t, exec (.ctrlFrame (.selfCheck v k) true) s = .next t
      ∧ t.flag RUN_CHECKING = true)
      ∧ (s.synced = true → s.eligible = true →
        (∃ t, exec (.ctrlFrame .switchReq true) s = .next t ∧ t.run.taking = some (6, 0, false))
        ∧ (s.fld (RGNSTAT 0) ≠ 1 → ∃ t, exec (.ctrlFrame .fieldLoss true) s = .next t
          ∧ t.run.taking = some (5, 0, false))
        ∧ ∃ t, exec (.ctrlFrame (.cellFault k v) true) s = .next t
          ∧ t.run.taking = if v then some (4, k.toNat, false) else s.run.taking))
    ∧ (s.isPrimary = true → ∃ t, exec (.ctrlFrame .resync true) s = .next t ∧ t.run.pass = s.passLines)
    ∧ (∀ im : List Byte, s.isStandby = true → s.mode = STOP → s.runctlFree = true → im.length ≤ 8388608 →
      ∃ t, exec (.ctrlFrame (.download im) true) s = .next t ∧ t.prg.staged = im ∧ t.fld DL_STATE = 2
        ∧ t.flag RUNSTAT_CHECK_BUSY = true)
    ∧ (∀ (r : BitVec 2) (n : BitVec 16), s.isPrimary = true →
      ∃ t, exec (.ctrlFrame (.downloadResult r n) true) s = .next t
      ∧ t.fld RUN_PDL = (if r = 1 ∧ s.run.pdl.1 = false then s.fld RUN_PDL else r.toNat)
      ∧ t.regN RUN_PDLRSN = n.toNat)
    ∧ (∀ b : List Byte, b.length ≤ 1008 → 1 ≤ fieldAt b 1 1 → s.isStandby = true →
      ∃ t, exec (.latchFrame b true) s = .next t
      ∧ (tblGet (fun _ => none) t.cru.remote (fieldAt b 0 1)).map Prod.fst = some (fieldAt b 4 4))
    ∧ (∀ r ∈ s.taskRecs, s.taskRec? r.task = some r → r.task < 32 → s.isStandby = true → s.blind = false →
      s.pourActive = true → s.tstate r.task ≠ 0 → ∀ (no : BitVec 24) (b : List Byte), b.length ≤ 65536 →
      ∃ t, exec (.snapFrame (BitVec.ofNat 5 r.task) no b true) s = .next t
        ∧ tblGet (fun _ => none) t.run.snaps r.task = some no.toNat)
    ∧ (∀ v : List Byte, v.length ≤ 160 → s.isStandby = true → ∃ t, exec (.ovecFrame v true) s = .next t
      ∧ t.run.excl = fieldAt v 20 4)
    ∧ (∀ (k : BitVec 8) (a : BitVec 32) (b : Byte) (w : Word), s.isStandby = true →
      s.fabShut issRunner (a.toNat / 64 * 64) 64 true = false →
      ∃ t, exec (.copyFrame ⟨k, w⟩ [⟨a.setWidth _, List.replicate 64 b⟩] [] true) s = .next t
        ∧ if s.inProgress k.toNat && ts32Of (s.task k.toNat).commitAt == w.toNat then
            (tblGet (fun _ => []) t.run.copies k.toNat).getLast? = some ⟨w.toNat, [(a.toNat, List.replicate 64 b)]⟩
            ∧ t.mem = s.mem
          else t.mread (a.toNat / 64 * 64) 64 = List.replicate 64 b ∧ t.regN RUN_AGE = 0)
    ∧ (∀ (k : BitVec 8) (w : Word) (l : LoopCopy), l.ok = true → s.isStandby = true → s.sstate = SS_SYNCING →
      ∃ t, exec (.copyFrame ⟨k, w⟩ [] [l] true) s = .next t ∧ (t.loop l.loop.toNat).sample = l.sample.toNat
        ∧ (t.loop l.loop.toNat).record = none ∧ (l.hist ≠ [] → (t.loop l.loop.toNat).hist = l.hist.take 65))

/-- R308, R309: at the latest replay release a standby's pour is released where its SNAP unit has arrived, and is lost
else.
R314: a resynchronisation is requested, and completes. R318, R319, Table RUN-7: the self-checks after a vector or a field
mismatch end, and each module acts on its part: a standby, whose check counts as failed where it is not SYNCED, takes over,
resynchronises, goes OFFLINE or leaves the cell out of its monitoring; a primary keeps its role, and one that fails where
the standby passes knows what it becomes when it is relieved. R320: a request to switch over is refused with SWREF where
the link is down, the modes differ or the standby is not SYNCED; else it starts the takeover: on the standby itself, or by
a message to it, whose first byte is the model's own layout (log 20). -/
def Obligations.StandbyAndSwitch : Prop :=
  ∀ (s : State) (who : Initiator), s.up = true → who ∈ [Initiator.ap0, .ap1] → s.mayIssue who = true → s.fld (RGNSTAT 2) ≠ 1 →
    (∀ k : BitVec 5, ∀ r ∈ (s.taskRec? k.toNat).toList, s.isStandby = true → s.blind = false → s.pourActive = true →
      (s.tstate k.toNat = 2 → s.sys.eccUe = [] → ∃ t, exec (.replayRelease k) s = .next t
        ∧ if s.snapHere k.toNat then t.tstate k.toNat = 3 ∧ (t.task k.toNat).relAt = s.now
          else t.tstate k.toNat = 1 ∧ (t.task k.toNat).skipped = true
            ∧ t.regN RUN_REPLOSS = (s.regN RUN_REPLOSS + 1) % 2 ^ 32 ∧ (s.synced = true → t.sstate = SS_SYNCING))
      ∧ (r.event = true → s.tstate k.toNat ≠ 2 → s.tstate k.toNat ≠ 0 →
        tblGet (fun _ => none) s.run.snaps k.toNat = none → ∃ t, exec (.replayRelease k) s = .next t
          ∧ t.regN RUN_REPLOSS = (s.regN RUN_REPLOSS + 1) % 2 ^ 32 ∧ (s.synced = true → t.sstate = SS_SYNCING)))
    ∧ (∀ p : Bool, ∃ t, exec (.resync who p) s = .next t
      ∧ if s.isStandby && s.sstate != SS_BLIND then t.sstate = SS_SYNCING ∧ t.run.resync = true
        else t.bus = ⟨[], false⟩ ∧ Frame CountSel (fun _ => False) s t)
    ∧ (s.isStandby = true → s.sstate = SS_SYNCING → s.linkUp = true → s.run.resync = true →
      ∃ t, exec .resyncComplete s = .next t ∧ t.sstate = SS_SYNCED ∧ t.run.resync = false)
    ∧ (s.flag RUN_CHECKING = true → ∀ (v : Bool) (k : BitVec 5) (core : Bool) (x y : BitVec 64) (a : Bool),
      let b := (s.ownCheck v k.toNat core x y).1
      ∃ t, exec (.selfCheckResult v k ⟨core, x, y⟩ a) s = .next t ∧ t.flag RUN_CHECKING = false
        ∧ (s.isStandby = true → s.synced = true → b = true →
          (a = false → s.eligible = true →
            t.run.taking = some (if v then 1 else 2, if v then 0 else k.toNat, false))
          ∧ (a = true → t.sstate = SS_SYNCING))
        ∧ (s.isStandby = true → s.synced = false ∨ b = false → t.run.taking = s.run.taking
          ∧ (v = true → t.sstate = SS_OFFLINE)
          ∧ (v = false → t.sstate = s.sstate ∧ t.bit RUN_MONEXCL k.toNat = true))
        ∧ (s.isStandby = false → t.role = s.role ∧ t.regN RUN_MONEXCL = s.regN RUN_MONEXCL
          ∧ t.run.after = (if !b && a && s.run.partner.any (fun q => q.sstate == SS_SYNCED)
            then (if v then SS_OFFLINE else SS_SYNCING) else s.run.after)))
    ∧ (∀ p : Bool,
      (s.linkUp = false ∨ s.run.partner.all (fun q => q.mode != s.mode) = true
          ∨ s.isStandby = true ∧ s.sstate ≠ SS_SYNCED
          ∨ s.isStandby = false ∧ s.run.partner.all (fun q => q.role != R_STANDBY || q.sstate != SS_SYNCED) = true →
        ∃ t, exec (.switch who p) s = .next t ∧ t.bus = ⟨[], false⟩ ∧ t.flag (RUN_ERR 2) = true
          ∧ t.role = s.role ∧ t.run.taking = s.run.taking
          ∧ (s.isStandby = true ∨ s.flag SAF_SAFEDEM = false → t.run.tx = s.run.tx))
      ∧ (∀ q ∈ s.run.partner.toList, s.linkUp = true → q.mode = s.mode →
        (s.synced = true → s.eligible = true → ∃ t, exec (.switch who p) s = .next t ∧ t.run.taking = some (6, 0, false)
          ∧ t.flag (RUN_ERR 2) = s.flag (RUN_ERR 2))
        ∧ (s.role = R_PRIMARY → q.role = R_STANDBY → q.sstate = SS_SYNCED → ∃ t, exec (.switch who p) s = .next t
          ∧ (t.run.tx.map (fun f => f.payload.head?)).contains (some 3) = true
            ∧ t.flag (RUN_ERR 2) = s.flag (RUN_ERR 2))))

/-! ### Marigold (11_marigold_time.md) -/

/-- R331 to R337, R344, R346, Table MGD-3: an offset measurement in LOCKED above the step limit steps the counter by its
negative and a smaller one does not; an Announce that wins in FREERUN or HOLDOVER makes its sender the parent, one that
loses makes this clock grandmaster, and a clock of a class up to 127 stays as it is, its port PASSIVE; a lost grandmaster
leads to HOLDOVER; SET steps the counter to its registers or is refused; references come and go; alarms arm and fire; a
read of MGD_TNS captures the seconds. The comparison of Announce data sets, the state decision, and a path delay that
MGD_MPD takes with no parent, are from outside the spec (log 16). -/
def Obligations.MarigoldDisciplineAndAlarms : Prop :=
  ∀ (s : State) (who : Initiator), s.blockRuns 17 = true → s.hasSec SEC_TIME = true → who ∈ [Initiator.ap0, .ap1] → s.mayIssue who = true →
    (∀ (p2 : Bool) (raw : Int), ∀ p ∈ s.mgd.parent.toList, p.1 = (if p2 then 2 else 1) → s.mgdState = G_LOCKED →
      let theta : Int := raw - (s.regN MGD_MPD : Int) - s.asym p.1
      ∃ t, exec (.offsetMeasurement p2 raw) s = .next t ∧ t.mgd.lastMeas = some s.mono
        ∧ if s.stepNs < theta.natAbs then t.mgdNs = ((s.mgdNs : Int) - theta).toNat
            ∧ t.regN MGD_STEPS = (s.regN MGD_STEPS + 1) % 2 ^ 32
          else t.mgdNs = s.mgdNs ∧ t.regN MGD_STEPS = s.regN MGD_STEPS)
    ∧ (∀ a : AnnounceMsg, (announceOf a).domain = fieldAt s.timeSec 2 1 → s.regN 0x20400054 ≠ 0x33 →
      s.mgd.ann = [] → s.mgdState = G_FREERUN ∨ s.mgdState = G_HOLDOVER →
      let better := keyLt (announceOf a).key s.ownAnnounce.key
      ∃ t, exec (.announce false a) s = .next t
        ∧ (s.slaveOnly = true ∨ 127 < s.ownAnnounce.cls ∧ better = true → t.mgdState = G_ACQUIRING
          ∧ t.mgd.parent = some (1, announceOf a) ∧ t.fld MGD_SRC = 1)
        ∧ (s.slaveOnly = false → better = false → t.mgdState = G_MASTER ∧ t.mgd.parent = none
          ∧ t.flag MGD_STAT_SYNC = true)
        ∧ (s.slaveOnly = false → s.ownAnnounce.cls ≤ 127 → better = true → t.mgdState = s.mgdState
          ∧ t.mgd.parent = s.mgd.parent ∧ t.regN 0x20400054 % 16 = 7))
    ∧ (∀ p2 : Bool, ∀ p ∈ s.mgd.parent.toList, p.1 = (if p2 then 2 else 1) → s.mgdState = G_LOCKED →
      s.regN 0x20400054 ≠ 0x33 → ∃ t, exec (.announceTimeout p2) s = .next t ∧ t.mgdState = G_HOLDOVER ∧ t.mgd.parent = none
        ∧ t.flag (MGD_ERR 1) = true ∧ t.fld MGD_SRC = 0)
    ∧ (s.mgd.holding = true → ∃ t, exec .syncHoldExpiry s = .next t ∧ t.flag MGD_STAT_SYNC = false
        ∧ t.mgdState = s.mgdState)
    ∧ (∀ p : Bool, ∃ t, exec (.mgdSet who p) s = .next t
      ∧ if (s.mgdState = G_FREERUN ∨ s.mgdState = G_HOLDOVER ∨ s.mgdState = G_MASTER) ∧ s.regN 0x20400040 < NS then
          t.mgdNs = (s.regN 0x20400044 + s.regN 0x20400048 % 65536 * 2 ^ 32) * NS + s.regN 0x20400040
            ∧ t.regN MGD_STEPS = (s.regN MGD_STEPS + 1) % 2 ^ 32
        else t.mgdNs = s.mgdNs ∧ t.flag (MGD_ERR 4) = true ∧ Frame (fun r => r = 0x20400004 ∨ CountSel r) (fun _ => False) s t)
    ∧ (s.flag MGD_REFOK = true → ∃ t, exec .ref10mLost s = .next t ∧ t.flag MGD_REFOK = false
        ∧ t.flag (MGD_ERR 2) = true)
    ∧ (s.flag MGD_REFOK = false → s.refsel 0 = true → ∃ t, exec .ref10mRestored s = .next t ∧ t.flag MGD_REFOK = true)
    ∧ (∃ t, exec .ppsInEdge s = .next t ∧ t.flag MGD_PPSOK = true ∧ t.regN 0x2040004C = ts32Of s.now
        ∧ t.regN 0x20400050 = unsignedOf 32 (ppsErr s.now))
    ∧ (∃ t, exec .ppsLost s = .next t ∧ t.flag MGD_PPSOK = false ∧ t.flag (MGD_ERR 3) = true)
    ∧ (∀ (p : Bool) (a : BitVec 2) (v : Word), s.now ≤ s.almTarget a.toNat → ∃ t, exec (.alarmArm who p a v) s = .next t
      ∧ t.flag (ALM_ARM a.toNat) = v.getLsbD 0 ∧ t.fld (ALM_TASK a.toNat) = bitsOf v.toNat 12 8
      ∧ t.bus = ⟨[], false⟩ ∧ Frame (fun r => r = almReg a.toNat 0xC ∨ CountSel r) (fun _ => False) s t)
    ∧ (∀ a : BitVec 2, s.flag (ALM_ARM a.toNat) = true → s.almTarget a.toNat ≤ s.now → s.qUsable 58 = true →
      s.qFill 58 < s.qSize 58 → s.regN (almReg a.toNat 8) = 0 → ∃ t, exec (.alarmFire a) s = .next t
        ∧ t.flag (ALM_ARM a.toNat) = false ∧ t.pidx 58 = (s.pidx 58 + 1) % 2 ^ 32)
    ∧ (∃ t, exec (.tnsRead who) s = .next t ∧ t.bus = ⟨leBytes 4 (s.now % NS), false⟩
        ∧ t.regN 0x20400014 = s.now / NS % 2 ^ 32 ∧ t.regN 0x20400018 = s.now / NS / 2 ^ 32 % 65536
        ∧ Frame (fun r => r = 0x20400014 ∨ r = 0x20400018 ∨ CountSel r) (fun _ => False) s t)
    ∧ (∀ (p2 : Bool) (d : Word), s.mgd.parent = none → ∃ t, exec (.pathDelayMeasurement p2 d) s = .next t
        ∧ t.reg MGD_MPD = d ∧ Frame (fun r => r = MGD_MPD) (fun _ => False) s t)

/-! ### CAN controllers (13_can_controllers.md) -/

/-- R376 to R391: what a CAN controller does with frames of the bus, its transmit buffers, detection, errors and bus idle.
A frame is counted, in NORMAL against the receive error count too, then filtered against the list in force at its
arbitration field by the first element that matches: rejected, or put into its FIFO, the buffer and the entry. A frame of
an offered buffer that loses or meets an error stays pending, an error counts 8 in TEC; a request that ends leaves its
status and leaves the pending set. Which buffers are offered is log 73; TEC and REC as the model counts them, and the entry
that counts itself in RSEQ, are logs 19, 74 and 18; an invalid occurrence that ends INVALID outside NORMAL is log 84. -/
def Obligations.CanControllers : Prop :=
  ∀ (s : State) (n : BitVec 2) (b : BitVec 5), s.blockRuns (18 + n.toNat) = true →
    (∀ (id : BitVec 29) (x r f br e old : Bool) (dlc : BitVec 4) (d : List Byte),
      (Instr.canFrameRx n id x r f br e dlc ⟨d, old⟩).wf = true →
      (s.canState n.toNat = C_OFF ∨ s.canBusOff n.toNat = true → exec (.canFrameRx n id x r f br e dlc ⟨d, old⟩) s = .next s)
      ∧ (s.canState n.toNat = C_DETECT → s.canBusOff n.toNat = false →
        ((s.canSt n.toNat).good = 0 → ∃ t, exec (.canFrameRx n id x r f br e dlc ⟨d, old⟩) s = .next t
          ∧ t.regN (canr n.toNat 0x34) = (s.regN (canr n.toNat 0x34) + 1) % 2 ^ 32 ∧ t.canState n.toNat = C_DETECT
          ∧ (t.canSt n.toNat).good = 1)
        ∧ ((s.canSt n.toNat).good ≠ 0 → ∃ t, exec (.canFrameRx n id x r f br e dlc ⟨d, old⟩) s = .next t
          ∧ t.regN (canr n.toNat 0x34) = (s.regN (canr n.toNat 0x34) + 1) % 2 ^ 32 ∧ t.canState n.toNat = C_LISTEN
          ∧ t.flag (CAN_LOCKED n.toNat) = true))
      ∧ (s.canState n.toNat = C_LISTEN ∨ s.canState n.toNat = C_NORMAL ∧ (s.canSt n.toNat).tec ≤ 127 →
        s.canBusOff n.toNat = false → s.isStandby = false → s.sys.eccUe = [] →
        let l := s.canList n.toNat old
        l.1 + 16 * l.2 ≤ 0x700000 →
        let el (i : Nat) := s.mread (l.1 + 16 * i) 16
        ∃ t, exec (.canFrameRx n id x r f br e dlc ⟨d, old⟩) s = .next t
          ∧ t.regN (canr n.toNat 0x34) = (s.regN (canr n.toNat 0x34) + 1) % 2 ^ 32 ∧ t.canState n.toNat = s.canState n.toNat
          ∧ (t.canSt n.toNat).tec = (s.canSt n.toNat).tec
          ∧ (s.canState n.toNat = C_LISTEN → (t.canSt n.toNat).rxc = (s.canSt n.toNat).rxc)
          ∧ (s.canState n.toNat = C_NORMAL → t.fld (CAN_ERRSTATE n.toNat) = 0
            ∧ (t.canSt n.toNat).rxc = if 127 < (s.canSt n.toNat).rxc then 127 else (s.canSt n.toNat).rxc - 1)
          ∧ match (List.range l.2).find? (fun i => filterMatch (el i) id.toNat x) with
            | none => t.regN (canr n.toNat 0x38) = (s.regN (canr n.toNat 0x38) + 1) % 2 ^ 32 ∧ t.mem = s.mem
            | some i =>
              let ctl := fieldAt (el i) 0 1
              if bitOf ctl 4 then t.regN (canr n.toNat 0x38) = (s.regN (canr n.toNat 0x38) + 1) % 2 ^ 32 ∧ t.mem = s.mem
              else
                let k := ofBool (bitOf ctl 3)
                let seq (c : CanSt) := if k = 1 then c.rseq1 else c.rseq0
                let q := 16 + 2 * n.toNat + k
                let rxb := fieldAt (s.canRec n.toNat) (32 + 4 * k) 4
                t.regN (canr n.toNat 0x38) = s.regN (canr n.toNat 0x38) ∧ seq (t.canSt n.toNat) = seq (s.canSt n.toNat) + 1
                  ∧ (bitOf ctl 5 = false → s.qUsable q = true → s.qFill q < s.qSize q → rxb + s.qSize q * 64 ≤ 0x700000 →
                    t.pidx q = (s.pidx q + 1) % 2 ^ 32
                    ∧ t.mread (rxb + s.pidx q % s.qSize q * 64) 64 = padTo 64 d
                    ∧ t.mread (s.qEntry q (s.pidx q)) 16 = leBytes 4 (ts32Of s.now) ++ leBytes 4 (idWord id.toNat x r)
                      ++ leBytes 1 d.length ++ leBytes 1 (ofBool f + ofBool br * 2 + ofBool e * 4) ++ leBytes 1 i
                      ++ leBytes 1 dlc.toNat ++ leBytes 4 (seq (s.canSt n.toNat) + 1))))
    ∧ (s.canState n.toNat = C_DETECT →
      let k := if canNcand (s.canRec n.toNat) ≤ (s.canSt n.toNat).cand + 1 then 0 else (s.canSt n.toNat).cand + 1
      ∃ t, exec (.detectDwellEnd n) s = .next t ∧ (t.canSt n.toNat).cand = k ∧ (t.canSt n.toNat).good = 0
        ∧ t.regN (canr n.toNat 0xC) = (canCand (s.sec SEC_CAN) n.toNat k).1 % 2 ^ 32
        ∧ t.regN (canr n.toNat 0x10) = (canCand (s.sec SEC_CAN) n.toNat k).2 % 2 ^ 32
        ∧ t.canState n.toNat = C_DETECT)
    ∧ (∃ t, exec (.filterScanEnd n) s = .next t ∧ t.flag (FLT_SHFREE n.toNat) = true
      ∧ Frame (fun a => a = canr n.toNat 0x24) (fun _ => False) s t)
    ∧ (s.canPending n.toNat b.toNat = true → s.canState n.toNat = C_NORMAL → s.canBusOff n.toNat = false →
      (∀ o : TxOutcome, (s.canOffer n.toNat).canStarted n.toNat b.toNat o.age.toNat = false →
        ∃ t, exec (.canTxEnd n b o) s = .next t ∧ t.canPending n.toNat b.toNat = true ∧ t.outbox = s.outbox)
      ∧ (∀ age : Word, (s.canOffer n.toNat).canStarted n.toNat b.toNat age.toNat = true →
        (∃ t, exec (.canTxEnd n b ⟨age, .valid⟩) s = .next t ∧ t.canPending n.toNat b.toNat = false
          ∧ t.regN (TB_STATUS n.toNat b.toNat) % 256 = TX_TRANSMITTED
          ∧ t.regN (canr n.toNat 0x3C) = (s.regN (canr n.toNat 0x3C) + 1) % 2 ^ 32
          ∧ (t.canSt n.toNat).tec = (s.canSt n.toNat).tec - 1)
        ∧ (tcOneshot (s.canBuf n.toNat b.toNat).ctl = false → s.bit (canr n.toNat 0x2C) b.toNat = false →
          (s.canBuf n.toNat b.toNat).slotOver = false → (s.canSt n.toNat).leaving = false →
          (∃ t, exec (.canTxEnd n b ⟨age, .lost⟩) s = .next t ∧ t.canPending n.toNat b.toNat = true
            ∧ (t.canBuf n.toNat b.toNat).arbLost = true ∧ t.mem = s.mem)
          ∧ (∃ t, exec (.canTxEnd n b ⟨age, .uncounted⟩) s = .next t ∧ t.canPending n.toNat b.toNat = true
            ∧ (t.canBuf n.toNat b.toNat).errd = true ∧ (t.canSt n.toNat).tec = (s.canSt n.toNat).tec ∧ t.mem = s.mem)
          ∧ ((s.canSt n.toNat).tec + 8 ≤ 255 → ∃ t, exec (.canTxEnd n b ⟨age, .error⟩) s = .next t
            ∧ t.canPending n.toNat b.toNat = true ∧ (t.canBuf n.toNat b.toNat).errd = true
            ∧ (t.canSt n.toNat).tec = (s.canSt n.toNat).tec + 8))
        ∧ (255 < (s.canSt n.toNat).tec + 8 → ∃ t, exec (.canTxEnd n b ⟨age, .error⟩) s = .next t
          ∧ t.canBusOff n.toNat = true ∧ t.canPending n.toNat b.toNat = false
          ∧ t.regN (TB_STATUS n.toNat b.toNat) % 256 = TX_BUS_OFF)
        ∧ (s.bit (canr n.toNat 0x2C) b.toNat = true → ∃ t, exec (.canTxEnd n b ⟨age, .lost⟩) s = .next t
          ∧ t.canPending n.toNat b.toNat = false ∧ t.regN (TB_STATUS n.toNat b.toNat) % 256 = TX_CANCELLED)))
    ∧ (∀ r ∈ (s.schedRec n.toNat b.toNat).toList, s.mode = RUN ∨ s.mode = SAFE → s.canBusOff n.toNat = false →
      s.isStandby = false →
      let f := fieldAt r 2 1
      let ctl := fieldAt r 3 1 % 128 + ofBool (bitOf f 0) * 2 ^ 8 + ofBool (bitOf f 1) * 2 ^ 10
        + ofBool (bitOf f 2) * 2 ^ 11 + ofBool (bitOf f 3) * 2 ^ 13
      (s.canState n.toNat = C_NORMAL → canInvalid ctl = false → ∃ t, exec (.canTxOccurrence n b) s = .next t
        ∧ t.canPending n.toNat b.toNat = true ∧ (t.canBuf n.toNat b.toNat).ctl = ctl
        ∧ (t.canBuf n.toNat b.toNat).data = (s.canBuf n.toNat b.toNat).staging
        ∧ (t.canBuf n.toNat b.toNat).ident = fieldAt r 4 4 % 2 ^ 29 ∧ (t.canBuf n.toNat b.toNat).sched = true
        ∧ Frame (fun a => a = canr n.toNat 0x28 ∨ CountSel a) (fun _ => False) s t)
      ∧ (canInvalid ctl = true → ∃ t, exec (.canTxOccurrence n b) s = .next t
        ∧ t.canPending n.toNat b.toNat = false ∧ t.regN (TB_STATUS n.toNat b.toNat) % 256 = TX_INVALID)
      ∧ (s.canState n.toNat ≠ C_NORMAL → canInvalid ctl = false → ∃ t, exec (.canTxOccurrence n b) s = .next t
        ∧ t.canPending n.toNat b.toNat = false ∧ t.regN (TB_STATUS n.toNat b.toNat) % 256 = TX_RESTRICTED
        ∧ (t.canBuf n.toNat b.toNat).data = (s.canBuf n.toNat b.toNat).staging))
    ∧ (s.canPending n.toNat b.toNat = true →
      ((s.canBuf n.toNat b.toNat).sched = true → s.isStandby = false →
        (∃ t, exec (.canSlotEnd n b false) s = .next t
          ∧ t.canPending n.toNat b.toNat = false ∧ t.regN (TB_STATUS n.toNat b.toNat) % 256 = TX_WITHDRAWN
          ∧ t.regN (canr n.toNat 0x44) = (s.regN (canr n.toNat 0x44) + 1) % 2 ^ 32 ∧ t.flag (CAN_ERR n.toNat 4) = true)
        ∧ (∃ t, exec (.canSlotEnd n b true) s = .next t ∧ (t.canBuf n.toNat b.toNat).slotOver = true
          ∧ Frame (fun _ => False) (fun _ => False) s t))
      ∧ ((s.canBuf n.toNat b.toNat).admitted = true →
        (∃ t, exec (.canAllocationEnd n b false) s = .next t
          ∧ t.canPending n.toNat b.toNat = false ∧ t.regN (TB_STATUS n.toNat b.toNat) % 256 = TX_WITHDRAWN)
        ∧ (∃ t, exec (.canAllocationEnd n b true) s = .next t ∧ (t.canBuf n.toNat b.toNat).slotOver = true
          ∧ Frame (fun _ => False) (fun _ => False) s t)))
    ∧ (s.canBusOff n.toNat = true → (s.canSt n.toNat).recovering = true →
      ∃ t, exec (.busoffRecoveryComplete n) s = .next t ∧ t.canBusOff n.toNat = false ∧ (t.canSt n.toNat).tec = 0
        ∧ (t.canSt n.toNat).rxc = 0 ∧ t.fld (CAN_ERRSTATE n.toNat) = 0)
    ∧ (∀ w : Nat, (s.canSt n.toNat).wait = w → (s.canSt n.toNat).leaving = false →
      (w = C_NORMAL ∨ w = C_LISTEN → ∃ t, exec (.canBusIdle n) s = .next t ∧ t.canState n.toNat = w
        ∧ (t.canSt n.toNat).wait = 0 ∧ t.flag (CAN_IDLE n.toNat) = true
        ∧ Frame (fun a => a = canr n.toNat 0) (fun _ => False) s t)
      ∧ (w = 0 → ∃ t, exec (.canBusIdle n) s = .next t ∧ t.canState n.toNat = s.canState n.toNat
        ∧ (t.canSt n.toNat).offered = ((s.canChoice n.toNat).map (fun k => (some k, s.mono))).toList
        ∧ Frame (fun a => a = canr n.toNat 0) (fun _ => False) s t)
      ∧ (w = C_DETECT → ∃ t, exec (.canBusIdle n) s = .next t ∧ t.canState n.toNat = C_DETECT
        ∧ (t.canSt n.toNat).wait = 0 ∧ (t.canSt n.toNat).cand = 0))
    ∧ ((s.canSt n.toNat).leaving = true → ∃ t, exec (.canBusIdle n) s = .next t ∧ t.canState n.toNat = C_LISTEN
      ∧ t.flag (CAN_FORCED n.toNat) = true ∧ (t.canSt n.toNat).leaving = false)
    ∧ (∀ eight : Bool, s.canState n.toNat = C_NORMAL → s.canBusOff n.toNat = false →
      ((s.canSt n.toNat).tec + 8 ≤ 255 → ∃ t, exec (.canBusError n true eight) s = .next t
        ∧ (t.canSt n.toNat).tec = (s.canSt n.toNat).tec + 8)
      ∧ (255 < (s.canSt n.toNat).tec + 8 → ∃ t, exec (.canBusError n true eight) s = .next t
        ∧ t.canBusOff n.toNat = true
        ∧ t.regN (canr n.toNat 0x48) = (s.regN (canr n.toNat 0x48) + 1) % 2 ^ 32 ∧ t.flag (CAN_ERR n.toNat 1) = true
        ∧ t.canPending n.toNat b.toNat = false)
      ∧ (∃ t, exec (.canBusError n false eight) s = .next t
        ∧ t.regN (canr n.toNat 0x40) = (s.regN (canr n.toNat 0x40) + 1) % 2 ^ 32 ∧ t.flag (CAN_ERR n.toNat 2) = true
        ∧ (t.canSt n.toNat).rxc = (s.canSt n.toNat).rxc + (if eight then 8 else 1)))

/-- R376, R379, R382, R384, R391: what an application core asks of a controller whose window answers. Which buffers have
been offered, and whose start of frame has been sent at a cancellation, are the model's choice (log 73), as is that an
invalid request ends INVALID where another would end RESTRICTED (log 84). -/
def Obligations.CanRequests : Prop :=
  ∀ (s : State) (who : Initiator) (n : BitVec 2) (b : BitVec 5), s.up = true → who ∈ [Initiator.ap0, .ap1] → s.mayIssue who = true →
    s.fld (RGNSTAT 2) ≠ 1 → s.domainShut (8 + n.toNat) = false →
    (s.canBusOff n.toNat = true → ∃ t, exec (.recover who n) s = .next t ∧ (t.canSt n.toNat).recovering = true)
    ∧ (s.canState n.toNat = C_LISTEN → s.isStandby = false → canMode (s.canRec n.toNat) = 1 ∨ canMode (s.canRec n.toNat) = 3 →
      ∃ t, exec (.goNormal who n) s = .next t ∧ (t.canSt n.toNat).wait = C_NORMAL ∧ t.canState n.toNat = C_LISTEN)
    ∧ (s.canState n.toNat = C_LISTEN ∨ s.canState n.toNat = C_NORMAL → s.isStandby = false → s.canBusOff n.toNat = false →
      canMode (s.canRec n.toNat) = 3 → ∃ t, exec (.redetect who n) s = .next t ∧ t.canState n.toNat = C_DETECT
        ∧ t.canPending n.toNat b.toNat = false)
    ∧ (∀ v : Word,
      (bitOf v.toNat 8 = true → s.flag (FLT_READY n.toNat) = false → ∃ t, exec (.canFltctl who n v) s = .next t
        ∧ t.bus = ⟨[], false⟩ ∧ t.flag (FLT_READY n.toNat) = true ∧ t.fld (FLT_SHCOUNT n.toNat) = v.toNat % 256)
      ∧ (bitOf v.toNat 8 = false ∨ s.flag (FLT_READY n.toNat) = true → ∃ t, exec (.canFltctl who n v) s = .next t
        ∧ t.bus = ⟨[], false⟩ ∧ t.regN (canr n.toNat 0x24) = s.regN (canr n.toNat 0x24)))
    ∧ (s.canPending n.toNat b.toNat = false → s.bit (canr n.toNat 0x30) b.toNat = false → s.isStandby = false →
      (canInvalid (s.canBuf n.toNat b.toNat).ctl = true →
        ∃ t, exec (.canTxreq who n (BitVec.ofNat 32 (2 ^ b.toNat))) s = .next t ∧ t.canPending n.toNat b.toNat = false
          ∧ t.regN (TB_STATUS n.toNat b.toNat) % 256 = TX_INVALID)
      ∧ (canInvalid (s.canBuf n.toNat b.toNat).ctl = false → s.canState n.toNat ≠ C_NORMAL →
        ∃ t, exec (.canTxreq who n (BitVec.ofNat 32 (2 ^ b.toNat))) s = .next t ∧ t.canPending n.toNat b.toNat = false
          ∧ t.regN (TB_STATUS n.toNat b.toNat) % 256 = TX_RESTRICTED)
      ∧ (canInvalid (s.canBuf n.toNat b.toNat).ctl = false → s.canState n.toNat = C_NORMAL →
        tcAdmit (s.canBuf n.toNat b.toNat).ctl = false →
        ∃ t, exec (.canTxreq who n (BitVec.ofNat 32 (2 ^ b.toNat))) s = .next t ∧ t.bus = ⟨[], false⟩
          ∧ t.canPending n.toNat b.toNat = true ∧ t.canBuf n.toNat b.toNat = s.canBuf n.toNat b.toNat))
    ∧ (s.canPending n.toNat b.toNat = true → ∀ sof : Word,
      (bitOf sof.toNat b.toNat = true → s.canWasOffered n.toNat b.toNat = true →
        ∃ t, exec (.canTxcancel who n (BitVec.ofNat 32 (2 ^ b.toNat)) sof) s = .next t
          ∧ t.canPending n.toNat b.toNat = true ∧ t.bit (canr n.toNat 0x2C) b.toNat = true)
      ∧ (bitOf sof.toNat b.toNat = false ∨ s.canWasOffered n.toNat b.toNat = false →
        ∃ t, exec (.canTxcancel who n (BitVec.ofNat 32 (2 ^ b.toNat)) sof) s = .next t
          ∧ t.canPending n.toNat b.toNat = false ∧ t.regN (TB_STATUS n.toNat b.toNat) % 256 = TX_CANCELLED))
    ∧ (∀ v : Word,
      (s.canPending n.toNat b.toNat = true → s.bit (canr n.toNat 0x30) b.toNat = false →
        ∃ t, exec (.canTbctlWrite who n b v) s = .next t ∧ t.flag (CAN_ERR n.toNat 3) = true
          ∧ t.canBuf n.toNat b.toNat = s.canBuf n.toNat b.toNat)
      ∧ (s.canPending n.toNat b.toNat = false → s.bit (canr n.toNat 0x30) b.toNat = false →
        ∃ t, exec (.canTbctlWrite who n b v) s = .next t ∧ t.bus = ⟨[], false⟩
          ∧ (t.canBuf n.toNat b.toNat).data = s.tbData n.toNat b.toNat
          ∧ (t.canBuf n.toNat b.toNat).ctl = v.toNat % 2 ^ 7 + bitsOf v.toNat 14 8 * 2 ^ 8)
      ∧ (s.bit (canr n.toNat 0x30) b.toNat = true → ∃ t, exec (.canTbctlWrite who n b v) s = .next t
          ∧ t.bus = ⟨[], false⟩
          ∧ t.canBuf n.toNat b.toNat = { s.canBuf n.toNat b.toNat with staging := s.tbData n.toNat b.toNat }))

/-! ### Ladle (14_ladle_dma.md) -/

/-- R399 to R409: a Ladle channel becomes pending at its occurrence or by an admitted START, is taken in the run order,
runs its descriptors, and ends with a status; while the engine is halted an occurrence ends ENGINE_STOP and a START is
refused. A bus error stops the engine and ends every chain ENGINE_STOP; CLRHALT starts it again. A BLIND
standby has no occurrence (R324). That a START finds no acyclic time, and is refused, while the sequencer does not run
its table is the model's reading (log 12). -/
def Obligations.LadleChains : Prop :=
  ∀ s : State, s.up = true → s.ldlIsolated = false →
    (∀ c : BitVec 5, s.blind = true → exec (.ladleOccurrence c) s = .next s)
    ∧ (∀ c : BitVec 5, s.fld POUR_STATE = P_RUN → s.blind = false → s.ldlKind c.toNat = 1 → s.ldlState c.toNat = 0 →
      (s.flag LDL_HALT = true → ∃ t, exec (.ladleOccurrence c) s = .next t
        ∧ t.ldlState c.toNat = 0 ∧ t.fld (LC_STATUS c.toNat) = LS_ENGINE_STOP)
      ∧ (s.flag LDL_HALT = false → ∃ t, exec (.ladleOccurrence c) s = .next t
        ∧ t.ldlState c.toNat = 1 ∧ t.bit LDL_PEND c.toNat = true ∧ (t.ldlCh c.toNat).runAt = s.seqNow
        ∧ Frame (fun a => a = ldlr c.toNat 0x18 ∨ a = LDL_PEND) (fun _ => False) s t))
    ∧ (∀ c ∈ s.ldlFirst.toList, s.flag LDL_ACTIVE = false → s.flag LDL_HALT = false → s.domain 3 ≠ D_OFF →
      (s.ldlHead c = 0 → ∃ t, exec .chainTake s = .next t
        ∧ t.ldlState c = 0 ∧ t.fld (LC_STATUS c) = LS_ZERO ∧ t.flag LDL_ACTIVE = false)
      ∧ (s.ldlHead c ≠ 0 → s.ldReadFails (s.ldlHead c) = false → s.ldReadFails (s.ldlHead c + 16) = false →
        ∃ t, exec .chainTake s = .next t
        ∧ t.ldlState c = 2 ∧ t.flag LDL_ACTIVE = true ∧ t.fld LDL_ACTCH = c
        ∧ t.ldl.cur = some ⟨s.ldlHead c, s.mread (s.ldlHead c) 32, s.ldCheck c (s.mread (s.ldlHead c) 32)⟩
        ∧ t.mem = s.mem))
    ∧ (∀ x ∈ s.ldl.cur.toList, ∀ c : Nat, s.fld LDL_ACTCH = c → s.ldlState c = 2 → (s.ldlCh c).stop = 0 →
      16 ≤ fieldAt (s.ldlRec c) 2 1 → s.ldFirstUe x.bytes = none → ldNext x.bytes = 0 →
      (x.status = LS_DONE → ldDstArea (ldDst x.bytes) (ldCount x.bytes) ≠ 0 → ∃ t, exec .descriptorEnd s = .next t
        ∧ t.mread (ldDst x.bytes) (ldCount x.bytes) = s.ldData x.bytes (ldCount x.bytes)
        ∧ (∀ a, ¬ (ldDst x.bytes ≤ a ∧ a < ldDst x.bytes + ldCount x.bytes) → t.mget a = s.mget a)
        ∧ t.fld (LC_STATUS c) = LS_DONE ∧ t.regN (ldlr c 0x1C) = ldCount x.bytes % 2 ^ 32 ∧ t.ldlState c = 0
        ∧ t.flag LDL_ACTIVE = false ∧ t.ldl.cur = none)
      ∧ (x.status = LS_EQUAL → ∃ t, exec .descriptorEnd s = .next t ∧ t.mem = s.mem ∧ t.ldlState c = 0
        ∧ t.fld (LC_STATUS c) = if s.mread (ldSrc x.bytes) (ldCount x.bytes) = s.mread (ldDst x.bytes) (ldCount x.bytes)
          then LS_EQUAL else LS_MISMATCH))
    ∧ (∀ (a : BitVec 36) (d : Word), s.flag LDL_HALT = false → ∃ t, exec (.ladleBusError a d) s = .next t
      ∧ t.flag LDL_HALT = true ∧ t.flag (LDL_ERR 0) = true ∧ t.regN LDL_BERRADDR = a.toNat / 16
      ∧ t.regN LDL_STOPS = (s.regN LDL_STOPS + 1) % 2 ^ 32
      ∧ (∀ c : Nat, c < 32 → s.ldlState c = 1 → t.ldlState c = 0 ∧ t.fld (LC_STATUS c) = LS_ENGINE_STOP))
    ∧ (∀ (who : Initiator) (c : BitVec 5), who ∈ [Initiator.ap0, .ap1] → s.mayIssue who = true → s.domainShut 3 = false →
      (s.ldlKind c.toNat ≠ 2 ∨ s.ldlState c.toNat ≠ 0 → ∃ t, exec (.start who c) s = .next t
        ∧ t.bus = ⟨[], false⟩ ∧ t.flag (LDL_ERR 1) = true ∧ t.ldlState c.toNat = s.ldlState c.toNat)
      ∧ (s.ldlKind c.toNat = 2 → s.ldlState c.toNat = 0 → s.flag LDL_HALT = true ∨ s.fld POUR_STATE ≠ P_RUN →
        ∃ t, exec (.start who c) s = .next t
        ∧ t.ldlState c.toNat = 0 ∧ t.fld (LC_STATUS c.toNat) = LS_REFUSED ∧ t.flag (LDL_ERR 5) = true)
      ∧ (s.ldlKind c.toNat = 2 → s.ldlState c.toNat = 0 → s.flag LDL_HALT = false → s.fld POUR_STATE = P_RUN →
        (s.ladleFind (s.regN (ldlr c.toNat 0x10)) (s.regN (ldlr c.toNat 0x14))).isSome = true →
        ∃ t, exec (.start who c) s = .next t ∧ t.bus = ⟨[], false⟩
        ∧ t.ldlState c.toNat = 1 ∧ t.bit LDL_PEND c.toNat = true)
      ∧ (s.ldlState c.toNat = 1 → ∃ t, exec (.abort who c) s = .next t ∧ t.ldlState c.toNat = 0
        ∧ t.fld (LC_STATUS c.toNat) = LS_ABORTED ∧ t.flag (LDL_ERR 6) = true)
      ∧ (s.ldlState c.toNat = 2 → ∃ t, exec (.abort who c) s = .next t ∧ t.bus = ⟨[], false⟩
        ∧ t.ldlState c.toNat = 2 ∧ (t.ldlCh c.toNat).stop = LS_ABORTED)
      ∧ (s.flag LDL_HALT = true → ∃ t, exec (.clrhalt who) s = .next t ∧ t.bus = ⟨[], false⟩ ∧ t.flag LDL_HALT = false
        ∧ ∀ k : Nat, k < 32 → t.ldlState k = s.ldlState k))

/-! ### Counters and the event recorder (15_event_recorder.md, 16_performance_counters.md) -/

/-- R437 to R444: a window end of 10 µs or more latches the counters and applies what was staged, a shorter one goes on;
writes of PMC_WIN and PMC_CnSEL wait for it, and one outside Table PMC-1 is ignored with BADCFG; task code reads what
PMC_ACCESS grants and never writes; a read of PMC_CnLO captures PMC_CnHI; every other initiator gets a slave error. -/
def Obligations.CounterCollector : Prop :=
  ∀ s : State, s.up = true → s.pmcIsolated = false →
    (∀ x : PmcAdds, s.flag PMC_RUNNING = true →
      ((s.mono - s.pmc.since) / 1000 < 10 → ∃ t, exec (.pmcWindowEnd x) s = .next t
        ∧ t.regN 0x20900010 = s.regN 0x20900010 ∧ t.pmc.since = s.pmc.since ∧ Frame CountSel (fun _ => False) s t)
      ∧ (10 ≤ (s.mono - s.pmc.since) / 1000 → ∃ t, exec (.pmcWindowEnd x) s = .next t
        ∧ t.regN 0x20900010 = (s.regN 0x20900010 + 1) % 2 ^ 32
        ∧ t.regN 0x20900014 = (s.mono - s.pmc.since) / 1000 % 2 ^ 32
        ∧ t.flag PMC_IRREG = ((s.mono - s.pmc.since) / 1000 != s.regN PMC_WIN)
        ∧ (∀ n : Nat, n < 128 → t.get48 (0x20902000 + 8 * n) = (s.pmcSum x).pmcCnt n % 2 ^ 48)
        ∧ (∀ w ∈ s.pmc.stWin.toList, t.regN PMC_WIN = w % 2 ^ 32) ∧ t.pmc.stWin = none ∧ t.pmc.stSel = []
        ∧ t.flag PMC_STAGED = false ∧ t.pmc.since = s.mono))
    ∧ (∀ (who : Initiator) (v : Word), s.mayIssue who = true →
      (who ∈ [Initiator.ap0, .ap1, .cope] →
        (10 ≤ v.toNat → v.toNat ≤ 10000000 → ∃ t, exec (.pmcStagedWrite who true 8 v) s = .next t
          ∧ t.bus = ⟨[], false⟩ ∧ t.pmc.stWin = some v.toNat ∧ t.flag PMC_STAGED = true
          ∧ Frame (fun a => a = 0x20900000 ∨ CountSel a) (fun _ => False) s t)
        ∧ (v.toNat < 10 ∨ 10000000 < v.toNat → ∃ t, exec (.pmcStagedWrite who true 8 v) s = .next t
          ∧ t.bus = ⟨[], false⟩ ∧ t.pmc.stWin = s.pmc.stWin ∧ t.flag (PMC_ERR 2) = true
          ∧ Frame (fun a => a = 0x20900004 ∨ CountSel a) (fun _ => False) s t)
        ∧ (∀ n : BitVec 7, pmcSelOk (n.toNat / 8) (v.toNat % 256) (v.toNat / 256 % 256) = true →
          ∃ t, exec (.pmcStagedWrite who true (BitVec.ofNat 16 (0x800 + 4 * n.toNat)) v) s = .next t
          ∧ t.bus = ⟨[], false⟩ ∧ (n, v.toNat % 65536) ∈ t.pmc.stSel ∧ t.flag PMC_STAGED = true
          ∧ t.fld ⟨pmcSel n.toNat, 15, 0⟩ = s.fld ⟨pmcSel n.toNat, 15, 0⟩
          ∧ (bitOf v.toNat 17 = true → t.bit (pmcSel n.toNat) 17 = false)
          ∧ Frame (fun a => a = 0x20900000 ∨ CountSel a) (fun _ => False) s t)
        ∧ (∀ n : BitVec 7, pmcSelOk (n.toNat / 8) (v.toNat % 256) (v.toNat / 256 % 256) = false →
          ∃ t, exec (.pmcStagedWrite who true (BitVec.ofNat 16 (0x800 + 4 * n.toNat)) v) s = .next t
          ∧ t.bus = ⟨[], false⟩ ∧ t.pmc.stSel = s.pmc.stSel ∧ t.flag (PMC_ERR 2) = true
          ∧ Frame (fun a => a = 0x20900004 ∨ CountSel a) (fun _ => False) s t))
      ∧ (who ∉ [Initiator.ap0, .ap1, .cope] → ∀ (priv : Bool) (off : BitVec 16),
        ∃ t, exec (.pmcStagedWrite who priv off v) s = .next t ∧ t.bus = ⟨[], true⟩
          ∧ Frame CountSel (fun _ => False) s t))
    ∧ (∀ (off : BitVec 16) (v : Word), ∃ t, exec (.pmcTaskAccess off (some v)) s = .next t
      ∧ t.flag (PMC_ERR 1) = true ∧ t.bus = ⟨[0, 0, 0, 0], false⟩ ∧ t.pmc.stWin = s.pmc.stWin ∧ t.pmc.stSel = s.pmc.stSel)
    ∧ (∀ off : BitVec 16,
      (s.bit PMC_ACCESS (pmcGrant off.toNat) = true → off.toNat < 0x1000 ∨ 0x1400 ≤ off.toNat →
        ∃ t, exec (.pmcTaskAccess off none) s = .next t
        ∧ t.bus = ⟨leBytes 4 (t.regN (0x20900000 + off.toNat)), false⟩ ∧ Frame CountSel (fun _ => False) s t)
      ∧ (s.bit PMC_ACCESS (pmcGrant off.toNat) = true → 0x1000 ≤ off.toNat → off.toNat < 0x1400 → off.toNat % 8 = 0 →
        ∃ t, exec (.pmcTaskAccess off none) s = .next t
        ∧ t.bus = ⟨leBytes 4 (t.pmcCnt ((off.toNat - 0x1000) / 8)), false⟩ ∧ Frame CountSel (fun _ => False) s t)
      ∧ (s.bit PMC_ACCESS (pmcGrant off.toNat) = false → ∃ t, exec (.pmcTaskAccess off none) s = .next t
        ∧ t.bus = ⟨[0, 0, 0, 0], false⟩ ∧ t.flag (PMC_ERR 1) = true))
    ∧ (∀ (who : Initiator) (n : BitVec 7), s.mayIssue who = true →
      (who ∈ [Initiator.ap0, .ap1, .cope] → ∃ t, exec (.pmcCounterRead who n) s = .next t
        ∧ t.bus = ⟨leBytes 4 (t.pmcCnt n.toNat), false⟩
        ∧ tblGet (fun _ => none) t.pmc.hi n.toNat = some (BitVec.ofNat 32 (t.pmcCnt n.toNat / 2 ^ 32))
        ∧ Frame CountSel (fun _ => False) s t)
      ∧ (who ∉ [Initiator.ap0, .ap1, .cope] → ∃ t, exec (.pmcCounterRead who n) s = .next t
        ∧ t.bus = ⟨[0, 0, 0, 0], true⟩ ∧ Frame CountSel (fun _ => False) s t))

/-- R418 to R424: GO of a post buffer by its owner starts a post, unless one is in progress, and another initiator gets a
slave error; the recorder serves its sources in round robin, and a record offered is accepted with the next SEQ, or
suppressed by its class; a post ends with its RESULT; summaries, the staging tail and its run of losses, and flash
(notices of the recorder itself: log 25). -/
def Obligations.RecorderAccepts : Prop :=
  ∀ s : State, s.up = true → s.flag EVR_RUNNING = true → s.evrIsolated = false →
    (s.sys.eccUe = [] → recsLen s.evr.staging + 1024 ≤ 0x10000 → ∀ i ∈ (s.evrNext s.evr.turn).toList, i < 5 →
      let e := if i = 4 then s.evr.port.headD [] else s.mread (s.qEntry (48 + i) (s.cidx (48 + i))) (esizeBytes (s.qEsize (48 + i)))
      let k := s.codeClass (fieldAt e 0 2)
      let b := s.bucket k
      (codeOwned (fieldAt e 0 2) = false → ∃ t, exec .ingestEntry s = .next t ∧ t.evr.turn = (i + 1) % 8
        ∧ t.evr.staging = s.evr.staging ∧ t.regN EVR_NEXTSEQ = s.regN EVR_NEXTSEQ)
      ∧ (codeOwned (fieldAt e 0 2) = true →
        (k = 63 ∨ NS ≤ min ((s.classRate k).2 * NS) (b.tok + (s.monoUs - b.last) * (s.classRate k).1) →
          ∃ t, exec .ingestEntry s = .next t ∧ t.evr.turn = (i + 1) % 8
          ∧ t.evr.staging.length = s.evr.staging.length + 1 ∧ t.regN EVR_NEXTSEQ = (s.regN EVR_NEXTSEQ + 1) % 2 ^ 32
          ∧ (t.evr.staging.getLast?.map (fun r => (r.code, r.seq))) = some (fieldAt e 0 2, s.regN EVR_NEXTSEQ))
        ∧ (k ≠ 63 → min ((s.classRate k).2 * NS) (b.tok + (s.monoUs - b.last) * (s.classRate k).1) < NS →
          ∃ t, exec .ingestEntry s = .next t ∧ t.evr.turn = (i + 1) % 8 ∧ t.evr.staging = s.evr.staging
          ∧ t.regN EVR_SUPPTOT = (s.regN EVR_SUPPTOT + 1) % 2 ^ 32 ∧ (t.bucket k).supp = b.supp + 1)))
    ∧ (recsLen s.evr.staging + 1024 ≤ 0x10000 → ∀ j : Fin 3, s.evrNext s.evr.turn = some (5 + j.val) →
      let g := s.regBytes (evrPostBuf j.val) 256
      let k := s.codeClass (fieldAt g 2 2)
      let b := s.bucket k
      let bad := postCodeOk j.val (fieldAt g 2 2) = false ∨ fieldAt g 0 2 < 24 ∨ 1024 < fieldAt g 0 2 ∨ fieldAt g 0 2 % 4 ≠ 0
      let full := k = 63 ∨ NS ≤ min ((s.classRate k).2 * NS) (b.tok + (s.monoUs - b.last) * (s.classRate k).1)
      (bad → ∃ t, exec .ingestEntry s = .next t ∧ t.flag (POST_BUSY j.val) = false
        ∧ t.fld (POST_RESULT j.val) = 2 ∧ t.evr.staging = s.evr.staging)
      ∧ (¬ bad → full → ∃ t, exec .ingestEntry s = .next t ∧ t.flag (POST_BUSY j.val) = false
        ∧ t.fld (POST_RESULT j.val) = 0 ∧ t.evr.staging.length = s.evr.staging.length + 1
        ∧ (t.evr.staging.getLast?.map (fun r => (r.code, r.src, r.seq)))
          = some (fieldAt g 2 2, postSrc j.val, s.regN EVR_NEXTSEQ))
      ∧ (¬ bad → ¬ full → ∃ t, exec .ingestEntry s = .next t ∧ t.flag (POST_BUSY j.val) = false
        ∧ t.fld (POST_RESULT j.val) = 1 ∧ t.evr.staging = s.evr.staging))
    ∧ (∀ (who : Initiator) (i : Fin 3) (keep : Bool), s.mayIssue who = true →
      (postOwner i.val who = false → ∃ t, exec (.post who i keep) s = .next t ∧ t.bus = ⟨[], true⟩
        ∧ Frame CountSel (fun _ => False) s t)
      ∧ (postOwner i.val who = true → s.flag (POST_BUSY i.val) = false → ∃ t, exec (.post who i keep) s = .next t
        ∧ t.bus = ⟨[], false⟩ ∧ t.flag (POST_BUSY i.val) = true ∧ t.flag (POST_KEEPTS i.val) = keep
        ∧ t.postAt i.val = some (s.now, s.flag MGD_STAT_SYNC) ∧ t.evr.staging = s.evr.staging
        ∧ Frame (fun a => a = evrPostReg i.val ∨ CountSel a) (fun _ => False) s t)
      ∧ (postOwner i.val who = true → s.flag (POST_BUSY i.val) = true → ∃ t, exec (.post who i keep) s = .next t
        ∧ t.bus = ⟨[], false⟩ ∧ t.evr = s.evr ∧ Frame CountSel (fun _ => False) s t))
    ∧ (∀ k : BitVec 6, 0x10000 < recsLen s.evr.staging + 1024 → exec (.summaryRecord k) s = .next s)
    ∧ (∀ k : BitVec 6, k ≠ 63 → (s.bucket k.toNat).supp ≠ 0 → (s.bucket k.toNat).acc + 10000000 ≤ s.monoUs →
      recsLen s.evr.staging + 1024 ≤ 0x10000 → ∃ t, exec (.summaryRecord k) s = .next t ∧ (t.bucket k.toNat).supp = 0 ∧ (t.bucket k.toNat).acc = s.monoUs
        ∧ (t.evr.staging.getLast?.map (fun r => (r.code, r.src, r.supp))) = some (0x155, 0x6FF, min (s.bucket k.toNat).supp 255))
    ∧ (∀ r ∈ s.evr.staging.head?.toList, s.evr.hold = false →
      (s.evr.lossRun = 0 → recsLen s.evr.tail + recLen r.payload ≤ TAIL_BYTES → ∃ t, exec .tailCopy s = .next t
        ∧ t.evr.staging = s.evr.staging.tail ∧ t.evr.tail = s.evr.tail ++ [r])
      ∧ (s.evr.lossRun ≠ 0 → recsLen s.evr.tail + 28 + recLen r.payload ≤ TAIL_BYTES → ∃ t, exec .tailCopy s = .next t
        ∧ t.evr.staging = s.evr.staging.tail ∧ t.evr.lossRun = 0
        ∧ ∃ x : Record, x.code = 0x150 ∧ t.evr.tail = s.evr.tail ++ [x, r])
      ∧ (TAIL_BYTES < recsLen s.evr.tail + (if s.evr.lossRun = 0 then recLen r.payload else 28 + recLen r.payload) →
        ∃ t, exec .tailCopy s = .next t ∧ t.evr.staging = s.evr.staging.tail ∧ t.evr.tail = s.evr.tail
        ∧ t.regN EVR_LOST = (s.regN EVR_LOST + 1) % 2 ^ 32 ∧ t.evr.lossRun = s.evr.lossRun + 1))
    ∧ (∀ n : BitVec 16, s.evr.hold = false → s.evr.lossRun = 0 →
      (∃ t, exec (.flashWrite n false) s = .next t ∧ t.evr.tail = s.evr.tail.drop n.toNat
        ∧ t.evr.staging = s.evr.staging ∧ t.mem = s.mem
        ∧ ∀ r ∈ ((s.evr.tail.take n.toNat).getLast?).toList,
          let p := if s.partUsed r.part then r.part else 0
          1 ≤ s.evr.layout.getD p 0 → (t.part p).held.getLast? = some r)
      ∧ (∃ t, exec (.flashWrite n true) s = .next t
        ∧ t.evr.tail = s.evr.tail.drop n.toNat ∧ t.regN EVR_BADBLK = (s.regN EVR_BADBLK + 1) % 2 ^ 32))

/-- R426 to R428: a cursor command of the cursor's initiator moves it and empties its window, a fill shows whole records
from there on, and only the cope processor with the management privilege clears partitions. That the record of a clear goes
straight to flash where staging has no room is the model's choice (log 25). -/
def Obligations.RecorderReads : Prop :=
  ∀ (s : State) (who : Initiator) (k : Fin 4) (p : BitVec 2), s.up = true → s.mayIssue who = true →
    (cursorOwner k.val who = false → ∃ t, exec (.oldest who k p) s = .next t ∧ t.bus = ⟨[], true⟩
      ∧ Frame CountSel (fun _ => False) s t)
    ∧ (cursorOwner k.val who = true → s.flag (CK_READY k.val) = false → ∃ t, exec (.newest who k p) s = .next t
      ∧ t.evr = s.evr ∧ Frame CountSel (fun _ => False) s t)
    ∧ (cursorOwner k.val who = true → s.flag (CK_READY k.val) = true →
      (∃ t, exec (.oldest who k p) s = .next t ∧ (t.cursor k.val).ord = (s.part p.toNat).oldest
        ∧ t.flag (CK_READY k.val) = false ∧ t.fld (CK_PART k.val) = p.toNat ∧ t.reg (evrWin k.val) = 0
        ∧ t.evr.parts = s.evr.parts)
      ∧ (∃ t, exec (.seq who k p) s = .next t ∧ t.flag (CK_READY k.val) = false
        ∧ (t.cursor k.val).ord = (s.part p.toNat).findNo (fun r =>
          decide ((s.regN (evrC k.val 4) + 2 ^ 32 - ((s.part p.toNat).held.head?.map (fun x => x.seq)).getD 0) % 2 ^ 32
            ≤ (r.seq + 2 ^ 32 - ((s.part p.toNat).held.head?.map (fun x => x.seq)).getD 0) % 2 ^ 32)))
      ∧ (∃ t, exec (.time who k p) s = .next t ∧ t.flag (CK_READY k.val) = false
        ∧ (t.cursor k.val).ord = (s.part p.toNat).findNo (fun r => decide (s.regN (evrC k.val 4) ≤ r.tsS)))
      ∧ (∃ t, exec (.newest who k p) s = .next t ∧ t.flag (CK_READY k.val) = false
        ∧ (∀ e ∈ (s.part p.toNat).numbered.getLast?.toList, (t.cursor k.val).ord = e.1))
      ∧ (∃ t, exec (.advance who k) s = .next t ∧ t.flag (CK_READY k.val) = false
        ∧ t.fld (CK_PART k.val) = s.fld (CK_PART k.val)
        ∧ ((s.part (s.fld (CK_PART k.val))).lostFrom (s.cursor k.val).ord = none →
          ∀ e ∈ ((((s.part (s.fld (CK_PART k.val))).numbered.filter (fun e => decide ((s.cursor k.val).ord ≤ e.1))).drop
            (s.cursor k.val).shown).head?).toList, (t.cursor k.val).ord = e.1)))
    ∧ ((s.cursor k.val).filling = true → s.evrIsolated = false → ∃ t, exec (.cursorFillDone k 0) s = .next t
      ∧ t.flag (CK_READY k.val) = true ∧ (t.cursor k.val).filling = false ∧ (t.cursor k.val).ord = (s.cursor k.val).ord
      ∧ t.flag (CK_EMPTY k.val) = decide ((t.cursor k.val).shown = 0)
      ∧ t.regN (evrC k.val 0x10) ≤ 4096 ∧ t.evr.parts = s.evr.parts)
    ∧ (∀ (priv : Bool) (m : BitVec 4),
      (who ≠ .cope ∨ priv = false → ∃ t, exec (.partitionClear who priv m) s = .next t ∧ t.bus = ⟨[], true⟩
        ∧ Frame CountSel (fun _ => False) s t)
      ∧ (who = .cope → priv = true → s.flag EVR_RUNNING = true → m.toNat.testBit p.toNat = true →
        s.partUsed p.toNat = true → ∃ t, exec (.partitionClear who priv m) s = .next t
        ∧ t.flag (EVR_CLRBUSY p.toNat) = true ∧ (t.evr.tail.any (fun r => r.part == p.toNat)) = false
        ∧ (recsLen s.evr.staging + 128 ≤ 0x10000 → (t.part p.toNat).held = []
          ∧ (t.evr.staging.any (fun r => r.code == 0x151 && r.part == p.toNat)) = true)
        ∧ (m.toNat = 2 ^ p.toNat → 1 ≤ s.evr.layout.getD p.toNat 0 →
          0x10000 < recsLen (s.evr.staging.filter (fun r => r.part != p.toNat)) + 32 →
          (t.part p.toNat).held.map (fun r => r.code) = [0x151])))
    ∧ (∃ t, exec (.partitionClearDone p) s = .next t ∧ t.flag (EVR_CLRBUSY p.toNat) = false
      ∧ Frame (fun a => a = 0x20800000) (fun _ => False) s t)

/-! ### The supply, the Riser bank and the save (18_power_holdup.md) -/

/-- R457 to R464, R470, R474: the feeds, hold-up and its end, the Riser bank, its health test and its extension, and the
measurements. That the charging time of the extension is taken between two measurements is the model's choice (log 76). -/
def Obligations.SupplyAndRiser : Prop :=
  ∀ s : State, s.pwr.on = true →
    (∀ (b : Bool) (mv : Int), ∃ t, exec (.feedChange b mv) s = .next t ∧ t.flag (FEED (ofBool b)) = decide (18000 ≤ mv)
      ∧ t.flag (FREV (ofBool b)) = decide (mv < -1000)
      ∧ (s.flag (FEED (ofBool b)) = true → mv < 18000 → t.flag (PWR_ERR 0) = true)
      ∧ (s.flag (FREV (ofBool b)) = false → mv < -1000 → t.flag (PWR_ERR 4) = true)
      ∧ Frame (fun a => a = 0x20B00000 ∨ a = 0x20B00004 ∨ a = 0x20800010 ∨ a = 0x20800004) (fun _ => False) s t)
    ∧ (∃ t, exec .overvoltage s = .next t ∧ t.flag PWR_OVER = true ∧ t.flag (PWR_ERR 5) = true ∧ t.mem = s.mem)
    ∧ (∀ b : Bool, (∃ t, exec (.inputDisconnect b) s = .next t ∧ t.pwr.disc.testBit (ofBool b) = true
        ∧ t.regs = s.regs ∧ t.mem = s.mem)
      ∧ (∃ t, exec (.inputReconnect b) s = .next t ∧ t.pwr.disc.testBit (ofBool b) = false
        ∧ t.regs = s.regs ∧ t.mem = s.mem))
    ∧ (s.fld PWR_STATE = W_NORMAL → ∃ t, exec .holdupEntry s = .next t ∧ t.fld PWR_STATE = W_HOLDUP
      ∧ t.flag (PWR_ERR 1) = true ∧ t.regN 0x20B00028 = (s.regN 0x20B00028 + 1) % 2 ^ 32 ∧ t.pwr.holdAt = s.mono
      ∧ t.mem = s.mem ∧ t.mode = s.mode)
    ∧ (s.fld PWR_STATE = W_HOLDUP →
      (∃ t, exec .feedRestored s = .next t ∧ t.fld PWR_STATE = W_NORMAL ∧ t.fld PWR_RSTATE = R_CHARGING
        ∧ t.regN 0x20B0002C = min ((s.mono - s.pwr.holdAt) / 1000000) 0xFFFFFFFF ∧ t.mem = s.mem)
      ∧ (∀ vr : BitVec 16, s.pwr.save = none → ∃ t, exec (.saveTrigger vr) s = .next t ∧ t.fld PWR_STATE = W_SAVE
        ∧ (t.pwr.save.map (fun v => (v.cause, v.vr))) = some (1, vr.toNat) ∧ t.flag EVR_RUNNING = false))
    ∧ (s.fld PWR_RSTATE = R_CHARGING → ∃ t, exec .bankCharged s = .next t ∧ t.pwr.tested = true
      ∧ t.fld PWR_RSTATE = (if s.pwr.tested then R_CHARGED else R_TESTING)
      ∧ Frame (fun a => a = 0x20B00000) (fun _ => False) s t)
    ∧ (∃ t, exec .chargerFault s = .next t ∧ t.fld PWR_RSTATE = R_FAULT ∧ t.flag (PWR_ERR 3) = true
      ∧ t.flag PWR_RISEROK = false ∧ t.mem = s.mem)
    ∧ (s.fld PWR_RSTATE = R_FAULT → ∃ t, exec .chargerRetry s = .next t ∧ t.fld PWR_RSTATE = R_CHARGING
      ∧ Frame (fun a => a = 0x20B00000) (fun _ => False) s t)
    ∧ (∀ who ∈ [Initiator.ap0, .ap1, .cope], s.up = true → s.mayIssue who = true → ∃ t, exec (.rtest who) s = .next t
      ∧ if s.mode = STOP ∧ s.fld PWR_RSTATE = R_CHARGED then t.fld PWR_RSTATE = R_TESTING
          ∧ Frame (fun a => a = 0x20B00000 ∨ CountSel a) (fun _ => False) s t
        else t.flag (PWR_ERR 6) = true ∧ Frame (fun a => a = 0x20B00004 ∨ CountSel a) (fun _ => False) s t)
    ∧ (∀ step fall : Word, s.fld PWR_RSTATE = R_TESTING → ∃ t, exec (.healthTestComplete step fall) s = .next t
      ∧ t.flag PWR_RISEROK = (decide (6600 * fall.toNat ≤ 10000000000) && decide (step.toNat ≤ 50000))
      ∧ t.fld PWR_RSTATE = R_CHARGING ∧ t.regN 0x20B0001C = min (step.toNat / 500) 65535
      ∧ (t.flag PWR_RISEROK = false → t.flag (PWR_ERR 2) = true) ∧ t.mem = s.mem)
    ∧ (∀ cap : BitVec 16, ∃ t, exec (.extensionCharged cap) s = .next t ∧ t.fld PWR_RCAP_EXT = cap.toNat
      ∧ t.flag PWR_EXTPRES = decide (100 ≤ cap.toNat) ∧ t.flag PWR_EXTOK = decide (100 ≤ cap.toNat)
      ∧ t.flag PWR_EXTREV = false ∧ t.mem = s.mem)
    ∧ (∃ t, exec .extensionFault s = .next t ∧ t.flag PWR_EXTREV = true ∧ t.flag PWR_EXTOK = false ∧ t.mem = s.mem)
    ∧ (∀ (vin vr vext pin chg : BitVec 16) (fa fb : Int), ∃ t, exec (.pwrMeasure vin fa fb vr vext pin chg) s = .next t
      ∧ t.regN 0x20B0000C = vin.toNat ∧ t.regN 0x20B00014 = vr.toNat + vext.toNat * 65536 ∧ t.regN 0x20B00020 = pin.toNat
      ∧ t.regN 0x20B00024 = rideMs (s.fld PWR_RCAP_INT + (if s.flag PWR_EXTOK then s.fld PWR_RCAP_EXT * 10 else 0)) vr.toNat pin.toNat
      ∧ (s.dragUp = true → t.pwr.limit = some (6000 - (pin.toNat - chg.toNat)))
      ∧ (∀ t0 ∈ s.pwr.extAt.toList, s.flag PWR_EXTOK = false → 40000 ≤ vext.toNat →
        let cap := min ((s.mono - t0) / 3000000) 65535
        t.fld PWR_RCAP_EXT = cap ∧ t.flag PWR_EXTPRES = decide (100 ≤ cap) ∧ t.flag PWR_EXTOK = false)
      ∧ t.mem = s.mem)

/-- R61, R467: a save that was triggered by the bank, or that ends without V_IN, turns the module OFF; any other save
ends in a reset, held while RST_IN# is low; the rise of RST_IN# starts the module again. -/
def Obligations.SavesEnd : Prop :=
  ∀ s : State, s.pwr.on = true →
    (∀ v ∈ s.pwr.save.toList, ∀ done vin : Bool,
      (v.cause = 1 ∨ vin = false → ∃ t, exec (.saveComplete done vin) s = .next t ∧ t.pwr.on = false ∧ t.pwr.save = none
        ∧ t.mode = State.reset.mode ∧ t.pat.key0 = s.pat.key0 ∧ t.pat.key1 = s.pat.key1)
      ∧ (v.cause ≠ 1 → vin = true → s.pwr.rstHeld = true → ∃ t, exec (.saveComplete done vin) s = .next t
        ∧ t.pwr.on = true ∧ t.pwr.inReset = true ∧ t.pwr.save = none ∧ t.fld PWR_STATE = W_NORMAL
        ∧ t.pwr.cause = (if v.cause = 3 then 1 else 2))
      ∧ (v.cause ≠ 1 → vin = true → s.pwr.rstHeld = false → ∃ t, exec (.saveComplete done vin) s = .next t
        ∧ t.pwr.on = true ∧ t.pwr.inReset = false ∧ t.pwr.save = none ∧ t.mode = STARTING))
    ∧ (s.pwr.rstHeld = true → s.pwr.inReset = true → s.fld PWR_STATE = W_NORMAL →
      ∃ t, exec .rstInRelease s = .next t ∧ t.pwr.rstHeld = false ∧ t.pwr.inReset = false ∧ t.mode = STARTING)
    ∧ (s.pwr.rstHeld = true → s.pwr.inReset = true → s.fld PWR_STATE ≠ W_NORMAL →
      ∃ t, exec .rstInRelease s = .next t ∧ t.pwr.rstHeld = false ∧ t.pwr.inReset = true)

/-! ### The switch and Pourline (12_network_pourline.md) -/

/-- R347 to R350: link changes, of which a disabled port gains none; the forwarding of a received frame by MAC address and
VID with its source learned, out of the ports whose gates are open, while others wait; PRP does not bridge its LANs, and HSR
removes the module's own frames; ageing of learned entries, dropped transit frames, and the paths of a redundant network.
That a frame waits for its gate and behind its class, and which transit frame is dropped, are the model's choice (log 70).
-/
def Obligations.SwitchForwards : Prop :=
  ∀ s : State, s.blockRuns 15 = true →
    (∀ p2 up : Bool, let p := if p2 then 2 else 1
      ∃ t, exec (.portLinkChange p2 up) s = .next t
      ∧ (s.flag (NET_UP p) = up ∨ up = true ∧ s.portEn p = false → t = s)
      ∧ (up = false ∨ s.portEn p = true → t.flag (NET_UP p) = up)
      ∧ (s.flag (NET_UP p) = true → up = false → t.flag (NET_ERR 0) = true))
    ∧ (∀ b ok : Bool, ∃ t, exec (.redundantPathChange b ok) s = .next t
      ∧ (s.redMode ≠ 0 → t.flag (NET_PATH (ofBool b)) = ok
        ∧ (s.flag (NET_PATH (ofBool b)) = true → ok = false → t.flag (NET_ERR 1) = true))
      ∧ (s.redMode = 0 → t = s))
    ∧ (∀ (mac : BitVec 48) (vid : BitVec 12), ∃ t, exec (.learnedEntryAgeOut mac vid) s = .next t
      ∧ (∀ e, e ∈ t.net.fdb ↔ e ∈ s.net.fdb ∧ (e.2.2.2 = true ∨ ¬ (e.1 = mac.toNat ∧ e.2.1 = vid.toNat)))
      ∧ t.regs = s.regs ∧ t.mem = s.mem)
    ∧ (∀ p2 : Bool, let p := if p2 then 2 else 1
      ∃ t, exec (.transitFrameDrop p2) s = .next t
      ∧ match s.net.wait.find? (fun w => w.port == p && w.cls == 7) with
        | none => t = s
        | some w => t.net.wait = s.net.wait.erase w ∧ t.regN (portReg p 0xC) = (s.regN (portReg p 0xC) + 1) % 2 ^ 32
          ∧ t.outbox = s.outbox ∧ t.net.fdb = s.net.fdb ∧ t.mem = s.mem)
    ∧ (∀ (p : Fin 3) (f : List Byte) (res : Word) (good : Bool), p.val ≠ 0 → s.portEn p.val = false →
      exec (.frameForward p f res good) s = .next s)
    ∧ (∀ (p : Fin 3) (f : List Byte) (res : Word), p.val = 0 ∨ s.portEn p.val = true →
      ∃ t, exec (.frameForward p f res false) s = .next t
        ∧ t.regN (portReg p.val 8) = (s.regN (portReg p.val 8) + 1) % 2 ^ 32 ∧ t.flag (NET_ERR 3) = true
        ∧ t.outbox = s.outbox ∧ t.net.fdb = s.net.fdb ∧ t.net.wait = s.net.wait)
    ∧ (∀ (p : Fin 3) (f : List Byte) (res : Word), frameOk f = true → p.val = 0 ∨ s.portEn p.val = true →
      let c := (s.frTci f).1
      ∃ t, exec (.frameForward p f res true) s = .next t ∧ t.mem = s.mem
        ∧ t.regN (portReg p.val 0) = (s.regN (portReg p.val 0) + 1) % 2 ^ 32
        ∧ (s.redMode = 2 ∧ frSa f = s.macBytes ∨ (s.vidPorts (s.frTci f).2).testBit p.val = false →
          t.outbox = s.outbox ∧ t.net = s.net)
        ∧ (¬ (s.redMode = 2 ∧ frSa f = s.macBytes) → (s.vidPorts (s.frTci f).2).testBit p.val = true →
          t.net.fdb = (s.learn p.val f).net.fdb)
        ∧ (s.redMode = 1 → p.val ≠ 0 → t.outbox = s.outbox)
        ∧ (s.redMode = 0 → (s.vidPorts (s.frTci f).2).testBit p.val = true →
          s.hasSec SEC_TIME = false ∨ ptpHead f = none →
          let m := (s.learn p.val f).forwardMask p.val f
          t.outbox = s.outbox ++ ([1, 2].filter (fun k => m.testBit k && s.goes k c)).map (fun k => .frame k (s.egress k f))
          ∧ ∀ k : Nat, 1 ≤ k → k ≤ 2 → m.testBit k = true → s.portUp k = true → s.goes k c = false →
            (⟨k, c, s.egress k f, .plain⟩ : Waiting) ∈ t.net.wait))

/-- R354 to R364, R370: a publication is sent at its occurrence on the ports that have link, and is late when there are none;
a cyclic frame with a right frame CRC is accepted into the subscriptions that it fits, in sequence; a subscription without
frames becomes stale, in a reset of the network region too, and its output watchdog asks for SAFE; a safety watchdog takes
input bits away; a transmit entry of station firmware is refused, or its frame leaves, with its status; a received frame
for the module goes to the queue of its priority while Pourline is not isolated, and a PTP event message that Marigold does
not consume has its entry in Q31 in every case (R343). That frames wait for their gates is the model's choice (log 70), that
a transmit entry which a STANDBY may not send waits is its reading (log 71), and the layouts of the redundant frames come
from outside the spec (log 69). -/
def Obligations.PourlineExchanges : Prop :=
  ∀ s : State, (s.up = true →
    (∀ n : BitVec 8, s.bit SYS_BLKISO 16 = false → n.toNat < s.subCount → (s.subSt n.toNat).fresh = true →
      ∃ t, exec (.subscriptionStale n) s = .next t ∧ (t.subSt n.toNat).fresh = false ∧ t.flag (PLN_ERR 0) = true
        ∧ ((s.subRec n.toNat).owd = true → s.mode = RUN → s.isStandby = false → t.mode = SAFE
          ∧ t.flag (PLN_ERR 2) = true)
        ∧ ((s.subRec n.toNat).owd = false → t.mode = s.mode))
    ∧ (∀ n : BitVec 8, ∀ c ∈ (s.sconns[n.toNat]?).toList, ∃ t, exec (.safetyMsgWatchdog n) s = .next t
      ∧ t.saf.inBits = s.saf.inBits - (s.saf.inBits &&& c.mask) ∧ bitOf t.saf.err SE_MSGWD = true ∧ t.outbox = s.outbox))
  ∧ (s.blockRuns 16 = true →
    (∀ n : BitVec 9, ∀ e ∈ (s.entries[n.toNat]?).toList, s.flag PLN_SENDING = true → e.kind = KIND_PLN_PUB →
      e.object < s.pubCount → s.isStandby = false →
      let seq := if e.period = 0 then 0 else s.seqNow / 1000 / e.period % 2 ^ 32
      let f := s.plnFrame (leBytes 6 (s.pubRec e.object).da) 7 1 seq (ts32Of s.now) e.object (s.pubRec e.object).crc
        (s.pubPayload e.object)
      let ports := [1, 2].filter (fun k => (s.outMask f).testBit k && s.portUp k)
      ∃ t, exec (.publication n) s = .next t
      ∧ t.outbox = s.outbox ++ ports.map (fun k => .frame k (redWrap s.redMode k s.net.redSeq (s.egress k f)))
      ∧ (ports = [] → t.flag (PLN_ERR 3) = true ∧ t.regN 0x20510010 = s.regN 0x20510010)
      ∧ (ports ≠ [] → t.regN 0x20510010 = (s.regN 0x20510010 + 1) % 2 ^ 32
        ∧ t.regN (0x20510600 + 4 * e.object) = (s.regN (0x20510600 + 4 * e.object) + 1) % 2 ^ 32 ∧ t.mem = s.mem))
    ∧ (∀ (p2 : Bool) (f : List Byte), frameOk f = true →
      let d := s.dedupe (if p2 then 2 else 1) f
      let g := stripRed s.redMode f
      ∃ t, exec (.cyclicFrameRx p2 f) s = .next t
      ∧ (d.1 = false ∨ s.dupHeader g = none → t = d.2)
      ∧ (d.1 = true → s.plnHeader g = none → t.net.subs = s.net.subs)
      ∧ (d.1 = true → ∀ o ∈ (s.plnHeader g).toList,
          if plnCrcOk g o = false then t.regN 0x20510018 = (s.regN 0x20510018 + 1) % 2 ^ 32
            ∧ t.flag (PLN_ERR 5) = true ∧ t.net.subs = s.net.subs
          else if fieldAt g (o + 1) 1 ≠ 1 then t.net.subs = s.net.subs
          else ∀ n : Nat, n < s.subCount → fieldAt g (o + 2) 2 % 1024 = (s.subRec n).station →
            fieldAt g (o + 16) 1 = (s.subRec n).pub →
            if fieldAt g (o + 20) 4 ≠ (s.subRec n).crc ∨ fieldAt g (o + 18) 2 ≠ (s.subRec n).bytes then
              t.subSt n = s.subSt n ∧ t.flag (PLN_ERR 1) = true
            else if (s.subSt n).fresh = true ∧ (s.subSt n).seq.isSome = true
                ∧ ¬ (1 ≤ (fieldAt g (o + 8) 4 + 2 ^ 32 - (s.subSt n).seq.getD 0) % 2 ^ 32
                  ∧ (fieldAt g (o + 8) 4 + 2 ^ 32 - (s.subSt n).seq.getD 0) % 2 ^ 32 < 2 ^ 31) then
              t.subSt n = s.subSt n
            else (t.subSt n).fresh = true ∧ (t.subSt n).seq = some (fieldAt g (o + 8) 4)
              ∧ (t.subSt n).buf = slice g (o + 24) (s.subRec n).bytes))
    ∧ (∀ c : Fin 7, s.qUsable (40 + c.val) = true → s.qFill (40 + c.val) ≠ 0 → s.sys.eccUe = [] →
      let a := s.qEntry (40 + c.val) (s.cidx (40 + c.val))
      let e := s.mread a 32
      let raw := s.mread (fieldAt e 0 8) (fieldAt e 8 2)
      let f := fixCrc (if s.fabShut issPlnAcyclic (fieldAt e 0 8) (fieldAt e 8 2) false then List.replicate (fieldAt e 8 2) 0
        else raw)
      let m := if s.redMode ≠ 0 then 6 else if fieldAt e 10 1 = 0 then s.forwardMask 0 f else fieldAt e 10 1 * 2
      let up := [1, 2].any (fun k => m.testBit k && s.portUp k)
      let us := (8 * (max (fieldAt e 8 2 + 4) 64 + 20 + (if s.redMode = 0 then 0 else 6)) + 999) / 1000 + 1
      let allocated := (s.acyclicAdmit .pourline (s.cidx (40 + c.val)) us (fieldAt e 16 4)).1.isSome
      ∃ t, exec (.txQueueEntry c) s = .next t
        ∧ (s.faultHalt = true → t = s)
        ∧ (s.isStandby = true → s.standbySends c.val raw = false → t = s)
        ∧ (s.faultHalt = false → s.isStandby = false ∨ s.standbySends c.val raw = true → t.qFill (40 + c.val) + 1 = s.qFill (40 + c.val)
          ∧ (txGood c.val e = false → t.outbox = s.outbox ∧ t.mread (a + 14) 2 = [0xFE, 0xFF])
          ∧ (txGood c.val e = true → c.val = 5 → allocated = false → t.outbox = s.outbox ∧ t.mread (a + 14) 2 = [0x0A, 0x02])
          ∧ (txGood c.val e = true → (c.val = 5 → allocated = true) →
            t.outbox = s.outbox ++ s.leaving c.val m f
            ∧ (fieldAt e 11 1 % 2 = 0 → t.mread (a + 14) 2 = if up then [0, 0] else [0xFD, 0xFF])))))
  ∧ (s.blockRuns 15 = true →
    (∀ (p2 : Bool) (f : List Byte), frameOk f = true →
      let d := s.dedupe (if p2 then 2 else 1) f
      let g := stripRed s.redMode f
      let c := (s.frTci g).1
      let q := 32 + c
      let b := fieldAt s.netSec (16 + 4 * c) 4 + s.pidx q % s.qSize q * 1536
      let taken := (s.vidPorts (s.frTci g).2).testBit 0 && c != 7 && !s.plnTakes g
      ∃ t, exec (.rxFrame p2 f) s = .next t
        ∧ (d.1 = false → t = d.2)
        ∧ (d.1 = true → s.ptpOwn g = false → t.outbox = s.outbox)
        ∧ (d.1 = true → s.ptpOwn g = false → ptpOff g = none → s.bit SYS_BLKISO 16 = true ∨ taken = false ∧ s.dupHeader g = none →
          t = d.2)
        ∧ (d.1 = true → s.ptpOwn g = false → (ptpOff g).isSome = true → s.qUsable 31 = true → s.qFill 31 < s.qSize 31 →
          t.pidx 31 = (s.pidx 31 + 1) % 2 ^ 32)
        ∧ (d.1 = true → s.ptpOwn g = false → taken = true → s.bit SYS_BLKISO 16 = false →
          fieldAt s.netSec (16 + 4 * c) 4 ≠ 0 → s.qUsable q = true → t.pidx q = (s.pidx q + 1) % 2 ^ 32
          ∧ (s.sys.eccUe = [] → s.fabShut issPlnAcyclic b g.length true = false →
            b + g.length ≤ s.qEntry q (s.pidx q) ∨ s.qEntry q (s.pidx q) + esizeBytes (s.qEsize q) ≤ b →
            t.mread b g.length = g))))

/-! ### The cope processor (17_cope_management.md) -/

/-- R445, R446, R452: the tick samples every sensor and sends a health report, the watchdog resets the cope region,
sessions and passwords of the service port, and what ends a session. An Ethernet frame at the service port that is not for
NET_MAC or not of EtherType 0x88B6 has no effect; another has that of the command it carries. That its answer goes in a
frame to its sender is the model's choice (log 29). HEALTH is answered at the port and, from Q52, in Q54 (R453). -/
def Obligations.CopeSessions : Prop :=
  ∀ s : State, s.up = true →
    (∀ vs : List (Option (BitVec 16)), (Instr.copeTick vs).wf = true → ∃ t, exec (.copeTick vs) s = .next t
      ∧ (s.fld COPE_STATE ≠ 1 → t = s)
      ∧ (s.fld COPE_STATE = 1 → t.regN COPE_HSEQ = (s.regN COPE_HSEQ + 1) % 2 ^ 32
        ∧ t.regN COPE_HTIME = ts32Of s.now % 2 ^ 32
        ∧ ∀ i : Nat, i < 29 → ∀ v ∈ (vs.getD i none).toList, t.fld ⟨copeS i, 15, 0⟩ = v.toNat))
    ∧ (s.fld (RGNSTAT 4) ≠ 1 → s.sys.rgnHist = [] → ∃ t, exec .copeWatchdog s = .next t ∧ t.fld (RGNSTAT 4) = 1
      ∧ t.flag (RGNFLT 4) = true)
    ∧ (s.flag COPE_SESSION = true → (∃ t, exec .sessionTimeout s = .next t ∧ t.flag COPE_SESSION = false ∧ t.mem = s.mem)
      ∧ (∃ t, exec .serviceLinkLoss s = .next t ∧ t.flag COPE_SESSION = false ∧ t.mem = s.mem))
    ∧ (s.cope.locked = true → ∃ t, exec .loginLockExpiry s = .next t ∧ t.cope.locked = false ∧ t.cope.fails = 0
      ∧ t.regs = s.regs ∧ t.mem = s.mem)
    ∧ (∀ (f : List Byte) (w : Bool) (b : List Byte),
        ∀ p ∈ [((Instr.login (.frame f), Instr.login (.port b)) : Instr × Instr), (.logout (.frame f), .logout (.port b)),
          (.setPw (.frame f), .setPw (.port b)), (.health (.frame f), .health (.port b)),
          (.reset (.frame f), .reset (.port b)), (.copeStopReq (.frame f), .copeStopReq (.port b)),
          (.copeRunReq (.frame f), .copeRunReq (.port b)), (.copeResume (.frame f), .copeResume (.port b)),
          (.copeToStop (.frame f), .copeToStop (.port b)), (.copeReload (.frame f), .copeReload (.port b)),
          (.keywsOpen (.frame f), .keywsOpen (.port b)), (.keywsClose (.frame f), .keywsClose (.port b)),
          (.dlStart (.frame f), .dlStart (.port b)), (.dlData (.frame f), .dlData (.port b)),
          (.dlApply (.frame f), .dlApply (.port b)), (.dlAbort (.frame f), .dlAbort (.port b)),
          (.fwBegin (.frame f), .fwBegin (.port b)), (.fwData (.frame f), .fwData (.port b)),
          (.fwInstall (.frame f), .fwInstall (.port b)), (.keyInstall (.frame f), .keyInstall (.port b)),
          (.keyRevoke (.frame f), .keyRevoke (.port b)), (.keyList (.frame f), .keyList (.port b)),
          (.evrClear (.frame f), .evrClear (.port b)), (.evrRead (.frame f), .evrRead (.port b)),
          (.keywsWrite (.frame f) w, .keywsWrite (.port b) w)],
          (s.portBody f = none → exec p.1 s = .next s)
          ∧ (s.portBody f = some b → ∃ t u, exec p.1 s = .next t ∧ exec p.2 s = .next u
            ∧ t = { u with outbox := s.outbox ++ (u.outbox.drop s.outbox.length).map (s.answerFrame (frSa f)) }))
    ∧ (∀ b : List Byte, PortCommand 0x01 b s → ∃ t, exec (.login (.port b)) s = .next t
      ∧ (s.flag COPE_SESSION = true → PortAnswered 5 s t ∧ t.flag COPE_SESSION = true)
      ∧ (s.flag COPE_SESSION = false → s.cope.locked = true → PortAnswered 4 s t ∧ t.flag COPE_SESSION = false)
      ∧ (s.flag COPE_SESSION = false → s.cope.locked = false → s.mgmtMatch (cmdData (portLayout b)) = true →
        PortAnswered 0 s t ∧ t.flag COPE_SESSION = true ∧ t.cope.fails = 0)
      ∧ (s.flag COPE_SESSION = false → s.cope.locked = false → s.cope.pw.isSome = true →
        s.mgmtMatch (cmdData (portLayout b)) = false → PortAnswered 1 s t ∧ t.flag COPE_SESSION = false
        ∧ t.cope.fails = s.cope.fails + 1 ∧ t.flag (COPE_ERR 3) = true ∧ (4 ≤ s.cope.fails → t.cope.locked = true)))
    ∧ (∀ b : List Byte, PortCommand 0x02 b s → ∃ t, exec (.logout (.port b)) s = .next t ∧ PortAnswered 0 s t
      ∧ t.flag COPE_SESSION = false ∧ t.mem = s.mem)
    ∧ (∀ (b : List Byte), ∀ p ∈ (splitPw (cmdData (portLayout b))).toList, PortCommand 0x03 b s → mgmtPwOk p.2 = true →
      ∃ t, exec (.setPw (.port b)) s = .next t
        ∧ (s.cope.pw = none ∨ s.flag COPE_SESSION = true ∧ s.mgmtMatch p.1 = true → PortAnswered 0 s t
          ∧ t.mgmtMatch p.2 = true ∧ t.flag COPE_PWSET = true ∧ t.cope.fails = 0)
        ∧ (s.cope.pw ≠ none → s.flag COPE_SESSION = false → PortAnswered 1 s t ∧ t.cope = s.cope))
    ∧ (∀ b : List Byte, PortCommand 0x10 b s → ∃ t, exec (.health (.port b)) s = .next t ∧ PortAnswered 0 s t
      ∧ Frame (fun _ => False) (fun _ => False) s t)
    ∧ (∀ b : List Byte, s.fld COPE_STATE = 1 → srcFramed (.port b) = false →
      fieldAt (portLayout b) 0 1 = 0x10 → ∃ t, exec (.health (.port b)) s = .next t ∧ t.flag (COPE_ERR 5) = true
        ∧ t.outbox = s.outbox)
    ∧ (s.fld COPE_STATE = 1 → s.qUsable 52 = true → s.qFill 52 ≠ 0 →
      fieldAt (s.mread (s.qEntry 52 (s.cidx 52)) 64) 0 1 = 0x10 → layoutBad .q52 (s.mread (s.qEntry 52 (s.cidx 52)) 64) = false →
      ∃ t, exec (.health .q52) s = .next t ∧ t.cidx 52 = (s.cidx 52 + 1) % 2 ^ 32
        ∧ (s.qUsable 54 = true → s.qFill 54 < s.qSize 54 → t.pidx 54 = (s.pidx 54 + 1) % 2 ^ 32))

/-- R46, R61, R140, R428, R450, R451, R453: a command with the management privilege needs a session at the service port,
without which it is answered 0x0001 and does nothing; with it, what each command does. -/
def Obligations.CopeCommands : Prop :=
  ∀ (s : State) (b : List Byte), s.up = true →
    (s.flag COPE_SESSION = false → ∀ c ∈ [(Instr.reset (.port b), 0x20), (.keywsOpen (.port b), 0x30), (.keywsClose (.port b), 0x32),
      (.dlStart (.port b), 0x40), (.dlData (.port b), 0x41), (.dlApply (.port b), 0x42), (.dlAbort (.port b), 0x43),
      (.fwBegin (.port b), 0x50), (.fwData (.port b), 0x51), (.fwInstall (.port b), 0x52), (.keyInstall (.port b), 0x60),
      (.keyRevoke (.port b), 0x61), (.evrClear (.port b), 0x70), (.evrRead (.port b), 0x71), (.keywsWrite (.port b) false, 0x31)],
      PortCommand c.2 b s → ∃ t, exec c.1 s = .next t ∧ PortAnswered 1 s t ∧ t.cope = s.cope ∧ t.pat = s.pat
        ∧ t.prg = s.prg ∧ t.evr = s.evr ∧ t.pwr = s.pwr ∧ Frame (fun _ => False) (fun _ => False) s t)
    ∧ (s.flag COPE_SESSION = true → PortCommand 0x20 b s → s.pwr.save = none → ∃ t, exec (.reset (.port b)) s = .next t
      ∧ t.fld PWR_STATE = W_SAVE ∧ (t.pwr.save.map (fun v => v.cause)) = some 4 ∧ s.outbox.length < t.outbox.length)
    ∧ (s.flag COPE_SESSION = true → PortCommand 0x21 b s → s.isStandby = false →
      (cmdArg (portLayout b) % 16 = 1 → s.mode = RUN → s.fld POUR_STATE = 1 →
        ∃ t, exec (.copeStopReq (.port b)) s = .next t ∧ PortAnswered 0 s t ∧ t.fld POUR_STATE = 2)
      ∧ (cmdArg (portLayout b) % 16 = 2 → s.mode = STOP → s.runctlFree = true →
        ∃ t, exec (.copeRunReq (.port b)) s = .next t ∧ PortAnswered 0 s t ∧ t.flag RUNSTAT_CHECK_BUSY = true)
      ∧ (cmdArg (portLayout b) % 16 = 3 → s.mode ≠ SAFE → ∃ t, exec (.copeResume (.port b)) s = .next t
        ∧ PortAnswered 3 s t ∧ t.mode = s.mode)
      ∧ (cmdArg (portLayout b) % 16 = 3 → s.mode = SAFE → ∃ t, exec (.copeResume (.port b)) s = .next t
        ∧ PortAnswered 0 s t
        ∧ if s.flag SAF_SAFEDEM then t.mode = SAFE ∧ t.flag PRG_RESUMEREF = true else t.mode = RUN)
      ∧ (cmdArg (portLayout b) % 16 = 4 → s.mode = HALT → s.fld HALT_CAUSE ≠ 1 →
        ∃ t, exec (.copeToStop (.port b)) s = .next t ∧ PortAnswered 0 s t ∧ t.mode = STOP)
      ∧ (cmdArg (portLayout b) % 16 = 5 → s.mode = STOP ∨ s.mode = NONE → s.runctlFree = true →
        ∃ t, exec (.copeReload (.port b)) s = .next t ∧ PortAnswered 0 s t ∧ t.flag RUNSTAT_RELOAD_BUSY = true
          ∧ t.fld RUNCTL_SLOT = bitsOf (cmdArg (portLayout b)) 5 4))
    ∧ (s.flag COPE_SESSION = true →
      (PortCommand 0x30 b s → s.flag PAT_KEYWS = false → ∃ t, exec (.keywsOpen (.port b)) s = .next t
        ∧ PortAnswered 0 s t ∧ t.flag PAT_KEYWS = true)
      ∧ (PortCommand 0x32 b s → s.flag PAT_KEYWS = true → ∃ t, exec (.keywsClose (.port b)) s = .next t
        ∧ PortAnswered 0 s t ∧ t.flag PAT_KEYWS = false)
      ∧ (PortCommand 0x31 b s → s.flag PAT_KEYWS = true → s.keyPresent = true → s.pat.force = none →
        cmdArg (portLayout b) % 0x800000 + (cmdData (portLayout b)).length ≤ 0x800000 → cmdArg (portLayout b) < 0x1000000 →
        ∃ t, exec (.keywsWrite (.port b) false) s = .next t ∧ PortAnswered 0 s t
          ∧ slice (if cmdArg (portLayout b) < 0x800000 then t.pat.key0 else t.pat.key1) (cmdArg (portLayout b) % 0x800000)
            (cmdData (portLayout b)).length = cmdData (portLayout b)
          ∧ (if cmdArg (portLayout b) < 0x800000 then t.pat.key1 = s.pat.key1 else t.pat.key0 = s.pat.key0))
      ∧ (PortCommand 0x31 b s → ∃ t, exec (.keywsWrite (.port b) true) s = .next t ∧ PortAnswered 4 s t ∧ t.pat = s.pat))
    ∧ (s.flag COPE_SESSION = true → s.isStandby = false → s.isPrimary = false →
      (PortCommand 0x40 b s → s.mode = STOP → s.runctlFree = true → ∃ t, exec (.dlStart (.port b)) s = .next t
        ∧ PortAnswered 0 s t ∧ t.fld DL_STATE = DL_STAGING ∧ t.prg.staged = [])
      ∧ (PortCommand 0x41 b s → s.fld DL_STATE = DL_STAGING →
        cmdArg (portLayout b) + (cmdData (portLayout b)).length ≤ 8388608 → ∃ t, exec (.dlData (.port b)) s = .next t
        ∧ PortAnswered 0 s t ∧ t.fld DL_STATE = DL_STAGING
        ∧ slice t.prg.staged (cmdArg (portLayout b)) (cmdData (portLayout b)).length = cmdData (portLayout b))
      ∧ (PortCommand 0x42 b s → s.fld DL_STATE = DL_STAGING → ∃ t, exec (.dlApply (.port b)) s = .next t
        ∧ PortAnswered 0 s t ∧ t.fld DL_STATE = DL_CHECKING ∧ t.prg = s.prg)
      ∧ (PortCommand 0x43 b s → s.fld DL_STATE = DL_STAGING → ∃ t, exec (.dlAbort (.port b)) s = .next t
        ∧ PortAnswered 0 s t ∧ t.fld DL_STATE = DL_IDLE ∧ t.fld DL_RESULT = 4 ∧ t.prg.image = s.prg.image))
    ∧ (s.flag COPE_SESSION = true →
      (PortCommand 0x50 b s → ∃ t, exec (.fwBegin (.port b)) s = .next t ∧ t.cope.fwOpen = true
        ∧ PortAnswered (if s.cope.fwOpen then 5 else 0) s t)
      ∧ (PortCommand 0x51 b s → s.cope.fwOpen = true →
        cmdArg (portLayout b) + (cmdData (portLayout b)).length ≤ 16777216 → ∃ t, exec (.fwData (.port b)) s = .next t
        ∧ PortAnswered 0 s t ∧ t.bank (s.fld COPE_BANK) = s.bank (s.fld COPE_BANK)
        ∧ slice (t.bank s.otherBank) (cmdArg (portLayout b)) (cmdData (portLayout b)).length = cmdData (portLayout b))
      ∧ (PortCommand 0x52 b s → s.cope.fwOpen = true → bitOf (cmdArg (portLayout b)) 0 = false →
        ∃ t, exec (.fwInstall (.port b)) s = .next t ∧ t.cope.fwOpen = false
        ∧ if s.fwRefusal = 0 then PortAnswered 0 s t ∧ t.cope.active = s.otherBank ∧ t.flag COPE_FWPEND = true
          else PortAnswered 4 s t ∧ t.cope.active = s.cope.active ∧ t.flag (COPE_ERR 4) = true))
    ∧ (s.flag COPE_SESSION = true → s.mode = STOP ∨ s.mode = NONE → cmdArg (portLayout b) < 4 →
      (PortCommand 0x60 b s → fieldAt (portLayout b) 6 2 = 64 → s.keyState (cmdArg (portLayout b)) = 0 →
        ∃ t, exec (.keyInstall (.port b)) s = .next t ∧ PortAnswered 0 s t ∧ t.keyState (cmdArg (portLayout b)) = 1)
      ∧ (PortCommand 0x61 b s → s.keyState (cmdArg (portLayout b)) = 1 →
        ∃ t, exec (.keyRevoke (.port b)) s = .next t ∧ PortAnswered 0 s t ∧ t.keyState (cmdArg (portLayout b)) = 2))
    ∧ (PortCommand 0x62 b s → ∃ t, exec (.keyList (.port b)) s = .next t ∧ PortAnswered 0 s t
      ∧ Frame (fun _ => False) (fun _ => False) s t)
    ∧ (s.flag COPE_SESSION = true →
      (PortCommand 0x70 b s → s.flag EVR_RUNNING = true → recsLen s.evr.staging + 128 ≤ 0x10000 →
        ∃ t, exec (.evrClear (.port b)) s = .next t ∧ PortAnswered 0 s t
        ∧ ∀ p : Nat, p < 4 → (cmdArg (portLayout b)).testBit p = true → s.partUsed p = true → (t.part p).held = [])
      ∧ (PortCommand 0x71 b s → ∃ t, exec (.evrRead (.port b)) s = .next t ∧ PortAnswered 0 s t
        ∧ t.evr.parts = s.evr.parts))

/-! ### Pourline services (12_network_pourline.md, R365) -/

/-- R136, R140, R365: what each service of Table PLN-13 does, with the RESULT of its answer. A service that needs an
engineering station answers another sender 0x0001 and does nothing; a STANDBY answers 0x0003 to all but READ and DIAG;
an unknown service is answered 0x0002. A request for the runtime goes through Q37, and is not answered when that queue does
not take it. R368: a request that bears the own station ID from a foreign address shows a duplicate. That the runtime
takes a request at once and that a known SVC of an unknown SUBOP is passed on and then answered 0x0002 are the model's
choice (log 71), as are the closed gates of the answer's port (log 70) and RESULT 6 for a READ that asks for too much
(log 30). The premise on the sequencer's offset keeps the gates of the answer's port
still (R349). -/
def Obligations.PourlineServices : Prop :=
  (∀ (s : State) (q : SvcReq), s.blockRuns 16 = true → s.hasSec SEC_NETWORK = true → q.sender.toNat = s.stationId →
    q.mac.toNat ≠ leVal s.macBytes → s.partnerMac = 0 ∨ q.mac.toNat ≠ s.partnerMac →
    ∀ c ∈ [Instr.read q, .diagStatus q, .diagEvents q, .forceList q],
    ∃ t, exec c s = .next t ∧ t.flag (NET_ERR 2) = true ∧ t.regN 0x20500010 = q.mac.toNat % 2 ^ 32
      ∧ t.regN 0x20500014 = q.mac.toNat / 2 ^ 32)
  ∧ ∀ (s : State) (q : SvcReq), ServiceAnswers q s →
    (∀ sv sub : BitVec 8,
      (svcKnown sv.toNat = false → ∃ t, exec (.unknownService q sv sub) s = .next t
        ∧ ServiceAnswered 2 s t ∧ t.mem = s.mem ∧ t.prg = s.prg)
      ∧ (svcKnown sv.toNat = true → subKnown sv.toNat sub.toNat = false →
        let cope := sv = 3 ∨ sv = 4
        (cope → s.svcEng q = false → ∃ t, exec (.unknownService q sv sub) s = .next t ∧ ServiceAnswered 1 s t)
        ∧ (s.isStandby = true → cope → s.svcEng q = true →
          ∃ t, exec (.unknownService q sv sub) s = .next t ∧ ServiceAnswered 3 s t ∧ t.mem = s.mem)
        ∧ (s.isStandby = true → sv = 2 → ∃ t, exec (.unknownService q sv sub) s = .next t ∧ ServiceAnswered 3 s t)
        ∧ (s.isStandby = false ∨ sv = 1 ∨ sv = 5 → q.data.length ≤ 1024 →
          (cope ∧ s.svcEng q = true ∧ s.fld COPE_STATE = 1 ∨ ¬ cope ∧ s.takesRequests = true) →
          ∃ t, exec (.unknownService q sv sub) s = .next t ∧ ServiceAnswered 2 s t ∧ t.prg = s.prg
            ∧ ∀ a, ¬ RxBytes s 5 a → t.mget a = s.mget a)))
    ∧ (s.svcEng q = false → (∀ c ∈ [Instr.downloadStart q, .downloadData q, .downloadApply q, .downloadAbort q,
          .downloadStatus q, .runctlStopReq q, .runctlRunReq q, .runctlResume q, .runctlToStop q],
        ∃ t, exec c s = .next t ∧ ServiceAnswered 1 s t ∧ t.regN PLN_SVCREF = (s.regN PLN_SVCREF + 1) % 2 ^ 32
          ∧ t.prg = s.prg ∧ t.mode = s.mode)
      ∧ (∀ c ∈ [Instr.forceSet q, .forceRelease q], ∃ t, exec c s = .next t ∧ ServiceAnswered 1 s t
          ∧ t.regN PLN_SVCREF = (s.regN PLN_SVCREF + 1) % 2 ^ 32 ∧ t.flag (PLN_ERR 4) = true
            ∧ t.activeForces = s.activeForces))
    ∧ (s.isStandby = true → ∃ t, exec (.forceList q) s = .next t ∧ ServiceAnswered 3 s t ∧ t.mem = s.mem)
    ∧ (s.isStandby = true → s.svcEng q = true → ∀ c ∈ [Instr.forceSet q, .forceRelease q,
        .downloadStart q, .runctlStopReq q, .runctlRunReq q, .runctlResume q, .runctlToStop q],
      ∃ t, exec c s = .next t ∧ ServiceAnswered 3 s t ∧ t.mem = s.mem ∧ t.prg = s.prg ∧ t.mode = s.mode)
    ∧ (s.takesRequests = false → q.data.length ≤ 1024 → s.isStandby = false → s.svcEng q = true →
      ∀ c ∈ [Instr.read q, .diagStatus q, .diagEvents q, .forceList q, .forceSet q, .forceRelease q],
        ∃ t, exec c s = .next t ∧ t.outbox = s.outbox ∧ t.prg = s.prg ∧ t.activeForces = s.activeForces)
    ∧ (s.takesRequests = true →
      (∃ t, exec (.read q) s = .next t ∧ t.prg = s.prg ∧ t.mode = s.mode ∧ (∀ a, ¬ RxBytes s 5 a → t.mget a = s.mget a)
        ∧ (q.data.length % 4 = 0 → q.data.length ≤ 256 → ServiceAnswered 0 s t)
        ∧ (256 < q.data.length ∨ q.data.length % 4 ≠ 0 → ServiceAnswered 6 s t))
      ∧ (q.data.length ≤ 1024 →
        (∃ t, exec (.diagStatus q) s = .next t ∧ ServiceAnswered 0 s t ∧ t.evr = s.evr ∧ t.mode = s.mode
          ∧ ∀ a, ¬ RxBytes s 5 a → t.mget a = s.mget a)
        ∧ (∃ t, exec (.diagEvents q) s = .next t ∧ ServiceAnswered 0 s t ∧ t.evr = s.evr ∧ t.mode = s.mode
          ∧ ∀ a, ¬ RxBytes s 5 a → t.mget a = s.mget a)
        ∧ (s.isStandby = false → ∃ t, exec (.forceList q) s = .next t ∧ ServiceAnswered 0 s t
          ∧ t.activeForces = s.activeForces ∧ ∀ a, ¬ RxBytes s 5 a → t.mget a = s.mget a))
      ∧ (s.svcEng q = true → s.isStandby = false →
        (q.data.length = 12 → ∃ t, exec (.forceSet q) s = .next t
          ∧ if s.forceRefusal (fieldAt q.data 0 4) = 0 then ServiceAnswered 0 s t
              ∧ (t.forceOf (fieldAt q.data 0 4)).isSome = true
              ∧ ∀ n ∈ (t.forceOf (fieldAt q.data 0 4)).toList, t.regN (freg n 0x10) = fieldAt q.data 4 4
            else ServiceAnswered 4 s t ∧ t.activeForces = s.activeForces)
        ∧ (q.data.length = 4 → (findSym s.prg.image (fieldAt q.data 0 4)).isSome = true → s.mode = STOP ∨ s.mode = RUN →
          ∃ t, exec (.forceRelease q) s = .next t ∧ ServiceAnswered 0 s t
            ∧ ∀ n ∈ (s.forceOf (fieldAt q.data 0 4)).toList, t.flag (F_ACTIVE n) = false)))
    ∧ (s.svcEng q = true → s.isStandby = false → s.isPrimary = false → s.fld COPE_STATE = 1 → q.data.length ≤ 1024 →
      (s.mode = STOP → s.runctlFree = true → ∃ t, exec (.downloadStart q) s = .next t ∧ ServiceAnswered 0 s t
        ∧ t.fld DL_STATE = DL_STAGING ∧ t.prg.staged = [])
      ∧ (s.fld DL_STATE = DL_STAGING → q.arg.toNat + q.data.length ≤ 8388608 →
        ∃ t, exec (.downloadData q) s = .next t ∧ ServiceAnswered 0 s t ∧ t.fld DL_STATE = DL_STAGING
          ∧ slice t.prg.staged q.arg.toNat q.data.length = q.data)
      ∧ (s.fld DL_STATE = DL_STAGING → (∃ t, exec (.downloadApply q) s = .next t ∧ ServiceAnswered 0 s t
          ∧ t.fld DL_STATE = DL_CHECKING ∧ t.prg.staged = s.prg.staged)
        ∧ (∃ t, exec (.downloadAbort q) s = .next t ∧ ServiceAnswered 0 s t ∧ t.fld DL_STATE = DL_IDLE
          ∧ t.prg.staged = []))
      ∧ (∃ t, exec (.downloadStatus q) s = .next t ∧ ServiceAnswered 0 s t ∧ t.prg = s.prg ∧ t.mem = s.mem)
      ∧ (s.mode = RUN → s.fld POUR_STATE = 1 → ∃ t, exec (.runctlStopReq q) s = .next t ∧ ServiceAnswered 0 s t
        ∧ t.fld POUR_STATE = 2)
      ∧ (s.mode = STOP → s.runctlFree = true → ∃ t, exec (.runctlRunReq q) s = .next t ∧ ServiceAnswered 0 s t
        ∧ t.flag RUNSTAT_CHECK_BUSY = true)
      ∧ (s.mode = SAFE → ∃ t, exec (.runctlResume q) s = .next t ∧ ServiceAnswered 0 s t
        ∧ if s.flag SAF_SAFEDEM then t.mode = SAFE ∧ t.flag PRG_RESUMEREF = true else t.mode = RUN)
      ∧ (s.mode = HALT → s.fld HALT_CAUSE ≠ 1 → s.pour.offsetPs = 0 → ∃ t, exec (.runctlToStop q) s = .next t
        ∧ ServiceAnswered 0 s t ∧ t.mode = STOP))
end

