-- ==== Sys2Proof/Laws/Tbl.lean ====
section
/-! SUPPORT. The laws of the sparse tables: what a write lists, what it leaves alone, and the canonical form. -/

namespace Sys2Proof.Laws

open Sys2Proof.Machine

variable {α : Type} [DecidableEq α] {d : Nat → α}

theorem tblWf_nil : tblWf d [] = true := rfl

theorem tblWf_cons {k : Nat} {v : α} {t : Tbl α} :
    tblWf d ((k, v) :: t) = true ↔ v ≠ d k ∧ (∀ e ∈ t, k < e.1) ∧ tblWf d t = true := by
  simp [tblWf, and_assoc]

/-- Entries taken out of a canonical table leave a canonical table. -/
theorem tblWf_filter {t : Tbl α} (p : Nat × α → Bool) (h : tblWf d t = true) : tblWf d (t.filter p) = true := by
  induction t with
  | nil => rfl
  | cons e t ih =>
    obtain ⟨h1, h2, h3⟩ := tblWf_cons.1 h
    rw [List.filter_cons]
    split
    · exact tblWf_cons.2 ⟨h1, fun x hx => h2 x (List.mem_filter.1 hx).1, ih h3⟩
    · exact ih h3

theorem tblWf_append {s t : Tbl α} (hs : tblWf d s = true) (ht : tblWf d t = true)
    (h : ∀ x ∈ s, ∀ y ∈ t, x.1 < y.1) : tblWf d (s ++ t) = true := by
  induction s with
  | nil => exact ht
  | cons e s ih =>
    obtain ⟨h1, h2, h3⟩ := tblWf_cons.1 hs
    refine tblWf_cons.2 ⟨h1, fun x hx => ?_, ih h3 fun x hx => h x (List.mem_cons_of_mem _ hx)⟩
    rcases List.mem_append.1 hx with hx | hx
    · exact h2 x hx
    · exact h e (List.mem_cons_self ..) x hx

theorem tblRun_mem {vs : List α} {a : Nat} {e : Nat × α} (h : e ∈ tblRun d a vs) :
    a ≤ e.1 ∧ e.1 < a + vs.length := by
  induction vs generalizing a with
  | nil => cases h
  | cons v vs ih =>
    simp only [tblRun] at h
    split at h
    · have := ih h; simp only [List.length_cons]; omega
    · rcases List.mem_cons.1 h with h | h
      · subst h; simp
      · have := ih h; simp only [List.length_cons]; omega

theorem tblRun_wf (a : Nat) (vs : List α) : tblWf d (tblRun d a vs) = true := by
  induction vs generalizing a with
  | nil => rfl
  | cons v vs ih =>
    simp only [tblRun]
    split
    · exact ih _
    · exact tblWf_cons.2 ⟨‹_›, fun e he => by have := tblRun_mem he; omega, ih _⟩

/-- Every write keeps the canonical form. -/
theorem tblPut_wf {t : Tbl α} (a : Nat) (vs : List α) (h : tblWf d t = true) : tblWf d (tblPut d t a vs) = true := by
  refine tblWf_append (tblWf_append (tblWf_filter _ h) (tblRun_wf a vs) ?_) (tblWf_filter _ h) ?_
  · intro x hx y hy
    have := tblRun_mem hy
    simp at hx
    omega
  · intro x hx y hy
    simp at hy
    rcases List.mem_append.1 hx with hx | hx
    · simp at hx; omega
    · have := tblRun_mem hx; omega

omit [DecidableEq α] in
theorem tblGet_append {s t : Tbl α} {k : Nat} (h : ∀ e ∈ s, e.1 ≠ k) : tblGet d (s ++ t) k = tblGet d t k := by
  induction s with
  | nil => rfl
  | cons e s ih =>
    have h0 := h e (List.mem_cons_self ..)
    simp only [List.cons_append, tblGet, h0, if_false]
    exact ih fun x hx => h x (List.mem_cons_of_mem _ hx)

omit [DecidableEq α] in
theorem tblGet_absent {s : Tbl α} {k : Nat} (h : ∀ e ∈ s, e.1 ≠ k) : tblGet d s k = d k := by
  rw [← List.append_nil s, tblGet_append h]; rfl

omit [DecidableEq α] in
theorem tblGet_filter {t : Tbl α} {p : Nat × α → Bool} {k : Nat} (h : ∀ v, p (k, v) = true) :
    tblGet d (t.filter p) k = tblGet d t k := by
  induction t with
  | nil => rfl
  | cons e t ih =>
    obtain ⟨j, v⟩ := e
    rw [List.filter_cons]
    by_cases hj : j = k
    · subst hj; simp [h, tblGet]
    · split <;> simp [tblGet, hj, ih]

theorem tblGet_append_right {s t : Tbl α} {k : Nat} (h : ∀ e ∈ t, e.1 ≠ k) : tblGet d (s ++ t) k = tblGet d s k := by
  induction s with
  | nil => exact tblGet_absent h
  | cons e s ih => simp only [List.cons_append, tblGet]; split <;> simp [ih]

theorem tblGet_run {vs : List α} {a k : Nat} (h1 : a ≤ k) (h2 : k < a + vs.length) :
    tblGet d (tblRun d a vs) k = vs[k - a]'(by omega) := by
  induction vs generalizing a with
  | nil => simp at h2; omega
  | cons v vs ih =>
    simp only [tblRun]
    by_cases hk : k = a
    · subst hk
      split
      · rename_i hv
        rw [tblGet_absent fun e he => by have := tblRun_mem he; omega]
        simp [hv]
      · simp [tblGet]
    · have hlt : a + 1 ≤ k := by omega
      have hlen : k < a + 1 + vs.length := by simp at h2; omega
      have hidx : (v :: vs)[k - a]'(by omega) = vs[k - (a + 1)]'(by omega) := by
        have : k - a = (k - (a + 1)) + 1 := by omega
        simp [this]
      split
      · rw [ih hlt hlen, hidx]
      · simp only [tblGet, Ne.symm hk, if_false]
        rw [ih hlt hlen, hidx]

/-- A read outside the written keys gives what it gave before. -/
theorem tblGet_put_out {t : Tbl α} {a : Nat} {vs : List α} {k : Nat} (h : k < a ∨ a + vs.length ≤ k) :
    tblGet d (tblPut d t a vs) k = tblGet d t k := by
  rcases h with h | h
  · rw [tblPut, List.append_assoc, tblGet_append_right, tblGet_filter fun _ => by simpa using h]
    intro e he
    rcases List.mem_append.1 he with he | he
    · have := tblRun_mem he; omega
    · simp at he; omega
  · rw [tblPut, tblGet_append, tblGet_filter fun _ => by simpa using h]
    intro e he
    rcases List.mem_append.1 he with he | he
    · simp at he; omega
    · have := tblRun_mem he; omega

/-- A read of a written key gives the value written. -/
theorem tblGet_put_in {t : Tbl α} {a : Nat} {vs : List α} {k : Nat} (h1 : a ≤ k) (h2 : k < a + vs.length) :
    tblGet d (tblPut d t a vs) k = vs[k - a]'(by omega) := by
  rw [tblPut, List.append_assoc, tblGet_append, tblGet_append_right, tblGet_run h1 h2]
  · intro e he; simp at he; omega
  · intro e he; simp at he; omega

/-- One key written and read. -/
theorem tblGet_put_one {t : Tbl α} {a : Nat} {v : α} {k : Nat} :
    tblGet d (tblPut d t a [v]) k = if k = a then v else tblGet d t k := by
  by_cases h : k = a
  · subst h; rw [tblGet_put_in (Nat.le_refl _) (by simp)]; simp
  · rw [if_neg h]; exact tblGet_put_out (by simp; omega)

end Sys2Proof.Laws
end

