-- ==== Sys2Proof/Laws/Kept.lean ====
section
/-! SUPPORT. What every operation of the model keeps: the queue of commands, the canonical form of the registers and of
memory; the free-value counter never falls and what has left the module stays. -/

namespace Sys2Proof.Laws

open Sys2Proof.Machine

/-- What every command keeps. -/
structure Kept (s t : State) : Prop where
  pending : t.pending = s.pending
  free : s.free ≤ t.free
  outbox : s.outbox <+: t.outbox
  regs : tblWf resetWord s.regs = true → tblWf resetWord t.regs = true
  mem : tblWf memDefault s.mem = true → tblWf memDefault t.mem = true

theorem Kept.refl {s : State} : Kept s s := ⟨rfl, Nat.le_refl _, List.prefix_refl _, id, id⟩

theorem Kept.upd {s0 s t : State} (h : Kept s0 s) (p : t.pending = s.pending) (r : t.regs = s.regs)
    (m : t.mem = s.mem) (f : t.free = s.free) (o : t.outbox = s.outbox) : Kept s0 t :=
  ⟨p.trans h.pending, f ▸ h.free, o ▸ h.outbox, fun x => r ▸ h.regs x, fun x => m ▸ h.mem x⟩

theorem kept_ite {s0 a b : State} {c : Prop} [Decidable c] (ha : Kept s0 a) (hb : Kept s0 b) :
    Kept s0 (if c then a else b) := by split <;> assumption

theorem foldl_kept {α : Type} {s0 s : State} {l : List α} {f : State → α → State} (h : Kept s0 s)
    (hf : ∀ s x, Kept s0 s → Kept s0 (f s x)) : Kept s0 (l.foldl f s) := by
  induction l generalizing s with
  | nil => exact h
  | cons x l ih => exact ih (hf _ _ h)

theorem kept_snd {α : Type} {s0 t : State} {p : α × State} {a : α} (e : p = (a, t)) (h : Kept s0 p.2) : Kept s0 t := by
  rw [e] at h; exact h

theorem kept_snd2 {α β : Type} {s0 t : State} {p : α × β × State} {a : α} {b : β} (e : p = (a, b, t))
    (h : Kept s0 p.2.2) : Kept s0 t := by rw [e] at h; exact h

/-- A change of the registers that keeps the canonical form. -/
theorem Kept.reg {s0 s t : State} (h : Kept s0 s) (p : t.pending = s.pending)
    (r : tblWf resetWord s.regs = true → tblWf resetWord t.regs = true)
    (m : t.mem = s.mem) (f : t.free = s.free) (o : t.outbox = s.outbox) : Kept s0 t :=
  ⟨p.trans h.pending, f ▸ h.free, o ▸ h.outbox, fun x => r (h.regs x), fun x => m ▸ h.mem x⟩

/-- Something leaves the module. -/
theorem Kept.out {s0 s t : State} {l : List Out} (h : Kept s0 s) (p : t.pending = s.pending) (r : t.regs = s.regs)
    (m : t.mem = s.mem) (f : t.free = s.free) (o : t.outbox = s.outbox ++ l) : Kept s0 t :=
  ⟨p.trans h.pending, f ▸ h.free, o ▸ h.outbox.trans (List.prefix_append _ _), fun x => r ▸ h.regs x,
    fun x => m ▸ h.mem x⟩

theorem foldl_kept_fst {α β : Type} {s0 : State} {l : List α} {f : State × β → α → State × β} {p : State × β}
    (h : Kept s0 p.1) (hf : ∀ p x, Kept s0 p.1 → Kept s0 (f p x).1) : Kept s0 (l.foldl f p).1 := by
  induction l generalizing p with
  | nil => exact h
  | cons x l ih => exact ih (hf _ _ h)

theorem foldl_kept_snd {α β : Type} {s0 : State} {l : List α} {f : β × State → α → β × State} {p : β × State}
    (h : Kept s0 p.2) (hf : ∀ p x, Kept s0 p.2 → Kept s0 (f p x).2) : Kept s0 (l.foldl f p).2 := by
  induction l generalizing p with
  | nil => exact h
  | cons x l ih => exact ih (hf _ _ h)

theorem foldl_kept_snd2 {α β γ : Type} {s0 : State} {l : List α} {f : β × γ × State → α → β × γ × State}
    {p : β × γ × State} (h : Kept s0 p.2.2) (hf : ∀ p x, Kept s0 p.2.2 → Kept s0 (f p x).2.2) :
    Kept s0 (l.foldl f p).2.2 := by
  induction l generalizing p with
  | nil => exact h
  | cons x l ih => exact ih (hf _ _ h)

/-- An alternative in a pair with a state. -/
theorem kept_ite_snd {α : Type} {s0 : State} {c : Prop} [Decidable c] {a b : α × State} (ha : Kept s0 a.2)
    (hb : Kept s0 b.2) : Kept s0 (if c then a else b).2 := by split <;> assumption

theorem setReg_kept {s0 s : State} {a1 a2} (h : Kept s0 s) : Kept s0 (State.setReg s a1 a2) :=
  h.reg rfl (tblPut_wf _ _) rfl rfl rfl

theorem clearRegs_kept {s0 s : State} {a1 a2} (h : Kept s0 s) : Kept s0 (State.clearRegs s a1 a2) :=
  h.reg rfl (tblWf_filter _) rfl rfl rfl

theorem mput_kept {s0 s : State} {a1 a2} (h : Kept s0 s) : Kept s0 (State.mput s a1 a2) :=
  ⟨h.pending, h.free, h.outbox, h.regs, fun x => tblPut_wf _ _ (h.mem x)⟩

theorem draw_kept {s0 s : State} {a1} (h : Kept s0 s) : Kept s0 (State.draw s a1).2 := by
  unfold State.draw
  exact ⟨h.pending, Nat.le_succ_of_le h.free, h.outbox, h.regs, h.mem⟩
theorem putWords_kept {s0 s : State} {a1 a2} (h : Kept s0 s) : Kept s0 (State.putWords s a1 a2) := by
  induction a2 generalizing s a1 with
  | nil => exact h
  | cons w ws ih => exact ih (setReg_kept h)

end Sys2Proof.Laws
end

