-- ==== Sys2Proof/Laws/KeptOps.lean ====
section
/-! SUPPORT. What every operation of the registers, the counters and the event sources keeps (`Kept`). -/

namespace Sys2Proof.Laws

open Sys2Proof.Machine

/-! ### Ops -/

theorem setRegN_kept {s0 s : State} {a1 a2} (h : Kept s0 s) :
    Kept s0 (State.setRegN s a1 a2) := by
  unfold State.setRegN
  exact setReg_kept h

theorem bumpBy_kept {s0 s : State} {a1 a2} (h : Kept s0 s) :
    Kept s0 (State.bumpBy s a1 a2) := by
  unfold State.bumpBy
  exact setReg_kept h

theorem bump_kept {s0 s : State} {a1} (h : Kept s0 s) :
    Kept s0 (State.bump s a1) := by
  unfold State.bump
  exact bumpBy_kept h

theorem setFld_kept {s0 s : State} {a1 a2} (h : Kept s0 s) :
    Kept s0 (State.setFld s a1 a2) := by
  unfold State.setFld
  exact setReg_kept h

theorem setFlag_kept {s0 s : State} {a1 a2} (h : Kept s0 s) :
    Kept s0 (State.setFlag s a1 a2) := by
  unfold State.setFlag
  exact setFld_kept h

theorem bumpSat_kept {s0 s : State} {a1} (h : Kept s0 s) :
    Kept s0 (State.bumpSat s a1) := by
  unfold State.bumpSat
  extract_lets x1
  clear_value x1
  exact setFld_kept h

theorem setBit_kept {s0 s : State} {a1 a2 a3} (h : Kept s0 s) :
    Kept s0 (State.setBit s a1 a2 a3) := by
  unfold State.setBit
  exact setFld_kept h

theorem orReg_kept {s0 s : State} {a1 a2} (h : Kept s0 s) :
    Kept s0 (State.orReg s a1 a2) := by
  unfold State.orReg
  exact setReg_kept h

theorem setMode_kept {s0 s : State} {a1} (h : Kept s0 s) :
    Kept s0 (State.setMode s a1) := by
  unfold State.setMode
  exact setFld_kept h

theorem pmcAdd_kept {s0 s : State} {a1 a2} (h : Kept s0 s) :
    Kept s0 (State.pmcAdd s a1 a2) := by
  unfold State.pmcAdd
  extract_lets x1 x2 x3
  clear_value x1
  clear_value x2
  have hx3 : Kept s0 x3 := (h.upd rfl rfl rfl rfl rfl)
  clear_value x3
  exact kept_ite hx3 (setBit_kept hx3)

theorem pmcCount_kept {s0 s : State} {a1 a2 a3 a4} (h : Kept s0 s) :
    Kept s0 (State.pmcCount s a1 a2 a3 a4) := by
  unfold State.pmcCount
  split
  · refine foldl_kept ?_ ?_
    · exact h
    · intro w0_0 w0_1 hw0
      extract_lets x1 x2 x3 x4
      clear_value x1
      clear_value x2
      clear_value x3
      clear_value x4
      exact kept_ite (pmcAdd_kept hw0) hw0
  · exact h

theorem pmc1_kept {s0 s : State} {a1 a2} (h : Kept s0 s) :
    Kept s0 (State.pmc1 s a1 a2) := by
  unfold State.pmc1
  exact pmcCount_kept h

theorem pmcBytes_kept {s0 s : State} {a1 a2 a3 a4} (h : Kept s0 s) :
    Kept s0 (State.pmcBytes s a1 a2 a3 a4) := by
  unfold State.pmcBytes
  extract_lets x1 x2
  clear_value x1
  clear_value x2
  exact kept_ite (h.upd rfl rfl rfl rfl rfl) h

theorem memCount_kept {s0 s : State} {a1 a2} (h : Kept s0 s) :
    Kept s0 (State.memCount s a1 a2) := by
  unfold State.memCount
  split
  · exact pmc1_kept (pmc1_kept h)
  · exact pmc1_kept (pmc1_kept h)
  · exact pmc1_kept (pmc1_kept h)
  · exact h

theorem grant_kept {s0 s : State} {a1} (h : Kept s0 s) :
    Kept s0 (State.grant s a1) := by
  unfold State.grant
  extract_lets x1 x2 x3
  clear_value x1
  clear_value x2
  have hx3 : Kept s0 x3 := (kept_ite (h.upd rfl rfl rfl rfl rfl) h)
  clear_value x3
  exact pmcCount_kept (pmcCount_kept hx3)

theorem moveBytes_kept {s0 s : State} {a1 a2 a3 a4} (h : Kept s0 s) :
    Kept s0 (State.moveBytes s a1 a2 a3 a4) := by
  unfold State.moveBytes
  extract_lets x1 x2
  clear_value x1
  clear_value x2
  exact pmcBytes_kept (pmcBytes_kept (memCount_kept h))

theorem transfer_kept {s0 s : State} {a1 a2 a3 a4} (h : Kept s0 s) :
    Kept s0 (State.transfer s a1 a2 a3 a4) := by
  unfold State.transfer
  exact kept_ite h (moveBytes_kept (grant_kept h))

theorem portMove_kept {s0 s : State} {a1 a2 a3} (h : Kept s0 s) :
    Kept s0 (State.portMove s a1 a2 a3) := by
  unfold State.portMove
  exact kept_ite h (pmcBytes_kept (grant_kept h))

theorem qLose_kept {s0 s : State} {a1 a2} (h : Kept s0 s) :
    Kept s0 (State.qLose s a1 a2) := by
  unfold State.qLose
  extract_lets x1 x2
  have hx1 : Kept s0 x1 := (bumpBy_kept (setFlag_kept h))
  clear_value x1
  clear_value x2
  exact kept_ite (hx1.upd rfl rfl rfl rfl rfl) hx1

theorem qPut_kept {s0 s : State} {a1 a2 a3} (h : Kept s0 s) :
    Kept s0 (State.qPut s a1 a2 a3) := by
  unfold State.qPut
  extract_lets x1 x2
  clear_value x1
  clear_value x2
  exact mput_kept (transfer_kept h)

theorem qOfferBy_kept {s0 s : State} {a1 a2 a3} (h : Kept s0 s) :
    Kept s0 (State.qOfferBy s a1 a2 a3) := by
  unfold State.qOfferBy
  exact kept_ite (qLose_kept h) (kept_ite (bump_kept (qPut_kept h)) (kept_ite (qLose_kept (bump_kept (bump_kept (qPut_kept h)))) (qLose_kept h)))

theorem qOffer_kept {s0 s : State} {a1 a2} (h : Kept s0 s) :
    Kept s0 (State.qOffer s a1 a2) := by
  unfold State.qOffer
  exact qOfferBy_kept h

theorem portOffer_kept {s0 s : State} {a1} (h : Kept s0 s) :
    Kept s0 (State.portOffer s a1) := by
  unfold State.portOffer
  extract_lets x1 x2 x3
  clear_value x1
  have hx2 : Kept s0 x2 := (setFlag_kept (bump_kept h))
  clear_value x2
  clear_value x3
  exact kept_ite (h.upd rfl rfl rfl rfl rfl) (hx2.upd rfl rfl rfl rfl rfl)

theorem eventSync_kept {s0 s : State} {a1 a2 a3 a4 a5} (h : Kept s0 s) :
    Kept s0 (State.eventSync s a1 a2 a3 a4 a5) := by
  unfold State.eventSync
  extract_lets x1 x2
  clear_value x1
  clear_value x2
  exact kept_ite (qOfferBy_kept h) (portOffer_kept h)

theorem eventAt_kept {s0 s : State} {a1 a2 a3 a4} (h : Kept s0 s) :
    Kept s0 (State.eventAt s a1 a2 a3 a4) := by
  unfold State.eventAt
  exact eventSync_kept h

theorem event_kept {s0 s : State} {a1 a2 a3} (h : Kept s0 s) :
    Kept s0 (State.event s a1 a2 a3) := by
  unfold State.event
  exact eventAt_kept h

/-! ### Counters -/

theorem put48_kept {s0 s : State} {a1 a2} (h : Kept s0 s) :
    Kept s0 (State.put48 s a1 a2) := by
  unfold State.put48
  exact setRegN_kept (setRegN_kept h)

theorem pmcSnapshot_kept {s0 s : State} {a1} (h : Kept s0 s) :
    Kept s0 (State.pmcSnapshot s a1) := by
  unfold State.pmcSnapshot
  extract_lets x1 x2 x3 x4 x5 x6 x7 x8 x9 x10
  have hx1 : Kept s0 x1 := (foldl_kept h fun _ _ k0 => (put48_kept k0))
  clear_value x1
  have hx2 : Kept s0 x2 := by
    unfold x2
    refine foldl_kept ?_ ?_
    · exact hx1
    · intro w4_0 w4_1 hw4
      extract_lets x11 x12 x13 x14 x15
      clear_value x11
      clear_value x12
      clear_value x13
      have hx14 : Kept s0 x14 := (setRegN_kept hw4)
      clear_value x14
      have hx15 : Kept s0 x15 := (setRegN_kept hx14)
      clear_value x15
      exact put48_kept (put48_kept hx15)
  clear_value x2
  clear_value x3
  have hx4 : Kept s0 x4 := (setRegN_kept (setRegN_kept hx2))
  clear_value x4
  clear_value x5
  clear_value x6
  have hx7 : Kept s0 x7 := (hx4.upd rfl rfl rfl rfl rfl)
  clear_value x7
  have hx8 : Kept s0 x8 := (setRegN_kept (setRegN_kept (bump_kept hx7)))
  clear_value x8
  have hx9 : Kept s0 x9 := (setFlag_kept hx8)
  clear_value x9
  clear_value x10
  split
  · exact hx8
  · split
    · exact kept_ite hx9 (event_kept (hx9.upd rfl rfl rfl rfl rfl))
    · exact event_kept (hx9.upd rfl rfl rfl rfl rfl)

theorem pmcApply_kept {s0 s : State} (h : Kept s0 s) :
    Kept s0 (State.pmcApply s) := by
  unfold State.pmcApply
  extract_lets x1 x2 x3
  have hx1 : Kept s0 x1 := by
    unfold x1
    split
    · exact setRegN_kept h
    · exact h
  clear_value x1
  have hx2 : Kept s0 x2 := by
    unfold x2
    refine foldl_kept ?_ ?_
    · exact hx1
    · intro w0_0 w0_1 hw0
      extract_lets x4 x5 x6
      clear_value x5
      have hx6 : Kept s0 x6 := (hw0.upd rfl rfl rfl rfl rfl)
      clear_value x6
      exact kept_ite hw0 (setBit_kept (setFld_kept hx6))
  clear_value x2
  clear_value x3
  exact setFlag_kept (hx2.upd rfl rfl rfl rfl rfl)

theorem pmcSum_kept {s0 s : State} {a1} (h : Kept s0 s) :
    Kept s0 (State.pmcSum s a1) := by
  unfold State.pmcSum
  extract_lets x1 x2 x3 x4 x5
  have hx1 : Kept s0 x1 := (foldl_kept h fun _ _ k0 => (kept_ite k0 (pmcAdd_kept k0)))
  clear_value x1
  have hx2 : Kept s0 x2 := (foldl_kept hx1 fun _ _ k0 => (pmcBytes_kept k0))
  clear_value x2
  clear_value x3
  clear_value x4
  clear_value x5
  exact hx2.upd rfl rfl rfl rfl rfl

theorem pmcOpen_kept {s0 s : State} (h : Kept s0 s) :
    Kept s0 (State.pmcOpen s) := by
  unfold State.pmcOpen
  exact h.upd rfl rfl rfl rfl rfl

theorem pmcWindowEnd_kept {s0 s : State} {a1} (h : Kept s0 s) :
    Kept s0 (State.pmcWindowEnd s a1) := by
  unfold State.pmcWindowEnd
  extract_lets x1 x2
  have hx1 : Kept s0 x1 := (pmcSum_kept h)
  clear_value x1
  clear_value x2
  exact kept_ite h (kept_ite hx1 (pmcApply_kept (pmcOpen_kept (pmcSnapshot_kept (setFlag_kept hx1)))))

theorem pmcStage_kept {s0 s : State} {a1 a2} (h : Kept s0 s) :
    Kept s0 (State.pmcStage s a1 a2) := by
  unfold State.pmcStage
  extract_lets x1 x2 x3 x4 x5 x6 x7
  have hx1 : ∀ y0, Kept s0 y0 → Kept s0 (x1 y0) := (fun _ k0 => (setFlag_kept k0))
  clear_value x1
  clear_value x2
  clear_value x3
  clear_value x4
  have hx5 : Kept s0 x5 := (setReg_kept h)
  clear_value x5
  clear_value x6
  clear_value x7
  exact kept_ite (kept_ite (setFlag_kept (h.upd rfl rfl rfl rfl rfl)) (hx1 _ h)) (kept_ite (kept_ite (setFlag_kept (hx5.upd rfl rfl rfl rfl rfl)) (hx1 _ h)) (kept_ite (setReg_kept h) (kept_ite (setRegN_kept h) h)))

theorem pmcDeny_kept {s0 s : State} {a1} (h : Kept s0 s) :
    Kept s0 (State.pmcDeny s a1) := by
  unfold State.pmcDeny
  extract_lets x1 x2 x3 x4 x5
  have hx1 : Kept s0 x1 := (setFlag_kept h)
  clear_value x1
  have hx2 : Kept s0 x2 := (hx1.upd rfl rfl rfl rfl rfl)
  clear_value x2
  clear_value x3
  have hx4 : Kept s0 x4 := (hx2.upd rfl rfl rfl rfl rfl)
  clear_value x4
  clear_value x5
  split
  · exact hx2
  · split
    · exact event_kept hx4
    · exact event_kept hx4

theorem pmcReadLo_kept {s0 s : State} {a1} (h : Kept s0 s) :
    Kept s0 (State.pmcReadLo s a1) := by
  unfold State.pmcReadLo
  extract_lets x1 x2
  clear_value x1
  clear_value x2
  exact h.upd rfl rfl rfl rfl rfl

theorem pmcRead_kept {s0 s : State} {a1} (h : Kept s0 s) :
    Kept s0 (State.pmcRead s a1) := by
  unfold State.pmcRead
  extract_lets x1 x2
  clear_value x1
  clear_value x2
  split
  · exact h.upd rfl rfl rfl rfl rfl
  · split
    · split
      · exact pmcReadLo_kept h
      · split
        · exact h.upd rfl rfl rfl rfl rfl
        · exact h.upd rfl rfl rfl rfl rfl
    · exact h.upd rfl rfl rfl rfl rfl

theorem pmcReadBy_kept {s0 s : State} {a1 a2} (h : Kept s0 s) :
    Kept s0 (State.pmcReadBy s a1 a2) := by
  unfold State.pmcReadBy
  exact kept_ite (pmcRead_kept h) (h.upd rfl rfl rfl rfl rfl)

theorem pmcTask_kept {s0 s : State} {a1 a2} (h : Kept s0 s) :
    Kept s0 (State.pmcTask s a1 a2) := by
  unfold State.pmcTask
  split
  · exact pmcDeny_kept h
  · exact kept_ite (pmcRead_kept h) (pmcDeny_kept h)

theorem pmcWrite_kept {s0 s : State} {a1 a2 a3 a4} (h : Kept s0 s) :
    Kept s0 (State.pmcWrite s a1 a2 a3 a4) := by
  unfold State.pmcWrite
  extract_lets x1
  have hx1 : Kept s0 x1 := (pmcStage_kept h)
  clear_value x1
  exact kept_ite (pmcDeny_kept h) (kept_ite (kept_ite (h.upd rfl rfl rfl rfl rfl) (hx1.upd rfl rfl rfl rfl rfl)) (h.upd rfl rfl rfl rfl rfl))

theorem pmcStart_kept {s0 s : State} {a1} (h : Kept s0 s) :
    Kept s0 (State.pmcStart s a1) := by
  unfold State.pmcStart
  extract_lets x1 x2 x3 x4 x5
  have hx1 : Kept s0 x1 := (clearRegs_kept h)
  clear_value x1
  clear_value x2
  have hx3 : Kept s0 x3 := (hx1.upd rfl rfl rfl rfl rfl)
  clear_value x3
  have hx4 : Kept s0 x4 := (setRegN_kept (setRegN_kept hx3))
  clear_value x4
  have hx5 : Kept s0 x5 := (foldl_kept hx4 fun _ _ k0 => (setRegN_kept k0))
  clear_value x5
  exact setFlag_kept hx5

theorem pmcStop_kept {s0 s : State} (h : Kept s0 s) :
    Kept s0 (State.pmcStop s) := by
  unfold State.pmcStop
  exact setFlag_kept h

theorem eccRead_kept {s0 s : State} {a1 a2} (h : Kept s0 s) :
    Kept s0 (State.eccRead s a1 a2).2 := by
  unfold State.eccRead
  extract_lets x1
  clear_value x1
  split
  · dsimp only
    exact setRegN_kept (bumpSat_kept h)
  · split
    · dsimp only
      exact pmc1_kept (bumpSat_kept (h.upd rfl rfl rfl rfl rfl))
    · dsimp only
      exact h

theorem eccReads_kept {s0 s : State} {a1} (h : Kept s0 s) :
    Kept s0 (State.eccReads s a1).2 := by
  induction a1 generalizing s with
  | nil => exact h
  | cons w ws ih =>
    unfold State.eccReads
    split
    · exact ih h
    · exact ih (eccRead_kept h)

theorem readRange_kept {s0 s : State} {a1 a2} (h : Kept s0 s) :
    Kept s0 (State.readRange s a1 a2).2 := by
  unfold State.readRange
  exact eccReads_kept h

theorem readEnds_kept {s0 s : State} {a1 a2} (h : Kept s0 s) :
    Kept s0 (State.readEnds s a1 a2).2 := by
  unfold State.readEnds
  exact eccReads_kept h

theorem hwRead_kept {s0 s : State} {a1 a2} (h : Kept s0 s) :
    Kept s0 (State.hwRead s a1 a2).2 := by
  unfold State.hwRead
  split
  · rename_i z1 z2 z3
    have hz2 : Kept s0 z2 := kept_snd z3 (readRange_kept h)
    exact hz2
  · rename_i z4 z5 z6
    have hz5 : Kept s0 z5 := kept_snd z6 (readRange_kept h)
    exact hz5

theorem hwWrite_kept {s0 s : State} {a1 a2} (h : Kept s0 s) :
    Kept s0 (State.hwWrite s a1 a2).2 := by
  unfold State.hwWrite
  split
  · rename_i z1 z2 z3
    have hz2 : Kept s0 z2 := kept_snd z3 (readEnds_kept h)
    exact hz2
  · rename_i z4 z5 z6
    have hz5 : Kept s0 z5 := kept_snd z6 (readEnds_kept h)
    exact mput_kept hz5

theorem busRead_kept {s0 s : State} {a1 a2 a3} (h : Kept s0 s) :
    Kept s0 (State.busRead s a1 a2 a3).2 := by
  unfold State.busRead
  split
  · exact grant_kept h
  · exact hwRead_kept (transfer_kept h)

theorem busWrite_kept {s0 s : State} {a1 a2 a3} (h : Kept s0 s) :
    Kept s0 (State.busWrite s a1 a2 a3).2 := by
  unfold State.busWrite
  split
  · exact grant_kept h
  · exact hwWrite_kept (transfer_kept h)

theorem blockRead_kept {s0 s : State} {a1 a2 a3} (h : Kept s0 s) :
    Kept s0 (State.blockRead s a1 a2 a3).2 := by
  unfold State.blockRead
  split
  · rename_i z1 z2 z3 z4
    have hz3 : Kept s0 z3 := kept_snd z4 (busRead_kept h)
    exact hz3

theorem blockWrite_kept {s0 s : State} {a1 a2 a3} (h : Kept s0 s) :
    Kept s0 (State.blockWrite s a1 a2 a3) := by
  unfold State.blockWrite
  extract_lets x1 x2 x3 x4 x5
  have hx1 : ∀ y0 y1 y2, Kept s0 y0 → Kept s0 (x1 y0 y1 y2) := (fun _ _ _ k0 => (kept_ite k0 (hwWrite_kept k0)))
  clear_value x1
  clear_value x2
  clear_value x3
  have hx4 : Kept s0 x4 := (hx1 _ _ _ (transfer_kept h))
  clear_value x4
  have hx5 : Kept s0 x5 := (kept_ite hx4 (mput_kept hx4))
  clear_value x5
  exact kept_ite (grant_kept h) (hx1 _ _ _ hx5)

theorem qTake_kept {s0 s : State} {a1} (h : Kept s0 s) :
    Kept s0 (State.qTake s a1).2 := by
  unfold State.qTake
  extract_lets x1
  clear_value x1
  split
  · split
    · rename_i z1 z2 z3 z4
      have hz3 : Kept s0 z3 := kept_snd z4 (busRead_kept h)
      exact bump_kept hz3
  · exact h

/-! ### Events -/

theorem sendUnit_kept {s0 s : State} {a1 a2 a3} (h : Kept s0 s) :
    Kept s0 (State.sendUnit s a1 a2 a3) := by
  unfold State.sendUnit
  extract_lets x1
  clear_value x1
  exact kept_ite (h.upd rfl rfl rfl rfl rfl) h

theorem sendLink_kept {s0 s : State} {a1 a2 a3} (h : Kept s0 s) :
    Kept s0 (State.sendLink s a1 a2 a3) := by
  unfold State.sendLink
  exact sendUnit_kept h

theorem sendCtrl_kept {s0 s : State} {a1} (h : Kept s0 s) :
    Kept s0 (State.sendCtrl s a1) := by
  unfold State.sendCtrl
  exact sendUnit_kept h

theorem sendCopyUnit_kept {s0 s : State} {a1 a2} (h : Kept s0 s) :
    Kept s0 (State.sendCopyUnit s a1 a2) := by
  unfold State.sendCopyUnit
  exact sendUnit_kept h

theorem setBucket_kept {s0 s : State} {a1 a2} (h : Kept s0 s) :
    Kept s0 (State.setBucket s a1 a2) := by
  unfold State.setBucket
  exact h.upd rfl rfl rfl rfl rfl

theorem countRecord_kept {s0 s : State} (h : Kept s0 s) :
    Kept s0 (State.countRecord s) := by
  unfold State.countRecord
  exact pmc1_kept (bump_kept (h.upd rfl rfl rfl rfl rfl))

theorem acceptRecord_kept {s0 s : State} {a1 a2 a3 a4 a5 a6 a7 a8 a9} (h : Kept s0 s) :
    Kept s0 (State.acceptRecord s a1 a2 a3 a4 a5 a6 a7 a8 a9) := by
  unfold State.acceptRecord
  extract_lets x1 x2
  clear_value x1
  clear_value x2
  exact countRecord_kept (h.upd rfl rfl rfl rfl rfl)

theorem offerRecord_kept {s0 s : State} {a1 a2 a3 a4 a5 a6 a7} (h : Kept s0 s) :
    Kept s0 (State.offerRecord s a1 a2 a3 a4 a5 a6 a7).2 := by
  unfold State.offerRecord
  extract_lets x1 x2 x3
  clear_value x1
  clear_value x2
  clear_value x3
  split
  · dsimp only
    exact acceptRecord_kept h
  · split
    · extract_lets x4 x5
      clear_value x4
      have hx5 : Kept s0 x5 := (setBucket_kept h)
      clear_value x5
      split
      · dsimp only
        exact acceptRecord_kept hx5
      · dsimp only
        exact pmc1_kept (bump_kept (setBucket_kept h))

theorem setPostAt_kept {s0 s : State} {a1 a2} (h : Kept s0 s) :
    Kept s0 (State.setPostAt s a1 a2) := by
  unfold State.setPostAt
  extract_lets x1
  clear_value x1
  exact h.upd rfl rfl rfl rfl rfl

theorem postEnds_kept {s0 s : State} {a1 a2} (h : Kept s0 s) :
    Kept s0 (State.postEnds s a1 a2) := by
  unfold State.postEnds
  exact setFld_kept (setFlag_kept (setPostAt_kept h))

theorem postTake_kept {s0 s : State} {a1 a2} (h : Kept s0 s) :
    Kept s0 (State.postTake s a1 a2) := by
  unfold State.postTake
  extract_lets x1 x2 x3 x4 x5 x6 x7
  clear_value x1
  clear_value x2
  clear_value x3
  clear_value x4
  clear_value x5
  clear_value x6
  clear_value x7
  split
  · exact postEnds_kept h
  · split
    · rename_i z1 z2 z3 z4
      have hz3 : Kept s0 z3 := kept_snd z4 (offerRecord_kept h)
      exact postEnds_kept hz3

theorem offerEntry_kept {s0 s : State} {a1} (h : Kept s0 s) :
    Kept s0 (State.offerEntry s a1) := by
  unfold State.offerEntry
  extract_lets x1 x2
  clear_value x1
  clear_value x2
  exact kept_ite h (offerRecord_kept h)

theorem evrServe_kept {s0 s : State} {a1} (h : Kept s0 s) :
    Kept s0 (State.evrServe s a1) := by
  unfold State.evrServe
  extract_lets x1
  clear_value x1
  split
  · split
    · rename_i z1 z2 z3 z4
      have hz3 : Kept s0 z3 := kept_snd z4 (qTake_kept h)
      exact offerEntry_kept hz3
    · rename_i z5 z6 z7
      have hz6 : Kept s0 z6 := kept_snd z7 (qTake_kept h)
      exact hz6
  · split
    · split
      · exact offerEntry_kept (h.upd rfl rfl rfl rfl rfl)
      · exact h
    · split
      · exact postTake_kept h
      · exact h

theorem ingestEntry_kept {s0 s : State} (h : Kept s0 s) :
    Kept s0 (State.ingestEntry s) := by
  unfold State.ingestEntry
  extract_lets x1
  clear_value x1
  split
  · exact h
  · split
    · exact h
    · exact evrServe_kept (h.upd rfl rfl rfl rfl rfl)

theorem servePost_kept {s0 s : State} {a1} (h : Kept s0 s) :
    Kept s0 (State.servePost s a1) := by
  unfold State.servePost
  exact foldl_kept h (fun _ _ k0 => (kept_ite (ingestEntry_kept k0) k0))

theorem postGo_kept {s0 s : State} {a1} (h : Kept s0 s) :
    Kept s0 (State.postGo s a1) := by
  unfold State.postGo
  exact kept_ite h (kept_ite (postEnds_kept h) (setFlag_kept (setPostAt_kept h)))

theorem postCtl_kept {s0 s : State} {a1 a2 a3} (h : Kept s0 s) :
    Kept s0 (State.postCtl s a1 a2 a3) := by
  unfold State.postCtl
  extract_lets x1
  have hx1 : Kept s0 x1 := (setFlag_kept h)
  clear_value x1
  exact kept_ite h (kept_ite (postGo_kept hx1) hx1)

theorem postBufWrite_kept {s0 s : State} {a1 a2 a3} (h : Kept s0 s) :
    Kept s0 (State.postBufWrite s a1 a2 a3) := by
  unfold State.postBufWrite
  exact kept_ite h (setReg_kept h)

theorem postsLost_kept {s0 s : State} (h : Kept s0 s) :
    Kept s0 (State.postsLost s) := by
  unfold State.postsLost
  exact foldl_kept h (fun _ _ k0 => (kept_ite (postEnds_kept k0) k0))

theorem post_kept {s0 s : State} {a1 a2 a3} (h : Kept s0 s) :
    Kept s0 (State.post s a1 a2 a3) := by
  unfold State.post
  extract_lets x1 x2 x3
  have hx1 : Kept s0 x1 := (servePost_kept h)
  clear_value x1
  clear_value x2
  clear_value x3
  exact kept_ite hx1 (servePost_kept (postGo_kept (setFlag_kept (putWords_kept hx1))))

theorem copeEvent_kept {s0 s : State} {a1 a2} (h : Kept s0 s) :
    Kept s0 (State.copeEvent s a1 a2) := by
  unfold State.copeEvent
  exact post_kept h

theorem runtimeEvent_kept {s0 s : State} {a1 a2} (h : Kept s0 s) :
    Kept s0 (State.runtimeEvent s a1 a2) := by
  unfold State.runtimeEvent
  exact post_kept h

end Sys2Proof.Laws
end

