-- ==== Sys2Proof/Laws/KeptCells.lean ====
section
/-! SUPPORT. What every operation of the sequencer clock, the caches, the channel cells and the safety plane keeps (`Kept`). -/

namespace Sys2Proof.Laws

open Sys2Proof.Machine

/-! ### Cache -/

theorem granted_kept {s0 s : State} {a1} (h : Kept s0 s) :
    Kept s0 (State.granted s a1) := by
  unfold State.granted
  exact grant_kept h

theorem served_kept {s0 s : State} {a1 a2 a3} (h : Kept s0 s) :
    Kept s0 (State.served s a1 a2 a3) := by
  unfold State.served
  extract_lets x1
  have hx1 : Kept s0 x1 := (pmcBytes_kept h)
  clear_value x1
  split
  · exact pmcCount_kept hx1
  · exact hx1

theorem memTraffic_kept {s0 s : State} {a1 a2 a3 a4} (h : Kept s0 s) :
    Kept s0 (State.memTraffic s a1 a2 a3 a4) := by
  unfold State.memTraffic
  exact transfer_kept h

theorem markDirty_kept {s0 s : State} {a1 a2} (h : Kept s0 s) :
    Kept s0 (State.markDirty s a1 a2) := by
  unfold State.markDirty
  split
  · refine foldl_kept ?_ ?_
    · exact h
    · intro w0_0 w0_1 hw0
      extract_lets x1 x2 x3
      clear_value x1
      clear_value x2
      clear_value x3
      exact hw0.upd rfl rfl rfl rfl rfl
  · exact h

theorem setLine_kept {s0 s : State} {a1 a2 a3} (h : Kept s0 s) :
    Kept s0 (State.setLine s a1 a2 a3) := by
  unfold State.setLine
  extract_lets x1
  clear_value x1
  exact h.upd rfl rfl rfl rfl rfl

theorem lineBack_kept {s0 s : State} {a1 a2} (h : Kept s0 s) :
    Kept s0 (State.lineBack s a1 a2) := by
  unfold State.lineBack
  split
  · exact h
  · extract_lets x1
    have hx1 : Kept s0 x1 := (setLine_kept h)
    clear_value x1
    exact kept_ite h (kept_ite hx1 (markDirty_kept (mput_kept (pmc1_kept (transfer_kept hx1)))))

theorem cacheClean_kept {s0 s : State} {a1 a2 a3} (h : Kept s0 s) :
    Kept s0 (State.cacheClean s a1 a2 a3) := by
  unfold State.cacheClean
  exact foldl_kept h (fun _ _ k0 => (lineBack_kept k0))

theorem cacheInval_kept {s0 s : State} {a1 a2 a3} (h : Kept s0 s) :
    Kept s0 (State.cacheInval s a1 a2 a3) := by
  unfold State.cacheInval
  exact foldl_kept h (fun _ _ k0 => (setLine_kept k0))

theorem cacheFlush_kept {s0 s : State} {a1 a2 a3} (h : Kept s0 s) :
    Kept s0 (State.cacheFlush s a1 a2 a3) := by
  unfold State.cacheFlush
  exact cacheInval_kept (cacheClean_kept h)

theorem cacheDrop_kept {s0 s : State} {a1 a2} (h : Kept s0 s) :
    Kept s0 (State.cacheDrop s a1 a2) := by
  unfold State.cacheDrop
  exact cacheInval_kept (cacheInval_kept h)

theorem intoLines_kept {s0 s : State} {a1 a2 a3 a4} (h : Kept s0 s) :
    Kept s0 (State.intoLines s a1 a2 a3 a4) := by
  unfold State.intoLines
  refine foldl_kept ?_ ?_
  · exact h
  · intro w0_0 w0_1 hw0
    split
    · exact hw0
    · extract_lets x1
      clear_value x1
      exact setLine_kept hw0

theorem corePut_kept {s0 s : State} {a1 a2 a3} (h : Kept s0 s) :
    Kept s0 (State.corePut s a1 a2 a3).2 := by
  unfold State.corePut
  extract_lets x1
  clear_value x1
  split
  · exact intoLines_kept h
  · split
    · rename_i z1 z2 z3
      have hz2 : Kept s0 z2 := kept_snd z3 (busWrite_kept h)
      exact hz2
    · rename_i z4 z5 z6
      have hz5 : Kept s0 z5 := kept_snd z6 (busWrite_kept h)
      exact intoLines_kept (markDirty_kept hz5)

/-! ### Seq -/

theorem setTask_kept {s0 s : State} {a1 a2} (h : Kept s0 s) :
    Kept s0 (State.setTask s a1 a2) := by
  unfold State.setTask
  exact h.upd rfl rfl rfl rfl rfl

theorem updAligned_kept {s0 s : State} (h : Kept s0 s) :
    Kept s0 (State.updAligned s) := by
  unfold State.updAligned
  exact kept_ite h (event_kept (setFlag_kept h))

theorem seqStep_kept {s0 s : State} {a1} (h : Kept s0 s) :
    Kept s0 (State.seqStep s a1) := by
  unfold State.seqStep
  extract_lets x1 x2 x3
  clear_value x1
  have hx2 : Kept s0 x2 := (h.upd rfl rfl rfl rfl rfl)
  have hx3 : Kept s0 x3 := (kept_ite (event_kept (setFlag_kept (setFlag_kept hx2))) (setFlag_kept (setFlag_kept hx2)))
  clear_value x3
  exact kept_ite (updAligned_kept hx3) (updAligned_kept h)

theorem triggerAt_kept {s0 s : State} {a1 a2 a3 a4 a5 a6} (h : Kept s0 s) :
    Kept s0 (State.triggerAt s a1 a2 a3 a4 a5 a6) := by
  unfold State.triggerAt
  extract_lets x1 x2 x3
  clear_value x1
  clear_value x2
  have hx3 : Kept s0 x3 := (qOffer_kept h)
  clear_value x3
  exact kept_ite (event_kept hx3) hx3

theorem trigger_kept {s0 s : State} {a1 a2 a3 a4 a5} (h : Kept s0 s) :
    Kept s0 (State.trigger s a1 a2 a3 a4 a5) := by
  unfold State.trigger
  exact triggerAt_kept h

theorem dropTriggers_kept {s0 s : State} (h : Kept s0 s) :
    Kept s0 (State.dropTriggers s) := by
  unfold State.dropTriggers
  extract_lets x1
  have hx1 : Kept s0 x1 := (foldl_kept h fun _ _ k0 => (setReg_kept k0))
  clear_value x1
  refine foldl_kept ?_ ?_
  · exact hx1
  · intro w2_0 w2_1 hw2
    extract_lets x2
    clear_value x2
    exact setFlag_kept (setTask_kept hw2)

theorem acyclicAdmit_kept {s0 s : State} {a1 a2 a3 a4} (h : Kept s0 s) :
    Kept s0 (State.acyclicAdmit s a1 a2 a3 a4).2 := by
  unfold State.acyclicAdmit
  extract_lets x1 x2 x3
  clear_value x1
  clear_value x2
  clear_value x3
  split
  · dsimp only
    exact h.upd rfl rfl rfl rfl rfl
  · dsimp only
    exact event_kept (bump_kept h)

theorem pourStart_kept {s0 s : State} (h : Kept s0 s) :
    Kept s0 (State.pourStart s) := by
  unfold State.pourStart
  extract_lets x1 x2 x3 x4 x5
  clear_value x1
  have hx2 : Kept s0 x2 := (h.upd rfl rfl rfl rfl rfl)
  clear_value x2
  have hx3 : Kept s0 x3 := (setFlag_kept (setFlag_kept (setFlag_kept (setFld_kept hx2))))
  clear_value x3
  clear_value x4
  have hx5 : Kept s0 x5 := (foldl_kept hx3 fun _ _ k0 => (kept_ite k0 (setFld_kept (setTask_kept k0))))
  clear_value x5
  exact updAligned_kept hx5

theorem pourHalt_kept {s0 s : State} (h : Kept s0 s) :
    Kept s0 (State.pourHalt s) := by
  unfold State.pourHalt
  extract_lets x1 x2
  have hx1 : Kept s0 x1 := (dropTriggers_kept (setFlag_kept (setFld_kept h)))
  clear_value x1
  clear_value x2
  exact kept_ite (foldl_kept hx1 fun _ _ k0 => (kept_ite k0 (setFlag_kept (setFld_kept (setTask_kept k0))))) h

theorem pourOff_kept {s0 s : State} (h : Kept s0 s) :
    Kept s0 (State.pourOff s) := by
  unfold State.pourOff
  extract_lets x1 x2 x3
  have hx1 : Kept s0 x1 := (setFlag_kept (setFld_kept h))
  clear_value x1
  clear_value x2
  have hx3 : Kept s0 x3 := (hx1.upd rfl rfl rfl rfl rfl)
  clear_value x3
  exact updAligned_kept (setFlag_kept (setFlag_kept hx3))

/-! ### Cells -/

theorem setCell_kept {s0 s : State} {a1 a2} (h : Kept s0 s) :
    Kept s0 (State.setCell s a1 a2) := by
  unfold State.setCell
  exact h.upd rfl rfl rfl rfl rfl

theorem cellEvent_kept {s0 s : State} {a1 a2} (h : Kept s0 s) :
    Kept s0 (State.cellEvent s a1 a2) := by
  unfold State.cellEvent
  exact event_kept h

theorem inSubst_kept {s0 s : State} {a1} (h : Kept s0 s) :
    Kept s0 (State.inSubst s a1) := by
  unfold State.inSubst
  extract_lets x1 x2 x3 x4 x5
  clear_value x1
  clear_value x2
  clear_value x3
  have hx4 : Kept s0 x4 := (orReg_kept (setReg_kept h))
  clear_value x4
  clear_value x5
  exact setCell_kept hx4

theorem putResult_kept {s0 s : State} {a1 a2} (h : Kept s0 s) :
    Kept s0 (State.putResult s a1 a2) := by
  unfold State.putResult
  extract_lets x1 x2 x3 x4 x5 x6 x7
  clear_value x1
  have hx2 : Kept s0 x2 := (pmcCount_kept (bump_kept (portMove_kept h)))
  clear_value x2
  clear_value x3
  have hx4 : Kept s0 x4 := (kept_ite (pmcCount_kept (bump_kept hx2)) hx2)
  clear_value x4
  have hx5 : Kept s0 x5 := (putWords_kept hx4)
  clear_value x5
  have hx6 : Kept s0 x6 := (foldl_kept hx5 (fun _ _ k0 => (cellEvent_kept k0)))
  clear_value x6
  have hx7 : Kept s0 x7 := (kept_ite (setFlag_kept hx6) hx6)
  clear_value x7
  exact kept_ite (setFlag_kept hx7) hx7

theorem thresholds_kept {s0 s : State} {a1 a2} (h : Kept s0 s) :
    Kept s0 (State.thresholds s a1 a2) := by
  unfold State.thresholds
  extract_lets x1 x2 x3 x4 x5 x6
  clear_value x1
  clear_value x2
  clear_value x3
  clear_value x4
  clear_value x5
  have hx6 : ∀ y0 y1, Kept s0 y0 → Kept s0 (x6 y0 y1) := by
    intro y0 y1 hy
    simp only [x6]
    exact trigger_kept (setCell_kept hy)
  clear_value x6
  exact kept_ite (kept_ite (hx6 _ _ h) (kept_ite (setCell_kept h) h)) (kept_ite (kept_ite (hx6 _ _ h) (kept_ite (setCell_kept h) h)) h)

theorem windowEnds_kept {s0 s : State} {a1} (h : Kept s0 s) :
    Kept s0 (State.windowEnds s a1) := by
  unfold State.windowEnds
  exact kept_ite (setFlag_kept h) h

theorem recoverCount_kept {s0 s : State} {a1} (h : Kept s0 s) :
    Kept s0 (State.recoverCount s a1).2 := by
  unfold State.recoverCount
  extract_lets x1
  clear_value x1
  split
  · split
    · dsimp only
      exact setCell_kept h
    · dsimp only
      exact setFlag_kept (setCell_kept h)
  · dsimp only
    exact setCell_kept h

theorem inputResult_kept {s0 s : State} {a1 a2} (h : Kept s0 s) :
    Kept s0 (State.inputResult s a1 a2) := by
  unfold State.inputResult
  extract_lets x1 x2 x3 x4 x5 x6 x7 x8
  clear_value x1
  clear_value x2
  clear_value x3
  clear_value x4
  clear_value x5
  clear_value x6
  clear_value x7
  clear_value x8
  split
  · extract_lets x9
    clear_value x9
    split
    · rename_i z1 z2 z3 z4
      have hz3 : Kept s0 z3 := kept_snd z4 (recoverCount_kept h)
      extract_lets x10 x11
      clear_value x10
      clear_value x11
      split
      · exact hz3
      · split
        · exact putResult_kept (setCell_kept hz3)
        · split
          · extract_lets x12 x13 x14 x15
            clear_value x12
            clear_value x13
            clear_value x14
            clear_value x15
            split
            · split
              · extract_lets x16 x17 x18 x19 x20 x21 x22
                have hx16 : Kept s0 x16 := (setCell_kept hz3)
                clear_value x16
                clear_value x17
                clear_value x18
                clear_value x19
                clear_value x20
                have hx21 : Kept s0 x21 := (setCell_kept hx16)
                clear_value x21
                have hx22 : Kept s0 x22 := (putResult_kept hx21)
                clear_value x22
                exact kept_ite hx22 (thresholds_kept hx22)

theorem missing_kept {s0 s : State} {a1} (h : Kept s0 s) :
    Kept s0 (State.missing s a1) := by
  unfold State.missing
  extract_lets x1 x2 x3 x4 x5 x6 x7 x8
  clear_value x1
  have hx2 : Kept s0 x2 := (windowEnds_kept h)
  clear_value x2
  clear_value x3
  clear_value x4
  have hx5 : Kept s0 x5 := (orReg_kept (setCell_kept hx2))
  clear_value x5
  have hx6 : Kept s0 x6 := (kept_ite hx5 (cellEvent_kept hx5))
  clear_value x6
  have hx7 : Kept s0 x7 := (cellEvent_kept (setFlag_kept (setFlag_kept hx6)))
  clear_value x7
  clear_value x8
  exact kept_ite hx2 (kept_ite (setCell_kept hx2) (kept_ite hx6 (inSubst_kept (setCell_kept hx7))))

theorem diAccept_kept {s0 s : State} {a1 a2} (h : Kept s0 s) :
    Kept s0 (State.diAccept s a1 a2) := by
  unfold State.diAccept
  extract_lets x1 x2 x3 x4 x5 x6 x7 x8 x9 x10
  clear_value x1
  clear_value x2
  clear_value x3
  clear_value x4
  clear_value x5
  clear_value x6
  clear_value x7
  have hx8 : Kept s0 x8 := (setCell_kept h)
  clear_value x8
  have hx9 : Kept s0 x9 := (putResult_kept hx8)
  clear_value x9
  clear_value x10
  exact kept_ite h (kept_ite (trigger_kept hx9) hx9)

theorem diRaw_kept {s0 s : State} {a1 a2} (h : Kept s0 s) :
    Kept s0 (State.diRaw s a1 a2) := by
  unfold State.diRaw
  extract_lets x1 x2 x3
  clear_value x1
  clear_value x2
  have hx3 : Kept s0 x3 := (kept_ite h (setCell_kept h))
  clear_value x3
  exact putResult_kept hx3

theorem waveResult_kept {s0 s : State} {a1 a2 a3 a4 a5 a6 a7 a8 a9} (h : Kept s0 s) :
    Kept s0 (State.waveResult s a1 a2 a3 a4 a5 a6 a7 a8 a9) := by
  unfold State.waveResult
  extract_lets x1 x2 x3 x4
  clear_value x1
  clear_value x2
  clear_value x3
  clear_value x4
  split
  · extract_lets x5 x6 x7 x8 x9
    have hx5 : Kept s0 x5 := (setCell_kept h)
    clear_value x5
    clear_value x6
    clear_value x7
    clear_value x8
    have hx9 : Kept s0 x9 := (kept_ite hx5 (setCell_kept hx5))
    clear_value x9
    exact putResult_kept hx9

theorem waveReady_kept {s0 s : State} {a1} (h : Kept s0 s) :
    Kept s0 (State.waveReady s a1) := by
  unfold State.waveReady
  extract_lets x1
  clear_value x1
  split
  · exact h
  · exact kept_ite h (waveResult_kept (setCell_kept h))

theorem wavesReady_kept {s0 s : State} (h : Kept s0 s) :
    Kept s0 (State.wavesReady s) := by
  unfold State.wavesReady
  exact foldl_kept h (fun _ _ k0 => (kept_ite (waveReady_kept k0) k0))

theorem waveSample_kept {s0 s : State} {a1 a2 a3} (h : Kept s0 s) :
    Kept s0 (State.waveSample s a1 a2 a3) := by
  unfold State.waveSample
  extract_lets x1 x2 x3 x4 x5 x6 x7 x8 x9 x10 x11 x12 x13 x14 x15 x16 x17 x18 x19 x20 x21 x22 x23 x24 x25 x26 x27
  clear_value x1
  clear_value x2
  clear_value x3
  clear_value x4
  clear_value x5
  clear_value x6
  clear_value x7
  clear_value x8
  clear_value x9
  clear_value x10
  clear_value x11
  clear_value x12
  clear_value x13
  clear_value x14
  clear_value x15
  clear_value x16
  clear_value x17
  clear_value x18
  clear_value x19
  have hx20 : Kept s0 x20 := (kept_ite h (cellEvent_kept (setBit_kept h)))
  clear_value x20
  clear_value x21
  clear_value x22
  clear_value x23
  have hx24 : Kept s0 x24 := (setBit_kept (setCell_kept hx20))
  clear_value x24
  clear_value x25
  clear_value x26
  clear_value x27
  split
  · split
    · split
      · extract_lets x28 x29 x30 x31
        clear_value x28
        clear_value x29
        clear_value x30
        clear_value x31
        exact kept_ite hx24 (waveReady_kept (setCell_kept hx20))
      · exact hx24
    · exact setCell_kept hx20
  · exact setCell_kept hx20

theorem noCycle_kept {s0 s : State} {a1} (h : Kept s0 s) :
    Kept s0 (State.noCycle s a1) := by
  unfold State.noCycle
  extract_lets x1 x2
  clear_value x1
  clear_value x2
  exact waveResult_kept h

/-! ### Outputs -/

theorem endTrim_kept {s0 s : State} {a1} (h : Kept s0 s) :
    Kept s0 (State.endTrim s a1) := by
  unfold State.endTrim
  exact kept_ite h (cellEvent_kept (setFld_kept h))

theorem updDrive_kept {s0 s : State} {a1} (h : Kept s0 s) :
    Kept s0 (State.updDrive s a1) := by
  unfold State.updDrive
  extract_lets x1 x2 x3 x4 x5
  have hx1 : Kept s0 x1 := (kept_ite (endTrim_kept h) h)
  clear_value x1
  clear_value x2
  clear_value x3
  clear_value x4
  clear_value x5
  exact setCell_kept hx1

theorem outSub_kept {s0 s : State} {a1} (h : Kept s0 s) :
    Kept s0 (State.outSub s a1) := by
  unfold State.outSub
  extract_lets x1
  clear_value x1
  exact updDrive_kept (endTrim_kept (orReg_kept (setCell_kept h)))

theorem endSub_kept {s0 s : State} {a1} (h : Kept s0 s) :
    Kept s0 (State.endSub s a1) := by
  unfold State.endSub
  extract_lets x1
  clear_value x1
  exact kept_ite (updDrive_kept (setCell_kept h)) h

theorem updAllDrives_kept {s0 s : State} (h : Kept s0 s) :
    Kept s0 (State.updAllDrives s) := by
  unfold State.updAllDrives
  exact foldl_kept h fun _ _ k0 => (updDrive_kept k0)

theorem allOutSub_kept {s0 s : State} (h : Kept s0 s) :
    Kept s0 (State.allOutSub s) := by
  unfold State.allOutSub
  exact foldl_kept h fun _ _ k0 => (outSub_kept k0)

theorem cellCommand_kept {s0 s : State} {a1 a2} (h : Kept s0 s) :
    Kept s0 (State.cellCommand s a1 a2) := by
  unfold State.cellCommand
  extract_lets x1 x2
  clear_value x1
  clear_value x2
  split
  · exact outSub_kept h
  · split
    · exact updDrive_kept (cellEvent_kept (setFlag_kept (setCell_kept h)))
    · split
      · extract_lets x3
        have hx3 : Kept s0 x3 := (setCell_kept h)
        clear_value x3
        exact pmcCount_kept (updDrive_kept (setReg_kept (setReg_kept hx3)))

theorem ffRaise_kept {s0 s : State} {a1 a2} (h : Kept s0 s) :
    Kept s0 (State.ffRaise s a1 a2) := by
  unfold State.ffRaise
  extract_lets x1
  have hx1 : Kept s0 x1 := (setBit_kept (setBit_kept h))
  clear_value x1
  exact kept_ite h (cellEvent_kept (orReg_kept (setFlag_kept hx1)))

theorem ffDrop_kept {s0 s : State} {a1 a2} (h : Kept s0 s) :
    Kept s0 (State.ffDrop s a1 a2) := by
  unfold State.ffDrop
  exact setBit_kept h

theorem ffCount_kept {s0 s : State} {a1 a2} (h : Kept s0 s) :
    Kept s0 (State.ffCount s a1 a2) := by
  unfold State.ffCount
  extract_lets x1 x2 x3 x4 x5 x6 x7
  clear_value x1
  clear_value x2
  clear_value x3
  clear_value x4
  have hx5 : Kept s0 x5 := (setCell_kept h)
  clear_value x5
  clear_value x6
  have hx7 : Kept s0 x7 := (setCell_kept h)
  clear_value x7
  exact kept_ite h (kept_ite (kept_ite (ffRaise_kept hx5) hx5) (kept_ite (ffDrop_kept hx7) hx7))

theorem ffResults_kept {s0 s : State} {a1 a2} (h : Kept s0 s) :
    Kept s0 (State.ffResults s a1 a2) := by
  unfold State.ffResults
  extract_lets x1
  clear_value x1
  exact foldl_kept h fun _ _ k0 => (ffCount_kept k0)

theorem stageFail_kept {s0 s : State} {a1 a2} (h : Kept s0 s) :
    Kept s0 (State.stageFail s a1 a2) := by
  unfold State.stageFail
  extract_lets x1 x2 x3 x4 x5
  clear_value x1
  have hx2 : Kept s0 x2 := (setCell_kept h)
  clear_value x2
  have hx3 : Kept s0 x3 := (setFlag_kept (setFlag_kept hx2))
  clear_value x3
  have hx4 : Kept s0 x4 := (cellEvent_kept (orReg_kept hx3))
  clear_value x4
  have hx5 : Kept s0 x5 := (kept_ite (sendCtrl_kept hx4) hx4)
  clear_value x5
  exact updDrive_kept (endTrim_kept hx5)

theorem outputResult_kept {s0 s : State} {a1 a2} (h : Kept s0 s) :
    Kept s0 (State.outputResult s a1 a2) := by
  unfold State.outputResult
  extract_lets x1 x2 x3 x4 x5 x6 x7 x8 x9 x10 x11 x12 x13 x14 x15 x16 x17 x18 x19 x20 x21 x22 x23
  clear_value x1
  clear_value x2
  have hx3 : Kept s0 x3 := (ffResults_kept h)
  clear_value x3
  clear_value x4
  clear_value x5
  clear_value x6
  clear_value x7
  clear_value x8
  clear_value x9
  clear_value x10
  clear_value x11
  clear_value x12
  have hx13 : Kept s0 x13 := (kept_ite (pmcCount_kept (setFlag_kept (bump_kept hx3))) hx3)
  clear_value x13
  clear_value x14
  clear_value x15
  have hx16 : Kept s0 x16 := (kept_ite (cellEvent_kept (setCell_kept hx13)) hx13)
  clear_value x16
  clear_value x17
  clear_value x18
  clear_value x19
  clear_value x20
  clear_value x21
  clear_value x22
  clear_value x23
  split
  · extract_lets x24 x25 x26 x27 x28 x29 x30 x31 x32
    clear_value x24
    clear_value x25
    clear_value x26
    have hx27 : Kept s0 x27 := (setCell_kept hx16)
    clear_value x27
    clear_value x28
    clear_value x29
    clear_value x30
    have hx31 : Kept s0 x31 := (putResult_kept hx27)
    clear_value x31
    have hx32 : Kept s0 x32 := (putWords_kept hx31)
    clear_value x32
    exact kept_ite (stageFail_kept hx32) hx32

theorem cellResult_kept {s0 s : State} {a1 a2} (h : Kept s0 s) :
    Kept s0 (State.cellResult s a1 a2) := by
  unfold State.cellResult
  extract_lets x1 x2 x3
  clear_value x1
  clear_value x2
  have hx3 : Kept s0 x3 := (kept_ite (setFlag_kept h) h)
  clear_value x3
  exact kept_ite h (kept_ite (inputResult_kept (ffResults_kept hx3)) (kept_ite (outputResult_kept hx3) hx3))

theorem doResult_kept {s0 s : State} {a1 a2} (h : Kept s0 s) :
    Kept s0 (State.doResult s a1 a2) := by
  unfold State.doResult
  exact kept_ite (outputResult_kept h) h

theorem stageTest_kept {s0 s : State} {a1 a2 a3 a4 a5 a6} (h : Kept s0 s) :
    Kept s0 (State.stageTest s a1 a2 a3 a4 a5 a6) := by
  unfold State.stageTest
  extract_lets x1 x2 x3
  clear_value x1
  clear_value x2
  have hx3 : Kept s0 x3 := (kept_ite (setBit_kept h) h)
  clear_value x3
  split
  · exact h
  · split
    · extract_lets x4 x5 x6 x7
      clear_value x4
      clear_value x5
      have hx6 : Kept s0 x6 := (setCell_kept hx3)
      clear_value x6
      clear_value x7
      exact kept_ite (updDrive_kept (setFlag_kept (setCell_kept hx6))) hx6

theorem overTemp_kept {s0 s : State} {a1} (h : Kept s0 s) :
    Kept s0 (State.overTemp s a1) := by
  unfold State.overTemp
  exact kept_ite h (stageFail_kept (setBit_kept (setBit_kept h)))

theorem doShort_kept {s0 s : State} {a1} (h : Kept s0 s) :
    Kept s0 (State.doShort s a1) := by
  unfold State.doShort
  extract_lets x1 x2 x3
  clear_value x1
  have hx2 : Kept s0 x2 := (updDrive_kept (setCell_kept h))
  clear_value x2
  clear_value x3
  exact kept_ite (kept_ite (ffRaise_kept (setCell_kept hx2)) hx2) h

theorem doRetry_kept {s0 s : State} {a1} (h : Kept s0 s) :
    Kept s0 (State.doRetry s a1) := by
  unfold State.doRetry
  extract_lets x1
  clear_value x1
  exact kept_ite (updDrive_kept (setCell_kept h)) h

theorem trimWrite_kept {s0 s : State} {a1 a2} (h : Kept s0 s) :
    Kept s0 (State.trimWrite s a1 a2) := by
  unfold State.trimWrite
  extract_lets x1 x2 x3
  clear_value x1
  clear_value x2
  have hx3 : Kept s0 x3 := (setFld_kept h)
  clear_value x3
  exact kept_ite (kept_ite (updDrive_kept (kept_ite (cellEvent_kept hx3) hx3)) h) (kept_ite (updDrive_kept (endTrim_kept h)) h)

theorem endAllTrim_kept {s0 s : State} (h : Kept s0 s) :
    Kept s0 (State.endAllTrim s) := by
  unfold State.endAllTrim
  exact foldl_kept h fun _ _ k0 => (updDrive_kept (endTrim_kept k0))

theorem openWire_kept {s0 s : State} {a1 a2 a3} (h : Kept s0 s) :
    Kept s0 (State.openWire s a1 a2 a3) := by
  unfold State.openWire
  extract_lets x1 x2 x3 x4 x5
  clear_value x1
  clear_value x2
  have hx3 : Kept s0 x3 := (setCell_kept h)
  clear_value x3
  clear_value x4
  have hx5 : Kept s0 x5 := (setCell_kept h)
  clear_value x5
  exact kept_ite (kept_ite (kept_ite (ffRaise_kept hx3) hx3) (kept_ite (ffDrop_kept hx5) hx5)) h

theorem ffTimeout_kept {s0 s : State} {a1 a2 a3} (h : Kept s0 s) :
    Kept s0 (State.ffTimeout s a1 a2 a3) := by
  unfold State.ffTimeout
  extract_lets x1
  clear_value x1
  exact kept_ite (kept_ite (ffRaise_kept h) (ffDrop_kept h)) h

theorem loadChbRegs_kept {s0 s : State} {a1} (h : Kept s0 s) :
    Kept s0 (State.loadChbRegs s a1) := by
  unfold State.loadChbRegs
  extract_lets x1
  clear_value x1
  exact putWords_kept h

theorem cellPowerOn_kept {s0 s : State} {a1} (h : Kept s0 s) :
    Kept s0 (State.cellPowerOn s a1) := by
  unfold State.cellPowerOn
  extract_lets x1 x2
  clear_value x1
  clear_value x2
  exact kept_ite (setFlag_kept (setCell_kept h)) h

theorem cellReinit_kept {s0 s : State} {a1} (h : Kept s0 s) :
    Kept s0 (State.cellReinit s a1) := by
  unfold State.cellReinit
  extract_lets x1
  clear_value x1
  exact kept_ite (setCell_kept h) h

theorem startBlock_kept {s0 s : State} {a1 a2} (h : Kept s0 s) :
    Kept s0 (State.startBlock s a1 a2) := by
  unfold State.startBlock
  extract_lets x1 x2 x3 x4 x5
  have hx1 : Kept s0 x1 := (foldl_kept h (fun _ _ k0 => (endTrim_kept k0)))
  clear_value x1
  have hx2 : Kept s0 x2 := (clearRegs_kept hx1)
  clear_value x2
  clear_value x3
  have hx4 : Kept s0 x4 := by
    unfold x4
    refine foldl_kept ?_ ?_
    · exact hx2
    · intro w0_0 w0_1 hw0
      extract_lets x6
      clear_value x6
      exact setCell_kept hw0
  clear_value x4
  have hx5 : Kept s0 x5 := (loadChbRegs_kept hx4)
  clear_value x5
  refine foldl_kept ?_ ?_
  · exact hx5
  · intro w1_0 w1_1 hw1
    extract_lets x7 x8
    clear_value x7
    have hx8 : Kept s0 x8 := (kept_ite (setFlag_kept hw1) hw1)
    clear_value x8
    exact updDrive_kept hx8

theorem startCells_kept {s0 s : State} (h : Kept s0 s) :
    Kept s0 (State.startCells s) := by
  unfold State.startCells
  extract_lets x1 x2
  clear_value x1
  have hx2 : Kept s0 x2 := (h.upd rfl rfl rfl rfl rfl)
  clear_value x2
  exact foldl_kept hx2 fun _ _ k0 => (startBlock_kept k0)

theorem convOff_kept {s0 s : State} {a1} (h : Kept s0 s) :
    Kept s0 (State.convOff s a1) := by
  unfold State.convOff
  exact setFld_kept h

theorem stopConversion_kept {s0 s : State} (h : Kept s0 s) :
    Kept s0 (State.stopConversion s) := by
  unfold State.stopConversion
  exact foldl_kept (h.upd rfl rfl rfl rfl rfl) fun _ _ k0 => (convOff_kept k0)

theorem unpowerCells_kept {s0 s : State} (h : Kept s0 s) :
    Kept s0 (State.unpowerCells s) := by
  unfold State.unpowerCells
  extract_lets x1 x2
  have hx1 : Kept s0 x1 := (stopConversion_kept h)
  clear_value x1
  clear_value x2
  exact updAllDrives_kept (hx1.upd rfl rfl rfl rfl rfl)

theorem blockSubst_kept {s0 s : State} {a1} (h : Kept s0 s) :
    Kept s0 (State.blockSubst s a1) := by
  unfold State.blockSubst
  refine foldl_kept ?_ ?_
  · exact convOff_kept h
  · intro w0_0 w0_1 hw0
    extract_lets x1
    clear_value x1
    exact kept_ite hw0 (kept_ite (outSub_kept hw0) (inSubst_kept hw0))

/-! ### Safety -/

theorem safEvent_kept {s0 s : State} {a1 a2 a3} (h : Kept s0 s) :
    Kept s0 (State.safEvent s a1 a2 a3) := by
  unfold State.safEvent
  exact qOffer_kept h

theorem setSafState_kept {s0 s : State} {a1} (h : Kept s0 s) :
    Kept s0 (State.setSafState s a1) := by
  unfold State.setSafState
  extract_lets x1 x2
  clear_value x1
  have hx2 : Kept s0 x2 := (h.upd rfl rfl rfl rfl rfl)
  clear_value x2
  exact kept_ite h (safEvent_kept (kept_ite hx2 (setFld_kept hx2)))

theorem safFail_kept {s0 s : State} (h : Kept s0 s) :
    Kept s0 (State.safFail s) := by
  unfold State.safFail
  exact kept_ite h (setSafState_kept h)

theorem safErr_kept {s0 s : State} {a1} (h : Kept s0 s) :
    Kept s0 (State.safErr s a1) := by
  unfold State.safErr
  exact h.upd rfl rfl rfl rfl rfl

theorem updSwitch_kept {s0 s : State} {a1} (h : Kept s0 s) :
    Kept s0 (State.updSwitch s a1) := by
  unfold State.updSwitch
  extract_lets x1 x2 x3 x4 x5 x6 x7 x8
  clear_value x1
  clear_value x2
  clear_value x3
  clear_value x4
  clear_value x5
  clear_value x6
  clear_value x7
  clear_value x8
  exact h.upd rfl rfl rfl rfl rfl

theorem updSwitches_kept {s0 s : State} (h : Kept s0 s) :
    Kept s0 (State.updSwitches s) := by
  unfold State.updSwitches
  exact foldl_kept h fun _ _ k0 => (updSwitch_kept k0)

theorem foxUpdate_kept {s0 s : State} {a1} (h : Kept s0 s) :
    Kept s0 (State.foxUpdate s a1) := by
  unfold State.foxUpdate
  extract_lets x1 x2 x3
  clear_value x1
  clear_value x2
  clear_value x3
  exact updSwitches_kept (h.upd rfl rfl rfl rfl rfl)

theorem latticeSource_kept {s0 s : State} {a1} (h : Kept s0 s) :
    Kept s0 (State.latticeSource s a1) := by
  unfold State.latticeSource
  exact foxUpdate_kept h

theorem frontUpdate_kept {s0 s : State} (h : Kept s0 s) :
    Kept s0 (State.frontUpdate s) := by
  unfold State.frontUpdate
  extract_lets x1
  clear_value x1
  exact foxUpdate_kept h

theorem latticeTimer_kept {s0 s : State} {a1} (h : Kept s0 s) :
    Kept s0 (State.latticeTimer s a1) := by
  unfold State.latticeTimer
  extract_lets x1 x2
  clear_value x1
  clear_value x2
  split
  · exact h
  · extract_lets x3
    clear_value x3
    exact foxUpdate_kept h

theorem foxRestart_kept {s0 s : State} (h : Kept s0 s) :
    Kept s0 (State.foxRestart s) := by
  unfold State.foxRestart
  extract_lets x1 x2 x3 x4
  clear_value x1
  clear_value x2
  clear_value x3
  clear_value x4
  exact foxUpdate_kept h

theorem foxConfigure_kept {s0 s : State} {a1 a2} (h : Kept s0 s) :
    Kept s0 (State.foxConfigure s a1 a2).2 := by
  unfold State.foxConfigure
  split
  · dsimp only
    exact h
  · split
    · dsimp only
      exact h
    · split
      · extract_lets x1 x2
        have hx1 : Kept s0 x1 := (putWords_kept (putWords_kept (putWords_kept h)))
        clear_value x1
        have hx2 : Kept s0 x2 := (setFlag_kept (setFlag_kept hx1))
        clear_value x2
        dsimp only
        exact foxRestart_kept hx2

theorem foxCapture_kept {s0 s : State} (h : Kept s0 s) :
    Kept s0 (State.foxCapture s) := by
  unfold State.foxCapture
  extract_lets x1
  clear_value x1
  exact putWords_kept h

theorem safStop_kept {s0 s : State} (h : Kept s0 s) :
    Kept s0 (State.safStop s) := by
  unfold State.safStop
  extract_lets x1
  clear_value x1
  exact frontUpdate_kept (h.upd rfl rfl rfl rfl rfl)

theorem safDown_kept {s0 s : State} (h : Kept s0 s) :
    Kept s0 (State.safDown s) := by
  unfold State.safDown
  extract_lets x1 x2
  clear_value x1
  have hx2 : Kept s0 x2 := (kept_ite (safEvent_kept (h.upd rfl rfl rfl rfl rfl)) h)
  clear_value x2
  exact safStop_kept (setSafState_kept hx2)

theorem safOff_kept {s0 s : State} (h : Kept s0 s) :
    Kept s0 (State.safOff s) := by
  unfold State.safOff
  extract_lets x1 x2 x3 x4
  have hx1 : Kept s0 x1 := (safDown_kept h)
  clear_value x1
  clear_value x2
  have hx3 : Kept s0 x3 := (hx1.upd rfl rfl rfl rfl rfl)
  clear_value x3
  have hx4 : Kept s0 x4 := (clearRegs_kept hx3)
  clear_value x4
  exact foxRestart_kept hx4

theorem safBoot_kept {s0 s : State} (h : Kept s0 s) :
    Kept s0 (State.safBoot s) := by
  unfold State.safBoot
  extract_lets x1
  clear_value x1
  exact foxRestart_kept (setSafState_kept (h.upd rfl rfl rfl rfl rfl))

theorem safSelftest_kept {s0 s : State} {a1} (h : Kept s0 s) :
    Kept s0 (State.safSelftest s a1) := by
  unfold State.safSelftest
  extract_lets x1 x2 x3
  clear_value x1
  have hx2 : Kept s0 x2 := (setSafState_kept h)
  clear_value x2
  clear_value x3
  split
  · exact h
  · split
    · exact setSafState_kept (h.upd rfl rfl rfl rfl rfl)
    · exact hx2.upd rfl rfl rfl rfl rfl

theorem supplyTrip_kept {s0 s : State} {a1} (h : Kept s0 s) :
    Kept s0 (State.supplyTrip s a1) := by
  unfold State.supplyTrip
  extract_lets x1 x2 x3
  clear_value x1
  have hx2 : Kept s0 x2 := (safEvent_kept (safErr_kept h))
  clear_value x2
  clear_value x3
  exact kept_ite (foxRestart_kept (setFlag_kept hx2)) (updSwitches_kept (hx2.upd rfl rfl rfl rfl rfl))

theorem supplyRecover_kept {s0 s : State} {a1} (h : Kept s0 s) :
    Kept s0 (State.supplyRecover s a1) := by
  unfold State.supplyRecover
  exact kept_ite (foxRestart_kept (setFlag_kept h)) (updSwitches_kept (h.upd rfl rfl rfl rfl rfl))

theorem safLoad_kept {s0 s : State} {a1} (h : Kept s0 s) :
    Kept s0 (State.safLoad s a1) := by
  unfold State.safLoad
  extract_lets x1 x2 x3 x4
  clear_value x1
  clear_value x2
  clear_value x3
  have hx4 : Kept s0 x4 := (updSwitches_kept (h.upd rfl rfl rfl rfl rfl))
  clear_value x4
  exact kept_ite (safEvent_kept hx4) hx4

theorem safOperate_kept {s0 s : State} (h : Kept s0 s) :
    Kept s0 (State.safOperate s) := by
  unfold State.safOperate
  exact kept_ite (setSafState_kept h) h

theorem outFault_kept {s0 s : State} {a1 a2} (h : Kept s0 s) :
    Kept s0 (State.outFault s a1 a2) := by
  unfold State.outFault
  extract_lets x1 x2 x3
  clear_value x1
  have hx2 : Kept s0 x2 := (h.upd rfl rfl rfl rfl rfl)
  clear_value x2
  have hx3 : Kept s0 x3 := (safEvent_kept (safErr_kept hx2))
  clear_value x3
  exact updSwitches_kept hx3

theorem sdiFail_kept {s0 s : State} {a1} (h : Kept s0 s) :
    Kept s0 (State.sdiFail s a1) := by
  unfold State.sdiFail
  extract_lets x1
  clear_value x1
  exact kept_ite h (safEvent_kept (safErr_kept (h.upd rfl rfl rfl rfl rfl)))

theorem tpVerdict_kept {s0 s : State} {a1 a2} (h : Kept s0 s) :
    Kept s0 (State.tpVerdict s a1 a2) := by
  unfold State.tpVerdict
  extract_lets x1 x2 x3 x4 x5
  clear_value x1
  clear_value x2
  clear_value x3
  have hx4 : Kept s0 x4 := (h.upd rfl rfl rfl rfl rfl)
  clear_value x4
  clear_value x5
  exact kept_ite (safEvent_kept (safErr_kept (hx4.upd rfl rfl rfl rfl rfl))) (kept_ite (hx4.upd rfl rfl rfl rfl rfl) hx4)

theorem sdiVerdict_kept {s0 s : State} {a1 a2} (h : Kept s0 s) :
    Kept s0 (State.sdiVerdict s a1 a2) := by
  unfold State.sdiVerdict
  extract_lets x1 x2 x3 x4 x5 x6 x7
  clear_value x1
  clear_value x2
  clear_value x3
  clear_value x4
  clear_value x5
  have hx6 : Kept s0 x6 := (h.upd rfl rfl rfl rfl rfl)
  clear_value x6
  clear_value x7
  exact kept_ite h (kept_ite (sdiFail_kept hx6) (kept_ite (hx6.upd rfl rfl rfl rfl rfl) hx6))

theorem tpSchedule_kept {s0 s : State} {a1 a2} (h : Kept s0 s) :
    Kept s0 (State.tpSchedule s a1 a2) := by
  unfold State.tpSchedule
  extract_lets x1
  have hx1 : Kept s0 x1 := (foldl_kept h fun _ _ k0 => (tpVerdict_kept k0))
  clear_value x1
  exact kept_ite (foldl_kept hx1 fun _ _ k0 => (sdiVerdict_kept k0)) h

theorem preEnergise_kept {s0 s : State} {a1 a2 a3} (h : Kept s0 s) :
    Kept s0 (State.preEnergise s a1 a2 a3) := by
  unfold State.preEnergise
  extract_lets x1
  clear_value x1
  split
  · exact h
  · exact kept_ite h (kept_ite (h.upd rfl rfl rfl rfl rfl) (outFault_kept h))

theorem offPulse_kept {s0 s : State} {a1 a2} (h : Kept s0 s) :
    Kept s0 (State.offPulse s a1 a2) := by
  unfold State.offPulse
  exact kept_ite (h.upd rfl rfl rfl rfl rfl) h

theorem offPulseEnd_kept {s0 s : State} {a1 a2} (h : Kept s0 s) :
    Kept s0 (State.offPulseEnd s a1 a2) := by
  unfold State.offPulseEnd
  extract_lets x1 x2
  clear_value x1
  have hx2 : Kept s0 x2 := (h.upd rfl rfl rfl rfl rfl)
  clear_value x2
  split
  · exact h
  · exact kept_ite hx2 (outFault_kept hx2)

theorem overcurrent_kept {s0 s : State} {a1} (h : Kept s0 s) :
    Kept s0 (State.overcurrent s a1) := by
  unfold State.overcurrent
  exact outFault_kept (safEvent_kept (safErr_kept h))

theorem lfLow_kept {s0 s : State} (h : Kept s0 s) :
    Kept s0 (State.lfLow s) := by
  unfold State.lfLow
  exact safEvent_kept (safErr_kept (h.upd rfl rfl rfl rfl rfl))

theorem lfRestored_kept {s0 s : State} (h : Kept s0 s) :
    Kept s0 (State.lfRestored s) := by
  unfold State.lfRestored
  exact h.upd rfl rfl rfl rfl rfl

theorem takeQ61_kept {s0 s : State} {a1} (h : Kept s0 s) :
    Kept s0 (State.takeQ61 s a1) := by
  induction a1 generalizing s with
  | zero => exact h
  | succ k ih =>
    unfold State.takeQ61
    have hq := qTake_kept (a1 := 61) h
    split
    · exact kept_snd ‹_› hq
    · rename_i e
      exact ih ((kept_snd e hq).upd rfl rfl rfl rfl rfl)

theorem pairCycle_kept {s0 s : State} {a1} (h : Kept s0 s) :
    Kept s0 (State.pairCycle s a1) := by
  unfold State.pairCycle
  extract_lets x1 x2 x3 x4 x5 x6 x7 x8 x9 x10 x11 x12 x13 x14
  clear_value x1
  clear_value x2
  clear_value x3
  clear_value x4
  clear_value x5
  clear_value x6
  clear_value x7
  clear_value x8
  clear_value x9
  clear_value x10
  clear_value x11
  clear_value x12
  clear_value x13
  have hx14 : Kept s0 x14 := (h.upd rfl rfl rfl rfl rfl)
  clear_value x14
  exact kept_ite (safEvent_kept (safErr_kept hx14)) hx14

theorem inputLatch_kept {s0 s : State} {a1} (h : Kept s0 s) :
    Kept s0 (State.inputLatch s a1) := by
  unfold State.inputLatch
  extract_lets x1 x2 x3 x4 x5
  clear_value x1
  clear_value x2
  clear_value x3
  have hx4 : Kept s0 x4 := (h.upd rfl rfl rfl rfl rfl)
  clear_value x4
  have hx5 : Kept s0 x5 := (foldl_kept hx4 fun _ _ k0 => (pairCycle_kept k0))
  clear_value x5
  exact takeQ61_kept hx5

theorem agreeCycle_kept {s0 s : State} {a1 a2 a3} (h : Kept s0 s) :
    Kept s0 (State.agreeCycle s a1 a2 a3) := by
  unfold State.agreeCycle
  extract_lets x1 x2 x3 x4 x5 x6 x7 x8 x9 x10 x11 x12 x13 x14
  clear_value x1
  clear_value x2
  clear_value x3
  clear_value x4
  clear_value x5
  clear_value x6
  clear_value x7
  clear_value x8
  clear_value x9
  clear_value x10
  have hx11 : Kept s0 x11 := (h.upd rfl rfl rfl rfl rfl)
  clear_value x11
  clear_value x12
  have hx13 : Kept s0 x13 := (kept_ite (safEvent_kept (hx11.upd rfl rfl rfl rfl rfl)) hx11)
  clear_value x13
  clear_value x14
  exact kept_ite h (kept_ite (kept_ite (safEvent_kept (hx13.upd rfl rfl rfl rfl rfl)) hx13) (kept_ite (safEvent_kept (hx13.upd rfl rfl rfl rfl rfl)) hx13))

theorem staticCycle_kept {s0 s : State} {a1 a2 a3} (h : Kept s0 s) :
    Kept s0 (State.staticCycle s a1 a2 a3) := by
  unfold State.staticCycle
  extract_lets x1 x2 x3 x4 x5
  clear_value x1
  clear_value x2
  clear_value x3
  clear_value x4
  have hx5 : Kept s0 x5 := (h.upd rfl rfl rfl rfl rfl)
  clear_value x5
  exact kept_ite h (kept_ite h (kept_ite (outFault_kept hx5) hx5))

theorem runSafety_kept {s0 s : State} (h : Kept s0 s) :
    Kept s0 (State.runSafety s) := by
  unfold State.runSafety
  extract_lets x1
  clear_value x1
  split
  · extract_lets x2 x3 x4 x5 x6
    clear_value x2
    clear_value x3
    clear_value x4
    have hx5 : Kept s0 x5 := (h.upd rfl rfl rfl rfl rfl)
    clear_value x5
    have hx6 : Kept s0 x6 := (kept_ite hx5 (safEvent_kept hx5))
    clear_value x6
    exact updSwitches_kept hx6

theorem writeContainer_kept {s0 s : State} {a1} (h : Kept s0 s) :
    Kept s0 (State.writeContainer s a1) := by
  unfold State.writeContainer
  extract_lets x1 x2
  clear_value x1
  clear_value x2
  exact h.upd rfl rfl rfl rfl rfl

theorem safPublish_kept {s0 s : State} {a1 a2 a3 a4} (h : Kept s0 s) :
    Kept s0 (State.safPublish s a1 a2 a3 a4) := by
  unfold State.safPublish
  extract_lets x1 x2 x3 x4 x5 x6 x7 x8
  clear_value x1
  clear_value x2
  clear_value x3
  clear_value x4
  have hx5 : Kept s0 x5 := (orReg_kept (setRegN_kept h))
  clear_value x5
  have hx6 : Kept s0 x6 := (putWords_kept hx5)
  clear_value x6
  have hx7 : Kept s0 x7 := (putWords_kept hx6)
  clear_value x7
  clear_value x8
  exact hx7.upd rfl rfl rfl rfl rfl

theorem putQ63_kept {s0 s : State} (h : Kept s0 s) :
    Kept s0 (State.putQ63 s) := by
  unfold State.putQ63
  extract_lets x1 x2 x3
  clear_value x1
  clear_value x2
  clear_value x3
  exact kept_ite h (qOffer_kept (h.upd rfl rfl rfl rfl rfl))

theorem safetyCycle_kept {s0 s : State} {a1 a2} (h : Kept s0 s) :
    Kept s0 (State.safetyCycle s a1 a2).2 := by
  unfold State.safetyCycle
  extract_lets x1 x2 x3 x4 x5 x6 x7 x8 x9 x10 x11 x12
  have hx1 : Kept s0 x1 := (bump_kept h)
  clear_value x1
  have hx2 : Kept s0 x2 := (inputLatch_kept hx1)
  clear_value x2
  clear_value x3
  clear_value x4
  clear_value x5
  clear_value x6
  have hx7 : Kept s0 x7 := (hx2.upd rfl rfl rfl rfl rfl)
  clear_value x7
  have hx8 : Kept s0 x8 := (foldl_kept hx7 (fun _ _ k0 => (agreeCycle_kept k0)))
  clear_value x8
  have hx9 : Kept s0 x9 := (foldl_kept hx8 (fun _ _ k0 => (staticCycle_kept k0)))
  clear_value x9
  have hx10 : Kept s0 x10 := (kept_ite (runSafety_kept hx9) hx9)
  clear_value x10
  have hx11 : Kept s0 x11 := (safPublish_kept (writeContainer_kept hx10))
  clear_value x11
  have hx12 : Kept s0 x12 := (putQ63_kept hx11)
  clear_value x12
  split
  · exact h
  · exact hx12

theorem safContainer_kept {s0 s : State} {a1 a2} (h : Kept s0 s) :
    Kept s0 (State.safContainer s a1 a2) := by
  unfold State.safContainer
  extract_lets x1 x2 x3 x4
  clear_value x1
  clear_value x2
  clear_value x3
  clear_value x4
  exact kept_ite (h.upd rfl rfl rfl rfl rfl) h

theorem safMsgWd_kept {s0 s : State} {a1} (h : Kept s0 s) :
    Kept s0 (State.safMsgWd s a1) := by
  unfold State.safMsgWd
  extract_lets x1 x2
  clear_value x1
  have hx2 : Kept s0 x2 := (h.upd rfl rfl rfl rfl rfl)
  clear_value x2
  exact safEvent_kept (safErr_kept hx2)

theorem q62_kept {s0 s : State} {a1 a2 a3} (h : Kept s0 s) :
    Kept s0 (State.q62 s a1 a2 a3) := by
  unfold State.q62
  exact qOffer_kept h

theorem setPw_kept {s0 s : State} {a1} (h : Kept s0 s) :
    Kept s0 (State.setPw s a1) := by
  unfold State.setPw
  split
  · rename_i z1 z2 z3 z4
    have hz3 : Kept s0 z3 := kept_snd z4 (draw_kept h)
    split
    · rename_i z5 z6 z7 z8
      have hz7 : Kept s0 z7 := kept_snd z8 (draw_kept hz3)
      extract_lets x1 x2
      clear_value x1
      clear_value x2
      exact hz7.upd rfl rfl rfl rfl rfl

theorem pwWrong_kept {s0 s : State} (h : Kept s0 s) :
    Kept s0 (State.pwWrong s) := by
  unfold State.pwWrong
  extract_lets x1 x2 x3
  clear_value x1
  clear_value x2
  have hx3 : Kept s0 x3 := (h.upd rfl rfl rfl rfl rfl)
  clear_value x3
  exact safEvent_kept (safErr_kept hx3)

theorem logChange_kept {s0 s : State} {a1 a2 a3 a4} (h : Kept s0 s) :
    Kept s0 (State.logChange s a1 a2 a3 a4) := by
  unfold State.logChange
  extract_lets x1 x2 x3 x4
  clear_value x1
  clear_value x2
  clear_value x3
  have hx4 : Kept s0 x4 := (h.upd rfl rfl rfl rfl rfl)
  clear_value x4
  exact safEvent_kept hx4

theorem q60Read_kept {s0 s : State} (h : Kept s0 s) :
    Kept s0 (State.q60Read s).2 := by
  unfold State.q60Read
  split
  · split
    · rename_i z1 z2 z3 z4
      have hz3 : Kept s0 z3 := kept_snd z4 (blockRead_kept h)
      exact hz3
  · exact h

theorem q60Drop_kept {s0 s : State} (h : Kept s0 s) :
    Kept s0 (State.q60Drop s) := by
  unfold State.q60Drop
  extract_lets x1
  have hx1 : Kept s0 x1 := (q60Read_kept h)
  clear_value x1
  exact bump_kept (blockWrite_kept hx1)

theorem authorise_kept {s0 s : State} {a1} (h : Kept s0 s) :
    Kept s0 (State.authorise s a1) := by
  unfold State.authorise
  extract_lets x1 x2 x3 x4 x5 x6 x7 x8 x9
  clear_value x1
  have hx2 : Kept s0 x2 := (h.upd rfl rfl rfl rfl rfl)
  clear_value x2
  clear_value x3
  clear_value x4
  have hx5 : Kept s0 x5 := (setPw_kept hx2)
  clear_value x5
  clear_value x6
  have hx7 : Kept s0 x7 := (hx5.upd rfl rfl rfl rfl rfl)
  clear_value x7
  clear_value x8
  have hx9 : Kept s0 x9 := (hx2.upd rfl rfl rfl rfl rfl)
  clear_value x9
  exact kept_ite (q62_kept hx2) (kept_ite (q62_kept hx2) (kept_ite (q62_kept hx2) (kept_ite (q62_kept (logChange_kept hx7)) (kept_ite (q62_kept (logChange_kept hx9)) (q62_kept (pwWrong_kept hx2))))))

theorem setPassword_kept {s0 s : State} {a1} (h : Kept s0 s) :
    Kept s0 (State.setPassword s a1) := by
  unfold State.setPassword
  extract_lets x1 x2 x3
  clear_value x1
  have hx2 : Kept s0 x2 := (h.upd rfl rfl rfl rfl rfl)
  clear_value x2
  clear_value x3
  exact kept_ite (q62_kept hx2) (kept_ite (q62_kept hx2) (kept_ite (q62_kept hx2) (kept_ite (q62_kept hx2) (kept_ite (q62_kept (hx2.upd rfl rfl rfl rfl rfl)) (q62_kept (pwWrong_kept hx2))))))

theorem setPasswordNew_kept {s0 s : State} {a1} (h : Kept s0 s) :
    Kept s0 (State.setPasswordNew s a1) := by
  unfold State.setPasswordNew
  extract_lets x1 x2 x3 x4
  clear_value x1
  clear_value x2
  have hx3 : Kept s0 x3 := (h.upd rfl rfl rfl rfl rfl)
  have hx4 : Kept s0 x4 := (setPw_kept hx3)
  clear_value x4
  exact kept_ite (q62_kept hx3) (kept_ite (q62_kept hx3) (q62_kept (logChange_kept hx4)))

theorem readLog_kept {s0 s : State} {a1} (h : Kept s0 s) :
    Kept s0 (State.readLog s a1) := by
  unfold State.readLog
  extract_lets x1 x2 x3 x4
  clear_value x1
  have hx2 : Kept s0 x2 := (h.upd rfl rfl rfl rfl rfl)
  clear_value x2
  clear_value x3
  clear_value x4
  split
  · exact q62_kept hx2
  · exact q62_kept hx2

theorem q60_kept {s0 s : State} {a1} (h : Kept s0 s) :
    Kept s0 (State.q60 s a1) := by
  unfold State.q60
  extract_lets x1 x2
  have hx1 : Kept s0 x1 := (q60Drop_kept h)
  clear_value x1
  clear_value x2
  split
  · exact h
  · extract_lets x3
    clear_value x3
    split
    · split
      · exact authorise_kept hx1
      · exact setPassword_kept hx1
      · exact setPasswordNew_kept hx1
      · exact readLog_kept hx1
    · exact kept_ite (q62_kept (hx1.upd rfl rfl rfl rfl rfl)) h

theorem pwLockExpiry_kept {s0 s : State} (h : Kept s0 s) :
    Kept s0 (State.pwLockExpiry s) := by
  unfold State.pwLockExpiry
  exact kept_ite (h.upd rfl rfl rfl rfl rfl) h

end Sys2Proof.Laws
end

