-- ==== Sys2Proof/Laws/KeptTime.lean ====
section
/-! SUPPORT. What every operation of Marigold time and the CAN controllers keeps (`Kept`). -/

namespace Sys2Proof.Laws

open Sys2Proof.Machine

/-! ### Marigold -/

theorem mgdEvent_kept {s0 s : State} {a1 a2} (h : Kept s0 s) :
    Kept s0 (State.mgdEvent s a1 a2) := by
  unfold State.mgdEvent
  extract_lets x1
  clear_value x1
  exact kept_ite (h.upd rfl rfl rfl rfl rfl) (event_kept h)

theorem setSync_kept {s0 s : State} {a1} (h : Kept s0 s) :
    Kept s0 (State.setSync s a1) := by
  unfold State.setSync
  extract_lets x1 x2 x3
  clear_value x1
  clear_value x2
  have hx3 : Kept s0 x3 := (h.upd rfl rfl rfl rfl rfl)
  clear_value x3
  exact kept_ite hx3 (updAligned_kept (mgdEvent_kept (setFlag_kept hx3)))

theorem closeMeas_kept {s0 s : State} (h : Kept s0 s) :
    Kept s0 (State.closeMeas s) := by
  unfold State.closeMeas
  extract_lets x1
  clear_value x1
  split
  · exact h.upd rfl rfl rfl rfl rfl
  · exact h

theorem setRate_kept {s0 s : State} {a1} (h : Kept s0 s) :
    Kept s0 (State.setRate s a1) := by
  unfold State.setRate
  exact setRegN_kept (h.upd rfl rfl rfl rfl rfl)

theorem portStates_kept {s0 s : State} {a1} (h : Kept s0 s) :
    Kept s0 (State.portStates s a1) := by
  unfold State.portStates
  exact kept_ite h (setRegN_kept h)

theorem setMgdState_kept {s0 s : State} {a1} (h : Kept s0 s) :
    Kept s0 (State.setMgdState s a1) := by
  unfold State.setMgdState
  extract_lets x1 x2 x3 x4 x5 x6 x7 x8 x9 x10
  clear_value x1
  have hx2 : Kept s0 x2 := (mgdEvent_kept (setFld_kept h))
  clear_value x2
  clear_value x3
  have hx4 : Kept s0 x4 := (kept_ite (setSync_kept (hx2.upd rfl rfl rfl rfl rfl)) (kept_ite (hx2.upd rfl rfl rfl rfl rfl) (kept_ite hx2 (setSync_kept hx2))))
  clear_value x4
  have hx5 : Kept s0 x5 := (closeMeas_kept hx4)
  clear_value x5
  clear_value x6
  have hx7 : Kept s0 x7 := (hx5.upd rfl rfl rfl rfl rfl)
  clear_value x7
  clear_value x8
  have hx9 : Kept s0 x9 := (kept_ite (setRate_kept (setRegN_kept (hx7.upd rfl rfl rfl rfl rfl))) hx7)
  clear_value x9
  clear_value x10
  exact kept_ite h (portStates_kept (hx9.upd rfl rfl rfl rfl rfl))

theorem setAlmTarget_kept {s0 s : State} {a1 a2} (h : Kept s0 s) :
    Kept s0 (State.setAlmTarget s a1 a2) := by
  unfold State.setAlmTarget
  exact setRegN_kept (setRegN_kept h)

theorem fireAlarm_kept {s0 s : State} {a1 a2 a3} (h : Kept s0 s) :
    Kept s0 (State.fireAlarm s a1 a2 a3) := by
  unfold State.fireAlarm
  extract_lets x1 x2 x3 x4 x5 x6 x7
  clear_value x1
  clear_value x2
  clear_value x3
  clear_value x4
  have hx5 : Kept s0 x5 := (triggerAt_kept h)
  clear_value x5
  clear_value x6
  have hx7 : Kept s0 x7 := (kept_ite (setFlag_kept hx5) (kept_ite (setAlmTarget_kept hx5) (setAlmTarget_kept hx5)))
  clear_value x7
  exact kept_ite (event_kept (setFlag_kept hx7)) hx7

theorem armAlarm_kept {s0 s : State} {a1 a2} (h : Kept s0 s) :
    Kept s0 (State.armAlarm s a1 a2) := by
  unfold State.armAlarm
  extract_lets x1
  have hx1 : Kept s0 x1 := (setFld_kept (setFld_kept h))
  clear_value x1
  exact kept_ite (fireAlarm_kept hx1) hx1

theorem alarmFire_kept {s0 s : State} {a1} (h : Kept s0 s) :
    Kept s0 (State.alarmFire s a1) := by
  unfold State.alarmFire
  exact kept_ite (fireAlarm_kept h) h

theorem stepAlarms_kept {s0 s : State} {a1} (h : Kept s0 s) :
    Kept s0 (State.stepAlarms s a1) := by
  unfold State.stepAlarms
  refine foldl_kept ?_ ?_
  · exact h
  · intro w2_0 w2_1 hw2
    extract_lets x1
    clear_value x1
    exact kept_ite (fireAlarm_kept hw2) hw2

theorem mgdStep_kept {s0 s : State} {a1 a2} (h : Kept s0 s) :
    Kept s0 (State.mgdStep s a1 a2) := by
  unfold State.mgdStep
  extract_lets x1 x2 x3 x4 x5 x6 x7 x8
  clear_value x1
  have hx2 : Kept s0 x2 := (h.upd rfl rfl rfl rfl rfl)
  clear_value x2
  have hx3 : Kept s0 x3 := (setFlag_kept (setRegN_kept (pmc1_kept (bump_kept hx2))))
  clear_value x3
  have hx4 : Kept s0 x4 := (event_kept hx3)
  clear_value x4
  have hx5 : Kept s0 x5 := (kept_ite hx4 (setSync_kept hx4))
  clear_value x5
  clear_value x6
  have hx7 : Kept s0 x7 := (hx5.upd rfl rfl rfl rfl rfl)
  clear_value x7
  have hx8 : Kept s0 x8 := (seqStep_kept hx7)
  clear_value x8
  exact kept_ite (stepAlarms_kept hx8) hx8

theorem servo_kept {s0 s : State} {a1 a2} (h : Kept s0 s) :
    Kept s0 (State.servo s a1 a2) := by
  unfold State.servo
  extract_lets x1 x2 x3 x4 x5 x6
  clear_value x1
  have hx2 : Kept s0 x2 := (h.upd rfl rfl rfl rfl rfl)
  clear_value x2
  clear_value x3
  clear_value x4
  clear_value x5
  have hx6 : Kept s0 x6 := (hx2.upd rfl rfl rfl rfl rfl)
  clear_value x6
  exact kept_ite (mgdStep_kept hx2) (setRate_kept hx6)

theorem setOffset_kept {s0 s : State} {a1} (h : Kept s0 s) :
    Kept s0 (State.setOffset s a1) := by
  unfold State.setOffset
  exact setRegN_kept h

theorem countSync_kept {s0 s : State} {a1} (h : Kept s0 s) :
    Kept s0 (State.countSync s a1) := by
  unfold State.countSync
  extract_lets x1 x2 x3
  clear_value x1
  clear_value x2
  have hx3 : Kept s0 x3 := (h.upd rfl rfl rfl rfl rfl)
  clear_value x3
  exact kept_ite (setSync_kept hx3) hx3

theorem qualify_kept {s0 s : State} {a1} (h : Kept s0 s) :
    Kept s0 (State.qualify s a1) := by
  unfold State.qualify
  extract_lets x1 x2 x3 x4 x5 x6 x7
  clear_value x1
  clear_value x2
  have hx3 : Kept s0 x3 := (h.upd rfl rfl rfl rfl rfl)
  clear_value x3
  have hx4 : Kept s0 x4 := (kept_ite (mgdStep_kept hx3) hx3)
  clear_value x4
  have hx5 : Kept s0 x5 := by
    unfold x5
    split
    · exact setFld_kept hx4
    · exact hx4
  clear_value x5
  have hx6 : Kept s0 x6 := (setMgdState_kept hx5)
  clear_value x6
  clear_value x7
  exact kept_ite hx3 (hx6.upd rfl rfl rfl rfl rfl)

theorem offsetMeas_kept {s0 s : State} {a1 a2} (h : Kept s0 s) :
    Kept s0 (State.offsetMeas s a1 a2) := by
  unfold State.offsetMeas
  extract_lets x1 x2 x3 x4
  clear_value x1
  have hx2 : Kept s0 x2 := (pmc1_kept h)
  clear_value x2
  clear_value x3
  clear_value x4
  split
  · exact h
  · exact kept_ite h (kept_ite (qualify_kept (setOffset_kept hx2)) (kept_ite (countSync_kept (servo_kept (setOffset_kept hx2))) hx2))

theorem partnerMeas_kept {s0 s : State} {a1} (h : Kept s0 s) :
    Kept s0 (State.partnerMeas s a1) := by
  unfold State.partnerMeas
  exact kept_ite (servo_kept (setOffset_kept h)) h

theorem acquire_kept {s0 s : State} {a1} (h : Kept s0 s) :
    Kept s0 (State.acquire s a1) := by
  unfold State.acquire
  extract_lets x1 x2 x3
  clear_value x1
  have hx2 : Kept s0 x2 := (h.upd rfl rfl rfl rfl rfl)
  clear_value x2
  have hx3 : Kept s0 x3 := (setRegN_kept (setRegN_kept hx2))
  clear_value x3
  exact kept_ite hx3 (setMgdState_kept (setFld_kept hx3))

theorem beMaster_kept {s0 s : State} (h : Kept s0 s) :
    Kept s0 (State.beMaster s) := by
  unfold State.beMaster
  extract_lets x1 x2 x3
  clear_value x1
  clear_value x2
  have hx3 : Kept s0 x3 := (h.upd rfl rfl rfl rfl rfl)
  clear_value x3
  exact setMgdState_kept (setFld_kept (setRegN_kept (setRegN_kept hx3)))

theorem gmLost_kept {s0 s : State} (h : Kept s0 s) :
    Kept s0 (State.gmLost s) := by
  unfold State.gmLost
  extract_lets x1 x2
  clear_value x1
  have hx2 : Kept s0 x2 := (h.upd rfl rfl rfl rfl rfl)
  clear_value x2
  exact setMgdState_kept (setFld_kept (event_kept (setFlag_kept hx2)))

theorem bmcaRun_kept {s0 s : State} {a1 a2} (h : Kept s0 s) :
    Kept s0 (State.bmcaRun s a1 a2) := by
  unfold State.bmcaRun
  extract_lets x1 x2 x3 x4
  clear_value x1
  clear_value x2
  clear_value x3
  clear_value x4
  exact kept_ite (kept_ite (acquire_kept h) (kept_ite (beMaster_kept h) h)) (kept_ite (kept_ite (acquire_kept h) h) (kept_ite (kept_ite (acquire_kept h) h) (kept_ite (kept_ite (acquire_kept h) h) (kept_ite (gmLost_kept h) (setFld_kept (h.upd rfl rfl rfl rfl rfl))))))

theorem announce_kept {s0 s : State} {a1 a2} (h : Kept s0 s) :
    Kept s0 (State.announce s a1 a2) := by
  unfold State.announce
  extract_lets x1 x2 x3
  clear_value x1
  clear_value x2
  have hx3 : Kept s0 x3 := (kept_ite (h.upd rfl rfl rfl rfl rfl) h)
  clear_value x3
  split
  · exact h
  · split
    · exact hx3
    · exact portStates_kept (bmcaRun_kept hx3)

theorem timedOut_kept {s0 s : State} {a1} (h : Kept s0 s) :
    Kept s0 (State.timedOut s a1) := by
  unfold State.timedOut
  extract_lets x1 x2 x3 x4
  clear_value x1
  clear_value x2
  clear_value x3
  have hx4 : Kept s0 x4 := (setFld_kept (h.upd rfl rfl rfl rfl rfl))
  clear_value x4
  exact kept_ite (setMgdState_kept hx4) (kept_ite (gmLost_kept h) (kept_ite (beMaster_kept h) h))

theorem announceTimeout_kept {s0 s : State} {a1} (h : Kept s0 s) :
    Kept s0 (State.announceTimeout s a1) := by
  unfold State.announceTimeout
  extract_lets x1 x2 x3
  clear_value x1
  have hx2 : Kept s0 x2 := (h.upd rfl rfl rfl rfl rfl)
  clear_value x2
  have hx3 : Kept s0 x3 := (timedOut_kept hx2)
  clear_value x3
  exact kept_ite h (portStates_kept hx3)

theorem syncHoldExpiry_kept {s0 s : State} (h : Kept s0 s) :
    Kept s0 (State.syncHoldExpiry s) := by
  unfold State.syncHoldExpiry
  exact kept_ite (setSync_kept h) h

theorem mgdUnused_kept {s0 s : State} (h : Kept s0 s) :
    Kept s0 (State.mgdUnused s) := by
  unfold State.mgdUnused
  extract_lets x1 x2 x3 x4 x5
  have hx1 : Kept s0 x1 := (kept_ite h (setFlag_kept h))
  clear_value x1
  clear_value x2
  have hx3 : Kept s0 x3 := (kept_ite hx1 (hx1.upd rfl rfl rfl rfl rfl))
  clear_value x3
  clear_value x4
  have hx5 : Kept s0 x5 := (kept_ite hx3 (setMgdState_kept (setFld_kept (hx3.upd rfl rfl rfl rfl rfl))))
  clear_value x5
  exact portStates_kept hx5

theorem partnerSource_kept {s0 s : State} {a1 a2 a3} (h : Kept s0 s) :
    Kept s0 (State.partnerSource s a1 a2 a3) := by
  unfold State.partnerSource
  extract_lets x1 x2 x3 x4 x5 x6
  clear_value x1
  have hx2 : Kept s0 x2 := (h.upd rfl rfl rfl rfl rfl)
  clear_value x2
  clear_value x3
  have hx4 : Kept s0 x4 := (setMgdState_kept (setFld_kept hx2))
  clear_value x4
  clear_value x5
  have hx6 : Kept s0 x6 := (hx4.upd rfl rfl rfl rfl rfl)
  clear_value x6
  exact kept_ite hx2 (kept_ite (kept_ite (mgdStep_kept hx6) hx6) (kept_ite (setMgdState_kept (setFld_kept hx2)) hx2))

theorem mgdSet_kept {s0 s : State} (h : Kept s0 s) :
    Kept s0 (State.mgdSet s) := by
  unfold State.mgdSet
  extract_lets x1 x2 x3
  clear_value x1
  clear_value x2
  clear_value x3
  exact kept_ite (mgdStep_kept h) (setFlag_kept h)

theorem refLost_kept {s0 s : State} (h : Kept s0 s) :
    Kept s0 (State.refLost s) := by
  unfold State.refLost
  exact kept_ite (event_kept (setFlag_kept (setFlag_kept h))) h

theorem refRestored_kept {s0 s : State} (h : Kept s0 s) :
    Kept s0 (State.refRestored s) := by
  unfold State.refRestored
  exact kept_ite (event_kept (setFlag_kept h)) h

theorem ppsEdge_kept {s0 s : State} (h : Kept s0 s) :
    Kept s0 (State.ppsEdge s) := by
  unfold State.ppsEdge
  extract_lets x1 x2
  clear_value x1
  have hx2 : Kept s0 x2 := (setFlag_kept (setRegN_kept (setRegN_kept h)))
  clear_value x2
  exact kept_ite (servo_kept (setOffset_kept hx2)) hx2

theorem ppsLost_kept {s0 s : State} (h : Kept s0 s) :
    Kept s0 (State.ppsLost s) := by
  unfold State.ppsLost
  extract_lets x1 x2 x3
  have hx1 : Kept s0 x1 := (event_kept (setFlag_kept (setFlag_kept h)))
  clear_value x1
  have hx2 : Kept s0 x2 := (setMgdState_kept hx1)
  clear_value x2
  clear_value x3
  exact kept_ite (portStates_kept (hx2.upd rfl rfl rfl rfl rfl)) hx1

theorem tnsCapture_kept {s0 s : State} (h : Kept s0 s) :
    Kept s0 (State.tnsCapture s) := by
  unfold State.tnsCapture
  extract_lets x1
  clear_value x1
  exact setRegN_kept (setRegN_kept h)

theorem mgdFault_kept {s0 s : State} (h : Kept s0 s) :
    Kept s0 (State.mgdFault s) := by
  unfold State.mgdFault
  extract_lets x1 x2
  clear_value x1
  have hx2 : Kept s0 x2 := (setFld_kept (h.upd rfl rfl rfl rfl rfl))
  clear_value x2
  exact setRegN_kept (setMgdState_kept hx2)

theorem mgdNetReset_kept {s0 s : State} (h : Kept s0 s) :
    Kept s0 (State.mgdNetReset s) := by
  unfold State.mgdNetReset
  extract_lets x1 x2 x3
  clear_value x1
  have hx2 : Kept s0 x2 := (h.upd rfl rfl rfl rfl rfl)
  clear_value x2
  clear_value x3
  exact kept_ite (setMgdState_kept (setFld_kept (hx2.upd rfl rfl rfl rfl rfl))) hx2

theorem mgdReset_kept {s0 s : State} (h : Kept s0 s) :
    Kept s0 (State.mgdReset s) := by
  unfold State.mgdReset
  extract_lets x1 x2 x3 x4 x5 x6 x7 x8 x9 x10 x11 x12
  clear_value x1
  clear_value x2
  clear_value x3
  clear_value x4
  have hx5 : Kept s0 x5 := (setRegN_kept (setFld_kept (h.upd rfl rfl rfl rfl rfl)))
  clear_value x5
  have hx6 : Kept s0 x6 := (clearRegs_kept hx5)
  clear_value x6
  have hx7 : Kept s0 x7 := (setMgdState_kept hx6)
  clear_value x7
  clear_value x8
  have hx9 : Kept s0 x9 := (portStates_kept (setRegN_kept (hx7.upd rfl rfl rfl rfl rfl)))
  clear_value x9
  clear_value x10
  clear_value x11
  clear_value x12
  exact hx9.upd rfl rfl rfl rfl rfl

theorem mgdPowerOn_kept {s0 s : State} {a1} (h : Kept s0 s) :
    Kept s0 (State.mgdPowerOn s a1) := by
  unfold State.mgdPowerOn
  extract_lets x1 x2 x3 x4
  clear_value x1
  clear_value x2
  have hx3 : Kept s0 x3 := (h.upd rfl rfl rfl rfl rfl)
  clear_value x3
  have hx4 : Kept s0 x4 := (clearRegs_kept hx3)
  clear_value x4
  exact kept_ite hx4 (setFlag_kept (setRegN_kept (bump_kept hx4)))

theorem mgdOwed_kept {s0 s : State} (h : Kept s0 s) :
    Kept s0 (State.mgdOwed s) := by
  unfold State.mgdOwed
  extract_lets x1 x2
  clear_value x1
  clear_value x2
  exact foldl_kept (h.upd rfl rfl rfl rfl rfl) (fun _ _ k0 => (eventSync_kept k0))

theorem mgdInit_kept {s0 s : State} {a1} (h : Kept s0 s) :
    Kept s0 (State.mgdInit s a1) := by
  unfold State.mgdInit
  exact kept_ite (mgdStep_kept h) h

theorem ppsTick_kept {s0 s : State} {a1} (h : Kept s0 s) :
    Kept s0 (State.ppsTick s a1) := by
  unfold State.ppsTick
  extract_lets x1
  clear_value x1
  exact kept_ite h (h.upd rfl rfl rfl rfl rfl)

theorem mgdTick_kept {s0 s : State} (h : Kept s0 s) :
    Kept s0 (State.mgdTick s) := by
  unfold State.mgdTick
  extract_lets x1 x2 x3 x4 x5 x6
  clear_value x1
  clear_value x2
  clear_value x3
  clear_value x4
  have hx5 : Kept s0 x5 := (h.upd rfl rfl rfl rfl rfl)
  clear_value x5
  have hx6 : Kept s0 x6 := (ppsTick_kept hx5)
  clear_value x6
  exact kept_ite (setRegN_kept hx6) hx6

/-! ### Can -/

theorem setCan_kept {s0 s : State} {a1 a2} (h : Kept s0 s) :
    Kept s0 (State.setCan s a1 a2) := by
  unfold State.setCan
  exact h.upd rfl rfl rfl rfl rfl

theorem setCanBuf_kept {s0 s : State} {a1 a2 a3} (h : Kept s0 s) :
    Kept s0 (State.setCanBuf s a1 a2 a3) := by
  unfold State.setCanBuf
  extract_lets x1
  clear_value x1
  exact setCan_kept h

theorem canOffered_kept {s0 s : State} {a1 a2} (h : Kept s0 s) :
    Kept s0 (State.canOffered s a1 a2) := by
  unfold State.canOffered
  extract_lets x1
  clear_value x1
  exact kept_ite h (setCan_kept h)

theorem canOffer_kept {s0 s : State} {a1} (h : Kept s0 s) :
    Kept s0 (State.canOffer s a1) := by
  unfold State.canOffer
  exact canOffered_kept h

theorem canTick_kept {s0 s : State} (h : Kept s0 s) :
    Kept s0 (State.canTick s) := by
  unfold State.canTick
  exact foldl_kept h (fun _ _ k0 => (kept_ite (canOffer_kept k0) k0))

theorem canEntry_kept {s0 s : State} {a1 a2 a3} (h : Kept s0 s) :
    Kept s0 (State.canEntry s a1 a2 a3) := by
  unfold State.canEntry
  extract_lets x1
  have hx1 : Kept s0 x1 := (kept_ite (sendCtrl_kept h) h)
  clear_value x1
  exact qOffer_kept hx1

theorem canSend_kept {s0 s : State} {a1 a2} (h : Kept s0 s) :
    Kept s0 (State.canSend s a1 a2) := by
  unfold State.canSend
  extract_lets x1 x2 x3
  clear_value x1
  clear_value x2
  have hx3 : Kept s0 x3 := (h.out rfl rfl rfl rfl rfl)
  clear_value x3
  split
  · split
    · rename_i z1 z2 z3 z4
      have hz3 : Kept s0 z3 := kept_snd z4 (draw_kept hx3)
      exact setFld_kept hz3
  · exact hx3

theorem canEnd_kept {s0 s : State} {a1 a2 a3 a4} (h : Kept s0 s) :
    Kept s0 (State.canEnd s a1 a2 a3 a4) := by
  unfold State.canEnd
  extract_lets x1 x2 x3 x4 x5 x6 x7 x8 x9 x10 x11 x12
  clear_value x1
  clear_value x2
  have hx3 : Kept s0 x3 := (setBit_kept (setBit_kept h))
  clear_value x3
  have hx4 : Kept s0 x4 := (setRegN_kept hx3)
  clear_value x4
  have hx5 : Kept s0 x5 := (setCanBuf_kept hx4)
  clear_value x5
  have hx6 : Kept s0 x6 := (setCan_kept hx5)
  clear_value x6
  have hx7 : Kept s0 x7 := (kept_ite (canSend_kept (pmcCount_kept (bump_kept hx6))) hx6)
  clear_value x7
  have hx8 : Kept s0 x8 := (kept_ite (setFlag_kept hx7) hx7)
  clear_value x8
  have hx9 : Kept s0 x9 := (kept_ite (setFlag_kept hx8) hx8)
  clear_value x9
  clear_value x10
  have hx11 : Kept s0 x11 := (setCan_kept hx9)
  clear_value x11
  clear_value x12
  exact kept_ite hx9 (canEntry_kept hx11)

theorem canRequest_kept {s0 s : State} {a1 a2} (h : Kept s0 s) :
    Kept s0 (State.canRequest s a1 a2) := by
  unfold State.canRequest
  extract_lets x1 x2 x3
  clear_value x1
  have hx2 : Kept s0 x2 := (setBit_kept h)
  clear_value x2
  clear_value x3
  split
  · exact h
  · split
    · exact hx2
    · split
      · exact canEnd_kept hx2
      · split
        · exact canEnd_kept hx2
        · split
          · split
            · rename_i z1 z2 z3 z4
              have hz3 : Kept s0 z3 := kept_snd z4 (acyclicAdmit_kept hx2)
              extract_lets x4
              clear_value x4
              split
              · exact canEnd_kept hz3
              · exact setCanBuf_kept hz3
          · exact hx2

theorem canTxReq_kept {s0 s : State} {a1 a2} (h : Kept s0 s) :
    Kept s0 (State.canTxReq s a1 a2) := by
  unfold State.canTxReq
  exact canOffer_kept (foldl_kept h (fun _ _ k0 => (kept_ite (canRequest_kept k0) k0)))

theorem canCancel_kept {s0 s : State} {a1 a2 a3} (h : Kept s0 s) :
    Kept s0 (State.canCancel s a1 a2 a3) := by
  unfold State.canCancel
  exact canOffer_kept (foldl_kept h (fun _ _ k0 => (kept_ite k0 (kept_ite (setBit_kept k0) (canEnd_kept k0)))))

theorem canTbCtl_kept {s0 s : State} {a1 a2 a3} (h : Kept s0 s) :
    Kept s0 (State.canTbCtl s a1 a2 a3) := by
  unfold State.canTbCtl
  extract_lets x1 x2 x3
  clear_value x1
  have hx2 : Kept s0 x2 := (setRegN_kept h)
  clear_value x2
  clear_value x3
  exact kept_ite (setFlag_kept h) (kept_ite (setCanBuf_kept hx2) (setCanBuf_kept hx2))

theorem canTbWrite_kept {s0 s : State} {a1 a2 a3 a4} (h : Kept s0 s) :
    Kept s0 (State.canTbWrite s a1 a2 a3 a4) := by
  unfold State.canTbWrite
  exact kept_ite (setFlag_kept h) (kept_ite (setRegN_kept h) (setReg_kept h))

theorem canOccurrence_kept {s0 s : State} {a1 a2} (h : Kept s0 s) :
    Kept s0 (State.canOccurrence s a1 a2) := by
  unfold State.canOccurrence
  extract_lets x1 x2
  clear_value x1
  clear_value x2
  split
  · exact h
  · extract_lets x3 x4 x5 x6
    clear_value x3
    clear_value x4
    have hx5 : Kept s0 x5 := (setCanBuf_kept h)
    clear_value x5
    have hx6 : Kept s0 x6 := (setBit_kept hx5)
    clear_value x6
    exact kept_ite h (kept_ite hx6 (kept_ite (canEnd_kept hx6) (kept_ite (canEnd_kept hx6) (kept_ite (canEnd_kept hx6) (canOffer_kept (portMove_kept hx6))))))

theorem canErrState_kept {s0 s : State} {a1} (h : Kept s0 s) :
    Kept s0 (State.canErrState s a1) := by
  unfold State.canErrState
  extract_lets x1 x2 x3 x4 x5
  clear_value x1
  have hx2 : Kept s0 x2 := (setRegN_kept h)
  clear_value x2
  clear_value x3
  clear_value x4
  have hx5 : Kept s0 x5 := (setFld_kept hx2)
  clear_value x5
  exact kept_ite hx2 (kept_ite (event_kept (setFlag_kept hx5)) hx5)

theorem canEndAll_kept {s0 s : State} {a1 a2} (h : Kept s0 s) :
    Kept s0 (State.canEndAll s a1 a2) := by
  unfold State.canEndAll
  exact foldl_kept h fun _ _ k0 => (kept_ite (canEnd_kept k0) k0)

theorem canTxError_kept {s0 s : State} {a1} (h : Kept s0 s) :
    Kept s0 (State.canTxError s a1) := by
  unfold State.canTxError
  extract_lets x1 x2 x3 x4 x5
  clear_value x1
  have hx2 : Kept s0 x2 := (canErrState_kept (setCan_kept h))
  clear_value x2
  have hx3 : Kept s0 x3 := (canEndAll_kept (setFld_kept hx2))
  clear_value x3
  have hx4 : Kept s0 x4 := (event_kept (setFlag_kept (bump_kept hx3)))
  clear_value x4
  clear_value x5
  exact kept_ite (setCan_kept hx4) hx2

theorem canWithdraw_kept {s0 s : State} {a1 a2} (h : Kept s0 s) :
    Kept s0 (State.canWithdraw s a1 a2) := by
  unfold State.canWithdraw
  extract_lets x1 x2
  clear_value x1
  have hx2 : Kept s0 x2 := (canEnd_kept h)
  clear_value x2
  exact kept_ite (event_kept (setFlag_kept (bump_kept hx2))) hx2

theorem canRetry_kept {s0 s : State} {a1 a2 a3} (h : Kept s0 s) :
    Kept s0 (State.canRetry s a1 a2 a3) := by
  unfold State.canRetry
  extract_lets x1
  clear_value x1
  exact kept_ite h (kept_ite (canEnd_kept h) (kept_ite (canEnd_kept h) (kept_ite (canWithdraw_kept h) h)))

theorem canListen_kept {s0 s : State} {a1} (h : Kept s0 s) :
    Kept s0 (State.canListen s a1) := by
  unfold State.canListen
  extract_lets x1 x2
  clear_value x1
  have hx2 : Kept s0 x2 := (setCan_kept h)
  clear_value x2
  exact setFlag_kept (setFld_kept hx2)

theorem canTxEnd_kept {s0 s : State} {a1 a2 a3} (h : Kept s0 s) :
    Kept s0 (State.canTxEnd s a1 a2 a3) := by
  unfold State.canTxEnd
  extract_lets x1 x2 x3 x4 x5 x6 x7 x8 x9
  have hx1 : Kept s0 x1 := (canOffer_kept h)
  clear_value x1
  have hx2 : Kept s0 x2 := (setFlag_kept hx1)
  clear_value x2
  clear_value x3
  clear_value x4
  have hx5 : Kept s0 x5 := (setCanBuf_kept hx2)
  clear_value x5
  clear_value x6
  have hx7 : Kept s0 x7 := (setCan_kept hx5)
  clear_value x7
  have hx8 : Kept s0 x8 := by
    unfold x8
    split
    · exact canErrState_kept (canEnd_kept hx7)
    · exact canRetry_kept (pmcCount_kept (setCanBuf_kept hx2))
    · exact canRetry_kept (canTxError_kept (pmcCount_kept (setCanBuf_kept hx2)))
    · exact canRetry_kept (pmcCount_kept (setCanBuf_kept hx2))
  clear_value x8
  clear_value x9
  exact kept_ite hx1 (kept_ite (canListen_kept hx8) (canOffer_kept (setCan_kept hx8)))

theorem canTimeEnd_kept {s0 s : State} {a1 a2 a3} (h : Kept s0 s) :
    Kept s0 (State.canTimeEnd s a1 a2 a3) := by
  unfold State.canTimeEnd
  extract_lets x1 x2
  clear_value x1
  have hx2 : Kept s0 x2 := (setCanBuf_kept h)
  clear_value x2
  exact kept_ite (kept_ite hx2 (canOffered_kept hx2)) (canOffer_kept (canWithdraw_kept h))

theorem canSlotEnd_kept {s0 s : State} {a1 a2 a3} (h : Kept s0 s) :
    Kept s0 (State.canSlotEnd s a1 a2 a3) := by
  unfold State.canSlotEnd
  exact kept_ite (canTimeEnd_kept h) h

theorem canAllocEnd_kept {s0 s : State} {a1 a2 a3} (h : Kept s0 s) :
    Kept s0 (State.canAllocEnd s a1 a2 a3) := by
  unfold State.canAllocEnd
  exact kept_ite (canTimeEnd_kept h) h

theorem canScan_kept {s0 s : State} {a1 a2 a3 a4 a5 a6} (h : Kept s0 s) :
    Kept s0 (State.canScan s a1 a2 a3 a4 a5 a6).2 := by
  induction a5 generalizing s a6 with
  | zero => exact h
  | succ k ih =>
    unfold State.canScan
    split
    rename_i e
    have hz := kept_snd e (blockRead_kept h)
    exact kept_ite_snd hz (ih hz)

theorem canFifo_kept {s0 s : State} {a1 a2 a3 a4} (h : Kept s0 s) :
    Kept s0 (State.canFifo s a1 a2 a3 a4) := by
  unfold State.canFifo
  extract_lets x1 x2 x3 x4 x5 x6 x7 x8
  clear_value x1
  clear_value x2
  clear_value x3
  have hx4 : Kept s0 x4 := (setCan_kept h)
  clear_value x4
  clear_value x5
  clear_value x6
  clear_value x7
  have hx8 : Kept s0 x8 := (kept_ite (blockWrite_kept hx4) hx4)
  clear_value x8
  exact canEntry_kept hx8

theorem canLock_kept {s0 s : State} {a1} (h : Kept s0 s) :
    Kept s0 (State.canLock s a1) := by
  unfold State.canLock
  extract_lets x1 x2 x3
  clear_value x1
  have hx2 : Kept s0 x2 := (setCan_kept h)
  clear_value x2
  have hx3 : Kept s0 x3 := (setFlag_kept (setFld_kept hx2))
  clear_value x3
  exact event_kept (setFld_kept hx3)

theorem canRx_kept {s0 s : State} {a1 a2 a3} (h : Kept s0 s) :
    Kept s0 (State.canRx s a1 a2 a3) := by
  unfold State.canRx
  extract_lets x1 x2 x3 x4 x5 x6
  clear_value x1
  have hx2 : Kept s0 x2 := (pmcCount_kept (bump_kept (setFlag_kept h)))
  clear_value x2
  clear_value x3
  have hx4 : Kept s0 x4 := (setCan_kept hx2)
  clear_value x4
  have hx5 : Kept s0 x5 := (kept_ite (canErrState_kept (setCan_kept hx2)) hx2)
  clear_value x5
  clear_value x6
  split
  · exact h
  · split
    · exact kept_ite (canLock_kept hx4) hx4
    · split
      · exact hx2
      · split
        · rename_i z1 z2 z3
          have hz2 : Kept s0 z2 := kept_snd z3 (canScan_kept hx5)
          exact bump_kept hz2
        · rename_i z4 z5 z6 z7 z8
          have hz7 : Kept s0 z7 := kept_snd z8 (canScan_kept hx5)
          extract_lets x7 x8
          clear_value x7
          have hx8 : Kept s0 x8 := (canFifo_kept hz7)
          clear_value x8
          exact kept_ite (bump_kept hz7) (kept_ite (trigger_kept hx8) hx8)

theorem canFltCtl_kept {s0 s : State} {a1 a2} (h : Kept s0 s) :
    Kept s0 (State.canFltCtl s a1 a2) := by
  unfold State.canFltCtl
  extract_lets x1
  have hx1 : Kept s0 x1 := (setFlag_kept (setFld_kept h))
  clear_value x1
  exact kept_ite h (setBit_kept hx1)

theorem canScanEnd_kept {s0 s : State} {a1} (h : Kept s0 s) :
    Kept s0 (State.canScanEnd s a1) := by
  unfold State.canScanEnd
  exact setFlag_kept h

theorem canDetect_kept {s0 s : State} {a1} (h : Kept s0 s) :
    Kept s0 (State.canDetect s a1) := by
  unfold State.canDetect
  extract_lets x1 x2 x3 x4
  clear_value x1
  have hx2 : Kept s0 x2 := (setCan_kept h)
  clear_value x2
  clear_value x3
  have hx4 : Kept s0 x4 := (setRegN_kept (setRegN_kept hx2))
  clear_value x4
  exact setFld_kept (setRegN_kept hx4)

theorem canDwellEnd_kept {s0 s : State} {a1} (h : Kept s0 s) :
    Kept s0 (State.canDwellEnd s a1) := by
  unfold State.canDwellEnd
  extract_lets x1 x2 x3 x4 x5 x6 x7
  clear_value x1
  clear_value x2
  clear_value x3
  have hx4 : Kept s0 x4 := (setCan_kept h)
  clear_value x4
  clear_value x5
  have hx6 : Kept s0 x6 := (setRegN_kept (setRegN_kept hx4))
  clear_value x6
  have hx7 : Kept s0 x7 := (bumpSat_kept hx6)
  clear_value x7
  exact kept_ite h (kept_ite hx6 (kept_ite hx7 (event_kept (setFlag_kept hx7))))

theorem canGoNormal_kept {s0 s : State} {a1} (h : Kept s0 s) :
    Kept s0 (State.canGoNormal s a1) := by
  unfold State.canGoNormal
  extract_lets x1 x2
  clear_value x1
  clear_value x2
  exact kept_ite (setCan_kept h) h

theorem canRedetect_kept {s0 s : State} {a1} (h : Kept s0 s) :
    Kept s0 (State.canRedetect s a1) := by
  unfold State.canRedetect
  exact kept_ite (canDetect_kept (canEndAll_kept h)) h

theorem canRecover_kept {s0 s : State} {a1} (h : Kept s0 s) :
    Kept s0 (State.canRecover s a1) := by
  unfold State.canRecover
  exact kept_ite (setCan_kept h) h

theorem canCtl_kept {s0 s : State} {a1 a2} (h : Kept s0 s) :
    Kept s0 (State.canCtl s a1 a2) := by
  unfold State.canCtl
  extract_lets x1 x2
  have hx1 : Kept s0 x1 := (kept_ite (canRecover_kept h) h)
  clear_value x1
  have hx2 : Kept s0 x2 := (kept_ite (canGoNormal_kept hx1) hx1)
  clear_value x2
  exact kept_ite (canRedetect_kept hx2) hx2

theorem canBusIdle_kept {s0 s : State} {a1} (h : Kept s0 s) :
    Kept s0 (State.canBusIdle s a1) := by
  unfold State.canBusIdle
  extract_lets x1 x2
  clear_value x1
  have hx2 : Kept s0 x2 := (setFlag_kept h)
  clear_value x2
  exact kept_ite (canListen_kept hx2) (kept_ite (canOffer_kept (setCan_kept hx2)) (kept_ite (canDetect_kept hx2) (canOffer_kept (setFld_kept (setCan_kept hx2)))))

theorem canBusError_kept {s0 s : State} {a1 a2 a3} (h : Kept s0 s) :
    Kept s0 (State.canBusError s a1 a2 a3) := by
  unfold State.canBusError
  extract_lets x1 x2 x3 x4 x5 x6 x7
  clear_value x1
  have hx2 : Kept s0 x2 := (pmcCount_kept (setFlag_kept h))
  clear_value x2
  clear_value x3
  have hx4 : Kept s0 x4 := (setFlag_kept (bump_kept hx2))
  clear_value x4
  clear_value x5
  have hx6 : Kept s0 x6 := (kept_ite hx2 (kept_ite (event_kept (setCan_kept hx4)) hx4))
  clear_value x6
  clear_value x7
  exact kept_ite h (kept_ite hx6 (kept_ite (canTxError_kept hx6) (canErrState_kept (setCan_kept hx6))))

theorem canRecovered_kept {s0 s : State} {a1} (h : Kept s0 s) :
    Kept s0 (State.canRecovered s a1) := by
  unfold State.canRecovered
  extract_lets x1 x2
  clear_value x1
  have hx2 : Kept s0 x2 := (setCan_kept h)
  clear_value x2
  exact kept_ite (canOffer_kept (event_kept (canErrState_kept (setFld_kept hx2)))) h

theorem canOff_kept {s0 s : State} {a1} (h : Kept s0 s) :
    Kept s0 (State.canOff s a1) := by
  unfold State.canOff
  extract_lets x1 x2 x3
  clear_value x1
  clear_value x2
  have hx3 : Kept s0 x3 := (setCan_kept h)
  clear_value x3
  exact setRegN_kept (setRegN_kept (setRegN_kept (setRegN_kept hx3)))

theorem canAllOff_kept {s0 s : State} (h : Kept s0 s) :
    Kept s0 (State.canAllOff s) := by
  unfold State.canAllOff
  exact foldl_kept h fun _ _ k0 => (canOff_kept k0)

theorem canFollowRole_kept {s0 s : State} {a1} (h : Kept s0 s) :
    Kept s0 (State.canFollowRole s a1) := by
  unfold State.canFollowRole
  extract_lets x1 x2 x3 x4 x5
  clear_value x1
  clear_value x2
  have hx3 : Kept s0 x3 := (setFlag_kept (canEndAll_kept h))
  clear_value x3
  have hx4 : Kept s0 x4 := (kept_ite (setFld_kept hx3) hx3)
  clear_value x4
  clear_value x5
  exact kept_ite h (kept_ite (kept_ite (canOffer_kept (setCan_kept h)) (canListen_kept h)) (kept_ite (setCan_kept hx4) h))

theorem canStartOne_kept {s0 s : State} {a1} (h : Kept s0 s) :
    Kept s0 (State.canStartOne s a1) := by
  unfold State.canStartOne
  extract_lets x1 x2 x3 x4 x5 x6 x7 x8 x9 x10 x11
  clear_value x1
  clear_value x2
  clear_value x3
  have hx4 : Kept s0 x4 := (clearRegs_kept h)
  clear_value x4
  clear_value x5
  have hx6 : Kept s0 x6 := (setCan_kept hx4)
  clear_value x6
  have hx7 : Kept s0 x7 := (setRegN_kept (setRegN_kept hx6))
  clear_value x7
  have hx8 : Kept s0 x8 := (setRegN_kept hx7)
  clear_value x8
  have hx9 : Kept s0 x9 := (blockWrite_kept (setFld_kept hx8))
  clear_value x9
  have hx10 : Kept s0 x10 := (setRegN_kept hx9)
  clear_value x10
  clear_value x11
  exact kept_ite hx6 (kept_ite (canListen_kept hx10) (kept_ite (canDetect_kept hx10) (setCan_kept hx10)))

theorem canStart_kept {s0 s : State} (h : Kept s0 s) :
    Kept s0 (State.canStart s) := by
  unfold State.canStart
  extract_lets x1 x2
  clear_value x1
  have hx2 : Kept s0 x2 := (h.upd rfl rfl rfl rfl rfl)
  clear_value x2
  exact foldl_kept hx2 fun _ _ k0 => (canStartOne_kept k0)

theorem swapFilters_kept {s0 s : State} {a1} (h : Kept s0 s) :
    Kept s0 (State.swapFilters s a1) := by
  unfold State.swapFilters
  extract_lets x1 x2 x3 x4
  clear_value x1
  clear_value x2
  have hx3 : Kept s0 x3 := (setCan_kept h)
  clear_value x3
  have hx4 : Kept s0 x4 := (setFld_kept (setFld_kept hx3))
  clear_value x4
  exact setFlag_kept (setFlag_kept (setFlag_kept hx4))

end Sys2Proof.Laws
end

