-- ==== Sys2Proof/Laws/KeptLoops.lean ====
section
/-! SUPPORT. What every operation of the Crucible loops keeps (`Kept`). -/

namespace Sys2Proof.Laws

open Sys2Proof.Machine

/-! ### PlnVars -/

theorem setSub_kept {s0 s : State} {a1 a2} (h : Kept s0 s) :
    Kept s0 (State.setSub s a1 a2) := by
  unfold State.setSub
  exact h.upd rfl rfl rfl rfl rfl

theorem plnStage_kept {s0 s : State} {a1 a2} (h : Kept s0 s) :
    Kept s0 (State.plnStage s a1 a2) := by
  unfold State.plnStage
  extract_lets x1 x2
  clear_value x1
  clear_value x2
  exact kept_ite h (h.upd rfl rfl rfl rfl rfl)

theorem plnEnterRun_kept {s0 s : State} (h : Kept s0 s) :
    Kept s0 (State.plnEnterRun s) := by
  unfold State.plnEnterRun
  exact h.upd rfl rfl rfl rfl rfl

/-! ### Crucible -/

theorem setLoop_kept {s0 s : State} {a1 a2} (h : Kept s0 s) :
    Kept s0 (State.setLoop s a1 a2) := by
  unfold State.setLoop
  exact h.upd rfl rfl rfl rfl rfl

theorem loopEvent_kept {s0 s : State} {a1 a2 a3} (h : Kept s0 s) :
    Kept s0 (State.loopEvent s a1 a2 a3) := by
  unfold State.loopEvent
  exact event_kept h

theorem putLoopMode_kept {s0 s : State} {a1 a2} (h : Kept s0 s) :
    Kept s0 (State.putLoopMode s a1 a2) := by
  unfold State.putLoopMode
  extract_lets x1 x2 x3
  have hx1 : Kept s0 x1 := (setFld_kept (setFld_kept h))
  clear_value x1
  clear_value x2
  have hx3 : Kept s0 x3 := (setFlag_kept hx1)
  clear_value x3
  exact kept_ite hx3 (kept_ite (setFld_kept hx3) (setFld_kept hx3))

theorem loopModeChange_kept {s0 s : State} {a1 a2 a3} (h : Kept s0 s) :
    Kept s0 (State.loopModeChange s a1 a2 a3) := by
  unfold State.loopModeChange
  extract_lets x1 x2 x3 x4 x5
  clear_value x1
  clear_value x2
  have hx3 : Kept s0 x3 := (putLoopMode_kept h)
  clear_value x3
  clear_value x4
  have hx5 : Kept s0 x5 := (setLoop_kept hx3)
  clear_value x5
  exact loopEvent_kept hx5

theorem enterFallback_kept {s0 s : State} {a1 a2 a3} (h : Kept s0 s) :
    Kept s0 (State.enterFallback s a1 a2 a3) := by
  unfold State.enterFallback
  extract_lets x1 x2 x3
  have hx1 : Kept s0 x1 := (loopModeChange_kept h)
  clear_value x1
  clear_value x2
  have hx3 : Kept s0 x3 := (setFld_kept (setLoop_kept hx1))
  clear_value x3
  exact kept_ite h (loopEvent_kept hx3)

theorem loopOverrun_kept {s0 s : State} {a1} (h : Kept s0 s) :
    Kept s0 (State.loopOverrun s a1) := by
  unfold State.loopOverrun
  extract_lets x1 x2 x3 x4 x5
  clear_value x1
  have hx2 : Kept s0 x2 := (setLoop_kept h)
  clear_value x2
  have hx3 : Kept s0 x3 := (pmc1_kept (bump_kept (bump_kept (bumpSat_kept hx2))))
  clear_value x3
  have hx4 : Kept s0 x4 := (loopEvent_kept (setFlag_kept (setFlag_kept hx3)))
  clear_value x4
  clear_value x5
  exact kept_ite (enterFallback_kept hx4) hx4

theorem stageLoop_kept {s0 s : State} {a1} (h : Kept s0 s) :
    Kept s0 (State.stageLoop s a1) := by
  unfold State.stageLoop
  extract_lets x1
  clear_value x1
  exact kept_ite h (kept_ite (loopOverrun_kept h) (setLoop_kept h))

theorem crucibleStage_kept {s0 s : State} {a1} (h : Kept s0 s) :
    Kept s0 (State.crucibleStage s a1) := by
  unfold State.crucibleStage
  exact kept_ite (foldl_kept h fun _ _ k0 => (stageLoop_kept k0)) h

theorem takeEffect_kept {s0 s : State} {a1} (h : Kept s0 s) :
    Kept s0 (State.takeEffect s a1) := by
  unfold State.takeEffect
  extract_lets x1
  clear_value x1
  split
  · exact h
  · extract_lets x2 x3 x4
    have hx2 : Kept s0 x2 := (setLoop_kept h)
    clear_value x2
    clear_value x3
    clear_value x4
    split
    · exact cellCommand_kept hx2
    · exact setLoop_kept hx2
    · exact plnStage_kept hx2
    · exact hx2

theorem setEntrySample_kept {s0 s : State} {a1 a2} (h : Kept s0 s) :
    Kept s0 (State.setEntrySample s a1 a2) := by
  unfold State.setEntrySample
  extract_lets x1
  clear_value x1
  exact h.upd rfl rfl rfl rfl rfl

theorem requestMode_kept {s0 s : State} {a1 a2 a3} (h : Kept s0 s) :
    Kept s0 (State.requestMode s a1 a2 a3) := by
  unfold State.requestMode
  extract_lets x1
  clear_value x1
  exact setLoop_kept h

theorem actRequest_kept {s0 s : State} {a1 a2} (h : Kept s0 s) :
    Kept s0 (State.actRequest s a1 a2) := by
  unfold State.actRequest
  extract_lets x1 x2 x3
  clear_value x1
  have hx2 : Kept s0 x2 := (setLoop_kept h)
  clear_value x2
  clear_value x3
  split
  · exact h
  · extract_lets x4 x5
    have hx4 : Kept s0 x4 := (kept_ite (setReg_kept hx2) hx2)
    clear_value x4
    have hx5 : Kept s0 x5 := (loopModeChange_kept hx4)
    clear_value x5
    exact kept_ite hx2 (kept_ite (loopEvent_kept (setFlag_kept (setFlag_kept hx2))) (kept_ite (loopEvent_kept (setFld_kept hx5)) hx5))

theorem putLaw_kept {s0 s : State} {a1 a2 a3} (h : Kept s0 s) :
    Kept s0 (State.putLaw s a1 a2 a3) := by
  unfold State.putLaw
  extract_lets x1 x2 x3 x4 x5 x6
  have hx1 : Kept s0 x1 := (setReg_kept h)
  clear_value x1
  have hx2 : Kept s0 x2 := (setReg_kept hx1)
  clear_value x2
  have hx3 : Kept s0 x3 := (setReg_kept (setReg_kept hx2))
  clear_value x3
  have hx4 : Kept s0 x4 := (setReg_kept (setReg_kept hx3))
  clear_value x4
  have hx5 : Kept s0 x5 := (setFlag_kept hx4)
  clear_value x5
  clear_value x6
  exact setLoop_kept hx5

theorem numErr_kept {s0 s : State} {a1 a2} (h : Kept s0 s) :
    Kept s0 (State.numErr s a1 a2) := by
  unfold State.numErr
  extract_lets x1 x2 x3
  have hx1 : Kept s0 x1 := (foldl_kept h (fun _ _ k0 => (setReg_kept k0)))
  clear_value x1
  have hx2 : Kept s0 x2 := (loopEvent_kept (setFlag_kept (setFlag_kept hx1)))
  clear_value x2
  clear_value x3
  exact enterFallback_kept (setLoop_kept hx2)

theorem reseedModel_kept {s0 s : State} {a1 a2} (h : Kept s0 s) :
    Kept s0 (State.reseedModel s a1 a2) := by
  unfold State.reseedModel
  extract_lets x1 x2 x3
  clear_value x1
  clear_value x2
  have hx3 : Kept s0 x3 := (setReg_kept (setReg_kept h))
  clear_value x3
  exact setLoop_kept hx3

theorem runModel_kept {s0 s : State} {a1 a2} (h : Kept s0 s) :
    Kept s0 (State.runModel s a1 a2).2 := by
  unfold State.runModel
  extract_lets x1 x2 x3 x4 x5 x6 x7 x8 x9 x10 x11 x12 x13 x14 x15
  clear_value x1
  clear_value x2
  clear_value x3
  clear_value x4
  clear_value x5
  clear_value x6
  clear_value x7
  clear_value x8
  clear_value x9
  clear_value x10
  clear_value x11
  clear_value x12
  have hx13 : Kept s0 x13 := (setLoop_kept h)
  clear_value x13
  have hx14 : Kept s0 x14 := (setReg_kept (setReg_kept hx13))
  clear_value x14
  have hx15 : Kept s0 x15 := (bump_kept (setFlag_kept (setFlag_kept hx14)))
  clear_value x15
  split
  · dsimp only
    exact loopEvent_kept (setFlag_kept hx15)
  · dsimp only
    exact hx14

theorem plausibility_kept {s0 s : State} {a1 a2 a3 a4} (h : Kept s0 s) :
    Kept s0 (State.plausibility s a1 a2 a3 a4) := by
  unfold State.plausibility
  extract_lets x1
  clear_value x1
  split
  · exact setLoop_kept h
  · split
    · exact reseedModel_kept h
    · split
      · rename_i z3 z4 z5 z6
        have hz5 : Kept s0 z5 := kept_snd z6 (runModel_kept h)
        extract_lets x2 x3
        clear_value x2
        clear_value x3
        split
        · exact hz5
        · split
          · exact kept_ite hz5 (putLaw_kept (enterFallback_kept hz5))
          · exact kept_ite (putLaw_kept (loopModeChange_kept (setReg_kept hz5))) hz5
          · exact kept_ite hz5 (putLaw_kept (enterFallback_kept hz5))
          · exact hz5

theorem setUeff_kept {s0 s : State} {a1 a2} (h : Kept s0 s) :
    Kept s0 (State.setUeff s a1 a2) := by
  unfold State.setUeff
  extract_lets x1 x2 x3 x4 x5 x6 x7 x8
  clear_value x1
  clear_value x2
  have hx3 : Kept s0 x3 := (kept_ite (setLoop_kept h) h)
  clear_value x3
  have hx4 : Kept s0 x4 := (setReg_kept hx3)
  clear_value x4
  clear_value x5
  clear_value x6
  clear_value x7
  have hx8 : Kept s0 x8 := (kept_ite (setLoop_kept hx4) hx4)
  clear_value x8
  exact setReg_kept (setFlag_kept hx8)

theorem setSp_kept {s0 s : State} {a1 a2} (h : Kept s0 s) :
    Kept s0 (State.setSp s a1 a2) := by
  unfold State.setSp
  split
  · extract_lets x1
    have hx1 : Kept s0 x1 := (setFlag_kept h)
    clear_value x1
    exact kept_ite (setReg_kept hx1) hx1

theorem setSat_kept {s0 s : State} {a1 a2} (h : Kept s0 s) :
    Kept s0 (State.setSat s a1 a2) := by
  unfold State.setSat
  extract_lets x1 x2
  clear_value x1
  have hx2 : Kept s0 x2 := (setFlag_kept h)
  clear_value x2
  exact kept_ite (loopEvent_kept hx2) hx2

theorem setLtrack_kept {s0 s : State} {a1 a2} (h : Kept s0 s) :
    Kept s0 (State.setLtrack s a1 a2) := by
  unfold State.setLtrack
  extract_lets x1 x2 x3
  clear_value x1
  have hx2 : Kept s0 x2 := (setFlag_kept h)
  clear_value x2
  clear_value x3
  exact kept_ite (setLoop_kept hx2) hx2

theorem putFinite_kept {s0 s : State} {a1 a2 a3 a4} (h : Kept s0 s) :
    Kept s0 (State.putFinite s a1 a2 a3 a4) := by
  unfold State.putFinite
  exact kept_ite (putLaw_kept h) (numErr_kept h)

theorem badSample_kept {s0 s : State} {a1 a2 a3 a4} (h : Kept s0 s) :
    Kept s0 (State.badSample s a1 a2 a3 a4) := by
  unfold State.badSample
  extract_lets x1 x2 x3 x4 x5 x6 x7 x8 x9 x10 x11 x12 x13 x14 x15
  clear_value x1
  clear_value x2
  have hx3 : Kept s0 x3 := (setFlag_kept h)
  clear_value x3
  clear_value x4
  have hx5 : Kept s0 x5 := (setLoop_kept hx3)
  clear_value x5
  clear_value x6
  clear_value x7
  clear_value x8
  have hx9 : Kept s0 x9 := (kept_ite (loopEvent_kept hx5) hx5)
  clear_value x9
  have hx10 : Kept s0 x10 := (bumpSat_kept hx9)
  clear_value x10
  clear_value x11
  have hx12 : Kept s0 x12 := (enterFallback_kept hx10)
  clear_value x12
  clear_value x13
  have hx14 : Kept s0 x14 := (setReg_kept hx10)
  clear_value x14
  clear_value x15
  dsimp only
  exact kept_ite (kept_ite (putFinite_kept hx12) (setLoop_kept hx14)) (putFinite_kept hx5)

theorem goodSample_kept {s0 s : State} {a1 a2 a3 a4} (h : Kept s0 s) :
    Kept s0 (State.goodSample s a1 a2 a3 a4) := by
  unfold State.goodSample
  extract_lets x1 x2 x3 x4 x5 x6 x7 x8 x9 x10 x11 x12 x13 x14 x15 x16
  clear_value x1
  clear_value x2
  clear_value x3
  clear_value x4
  have hx5 : Kept s0 x5 := (kept_ite (setFld_kept (setLoop_kept h)) h)
  clear_value x5
  have hx6 : Kept s0 x6 := (setFlag_kept hx5)
  clear_value x6
  clear_value x7
  clear_value x8
  clear_value x9
  clear_value x10
  clear_value x11
  clear_value x12
  clear_value x13
  clear_value x15
  have hx16 : Kept s0 x16 := (setLoop_kept hx6)
  clear_value x16
  exact kept_ite (numErr_kept hx6) (plausibility_kept (putLaw_kept hx16))

theorem putLoopRecord_kept {s0 s : State} {a1 a2} (h : Kept s0 s) :
    Kept s0 (State.putLoopRecord s a1 a2) := by
  unfold State.putLoopRecord
  extract_lets x1 x2
  have hx1 : Kept s0 x1 := (foldl_kept h (fun _ _ k0 => (setReg_kept k0)))
  clear_value x1
  have hx2 : Kept s0 x2 := (setLoop_kept hx1)
  clear_value x2
  exact setFlag_kept (putLoopMode_kept hx2)

theorem countSample_kept {s0 s : State} {a1} (h : Kept s0 s) :
    Kept s0 (State.countSample s a1) := by
  unfold State.countSample
  extract_lets x1 x2
  clear_value x1
  clear_value x2
  split
  · exact setLoop_kept h
  · exact kept_ite (putLoopRecord_kept (setLoop_kept h)) (setLoop_kept h)

theorem evalLoop_kept {s0 s : State} {a1 a2} (h : Kept s0 s) :
    Kept s0 (State.evalLoop s a1 a2) := by
  unfold State.evalLoop
  extract_lets x1 x2 x3 x4 x5 x6 x7 x8 x9 x10
  have hx1 : Kept s0 x1 := (actRequest_kept h)
  clear_value x1
  clear_value x2
  clear_value x3
  have hx4 : Kept s0 x4 := (actRequest_kept (setUeff_kept h))
  clear_value x4
  clear_value x5
  have hx6 : Kept s0 x6 := (setSp_kept hx4)
  clear_value x6
  have hx7 : Kept s0 x7 := (setLtrack_kept (setSat_kept hx6))
  clear_value x7
  have hx8 : Kept s0 x8 := (setReg_kept hx7)
  clear_value x8
  have hx9 : Kept s0 x9 := (kept_ite (goodSample_kept hx8) (badSample_kept hx8))
  clear_value x9
  clear_value x10
  exact kept_ite h (kept_ite (countSample_kept (setLoop_kept hx1)) (countSample_kept (pmc1_kept (bump_kept (setFld_kept (setLoop_kept hx9))))))

theorem sendLatch_kept {s0 s : State} {a1 a2} (h : Kept s0 s) :
    Kept s0 (State.sendLatch s a1 a2) := by
  unfold State.sendLatch
  extract_lets x1
  have hx1 : Kept s0 x1 := (kept_ite (sendUnit_kept h) h)
  clear_value x1
  refine foldl_kept ?_ ?_
  · exact hx1
  · intro w0_0 w0_1 hw0
    extract_lets x2
    clear_value x2
    exact setLoop_kept hw0

theorem sampleLoop_kept {s0 s : State} {a1 a2} (h : Kept s0 s) :
    Kept s0 (State.sampleLoop s a1 a2) := by
  unfold State.sampleLoop
  split
  · exact evalLoop_kept h
  · exact countSample_kept h

theorem safeDest_kept {s0 s : State} {a1} (h : Kept s0 s) :
    Kept s0 (State.safeDest s a1) := by
  unfold State.safeDest
  refine foldl_kept ?_ ?_
  · exact h
  · intro w0_0 w0_1 hw0
    extract_lets x1
    clear_value x1
    exact kept_ite (kept_ite (outSub_kept hw0) (endSub_kept hw0)) hw0

theorem cruTraffic_kept {s0 s : State} {a1} (h : Kept s0 s) :
    Kept s0 (State.cruTraffic s a1) := by
  unfold State.cruTraffic
  extract_lets x1 x2
  clear_value x1
  have hx2 : Kept s0 x2 := (portMove_kept (portMove_kept h))
  clear_value x2
  exact portMove_kept hx2

theorem crucibleSample_kept {s0 s : State} {a1 a2} (h : Kept s0 s) :
    Kept s0 (State.crucibleSample s a1 a2) := by
  unfold State.crucibleSample
  extract_lets x1 x2 x3 x4 x5 x6 x7
  clear_value x1
  have hx2 : Kept s0 x2 := (foldl_kept h (fun _ _ k0 => (kept_ite (cruTraffic_kept (takeEffect_kept k0)) k0)))
  clear_value x2
  have hx3 : Kept s0 x3 := (safeDest_kept hx2)
  clear_value x3
  clear_value x4
  have hx5 : Kept s0 x5 := (sendLatch_kept hx3)
  clear_value x5
  have hx6 : Kept s0 x6 := (setEntrySample_kept hx5)
  clear_value x6
  have hx7 : Kept s0 x7 := (foldl_kept hx6 (fun _ _ k0 => (sampleLoop_kept k0)))
  clear_value x7
  split
  · refine foldl_kept ?_ ?_
    · exact hx7
    · intro w0_0 w0_1 hw0
      extract_lets x8
      clear_value x8
      exact kept_ite (setLoop_kept hw0) hw0
  · exact h

theorem ownWrite_kept {s0 s : State} {a1} (h : Kept s0 s)
    (ha1 : ∀ y0, Kept s0 y0 → Kept s0 (a1 y0)) :
    Kept s0 (State.ownWrite s a1) := by
  unfold State.ownWrite
  exact kept_ite h (ha1 _ h)

theorem setLoopValue_kept {s0 s : State} {a1 a2 a3} (h : Kept s0 s) :
    Kept s0 (State.setLoopValue s a1 a2 a3) := by
  unfold State.setLoopValue
  extract_lets x1
  clear_value x1
  split
  · exact ownWrite_kept h (fun _ k0 => (kept_ite (setRegN_kept k0) k0))
  · exact ownWrite_kept h (fun _ k0 => (requestMode_kept k0))
  · exact ownWrite_kept h (fun _ k0 => (setRegN_kept k0))
  · exact setLoop_kept h
  · exact setLoop_kept h
  · exact h

theorem clearPlaus_kept {s0 s : State} {a1} (h : Kept s0 s) :
    Kept s0 (State.clearPlaus s a1) := by
  unfold State.clearPlaus
  extract_lets x1
  clear_value x1
  exact kept_ite (setFlag_kept (setFlag_kept (setLoop_kept h))) h

theorem clearNum_kept {s0 s : State} {a1} (h : Kept s0 s) :
    Kept s0 (State.clearNum s a1) := by
  unfold State.clearNum
  extract_lets x1
  clear_value x1
  exact kept_ite (setFlag_kept (setLoop_kept h)) h

theorem resumeLoop_kept {s0 s : State} {a1} (h : Kept s0 s) :
    Kept s0 (State.resumeLoop s a1) := by
  unfold State.resumeLoop
  extract_lets x1 x2 x3 x4 x5
  clear_value x1
  clear_value x2
  clear_value x3
  have hx4 : Kept s0 x4 := (setLoop_kept h)
  clear_value x4
  clear_value x5
  exact kept_ite (setLoop_kept hx4) hx4

theorem cruStart_kept {s0 s : State} {a1} (h : Kept s0 s) :
    Kept s0 (State.cruStart s a1) := by
  unfold State.cruStart
  extract_lets x1
  have hx1 : Kept s0 x1 := (setFld_kept h)
  clear_value x1
  refine foldl_kept ?_ ?_
  · exact hx1
  · intro w0_0 w0_1 hw0
    extract_lets x2
    clear_value x2
    exact kept_ite hw0 (kept_ite (resumeLoop_kept hw0) (setLoop_kept hw0))

theorem cruStop_kept {s0 s : State} {a1} (h : Kept s0 s) :
    Kept s0 (State.cruStop s a1) := by
  unfold State.cruStop
  extract_lets x1
  have hx1 : Kept s0 x1 := (setFld_kept h)
  clear_value x1
  refine foldl_kept ?_ ?_
  · exact hx1
  · intro w2_0 w2_1 hw2
    extract_lets x2
    clear_value x2
    exact kept_ite (setLoop_kept hw2) hw2

theorem linkTable_kept {s0 s : State} (h : Kept s0 s) :
    Kept s0 (State.linkTable s) := by
  unfold State.linkTable
  refine foldl_kept ?_ ?_
  · exact h
  · intro w2_0 w2_1 hw2
    extract_lets x1
    clear_value x1
    exact kept_ite (setRegN_kept hw2) hw2

theorem loadLoops_kept {s0 s : State} (h : Kept s0 s) :
    Kept s0 (State.loadLoops s) := by
  unfold State.loadLoops
  extract_lets x1 x2
  have hx1 : Kept s0 x1 := (clearRegs_kept (clearRegs_kept h))
  clear_value x1
  have hx2 : Kept s0 x2 := (hx1.upd rfl rfl rfl rfl rfl)
  clear_value x2
  split
  · exact hx2
  · extract_lets x3 x4 x5
    have hx3 : Kept s0 x3 := (putWords_kept hx2)
    clear_value x3
    clear_value x4
    have hx5 : Kept s0 x5 := (foldl_kept hx3 (fun _ _ k0 => (putLoopMode_kept (setFlag_kept k0))))
    clear_value x5
    exact linkTable_kept (setRegN_kept (setFld_kept hx5))

theorem coldModes_kept {s0 s : State} (h : Kept s0 s) :
    Kept s0 (State.coldModes s) := by
  unfold State.coldModes
  exact foldl_kept h fun _ _ k0 => (loopEvent_kept k0)

end Sys2Proof.Laws
end

