-- ==== Sys2Proof/Laws/KeptNet.lean ====
section
/-! SUPPORT. What every operation of Pourline and the redundant pair keeps (`Kept`). -/

namespace Sys2Proof.Laws

open Sys2Proof.Machine

/-! ### Switch -/

theorem learn_kept {s0 s : State} {a1 a2} (h : Kept s0 s) :
    Kept s0 (State.learn s a1 a2) := by
  unfold State.learn
  extract_lets x1 x2 x3
  clear_value x1
  clear_value x2
  clear_value x3
  split
  · exact h
  · split
    · exact kept_ite h (h.upd rfl rfl rfl rfl rfl)
    · exact kept_ite (h.upd rfl rfl rfl rfl rfl) h

theorem netBlink_kept {s0 s : State} {a1} (h : Kept s0 s) :
    Kept s0 (State.netBlink s a1) := by
  unfold State.netBlink
  extract_lets x1 x2
  clear_value x1
  clear_value x2
  exact kept_ite (h.upd rfl rfl rfl rfl rfl) h

theorem tsOffer_kept {s0 s : State} {a1 a2} (h : Kept s0 s) :
    Kept s0 (State.tsOffer s a1 a2) := by
  unfold State.tsOffer
  extract_lets x1 x2 x3 x4 x5 x6 x7
  clear_value x1
  clear_value x2
  clear_value x3
  have hx4 : Kept s0 x4 := (pmcCount_kept (qOffer_kept h))
  clear_value x4
  have hx5 : Kept s0 x5 := (setFlag_kept hx4)
  clear_value x5
  clear_value x6
  clear_value x7
  exact kept_ite (kept_ite (event_kept (hx5.upd rfl rfl rfl rfl rfl)) hx5) (kept_ite (hx4.upd rfl rfl rfl rfl rfl) hx4)

theorem txStamp_kept {s0 s : State} {a1 a2} (h : Kept s0 s) :
    Kept s0 (State.txStamp s a1 a2) := by
  unfold State.txStamp
  extract_lets x1 x2 x3
  clear_value x1
  clear_value x2
  have hx3 : Kept s0 x3 := (h.upd rfl rfl rfl rfl rfl)
  clear_value x3
  exact tsOffer_kept hx3

theorem emitNow_kept {s0 s : State} {a1 a2 a3} (h : Kept s0 s) :
    Kept s0 (State.emitNow s a1 a2 a3) := by
  unfold State.emitNow
  extract_lets x1 x2
  have hx1 : Kept s0 x1 := (pmcCount_kept (bump_kept (netBlink_kept h)))
  clear_value x1
  have hx2 : Kept s0 x2 := (hx1.out rfl rfl rfl rfl rfl)
  clear_value x2
  split
  · exact pmcCount_kept (bump_kept h)
  · split
    · split
      · exact txStamp_kept hx2
      · exact hx2
    · exact h

theorem emit_kept {s0 s : State} {a1 a2 a3 a4} (h : Kept s0 s) :
    Kept s0 (State.emit s a1 a2 a3 a4) := by
  unfold State.emit
  extract_lets x1
  clear_value x1
  split
  · exact emitNow_kept h
  · exact kept_ite (emitNow_kept h) (h.upd rfl rfl rfl rfl rfl)

theorem emitMask_kept {s0 s : State} {a1 a2} (h : Kept s0 s) :
    Kept s0 (State.emitMask s a1 a2) := by
  unfold State.emitMask
  exact foldl_kept h (fun _ _ k0 => (kept_ite (emit_kept k0) k0))

theorem gateTick_kept {s0 s : State} (h : Kept s0 s) :
    Kept s0 (State.gateTick s) := by
  unfold State.gateTick
  extract_lets x1 x2 x3
  clear_value x1
  clear_value x2
  have hx3 : Kept s0 x3 := (h.upd rfl rfl rfl rfl rfl)
  clear_value x3
  exact kept_ite h (foldl_kept hx3 (fun _ _ k0 => (foldl_kept k0 (fun _ _ k1 => (emitNow_kept k1)))))

theorem transitDrop_kept {s0 s : State} {a1} (h : Kept s0 s) :
    Kept s0 (State.transitDrop s a1) := by
  unfold State.transitDrop
  extract_lets x1
  clear_value x1
  split
  · exact h
  · extract_lets x2
    have hx2 : Kept s0 x2 := (h.upd rfl rfl rfl rfl rfl)
    clear_value x2
    exact pmcCount_kept (bump_kept hx2)

theorem launch_kept {s0 s : State} {a1 a2 a3 a4} (h : Kept s0 s) :
    Kept s0 (State.launch s a1 a2 a3 a4) := by
  unfold State.launch
  extract_lets x1 x2 x3
  clear_value x1
  clear_value x2
  have hx3 : Kept s0 x3 := (kept_ite h (h.upd rfl rfl rfl rfl rfl))
  clear_value x3
  exact foldl_kept hx3 (fun _ _ k0 => (kept_ite (emit_kept k0) k0))

theorem fromP0_kept {s0 s : State} {a1 a2 a3 a4} (h : Kept s0 s) :
    Kept s0 (State.fromP0 s a1 a2 a3 a4) := by
  unfold State.fromP0
  exact launch_kept (learn_kept (pmcCount_kept (bump_kept h)))

theorem sendFrame_kept {s0 s : State} {a1} (h : Kept s0 s) :
    Kept s0 (State.sendFrame s a1) := by
  unfold State.sendFrame
  exact fromP0_kept h

theorem supTick_kept {s0 s : State} (h : Kept s0 s) :
    Kept s0 (State.supTick s) := by
  unfold State.supTick
  extract_lets x1 x2 x3 x4
  clear_value x1
  clear_value x2
  clear_value x3
  have hx4 : Kept s0 x4 := (h.upd rfl rfl rfl rfl rfl)
  clear_value x4
  exact kept_ite h (sendFrame_kept hx4)

theorem ageOut_kept {s0 s : State} {a1 a2} (h : Kept s0 s) :
    Kept s0 (State.ageOut s a1 a2) := by
  unfold State.ageOut
  exact h.upd rfl rfl rfl rfl rfl

theorem portLink_kept {s0 s : State} {a1 a2} (h : Kept s0 s) :
    Kept s0 (State.portLink s a1 a2) := by
  unfold State.portLink
  extract_lets x1 x2
  have hx1 : Kept s0 x1 := (setFlag_kept h)
  clear_value x1
  have hx2 : Kept s0 x2 := (kept_ite hx1 (setFlag_kept hx1))
  clear_value x2
  exact kept_ite h (event_kept hx2)

theorem redPath_kept {s0 s : State} {a1 a2} (h : Kept s0 s) :
    Kept s0 (State.redPath s a1 a2) := by
  unfold State.redPath
  extract_lets x1 x2
  have hx1 : Kept s0 x1 := (setFlag_kept h)
  clear_value x1
  have hx2 : Kept s0 x2 := (kept_ite hx1 (setFlag_kept hx1))
  clear_value x2
  exact kept_ite h (event_kept hx2)

theorem dupForget_kept {s0 s : State} (h : Kept s0 s) :
    Kept s0 (State.dupForget s) := by
  unfold State.dupForget
  extract_lets x1 x2 x3 x4
  clear_value x1
  clear_value x2
  have hx3 : Kept s0 x3 := (h.upd rfl rfl rfl rfl rfl)
  clear_value x3
  have hx4 : Kept s0 x4 := (bumpBy_kept hx3)
  clear_value x4
  exact kept_ite h (bumpBy_kept hx4)

theorem dedupe_kept {s0 s : State} {a1 a2} (h : Kept s0 s) :
    Kept s0 (State.dedupe s a1 a2).2 := by
  unfold State.dedupe
  extract_lets x1 x2 x3 x4
  clear_value x1
  have hx2 : Kept s0 x2 := (dupForget_kept h)
  clear_value x2
  clear_value x3
  clear_value x4
  split
  · exact h
  · split
    · extract_lets x5
      clear_value x5
      exact bump_kept (hx2.upd rfl rfl rfl rfl rfl)
    · exact hx2.upd rfl rfl rfl rfl rfl

/-! ### Ptp -/

theorem settle_kept {s0 s : State} {a1 a2} (h : Kept s0 s) :
    Kept s0 (State.settle s a1 a2) := by
  unfold State.settle
  extract_lets x1
  clear_value x1
  exact h.upd rfl rfl rfl rfl rfl

theorem owe_kept {s0 s : State} {a1 a2 a3} (h : Kept s0 s) :
    Kept s0 (State.owe s a1 a2 a3) := by
  unfold State.owe
  extract_lets x1
  clear_value x1
  exact h.upd rfl rfl rfl rfl rfl

theorem tcFrames_kept {s0 s : State} {a1 a2 a3} (h : Kept s0 s) :
    Kept s0 (State.tcFrames s a1 a2 a3).2 := by
  unfold State.tcFrames
  extract_lets x1 x2 x3
  clear_value x1
  clear_value x2
  clear_value x3
  split
  · exact h
  · split
    · split
      · exact owe_kept h
      · exact h
    · exact owe_kept h
    · exact owe_kept h
    · split
      · exact owe_kept h
      · exact settle_kept h
    · exact settle_kept h
    · exact settle_kept h
    · exact settle_kept (settle_kept h)
    · exact h

theorem ringNew_kept {s0 s : State} {a1 a2} (h : Kept s0 s) :
    Kept s0 (State.ringNew s a1 a2).2 := by
  unfold State.ringNew
  extract_lets x1 x2 x3
  clear_value x1
  clear_value x2
  clear_value x3
  split
  · exact h
  · split
    · exact h.upd rfl rfl rfl rfl rfl
    · exact h.upd rfl rfl rfl rfl rfl

theorem redMask_kept {s0 s : State} {a1 a2} (h : Kept s0 s) :
    Kept s0 (State.redMask s a1 a2).2 := by
  unfold State.redMask
  extract_lets x1
  clear_value x1
  split
  · exact h
  · split
    · exact h
    · split
      · split
        · rename_i z1 z2 z3 z4
          have hz3 : Kept s0 z3 := kept_snd z4 (ringNew_kept h)
          exact hz3
      · exact h

theorem passOn_kept {s0 s : State} {a1 a2 a3} (h : Kept s0 s) :
    Kept s0 (State.passOn s a1 a2 a3) := by
  unfold State.passOn
  exact kept_ite (launch_kept h) (emitMask_kept h)

theorem frameForward_kept {s0 s : State} {a1 a2 a3 a4} (h : Kept s0 s) :
    Kept s0 (State.frameForward s a1 a2 a3 a4) := by
  unfold State.frameForward
  extract_lets x1 x2 x3 x4 x5 x6
  have hx1 : Kept s0 x1 := (setFlag_kept (bump_kept h))
  clear_value x1
  clear_value x2
  clear_value x3
  have hx4 : Kept s0 x4 := (pmcCount_kept (bump_kept (netBlink_kept h)))
  clear_value x4
  clear_value x5
  have hx6 : Kept s0 x6 := (learn_kept hx4)
  clear_value x6
  split
  · exact h
  · split
    · exact kept_ite (event_kept (hx1.upd rfl rfl rfl rfl rfl)) hx1
    · split
      · exact hx4
      · split
        · exact hx4
        · split
          · rename_i z1 z2 z3 z4
            have hz3 : Kept s0 z3 := kept_snd z4 (redMask_kept hx6)
            split
            · split
              · rename_i z5 z6 z7 z8
                have hz7 : Kept s0 z7 := kept_snd z8 (tcFrames_kept hz3)
                exact foldl_kept hz7 (fun _ _ k0 => (passOn_kept k0))
            · exact passOn_kept hz3

theorem ptpSend_kept {s0 s : State} {a1 a2 a3 a4 a5 a6 a7} (h : Kept s0 s) :
    Kept s0 (State.ptpSend s a1 a2 a3 a4 a5 a6 a7) := by
  unfold State.ptpSend
  extract_lets x1 x2
  clear_value x1
  clear_value x2
  exact fromP0_kept h

theorem ptpNext_kept {s0 s : State} {a1 a2} (h : Kept s0 s) :
    Kept s0 (State.ptpNext s a1 a2).2 := by
  unfold State.ptpNext
  extract_lets x1 x2 x3
  clear_value x1
  clear_value x2
  clear_value x3
  exact h.upd rfl rfl rfl rfl rfl

theorem sendAnnounce_kept {s0 s : State} {a1} (h : Kept s0 s) :
    Kept s0 (State.sendAnnounce s a1) := by
  unfold State.sendAnnounce
  extract_lets x1
  clear_value x1
  split
  · rename_i z1 z2 z3 z4
    have hz3 : Kept s0 z3 := kept_snd z4 (ptpNext_kept h)
    exact ptpSend_kept hz3

theorem sendSync_kept {s0 s : State} {a1} (h : Kept s0 s) :
    Kept s0 (State.sendSync s a1) := by
  unfold State.sendSync
  extract_lets x1 x2
  clear_value x1
  clear_value x2
  split
  · rename_i z1 z2 z3 z4
    have hz3 : Kept s0 z3 := kept_snd z4 (ptpNext_kept h)
    extract_lets x3
    have hx3 : Kept s0 x3 := (ptpSend_kept hz3)
    clear_value x3
    exact kept_ite (ptpSend_kept hx3) hx3

theorem sendDelayReq_kept {s0 s : State} {a1} (h : Kept s0 s) :
    Kept s0 (State.sendDelayReq s a1) := by
  unfold State.sendDelayReq
  extract_lets x1
  clear_value x1
  split
  · rename_i z1 z2 z3 z4
    have hz3 : Kept s0 z3 := kept_snd z4 (ptpNext_kept h)
    exact ptpSend_kept hz3

theorem ptpSent_kept {s0 s : State} {a1} (h : Kept s0 s) :
    Kept s0 (State.ptpSent s a1) := by
  unfold State.ptpSent
  extract_lets x1
  clear_value x1
  exact h.upd rfl rfl rfl rfl rfl

theorem ptpTick_kept {s0 s : State} (h : Kept s0 s) :
    Kept s0 (State.ptpTick s) := by
  unfold State.ptpTick
  extract_lets x1 x2 x3 x4 x5
  clear_value x1
  clear_value x2
  clear_value x3
  have hx4 : Kept s0 x4 := (kept_ite (foldl_kept (ptpSent_kept h) (fun _ _ k0 => (sendAnnounce_kept k0))) h)
  clear_value x4
  have hx5 : Kept s0 x5 := (kept_ite (foldl_kept (ptpSent_kept hx4) (fun _ _ k0 => (sendSync_kept k0))) hx4)
  clear_value x5
  exact kept_ite h (kept_ite (foldl_kept (ptpSent_kept hx5) (fun _ _ k0 => (sendDelayReq_kept k0))) hx5)

theorem ptpServe_kept {s0 s : State} {a1 a2} (h : Kept s0 s) :
    Kept s0 (State.ptpServe s a1 a2) := by
  unfold State.ptpServe
  extract_lets x1 x2
  clear_value x1
  clear_value x2
  split
  · exact h
  · extract_lets x3 x4 x5 x6 x7
    clear_value x3
    clear_value x4
    clear_value x5
    clear_value x6
    have hx7 : Kept s0 x7 := (ptpSend_kept h)
    clear_value x7
    exact kept_ite h (kept_ite (ptpSend_kept h) (kept_ite (kept_ite (ptpSend_kept hx7) hx7) h))

/-! ### Pourline -/

theorem dupSource_kept {s0 s : State} {a1 a2 a3} (h : Kept s0 s) :
    Kept s0 (State.dupSource s a1 a2 a3) := by
  unfold State.dupSource
  extract_lets x1 x2 x3 x4
  clear_value x1
  have hx2 : Kept s0 x2 := (h.upd rfl rfl rfl rfl rfl)
  clear_value x2
  have hx3 : Kept s0 x3 := (setRegN_kept (setRegN_kept (setFlag_kept hx2)))
  clear_value x3
  clear_value x4
  exact kept_ite (kept_ite hx3 (event_kept (hx3.upd rfl rfl rfl rfl rfl))) h

theorem dupCheck_kept {s0 s : State} {a1 a2 a3} (h : Kept s0 s) :
    Kept s0 (State.dupCheck s a1 a2 a3) := by
  unfold State.dupCheck
  exact dupSource_kept h

theorem publication_kept {s0 s : State} {a1} (h : Kept s0 s) :
    Kept s0 (State.publication s a1) := by
  unfold State.publication
  extract_lets x1 x2 x3 x4
  clear_value x1
  clear_value x2
  clear_value x3
  clear_value x4
  exact kept_ite h (kept_ite (event_kept (setFlag_kept h)) (fromP0_kept (bump_kept (pmc1_kept (bump_kept (portMove_kept h))))))

theorem updLive_kept {s0 s : State} {a1} (h : Kept s0 s) :
    Kept s0 (State.updLive s a1) := by
  unfold State.updLive
  extract_lets x1 x2 x3 x4 x5 x6
  clear_value x1
  clear_value x2
  clear_value x3
  have hx4 : Kept s0 x4 := (setFlag_kept h)
  clear_value x4
  have hx5 : Kept s0 x5 := (kept_ite hx4 (bump_kept hx4))
  clear_value x5
  have hx6 : Kept s0 x6 := (kept_ite (sendCtrl_kept hx5) hx5)
  clear_value x6
  exact kept_ite h (event_kept hx6)

theorem setFresh_kept {s0 s : State} {a1 a2} (h : Kept s0 s) :
    Kept s0 (State.setFresh s a1 a2) := by
  unfold State.setFresh
  extract_lets x1 x2 x3
  clear_value x1
  have hx2 : Kept s0 x2 := (setFlag_kept (setSub_kept h))
  clear_value x2
  have hx3 : Kept s0 x3 := (kept_ite (setFld_kept hx2) (setFlag_kept hx2))
  clear_value x3
  exact kept_ite h (event_kept hx3)

theorem passContainer_kept {s0 s : State} {a1 a2} (h : Kept s0 s) :
    Kept s0 (State.passContainer s a1 a2) := by
  unfold State.passContainer
  extract_lets x1
  clear_value x1
  exact foldl_kept h fun _ _ k0 => (safContainer_kept k0)

theorem acceptFrame_kept {s0 s : State} {a1 a2 a3} (h : Kept s0 s) :
    Kept s0 (State.acceptFrame s a1 a2 a3) := by
  unfold State.acceptFrame
  extract_lets x1 x2 x3 x4 x5 x6 x7 x8 x9 x10 x11 x12 x13 x14 x15
  clear_value x1
  clear_value x2
  clear_value x3
  clear_value x4
  clear_value x5
  clear_value x6
  have hx7 : Kept s0 x7 := (setSub_kept h)
  clear_value x7
  have hx8 : Kept s0 x8 := (pmc1_kept (bump_kept (portMove_kept hx7)))
  clear_value x8
  clear_value x9
  have hx10 : Kept s0 x10 := (setFld_kept (setFld_kept (setFld_kept hx8)))
  clear_value x10
  clear_value x11
  have hx12 : Kept s0 x12 := (hx10.upd rfl rfl rfl rfl rfl)
  clear_value x12
  have hx13 : Kept s0 x13 := (updLive_kept (setFresh_kept hx12))
  clear_value x13
  have hx14 : Kept s0 x14 := (passContainer_kept hx13)
  clear_value x14
  clear_value x15
  exact kept_ite (trigger_kept hx14) hx14

theorem subFrame_kept {s0 s : State} {a1 a2 a3} (h : Kept s0 s) :
    Kept s0 (State.subFrame s a1 a2 a3) := by
  unfold State.subFrame
  extract_lets x1 x2 x3 x4
  clear_value x1
  have hx4 : Kept s0 x4 := (setFld_kept h)
  clear_value x4
  exact kept_ite h (kept_ite (event_kept (bump_kept (setFlag_kept (setFld_kept h)))) (kept_ite (acceptFrame_kept hx4) (bump_kept hx4)))

theorem cyclicRx_kept {s0 s : State} {a1 a2 a3} (h : Kept s0 s) :
    Kept s0 (State.cyclicRx s a1 a2 a3) := by
  unfold State.cyclicRx
  split
  · rename_i z1 z2 z3 z4
    have hz3 : Kept s0 z3 := kept_snd z4 (dedupe_kept h)
    extract_lets x1 x2
    clear_value x1
    have hx2 : Kept s0 x2 := by
      unfold x2
      split
      · exact dupCheck_kept hz3
      · exact hz3
    clear_value x2
    split
    · exact hz3
    · split
      · exact hx2
      · exact kept_ite (setFlag_kept (pmc1_kept (bump_kept hx2))) (kept_ite hx2 (foldl_kept hx2 (fun _ _ k0 => (subFrame_kept k0))))

theorem toStale_kept {s0 s : State} {a1} (h : Kept s0 s) :
    Kept s0 (State.toStale s a1).2 := by
  unfold State.toStale
  extract_lets x1
  have hx1 : Kept s0 x1 := (setFresh_kept h)
  clear_value x1
  split
  · exact h
  · split
    · dsimp only
      exact event_kept (setFlag_kept (setFld_kept hx1))
    · exact hx1

theorem subStale_kept {s0 s : State} {a1} (h : Kept s0 s) :
    Kept s0 (State.subStale s a1).2 := by
  unfold State.subStale
  split
  · exact h
  · split
    · rename_i z1 z2 z3 z4
      change Kept s0 (State.updLive z3 _)
      exact updLive_kept (kept_snd z4 (toStale_kept h))

theorem txEntry_kept {s0 s : State} {a1} (h : Kept s0 s) :
    Kept s0 (State.txEntry s a1) := by
  have fin : ∀ {t : State} {i x y q}, Kept s0 t → Kept s0 ((t.blockWrite i x y).qTake q).2 :=
    fun k => qTake_kept (blockWrite_kept k)
  have ps : ∀ {b : Bool} {t : State} {p i}, Kept s0 t → Kept s0 (if b = true then t.txStamp p i else t) :=
    fun k => kept_ite (txStamp_kept k) k
  unfold State.txEntry
  extract_lets q at_ held
  split
  · exact h
  · split
    rename_i e1
    have h1 := kept_snd e1 (blockRead_kept h)
    clear e1
    extract_lets ad len po fl bad id ts
    split
    · exact fin h1
    · split
      rename_i e2
      have h2 := kept_snd e2 (blockRead_kept h1)
      clear e2
      extract_lets f m up r w
      clear_value f m up r w
      split
      rename_i ok t ht
      have k : Kept s0 t := kept_snd ht (kept_ite_snd (acyclicAdmit_kept h2) h2)
      split
      · exact fin k
      · split
        · exact fin k
        · extract_lets s1 s2
          exact fromP0_kept (ps (fin k))

theorem ptpRx_kept {s0 s : State} {a1 a2 a3} (h : Kept s0 s) :
    Kept s0 (State.ptpRx s a1 a2 a3) := by
  unfold State.ptpRx
  extract_lets x1
  clear_value x1
  exact tsOffer_kept h

theorem rxPut_kept {s0 s : State} {a1 a2 a3} (h : Kept s0 s) :
    Kept s0 (State.rxPut s a1 a2 a3).2 := by
  unfold State.rxPut
  extract_lets x1 x2 x3 x4 x5 x6 x7
  clear_value x1
  clear_value x2
  clear_value x3
  have hx4 : Kept s0 x4 := (h.upd rfl rfl rfl rfl rfl)
  clear_value x4
  clear_value x5
  clear_value x6
  have hx7 : Kept s0 x7 := (kept_ite (blockWrite_kept hx4) hx4)
  clear_value x7
  split
  · exact qLose_kept hx4
  · exact qOffer_kept hx7

theorem rxFrame_kept {s0 s : State} {a1 a2 a3} (h : Kept s0 s) :
    Kept s0 (State.rxFrame s a1 a2 a3) := by
  unfold State.rxFrame
  split
  · rename_i z1 z2 z3 z4
    have hz3 : Kept s0 z3 := kept_snd z4 (dedupe_kept h)
    extract_lets x1 x2 x3 x4
    clear_value x1
    clear_value x2
    have hx3 : Kept s0 x3 := by
      unfold x3
      split
      · exact dupCheck_kept hz3
      · exact hz3
    clear_value x3
    have hx4 : Kept s0 x4 := by
      unfold x4
      split
      · exact ptpRx_kept hx3
      · exact hx3
    clear_value x4
    split
    · exact hz3
    · split
      · exact kept_ite (ptpServe_kept hx3) (kept_ite hx4 (rxPut_kept hx4))

theorem netStart_kept {s0 s : State} (h : Kept s0 s) :
    Kept s0 (State.netStart s) := by
  unfold State.netStart
  extract_lets x1 x2 x3
  clear_value x1
  clear_value x2
  have hx3 : Kept s0 x3 := (setFld_kept (h.upd rfl rfl rfl rfl rfl))
  clear_value x3
  exact foldl_kept hx3 (fun _ _ k0 => (kept_ite k0 (portLink_kept k0)))

theorem plnStart_kept {s0 s : State} (h : Kept s0 s) :
    Kept s0 (State.plnStart s) := by
  unfold State.plnStart
  extract_lets x1 x2 x3 x4 x5 x6 x7 x8 x9 x10
  clear_value x1
  clear_value x2
  clear_value x3
  have hx4 : Kept s0 x4 := (h.upd rfl rfl rfl rfl rfl)
  clear_value x4
  clear_value x5
  have hx6 : Kept s0 x6 := (hx4.upd rfl rfl rfl rfl rfl)
  clear_value x6
  have hx7 : Kept s0 x7 := (clearRegs_kept (clearRegs_kept hx6))
  clear_value x7
  clear_value x8
  have hx9 : Kept s0 x9 := (setRegN_kept hx7)
  clear_value x9
  have hx10 : Kept s0 x10 := (setRegN_kept (setRegN_kept hx9))
  clear_value x10
  exact kept_ite hx7 (setRegN_kept (setRegN_kept hx10))

theorem plnStop_kept {s0 s : State} (h : Kept s0 s) :
    Kept s0 (State.plnStop s) := by
  unfold State.plnStop
  exact setFlag_kept h

theorem updCarry_kept {s0 s : State} (h : Kept s0 s) :
    Kept s0 (State.updCarry s) := by
  unfold State.updCarry
  exact setFld_kept h

theorem subsMoved_kept {s0 s : State} {a1} (h : Kept s0 s) : Kept s0 (State.subsMoved s a1).2 := by
  have one : ∀ (p : Bool × State) (x : Nat), Kept s0 p.2 → Kept s0 (if (subRecAt a1 x).crc = (p.2.subRec x).crc then p
      else ((p.1 || (p.2.toStale x).1), (p.2.toStale x).2.setSub x SubSt.reset)).2 :=
    fun _ _ k => kept_ite_snd k (setSub_kept (toStale_kept k))
  exact foldl_kept (foldl_kept_snd (p := (false, s)) h one) fun _ _ k => updLive_kept k

theorem plnResume_kept {s0 s : State} (h : Kept s0 s) :
    Kept s0 (State.plnResume s).2 := by
  unfold State.plnResume
  extract_lets x1 x2 x3
  clear_value x1
  clear_value x2
  have hx3 : Kept s0 x3 := (h.upd rfl rfl rfl rfl rfl)
  clear_value x3
  split
  · exact h
  · exact subsMoved_kept (updCarry_kept (setFlag_kept hx3))

theorem plnShadow_kept {s0 s : State} {a1} (h : Kept s0 s) :
    Kept s0 (State.plnShadow s a1).2 := by
  unfold State.plnShadow
  split
  · exact busRead_kept h

theorem plnSwap_kept {s0 s : State} {a1 a2} (h : Kept s0 s) :
    Kept s0 (State.plnSwap s a1 a2).2 := by
  unfold State.plnSwap
  split
  · extract_lets x1 x2
    have hx1 : Kept s0 x1 := (busWrite_kept h)
    clear_value x1
    clear_value x2
    split
    · exact updCarry_kept (hx1.upd rfl rfl rfl rfl rfl)
    · exact subsMoved_kept (hx1.upd rfl rfl rfl rfl rfl)

/-! ### Redundancy -/

theorem updClaim_kept {s0 s : State} (h : Kept s0 s) :
    Kept s0 (State.updClaim s) := by
  unfold State.updClaim
  extract_lets x1
  clear_value x1
  exact setFlag_kept h

theorem endGrant_kept {s0 s : State} (h : Kept s0 s) :
    Kept s0 (State.endGrant s) := by
  unfold State.endGrant
  extract_lets x1
  clear_value x1
  exact updClaim_kept (h.upd rfl rfl rfl rfl rfl)

theorem followRole_kept {s0 s : State} (h : Kept s0 s) :
    Kept s0 (State.followRole s) := by
  unfold State.followRole
  extract_lets x1
  have hx1 : Kept s0 x1 := (foldl_kept h fun _ _ k0 => (canFollowRole_kept k0))
  clear_value x1
  exact updSwitches_kept (updAllDrives_kept hx1)

theorem setRole_kept {s0 s : State} {a1 a2} (h : Kept s0 s) :
    Kept s0 (State.setRole s a1 a2) := by
  unfold State.setRole
  extract_lets x1 x2 x3
  clear_value x1
  have hx2 : Kept s0 x2 := (event_kept (setFld_kept (setFld_kept h)))
  clear_value x2
  have hx3 : Kept s0 x3 := (kept_ite hx2 (endGrant_kept hx2))
  clear_value x3
  exact kept_ite h (kept_ite hx3 (followRole_kept hx3))

theorem setSstate_kept {s0 s : State} {a1} (h : Kept s0 s) :
    Kept s0 (State.setSstate s a1) := by
  unfold State.setSstate
  exact kept_ite (setRole_kept h) h

theorem toSyncing_kept {s0 s : State} (h : Kept s0 s) :
    Kept s0 (State.toSyncing s) := by
  unfold State.toSyncing
  extract_lets x1 x2
  have hx1 : Kept s0 x1 := (setSstate_kept h)
  clear_value x1
  clear_value x2
  exact kept_ite (sendCtrl_kept (event_kept (hx1.upd rfl rfl rfl rfl rfl))) h

theorem restartSync_kept {s0 s : State} (h : Kept s0 s) :
    Kept s0 (State.restartSync s) := by
  unfold State.restartSync
  exact kept_ite (toSyncing_kept h) h

theorem dropOwn_kept {s0 s : State} (h : Kept s0 s) :
    Kept s0 (State.dropOwn s) := by
  unfold State.dropOwn
  extract_lets x1 x2
  have hx1 : Kept s0 x1 := (setFlag_kept h)
  clear_value x1
  clear_value x2
  exact kept_ite (updSwitches_kept (hx1.upd rfl rfl rfl rfl rfl)) h

theorem runDying_kept {s0 s : State} (h : Kept s0 s) :
    Kept s0 (State.runDying s) := by
  unfold State.runDying
  extract_lets x1 x2
  clear_value x1
  have hx2 : Kept s0 x2 := (h.upd rfl rfl rfl rfl rfl)
  clear_value x2
  exact dropOwn_kept hx2

theorem runAlive_kept {s0 s : State} (h : Kept s0 s) :
    Kept s0 (State.runAlive s) := by
  unfold State.runAlive
  exact h.upd rfl rfl rfl rfl rfl

theorem updLines_kept {s0 s : State} (h : Kept s0 s) :
    Kept s0 (State.updLines s) := by
  unfold State.updLines
  extract_lets x1 x2
  clear_value x1
  have hx2 : Kept s0 x2 := (setFlag_kept h)
  clear_value x2
  exact kept_ite h (kept_ite h (kept_ite hx2 (event_kept hx2)))

theorem completeTake_kept {s0 s : State} {a1 a2 a3} (h : Kept s0 s) :
    Kept s0 (State.completeTake s a1 a2 a3) := by
  unfold State.completeTake
  extract_lets x1 x2 x3 x4 x5 x6
  clear_value x1
  have hx2 : Kept s0 x2 := (h.upd rfl rfl rfl rfl rfl)
  clear_value x2
  clear_value x3
  have hx4 : Kept s0 x4 := (setRegN_kept hx2)
  clear_value x4
  have hx5 : Kept s0 x5 := (setRegN_kept (bump_kept hx4))
  clear_value x5
  have hx6 : Kept s0 x6 := (setRole_kept hx5)
  clear_value x6
  exact event_kept hx6

theorem dropPour_kept {s0 s : State} {a1} (h : Kept s0 s) :
    Kept s0 (State.dropPour s a1) := by
  unfold State.dropPour
  extract_lets x1
  clear_value x1
  exact kept_ite h (setFlag_kept (setFld_kept (setTask_kept h)))

theorem dropPours_kept {s0 s : State} {a1} (h : Kept s0 s) :
    Kept s0 (State.dropPours s a1) := by
  unfold State.dropPours
  exact foldl_kept h (fun _ _ k0 => (kept_ite (dropPour_kept k0) k0))

theorem warmTake_kept {s0 s : State} (h : Kept s0 s) :
    Kept s0 (State.warmTake s) := by
  unfold State.warmTake
  extract_lets x1 x2 x3 x4
  have hx1 : Kept s0 x1 := by
    unfold x1
    refine foldl_kept ?_ ?_
    · exact h
    · intro w0_0 w0_1 hw0
      extract_lets x5
      clear_value x5
      split
      · exact hw0
      · split
        · exact updDrive_kept (setCell_kept hw0)
  clear_value x1
  have hx2 : Kept s0 x2 := (foldl_kept hx1 (fun _ _ k0 => (dropPour_kept k0)))
  clear_value x2
  clear_value x3
  have hx4 : Kept s0 x4 := (hx2.upd rfl rfl rfl rfl rfl)
  clear_value x4
  refine foldl_kept ?_ ?_
  · exact hx4
  · intro w1_0 w1_1 hw1
    extract_lets x6 x7 x8
    clear_value x6
    clear_value x7
    clear_value x8
    exact kept_ite hw1 (setLoop_kept hw1)

theorem raiseOwn_kept {s0 s : State} {a1} (h : Kept s0 s) :
    Kept s0 (State.raiseOwn s a1) := by
  unfold State.raiseOwn
  extract_lets x1 x2 x3 x4 x5
  have hx1 : Kept s0 x1 := (setFlag_kept (setFlag_kept h))
  clear_value x1
  clear_value x2
  clear_value x3
  clear_value x4
  clear_value x5
  exact hx1.upd rfl rfl rfl rfl rfl

theorem takeUp_kept {s0 s : State} (h : Kept s0 s) :
    Kept s0 (State.takeUp s) := by
  unfold State.takeUp
  split
  · exact completeTake_kept (kept_ite (warmTake_kept h) (kept_ite (dropPours_kept h) h))
  · exact h

theorem claim_kept {s0 s : State} (h : Kept s0 s) :
    Kept s0 (State.claim s) := by
  unfold State.claim
  extract_lets x1 x2 x3
  clear_value x1
  clear_value x2
  have hx3 : Kept s0 x3 := (updSwitches_kept (updAllDrives_kept (takeUp_kept (raiseOwn_kept h))))
  clear_value x3
  exact kept_ite h (kept_ite (dropOwn_kept hx3) hx3)

theorem takeOver_kept {s0 s : State} {a1 a2 a3} (h : Kept s0 s) :
    Kept s0 (State.takeOver s a1 a2 a3) := by
  unfold State.takeOver
  extract_lets x1
  clear_value x1
  exact sendCtrl_kept (updClaim_kept (h.upd rfl rfl rfl rfl rfl))

theorem beginTake_kept {s0 s : State} {a1 a2 a3} (h : Kept s0 s) :
    Kept s0 (State.beginTake s a1 a2 a3) := by
  unfold State.beginTake
  exact kept_ite (takeOver_kept h) h

theorem yieldTo_kept {s0 s : State} {a1 a2} (h : Kept s0 s) :
    Kept s0 (State.yieldTo s a1 a2) := by
  unfold State.yieldTo
  extract_lets x1 x2 x3 x4 x5 x6 x7 x8 x9 x10
  clear_value x1
  have hx2 : Kept s0 x2 := (dropOwn_kept h)
  clear_value x2
  clear_value x3
  have hx4 : Kept s0 x4 := (setRegN_kept hx2)
  clear_value x4
  have hx5 : Kept s0 x5 := (setRegN_kept (bump_kept hx4))
  clear_value x5
  have hx6 : Kept s0 x6 := (kept_ite (orReg_kept hx5) hx5)
  clear_value x6
  have hx7 : Kept s0 x7 := (dropTriggers_kept (setRole_kept hx6))
  clear_value x7
  clear_value x8
  have hx9 : Kept s0 x9 := (hx7.upd rfl rfl rfl rfl rfl)
  clear_value x9
  have hx10 : Kept s0 x10 := (event_kept hx9)
  clear_value x10
  exact kept_ite h (kept_ite (toSyncing_kept hx10) hx10)

theorem closeDual_kept {s0 s : State} (h : Kept s0 s) :
    Kept s0 (State.closeDual s) := by
  unfold State.closeDual
  extract_lets x1
  clear_value x1
  split
  · exact h.upd rfl rfl rfl rfl rfl
  · exact h

theorem dualEnd_kept {s0 s : State} {a1} (h : Kept s0 s) :
    Kept s0 (State.dualEnd s a1) := by
  unfold State.dualEnd
  extract_lets x1 x2 x3 x4
  clear_value x1
  have hx2 : Kept s0 x2 := (h.upd rfl rfl rfl rfl rfl)
  clear_value x2
  have hx3 : Kept s0 x3 := (closeDual_kept (setFlag_kept hx2))
  clear_value x3
  clear_value x4
  split
  · exact closeDual_kept h
  · extract_lets x5 x6
    have hx5 : Kept s0 x5 := (kept_ite (hx3.upd rfl rfl rfl rfl rfl) hx3)
    clear_value x5
    have hx6 : Kept s0 x6 := (kept_ite (event_kept (setFlag_kept hx5)) hx5)
    clear_value x6
    exact updAllDrives_kept hx6

theorem partnerDying_kept {s0 s : State} (h : Kept s0 s) :
    Kept s0 (State.partnerDying s) := by
  unfold State.partnerDying
  extract_lets x1
  clear_value x1
  exact kept_ite h (kept_ite (takeOver_kept h) (kept_ite (takeOver_kept h) h))

theorem toBlind_kept {s0 s : State} (h : Kept s0 s) :
    Kept s0 (State.toBlind s) := by
  unfold State.toBlind
  exact kept_ite h (event_kept (setSstate_kept h))

theorem standbyLinkLoss_kept {s0 s : State} {a1} (h : Kept s0 s) :
    Kept s0 (State.standbyLinkLoss s a1) := by
  unfold State.standbyLinkLoss
  extract_lets x1 x2
  clear_value x1
  clear_value x2
  exact kept_ite h (kept_ite (toBlind_kept h) (kept_ite (partnerDying_kept (toBlind_kept h)) (kept_ite (kept_ite (toBlind_kept h) (event_kept (toBlind_kept h))) (toBlind_kept h))))

theorem ownClass_kept {s0 s : State} {a1} (h : Kept s0 s) :
    Kept s0 (State.ownClass s a1) := by
  unfold State.ownClass
  extract_lets x1
  have hx1 : Kept s0 x1 := (setFld_kept h)
  clear_value x1
  exact kept_ite (endGrant_kept hx1) (updClaim_kept hx1)

theorem aliveClass_kept {s0 s : State} {a1} (h : Kept s0 s) :
    Kept s0 (State.aliveClass s a1) := by
  unfold State.aliveClass
  extract_lets x1 x2 x3
  have hx1 : Kept s0 x1 := (setFld_kept h)
  clear_value x1
  clear_value x2
  clear_value x3
  exact updClaim_kept (hx1.upd rfl rfl rfl rfl rfl)

theorem ownIn_kept {s0 s : State} {a1} (h : Kept s0 s) :
    Kept s0 (State.ownIn s a1) := by
  unfold State.ownIn
  extract_lets x1 x2 x3 x4 x5
  clear_value x1
  have hx2 : Kept s0 x2 := (ownClass_kept h)
  clear_value x2
  have hx3 : Kept s0 x3 := (kept_ite (dropOwn_kept hx2) hx2)
  clear_value x3
  clear_value x4
  have hx5 : Kept s0 x5 := (kept_ite (hx3.upd rfl rfl rfl rfl rfl) hx3)
  clear_value x5
  exact standbyLinkLoss_kept (updLines_kept hx5)

theorem aliveIn_kept {s0 s : State} {a1} (h : Kept s0 s) :
    Kept s0 (State.aliveIn s a1) := by
  unfold State.aliveIn
  extract_lets x1 x2
  clear_value x1
  have hx2 : Kept s0 x2 := (updLines_kept (aliveClass_kept h))
  clear_value x2
  exact kept_ite (partnerDying_kept hx2) (standbyLinkLoss_kept hx2)

theorem linkTrained_kept {s0 s : State} (h : Kept s0 s) :
    Kept s0 (State.linkTrained s) := by
  unfold State.linkTrained
  extract_lets x1 x2 x3 x4 x5 x6
  clear_value x1
  have hx2 : Kept s0 x2 := (h.upd rfl rfl rfl rfl rfl)
  clear_value x2
  have hx3 : Kept s0 x3 := (setFlag_kept (setFlag_kept (setFlag_kept hx2)))
  clear_value x3
  have hx4 : Kept s0 x4 := (updLines_kept (setFlag_kept (event_kept hx3)))
  clear_value x4
  have hx5 : Kept s0 x5 := (foldl_kept hx4 (fun _ _ k0 => (dropPour_kept k0)))
  clear_value x5
  clear_value x6
  exact kept_ite h (kept_ite (toSyncing_kept (setSstate_kept (hx5.upd rfl rfl rfl rfl rfl))) hx4)

theorem linkDown_kept {s0 s : State} {a1 a2} (h : Kept s0 s) :
    Kept s0 (State.linkDown s a1 a2) := by
  unfold State.linkDown
  extract_lets x1 x2 x3 x4 x5
  clear_value x1
  have hx2 : Kept s0 x2 := (setFlag_kept (setFlag_kept (setFlag_kept h)))
  clear_value x2
  have hx3 : Kept s0 x3 := (event_kept (setFlag_kept hx2))
  clear_value x3
  clear_value x4
  have hx5 : Kept s0 x5 := (hx3.upd rfl rfl rfl rfl rfl)
  clear_value x5
  exact partnerSource_kept hx5

theorem linkLoss_kept {s0 s : State} {a1 a2} (h : Kept s0 s) :
    Kept s0 (State.linkLoss s a1 a2) := by
  unfold State.linkLoss
  exact kept_ite (standbyLinkLoss_kept (linkDown_kept h)) (setFlag_kept (setFlag_kept h))

theorem linkRetrain_kept {s0 s : State} (h : Kept s0 s) :
    Kept s0 (State.linkRetrain s) := by
  unfold State.linkRetrain
  exact kept_ite h (setFlag_kept (setFlag_kept h))

theorem frameBad_kept {s0 s : State} (h : Kept s0 s) :
    Kept s0 (State.frameBad s) := by
  unfold State.frameBad
  extract_lets x1 x2 x3
  have hx1 : Kept s0 x1 := (pmc1_kept (bump_kept h))
  clear_value x2
  have hx3 : Kept s0 x3 := (hx1.upd rfl rfl rfl rfl rfl)
  exact kept_ite (linkLoss_kept hx3) hx3

theorem frameGood_kept {s0 s : State} (h : Kept s0 s) :
    Kept s0 (State.frameGood s) := by
  unfold State.frameGood
  extract_lets x1
  clear_value x1
  exact pmc1_kept (h.upd rfl rfl rfl rfl rfl)

theorem replayLost_kept {s0 s : State} (h : Kept s0 s) :
    Kept s0 (State.replayLost s) := by
  unfold State.replayLost
  exact toSyncing_kept (event_kept (bump_kept h))

theorem sampleEntry_kept {s0 s : State} {a1 a2} (h : Kept s0 s) :
    Kept s0 (State.sampleEntry s a1 a2) := by
  unfold State.sampleEntry
  extract_lets x1 x2
  clear_value x1
  have hx2 : Kept s0 x2 := (crucibleSample_kept h)
  clear_value x2
  exact kept_ite (replayLost_kept hx2) hx2

theorem frameOut_kept {s0 s : State} {a1} (h : Kept s0 s) :
    Kept s0 (State.frameOut s a1) := by
  unfold State.frameOut
  extract_lets x1 x2 x3
  clear_value x1
  clear_value x2
  have hx3 : Kept s0 x3 := (pmcCount_kept (pmcCount_kept h))
  clear_value x3
  exact hx3.out rfl rfl rfl rfl rfl

theorem linkDrain_kept {s0 s : State} {a1} (h : Kept s0 s) :
    Kept s0 (State.linkDrain s a1) := by
  induction a1 generalizing s with
  | zero => exact h
  | succ k ih =>
    unfold State.linkDrain
    split
    · exact h
    · split
      · exact h
      · exact ih (frameOut_kept h)

theorem linkTick_kept {s0 s : State} (h : Kept s0 s) :
    Kept s0 (State.linkTick s) := by
  unfold State.linkTick
  extract_lets x1
  clear_value x1
  exact kept_ite h (linkDrain_kept (h.upd rfl rfl rfl rfl rfl))

theorem passLine_kept {s0 s : State} {a1} (h : Kept s0 s) :
    Kept s0 (State.passLine s a1).2 := by
  unfold State.passLine
  split
  · exact h
  · split
    · exact h
    · split
      · rename_i z1 z2 z3 z4
        have hz3 : Kept s0 z3 := kept_snd z4 (blockRead_kept h)
        exact hz3

theorem passData_kept {s0 s : State} {a1} (h : Kept s0 s) :
    Kept s0 (State.passData s a1).2 := by
  unfold State.passData
  exact foldl_kept_snd (p := ([], s)) h fun _ _ k0 => passLine_kept k0

theorem startPass_kept {s0 s : State} (h : Kept s0 s) :
    Kept s0 (State.startPass s) := by
  unfold State.startPass
  extract_lets x1
  clear_value x1
  exact kept_ite (h.upd rfl rfl rfl rfl rfl) h

theorem passTick_kept {s0 s : State} (h : Kept s0 s) :
    Kept s0 (State.passTick s) := by
  unfold State.passTick
  split
  · exact h
  · split
    · rename_i z1 z2 z3 z4
      have hz3 : Kept s0 z3 := kept_snd z4 (passData_kept h)
      extract_lets x1 x2 x3
      have hx1 : Kept s0 x1 := (sendCopyUnit_kept hz3)
      clear_value x1
      clear_value x2
      have hx3 : Kept s0 x3 := (hx1.upd rfl rfl rfl rfl rfl)
      clear_value x3
      exact kept_ite (sendCtrl_kept hx3) hx3

theorem partnerStatus_kept {s0 s : State} {a1 a2 a3} (h : Kept s0 s) :
    Kept s0 (State.partnerStatus s a1 a2 a3) := by
  unfold State.partnerStatus
  extract_lets x1 x2 x3 x4 x5 x6
  have hx2 : Kept s0 x2 := h.upd rfl rfl rfl rfl rfl
  have hx3 : Kept s0 x3 := updLines_kept (setRegN_kept hx2)
  have hx4 : Kept s0 x4 := kept_ite (setRole_kept hx3) hx3
  have hx6 : Kept s0 x6 := partnerSource_kept hx4
  clear_value x5 x6
  exact kept_ite (partnerMeas_kept hx6) hx6

theorem startCheck_kept {s0 s : State} {a1 a2} (h : Kept s0 s) :
    Kept s0 (State.startCheck s a1 a2) := by
  unfold State.startCheck
  exact kept_ite h (sendCtrl_kept (setFlag_kept h))

theorem vectorMismatch_kept {s0 s : State} {a1} (h : Kept s0 s) :
    Kept s0 (State.vectorMismatch s a1) := by
  unfold State.vectorMismatch
  exact startCheck_kept (event_kept (bump_kept h))

theorem compareOvec_kept {s0 s : State} {a1} (h : Kept s0 s) :
    Kept s0 (State.compareOvec s a1) := by
  unfold State.compareOvec
  extract_lets x1 x2 x3 x4
  clear_value x1
  clear_value x2
  clear_value x3
  have hx4 : Kept s0 x4 := (h.upd rfl rfl rfl rfl rfl)
  clear_value x4
  exact kept_ite h (kept_ite (vectorMismatch_kept hx4) hx4)

theorem ovecFrame_kept {s0 s : State} {a1} (h : Kept s0 s) :
    Kept s0 (State.ovecFrame s a1) := by
  unfold State.ovecFrame
  extract_lets x1 x2 x3
  clear_value x1
  clear_value x2
  have hx3 : Kept s0 x3 := (h.upd rfl rfl rfl rfl rfl)
  clear_value x3
  exact kept_ite h (compareOvec_kept hx3)

theorem loopRecord_kept {s0 s : State} {a1 a2 a3} (h : Kept s0 s) :
    Kept s0 (State.loopRecord s a1 a2 a3) := by
  unfold State.loopRecord
  extract_lets x1 x2
  exact kept_ite h (kept_ite (setRegN_kept (putLoopRecord_kept (setLoop_kept h))) (kept_ite (setRegN_kept (putLoopRecord_kept h)) (kept_ite (setLoop_kept (kept_ite (bump_kept h) h)) (bump_kept h))))

theorem latchRecord_kept {s0 s : State} {a1 a2 a3} (h : Kept s0 s) :
    Kept s0 (State.latchRecord s a1 a2 a3) := by
  unfold State.latchRecord
  extract_lets x1 x2 x3 x4 x5 x6 x7 x8 x9 x10 x11 x12
  clear_value x1
  clear_value x2
  clear_value x3
  clear_value x4
  clear_value x5
  have hx6 : Kept s0 x6 := (kept_ite (vectorMismatch_kept h) h)
  clear_value x6
  clear_value x7
  clear_value x8
  have hx9 : Kept s0 x9 := (hx6.upd rfl rfl rfl rfl rfl)
  clear_value x9
  have hx10 : Kept s0 x10 := (setReg_kept (setReg_kept hx9))
  clear_value x10
  have hx11 : Kept s0 x11 := (kept_ite (requestMode_kept hx10) hx10)
  clear_value x11
  have hx12 : Kept s0 x12 := (kept_ite (clearPlaus_kept hx11) hx11)
  clear_value x12
  exact kept_ite (setFlag_kept hx12) hx12

theorem adoptSample_kept {s0 s : State} {a1 a2} (h : Kept s0 s) :
    Kept s0 (State.adoptSample s a1 a2) := by
  unfold State.adoptSample
  split
  · exact kept_ite (setEntrySample_kept h) h
  · exact h

theorem latchFrame_kept {s0 s : State} {a1} (h : Kept s0 s) :
    Kept s0 (State.latchFrame s a1) := by
  unfold State.latchFrame
  extract_lets x1 x2 x3
  clear_value x1
  clear_value x2
  have hx3 : Kept s0 x3 := (adoptSample_kept h)
  clear_value x3
  exact kept_ite h (foldl_kept hx3 (fun _ _ k0 => (latchRecord_kept k0)))

theorem monCompare_kept {s0 s : State} {a1} (h : Kept s0 s) :
    Kept s0 (State.monCompare s a1) := by
  unfold State.monCompare
  extract_lets x1 x2 x3 x4 x5 x6 x7 x8 x9 x10 x11
  clear_value x1
  clear_value x2
  clear_value x3
  have hx4 : Kept s0 x4 := (kept_ite (h.upd rfl rfl rfl rfl rfl) h)
  clear_value x4
  clear_value x5
  clear_value x6
  clear_value x7
  clear_value x8
  clear_value x9
  clear_value x10
  have hx11 : Kept s0 x11 := (setCell_kept hx4)
  clear_value x11
  exact kept_ite hx4 (kept_ite (startCheck_kept (event_kept (bump_kept hx11))) hx11)

theorem unitCheck_kept {s0 s : State} {a1 a2} (h : Kept s0 s) :
    Kept s0 (State.unitCheck s a1 a2).2 := by
  unfold State.unitCheck
  extract_lets x1
  clear_value x1
  split
  · rename_i z1 z2 z3 z4
    have hz3 : Kept s0 z3 := kept_snd z4 (eccReads_kept h)
    exact hz3

theorem ownCheck_kept {s0 s : State} {a1 a2 a3 a4 a5} (h : Kept s0 s) :
    Kept s0 (State.ownCheck s a1 a2 a3 a4 a5).2 := by
  unfold State.ownCheck
  cases a1
  · exact sendCtrl_kept h
  · exact sendCtrl_kept (unitCheck_kept h)

theorem checkResult_kept {s0 s : State} {a1 a2 a3 a4} (h : Kept s0 s) :
    Kept s0 (State.checkResult s a1 a2 a3 a4) := by
  unfold State.checkResult
  extract_lets x1 x2 x3 x4 x5 x6 x7
  clear_value x1
  clear_value x2
  have hx3 : Kept s0 x3 := (event_kept (setFlag_kept h))
  clear_value x3
  clear_value x4
  clear_value x5
  have hx6 : Kept s0 x6 := (setRegN_kept hx3)
  clear_value x6
  clear_value x7
  exact kept_ite h (kept_ite (kept_ite (beginTake_kept hx6) (hx6.upd rfl rfl rfl rfl rfl)) (kept_ite hx6 (kept_ite (toSyncing_kept hx6) (kept_ite (setSstate_kept hx6) (orReg_kept hx6)))))

theorem selfCheckResult_kept {s0 s : State} {a1 a2 a3 a4 a5 a6} (h : Kept s0 s) :
    Kept s0 (State.selfCheckResult s a1 a2 a3 a4 a5 a6) := by
  unfold State.selfCheckResult
  split
  · exact h
  · split
    · rename_i z1 z2 z3 z4
      have hz3 : Kept s0 z3 := kept_snd z4 (ownCheck_kept h)
      exact kept_ite (checkResult_kept hz3) (checkResult_kept hz3)

theorem switchReq_kept {s0 s : State} (h : Kept s0 s) :
    Kept s0 (State.switchReq s) := by
  unfold State.switchReq
  extract_lets x1
  clear_value x1
  exact kept_ite (setFlag_kept h) (kept_ite (beginTake_kept h) (sendCtrl_kept h))

theorem resyncReq_kept {s0 s : State} (h : Kept s0 s) :
    Kept s0 (State.resyncReq s) := by
  unfold State.resyncReq
  extract_lets x1
  have hx1 : Kept s0 x1 := (kept_ite (setSstate_kept h) h)
  clear_value x1
  exact kept_ite h (toSyncing_kept hx1)

theorem resyncDone_kept {s0 s : State} (h : Kept s0 s) :
    Kept s0 (State.resyncDone s) := by
  unfold State.resyncDone
  exact kept_ite (event_kept (setSstate_kept (h.upd rfl rfl rfl rfl rfl))) h

theorem partnerCellFault_kept {s0 s : State} {a1 a2} (h : Kept s0 s) :
    Kept s0 (State.partnerCellFault s a1 a2) := by
  unfold State.partnerCellFault
  exact kept_ite (beginTake_kept h) h

theorem partnerFieldLoss_kept {s0 s : State} (h : Kept s0 s) :
    Kept s0 (State.partnerFieldLoss s) := by
  unfold State.partnerFieldLoss
  exact kept_ite (beginTake_kept h) h

theorem latchPair_kept {s0 s : State} {a1 a2} (h : Kept s0 s) :
    Kept s0 (State.latchPair s a1 a2) := by
  unfold State.latchPair
  exact setFlag_kept (setFlag_kept h)

theorem roleResolve_kept {s0 s : State} {a1 a2} (h : Kept s0 s) :
    Kept s0 (State.roleResolve s a1 a2) := by
  unfold State.roleResolve
  extract_lets x1 x2 x3 x4 x5 x6
  have hx1 : ∀ y0, Kept s0 y0 → Kept s0 (x1 y0) := by
    intro y0 hy
    simp only [x1]
    exact setRole_kept (updClaim_kept (hy.upd rfl rfl rfl rfl rfl))
  clear_value x1
  have hx2 : ∀ y0 y1 y2, Kept s0 y0 → Kept s0 (x2 y0 y1 y2) := by
    intro y0 y1 y2 hy
    simp only [x2]
    exact setRole_kept (hy.upd rfl rfl rfl rfl rfl)
  clear_value x2
  clear_value x3
  have hx4 : Kept s0 x4 := (h.upd rfl rfl rfl rfl rfl)
  clear_value x4
  clear_value x5
  clear_value x6
  split
  · exact h
  · split
    · exact hx1 _ h
    · split
      · split
        · exact h
        · extract_lets x7
          clear_value x7
          split
          · extract_lets x8
            have hx8 : Kept s0 x8 := (h.upd rfl rfl rfl rfl rfl)
            clear_value x8
            exact kept_ite (setRole_kept hx8) (setRole_kept hx8)
          · exact kept_ite (toSyncing_kept (setRole_kept hx4)) (kept_ite (setRole_kept hx4) (toSyncing_kept (setRole_kept hx4)))
      · exact kept_ite (hx2 _ _ _ h) (kept_ite (hx2 _ _ _ h) (kept_ite (hx1 _ h) (kept_ite (hx1 _ h) (hx2 _ _ _ h))))

theorem runStart_kept {s0 s : State} {a1} (h : Kept s0 s) :
    Kept s0 (State.runStart s a1) := by
  unfold State.runStart
  extract_lets x1
  have hx1 : Kept s0 x1 := (setFlag_kept h)
  clear_value x1
  exact setRegN_kept (setRegN_kept hx1)

theorem runReset_kept {s0 s : State} (h : Kept s0 s) :
    Kept s0 (State.runReset s) := by
  unfold State.runReset
  extract_lets x1 x2 x3 x4 x5 x6 x7
  clear_value x1
  clear_value x2
  clear_value x3
  have hx4 : Kept s0 x4 := (clearRegs_kept h)
  clear_value x4
  have hx5 : Kept s0 x5 := (foldl_kept hx4 (fun _ _ k0 => (setReg_kept k0)))
  clear_value x5
  have hx6 : Kept s0 x6 := (setFlag_kept (setRegN_kept hx5))
  clear_value x6
  clear_value x7
  exact updClaim_kept (hx6.upd rfl rfl rfl rfl rfl)

end Sys2Proof.Laws
end

