-- ==== Sys2Proof/Laws/KeptRecorder.lean ====
section
/-! SUPPORT. What every operation of the Ladle and the event recorder keeps (`Kept`). -/

namespace Sys2Proof.Laws

open Sys2Proof.Machine

/-! ### Ladle -/

theorem setLdlCh_kept {s0 s : State} {a1 a2} (h : Kept s0 s) :
    Kept s0 (State.setLdlCh s a1 a2) := by
  unfold State.setLdlCh
  exact h.upd rfl rfl rfl rfl rfl

theorem ldlComplete_kept {s0 s : State} {a1 a2 a3 a4 a5} (h : Kept s0 s) :
    Kept s0 (State.ldlComplete s a1 a2 a3 a4 a5) := by
  unfold State.ldlComplete
  extract_lets x1 x2 x3
  clear_value x1
  have hx2 : Kept s0 x2 := (kept_ite (orReg_kept h) h)
  clear_value x2
  clear_value x3
  exact kept_ite (qOffer_kept hx2) hx2

theorem ldlReport_kept {s0 s : State} {a1 a2} (h : Kept s0 s) :
    Kept s0 (State.ldlReport s a1 a2) := by
  unfold State.ldlReport
  exact kept_ite (event_kept (setFlag_kept h)) (kept_ite (event_kept (setFlag_kept h)) (kept_ite (event_kept (setFlag_kept h)) (kept_ite (setFlag_kept h) (kept_ite (setFlag_kept h) h))))

theorem ldlIdle_kept {s0 s : State} {a1} (h : Kept s0 s) :
    Kept s0 (State.ldlIdle s a1) := by
  unfold State.ldlIdle
  extract_lets x1 x2 x3 x4 x5 x6 x7 x8
  clear_value x1
  clear_value x2
  clear_value x3
  have hx4 : Kept s0 x4 := by
    unfold x4
    split
    · exact h.upd rfl rfl rfl rfl rfl
    · exact h
  clear_value x4
  have hx5 : Kept s0 x5 := (setFld_kept (setLdlCh_kept hx4))
  clear_value x5
  have hx6 : Kept s0 x6 := (setFld_kept hx5)
  clear_value x6
  have hx7 : Kept s0 x7 := (setBit_kept hx6)
  clear_value x7
  clear_value x8
  exact kept_ite (setFlag_kept (hx7.upd rfl rfl rfl rfl rfl)) hx7

theorem ldlChainEnd_kept {s0 s : State} {a1 a2 a3 a4} (h : Kept s0 s) :
    Kept s0 (State.ldlChainEnd s a1 a2 a3 a4) := by
  unfold State.ldlChainEnd
  extract_lets x1
  have hx1 : Kept s0 x1 := (ldlReport_kept (setFld_kept h))
  clear_value x1
  exact ldlIdle_kept (ldlComplete_kept hx1)

theorem ldPut_kept {s0 s : State} {a1 a2} (h : Kept s0 s) :
    Kept s0 (State.ldPut s a1 a2) := by
  unfold State.ldPut
  exact markDirty_kept (mput_kept (transfer_kept h))

theorem scramble_kept {s0 s : State} {a1 a2} (h : Kept s0 s) :
    Kept s0 (State.scramble s a1 a2) := by
  unfold State.scramble
  exact markDirty_kept (mput_kept ⟨h.pending, Nat.le_trans h.free (Nat.le_add_right _ _), h.outbox, h.regs, h.mem⟩)

theorem ldlStopActive_kept {s0 s : State} {a1 a2} (h : Kept s0 s) :
    Kept s0 (State.ldlStopActive s a1 a2) := by
  unfold State.ldlStopActive
  split
  · exact ldlChainEnd_kept h
  · extract_lets x1 x2 x3
    have hx2 : Kept s0 x2 := kept_ite (transfer_kept h) h
    have hx3 : Kept s0 x3 := kept_ite (scramble_kept (ldPut_kept hx2)) h
    exact ldlChainEnd_kept (pmcCount_kept (pmc1_kept (bump_kept (setRegN_kept hx3))))

theorem ldlEndPending_kept {s0 s : State} {a1} (h : Kept s0 s) :
    Kept s0 (State.ldlEndPending s a1) := by
  unfold State.ldlEndPending
  exact foldl_kept h (fun _ _ k0 => (kept_ite (ldlChainEnd_kept k0) k0))

theorem ladleBusError_kept {s0 s : State} {a1 a2} (h : Kept s0 s) :
    Kept s0 (State.ladleBusError s a1 a2) := by
  unfold State.ladleBusError
  extract_lets x1 x2 x3 x4
  have hx1 : Kept s0 x1 := (readRange_kept h)
  clear_value x1
  have hx2 : Kept s0 x2 := (setRegN_kept (setFlag_kept (setFlag_kept hx1)))
  clear_value x2
  clear_value x3
  have hx4 : Kept s0 x4 := (event_kept (pmc1_kept (bump_kept hx2)))
  clear_value x4
  exact kept_ite h (ldlEndPending_kept (kept_ite (ldlStopActive_kept hx4) hx4))

theorem ladleClrHalt_kept {s0 s : State} (h : Kept s0 s) :
    Kept s0 (State.ladleClrHalt s) := by
  unfold State.ladleClrHalt
  exact kept_ite (event_kept (setFlag_kept h)) h

theorem ldStartDesc_kept {s0 s : State} {a1 a2} (h : Kept s0 s) :
    Kept s0 (State.ldStartDesc s a1 a2) := by
  unfold State.ldStartDesc
  split
  · exact ladleBusError_kept (h.upd rfl rfl rfl rfl rfl)
  · extract_lets x1 x2 x3 x4 x5
    have hx1 : Kept s0 x1 := readRange_kept (transfer_kept h)
    clear_value x1
    have hx5 : Kept s0 x5 := setLdlCh_kept hx1
    clear_value x5
    exact hx5.upd rfl rfl rfl rfl rfl

theorem ldReadAll_kept {s0 s : State} {a1} (h : Kept s0 s) :
    Kept s0 (State.ldReadAll s a1) := by
  unfold State.ldReadAll
  exact foldl_kept h (fun _ _ k0 => (readRange_kept k0))

theorem ladleOccurrence_kept {s0 s : State} {a1} (h : Kept s0 s) :
    Kept s0 (State.ladleOccurrence s a1) := by
  unfold State.ladleOccurrence
  extract_lets x1 x2
  clear_value x1
  have hx2 : Kept s0 x2 := (setLdlCh_kept h)
  clear_value x2
  exact kept_ite h (kept_ite (ldlChainEnd_kept h) (setBit_kept (setFld_kept hx2)))

theorem ladleStart_kept {s0 s : State} {a1} (h : Kept s0 s) :
    Kept s0 (State.ladleStart s a1) := by
  unfold State.ladleStart
  split
  · exact h
  · split
    · exact setFlag_kept h
    · split
      · exact ldlChainEnd_kept h
      · split
        · rename_i z4 z5 z6 z7 z8 z9
          have hz8 : Kept s0 z8 := kept_snd z9 (acyclicAdmit_kept h)
          extract_lets x1
          have hx1 : Kept s0 x1 := (setLdlCh_kept hz8)
          clear_value x1
          exact setBit_kept (setFld_kept hx1)
        · rename_i z4 z5 z6 z7 z8
          have hz6 : Kept s0 z6 := kept_snd z8 (acyclicAdmit_kept h)
          exact ldlChainEnd_kept hz6

theorem ladleAbort_kept {s0 s : State} {a1} (h : Kept s0 s) :
    Kept s0 (State.ladleAbort s a1) := by
  unfold State.ladleAbort
  exact kept_ite (ldlChainEnd_kept h) (kept_ite (setLdlCh_kept h) h)

theorem chainTake_kept {s0 s : State} (h : Kept s0 s) :
    Kept s0 (State.chainTake s) := by
  unfold State.chainTake
  split
  · exact h
  · split
    · exact h
    · extract_lets x1 x2
      clear_value x1
      have hx2 : Kept s0 x2 := (setFlag_kept (setBit_kept (setFld_kept h)))
      clear_value x2
      exact kept_ite (ldlChainEnd_kept h) (ldStartDesc_kept (setFld_kept hx2))

theorem ldTransfer_kept {s0 s : State} {a1 a2} (h : Kept s0 s) :
    Kept s0 (State.ldTransfer s a1 a2).2.2 := by
  unfold State.ldTransfer
  extract_lets x1 x2 x3
  clear_value x1
  have hx2 : Kept s0 x2 := (kept_ite (transfer_kept h) h)
  clear_value x2
  have hx3 : Kept s0 x3 := (transfer_kept (transfer_kept h))
  clear_value x3
  split
  · dsimp only
    exact ldPut_kept hx2
  · split
    · split
      · dsimp only
        exact hx3
      · dsimp only
        exact hx3
    · dsimp only
      exact h

theorem descriptorEnd_kept {s0 s : State} (h : Kept s0 s) :
    Kept s0 (State.descriptorEnd s) := by
  unfold State.descriptorEnd
  extract_lets x1
  clear_value x1
  split
  · exact h
  · extract_lets x2 x3 x4
    clear_value x2
    clear_value x3
    have hx4 : Kept s0 x4 := (kept_ite (ldReadAll_kept h) h)
    clear_value x4
    split
    · exact ladleBusError_kept h
    · split
      · rename_i z1 z2 z3 z4 z5
        have hz4 : Kept s0 z4 := kept_snd2 z5 (ldTransfer_kept hx4)
        extract_lets x5 x6 x7 x8 x9 x10
        have hx5 : Kept s0 x5 := (pmc1_kept (bump_kept (setRegN_kept hz4)))
        clear_value x5
        have hx6 : Kept s0 x6 := (kept_ite (pmcCount_kept hx5) hx5)
        clear_value x6
        clear_value x7
        clear_value x8
        have hx9 : Kept s0 x9 := (setFld_kept hx6)
        clear_value x9
        have hx10 : Kept s0 x10 := (kept_ite (ldlComplete_kept hx9) hx9)
        clear_value x10
        exact kept_ite (ldlChainEnd_kept hx6) (kept_ite (ldlChainEnd_kept hx6) (ldStartDesc_kept hx10))

theorem ladleEnd_kept {s0 s : State} {a1} (h : Kept s0 s) :
    Kept s0 (State.ladleEnd s a1) := by
  unfold State.ladleEnd
  exact foldl_kept (ldlEndPending_kept h) (fun _ _ k0 => (kept_ite (setLdlCh_kept k0) k0))

theorem ladleFault_kept {s0 s : State} (h : Kept s0 s) :
    Kept s0 (State.ladleFault s) := by
  unfold State.ladleFault
  extract_lets x1
  have hx1 : Kept s0 x1 := by
    unfold x1
    split
    · split
      · rename_i z1 z2 z3 z4
        have hz3 : Kept s0 z3 := kept_snd z4 (draw_kept h)
        exact ldlStopActive_kept hz3
    · exact h
  clear_value x1
  exact ldlEndPending_kept hx1

theorem ladleDrop_kept {s0 s : State} (h : Kept s0 s) :
    Kept s0 (State.ladleDrop s) := by
  unfold State.ladleDrop
  extract_lets x1
  have hx1 : Kept s0 x1 := (foldl_kept h fun _ _ k0 => (setFld_kept k0))
  clear_value x1
  exact setFlag_kept (setRegN_kept (hx1.upd rfl rfl rfl rfl rfl))

theorem ladleInit_kept {s0 s : State} (h : Kept s0 s) :
    Kept s0 (State.ladleInit s) := by
  unfold State.ladleInit
  extract_lets x1
  have hx1 : Kept s0 x1 := (clearRegs_kept (ladleDrop_kept h))
  clear_value x1
  refine foldl_kept ?_ ?_
  · exact hx1
  · intro w0_0 w0_1 hw0
    extract_lets x2 x3
    clear_value x2
    have hx3 : Kept s0 x3 := (setRegN_kept (setRegN_kept hw0))
    clear_value x3
    exact setRegN_kept hx3

/-! ### Recorder -/

theorem evrNotice_kept {s0 s : State} {a1 a2 a3} (h : Kept s0 s) :
    Kept s0 (State.evrNotice s a1 a2 a3) := by
  unfold State.evrNotice
  exact kept_ite h (offerRecord_kept h)

theorem summaryRecord_kept {s0 s : State} {a1} (h : Kept s0 s) :
    Kept s0 (State.summaryRecord s a1) := by
  unfold State.summaryRecord
  extract_lets x1
  clear_value x1
  split
  · exact h
  · split
    · extract_lets x2
      have hx2 : Kept s0 x2 := (acceptRecord_kept h)
      clear_value x2
      exact setBucket_kept hx2

theorem setTail_kept {s0 s : State} {a1} (h : Kept s0 s) :
    Kept s0 (State.setTail s a1) := by
  unfold State.setTail
  exact setRegN_kept (h.upd rfl rfl rfl rfl rfl)

theorem tailMove_kept {s0 s : State} {a1 a2} (h : Kept s0 s) :
    Kept s0 (State.tailMove s a1 a2) := by
  unfold State.tailMove
  exact transfer_kept h

theorem lossRecord_kept {s0 s : State} (h : Kept s0 s) :
    Kept s0 (State.lossRecord s) := by
  unfold State.lossRecord
  extract_lets x1 x2
  clear_value x1
  have hx2 : Kept s0 x2 := (h.upd rfl rfl rfl rfl rfl)
  clear_value x2
  split
  · extract_lets x3 x4 x5
    clear_value x3
    have hx4 : Kept s0 x4 := (setTail_kept (tailMove_kept hx2))
    clear_value x4
    clear_value x5
    exact countRecord_kept (hx4.upd rfl rfl rfl rfl rfl)

theorem endLossRun_kept {s0 s : State} {a1} (h : Kept s0 s) :
    Kept s0 (State.endLossRun s a1) := by
  unfold State.endLossRun
  exact kept_ite (lossRecord_kept h) h

theorem tailCopy_kept {s0 s : State} (h : Kept s0 s) :
    Kept s0 (State.tailCopy s) := by
  unfold State.tailCopy
  extract_lets x1
  split
  · exact h
  · split
    · exact h
    · extract_lets x2 x3
      have hx2 : Kept s0 x2 := (endLossRun_kept (h.upd rfl rfl rfl rfl rfl))
      clear_value x3
      exact kept_ite (setTail_kept (tailMove_kept hx2)) (pmc1_kept (setFlag_kept (bump_kept (hx2.upd rfl rfl rfl rfl rfl))))

theorem setPart_kept {s0 s : State} {a1 a2} (h : Kept s0 s) :
    Kept s0 (State.setPart s a1 a2) := by
  unfold State.setPart
  extract_lets x1 x2 x3 x4 x5
  clear_value x1
  have hx2 : Kept s0 x2 := (h.upd rfl rfl rfl rfl rfl)
  clear_value x2
  clear_value x3
  have hx4 : Kept s0 x4 := (setRegN_kept hx2)
  clear_value x4
  have hx5 : Kept s0 x5 := by
    unfold x5
    split
    · exact setRegN_kept hx4
    · exact hx4
  clear_value x5
  split
  · exact setRegN_kept hx5
  · exact hx5

theorem flashPut_kept {s0 s : State} {a1} (h : Kept s0 s) :
    Kept s0 (State.flashPut s a1) := by
  unfold State.flashPut
  extract_lets x1
  clear_value x1
  exact pmcCount_kept (setPart_kept h)

theorem blockRetire_kept {s0 s : State} {a1} (h : Kept s0 s) :
    Kept s0 (State.blockRetire s a1) := by
  unfold State.blockRetire
  extract_lets x1 x2 x3 x4
  have hx1 : Kept s0 x1 := (bump_kept h)
  clear_value x1
  clear_value x2
  have hx3 : Kept s0 x3 := (kept_ite (setPart_kept hx1) (hx1.upd rfl rfl rfl rfl rfl))
  clear_value x3
  have hx4 : Kept s0 x4 := (kept_ite (setFlag_kept hx3) hx3)
  clear_value x4
  exact evrNotice_kept hx4

theorem flashWrite_kept {s0 s : State} {a1 a2} (h : Kept s0 s) :
    Kept s0 (State.flashWrite s a1 a2) := by
  unfold State.flashWrite
  extract_lets x1 x2 x3 x4
  clear_value x1
  have hx2 : Kept s0 x2 := (setTail_kept (tailMove_kept h))
  clear_value x2
  have hx3 : Kept s0 x3 := (foldl_kept hx2 (fun _ _ k0 => (flashPut_kept k0)))
  clear_value x3
  have hx4 : Kept s0 x4 := (kept_ite (endLossRun_kept hx3) hx3)
  clear_value x4
  split
  · exact h
  · split
    · exact blockRetire_kept hx4
    · exact blockRetire_kept hx4
    · exact hx4

theorem setCursor_kept {s0 s : State} {a1 a2} (h : Kept s0 s) :
    Kept s0 (State.setCursor s a1 a2) := by
  unfold State.setCursor
  exact h.upd rfl rfl rfl rfl rfl

theorem cursorMove_kept {s0 s : State} {a1 a2 a3} (h : Kept s0 s) :
    Kept s0 (State.cursorMove s a1 a2 a3) := by
  unfold State.cursorMove
  extract_lets x1 x2 x3 x4 x5 x6 x7 x8 x9
  clear_value x1
  clear_value x2
  clear_value x3
  have hx4 : Kept s0 x4 := by
    unfold x4
    split
    · exact bumpBy_kept h
    · exact h
  clear_value x4
  clear_value x5
  clear_value x6
  have hx7 : Kept s0 x7 := (setCursor_kept hx4)
  clear_value x7
  have hx8 : Kept s0 x8 := (clearRegs_kept hx7)
  clear_value x8
  have hx9 : Kept s0 x9 := (setFlag_kept (setFld_kept hx8))
  clear_value x9
  exact setFlag_kept hx9

theorem cursorCmd_kept {s0 s : State} {a1 a2 a3 a4} (h : Kept s0 s) :
    Kept s0 (State.cursorCmd s a1 a2 a3 a4) := by
  unfold State.cursorCmd
  exact kept_ite (h.upd rfl rfl rfl rfl rfl) (kept_ite h (cursorMove_kept h))

theorem cursorOldest_kept {s0 s : State} {a1 a2 a3} (h : Kept s0 s) :
    Kept s0 (State.cursorOldest s a1 a2 a3) := by
  unfold State.cursorOldest
  exact cursorCmd_kept h

theorem cursorSeq_kept {s0 s : State} {a1 a2 a3} (h : Kept s0 s) :
    Kept s0 (State.cursorSeq s a1 a2 a3) := by
  unfold State.cursorSeq
  extract_lets x1 x2
  exact cursorCmd_kept h

theorem cursorTime_kept {s0 s : State} {a1 a2 a3} (h : Kept s0 s) :
    Kept s0 (State.cursorTime s a1 a2 a3) := by
  unfold State.cursorTime
  extract_lets x1
  clear_value x1
  exact cursorCmd_kept h

theorem cursorNewest_kept {s0 s : State} {a1 a2 a3} (h : Kept s0 s) :
    Kept s0 (State.cursorNewest s a1 a2 a3) := by
  unfold State.cursorNewest
  exact cursorCmd_kept h

theorem cursorAdvance_kept {s0 s : State} {a1 a2} (h : Kept s0 s) :
    Kept s0 (State.cursorAdvance s a1 a2) := by
  unfold State.cursorAdvance
  exact cursorCmd_kept h

theorem cursorFill_kept {s0 s : State} {a1 a2} (h : Kept s0 s) :
    Kept s0 (State.cursorFill s a1 a2) := by
  unfold State.cursorFill
  extract_lets x1 x2 x3 x4 x5 x6 x7 x8 x9 x10 x11
  clear_value x1
  clear_value x2
  clear_value x3
  have hx4 : Kept s0 x4 := (setCursor_kept h)
  clear_value x4
  have hx5 : Kept s0 x5 := (putWords_kept hx4)
  clear_value x5
  have hx6 : Kept s0 x6 := (setRegN_kept hx5)
  clear_value x6
  have hx7 : Kept s0 x7 := by
    unfold x7
    split
    · exact setRegN_kept hx6
    · exact hx6
  clear_value x7
  clear_value x8
  clear_value x9
  have hx10 : Kept s0 x10 := (hx7.upd rfl rfl rfl rfl rfl)
  clear_value x10
  have hx11 : Kept s0 x11 := (setFlag_kept (setFlag_kept (setFlag_kept hx10)))
  clear_value x11
  exact kept_ite h (foldl_kept hx11 (fun _ _ k0 => (evrNotice_kept (setFlag_kept k0))))

theorem clearPart_kept {s0 s : State} {a1} (h : Kept s0 s) :
    Kept s0 (State.clearPart s a1) := by
  unfold State.clearPart
  extract_lets x1 x2 x3 x4 x5 x6 x7 x8 x9 x10 x11
  clear_value x1
  clear_value x2
  clear_value x3
  have hx4 : Kept s0 x4 := (setPart_kept h)
  clear_value x4
  have hx5 : Kept s0 x5 := (setTail_kept hx4)
  clear_value x5
  clear_value x6
  have hx7 : Kept s0 x7 := (hx5.upd rfl rfl rfl rfl rfl)
  clear_value x7
  have hx8 : Kept s0 x8 := (setFlag_kept hx7)
  clear_value x8
  clear_value x9
  clear_value x10
  clear_value x11
  exact kept_ite h (kept_ite (acceptRecord_kept hx8) (countRecord_kept (flashPut_kept hx8)))

theorem partitionClear_kept {s0 s : State} {a1 a2 a3} (h : Kept s0 s) :
    Kept s0 (State.partitionClear s a1 a2 a3) := by
  unfold State.partitionClear
  exact kept_ite (h.upd rfl rfl rfl rfl rfl) (foldl_kept h fun _ _ k0 => (kept_ite (clearPart_kept k0) k0))

theorem clearDone_kept {s0 s : State} {a1} (h : Kept s0 s) :
    Kept s0 (State.clearDone s a1) := by
  unfold State.clearDone
  exact setFlag_kept h

theorem putLayout_kept {s0 s : State} {a1} (h : Kept s0 s) :
    Kept s0 (State.putLayout s a1) := by
  unfold State.putLayout
  extract_lets x1 x2
  clear_value x1
  have hx2 : Kept s0 x2 := (h.upd rfl rfl rfl rfl rfl)
  clear_value x2
  refine foldl_kept ?_ ?_
  · exact hx2
  · intro w2_0 w2_1 hw2
    extract_lets x3
    clear_value x3
    exact setRegN_kept hw2

theorem seqRestore_kept {s0 s : State} (h : Kept s0 s) :
    Kept s0 (State.seqRestore s) := by
  unfold State.seqRestore
  extract_lets x1
  clear_value x1
  split
  · exact h
  · exact setRegN_kept (h.upd rfl rfl rfl rfl rfl)

theorem cursorPut_kept {s0 s : State} {a1 a2 a3} (h : Kept s0 s) :
    Kept s0 (State.cursorPut s a1 a2 a3) := by
  unfold State.cursorPut
  extract_lets x1
  have hx1 : Kept s0 x1 := (clearRegs_kept (setCursor_kept h))
  clear_value x1
  exact setFlag_kept (setFlag_kept (setFld_kept hx1))

theorem cursorStart_kept {s0 s : State} {a1} (h : Kept s0 s) :
    Kept s0 (State.cursorStart s a1) := by
  unfold State.cursorStart
  extract_lets x1
  clear_value x1
  exact cursorPut_kept h

theorem evrStart_kept {s0 s : State} {a1} (h : Kept s0 s) :
    Kept s0 (State.evrStart s a1) := by
  unfold State.evrStart
  extract_lets x1 x2 x3 x4 x5 x6 x7 x8 x9
  have hx1 : Kept s0 x1 := (seqRestore_kept h)
  clear_value x1
  clear_value x2
  have hx3 : Kept s0 x3 := (foldl_kept (setTail_kept (tailMove_kept hx1)) (fun _ _ k0 => (flashPut_kept k0)))
  clear_value x3
  clear_value x4
  have hx5 : Kept s0 x5 := (hx3.upd rfl rfl rfl rfl rfl)
  clear_value x5
  have hx6 : Kept s0 x6 := (setFlag_kept hx5)
  clear_value x6
  have hx7 : Kept s0 x7 := (kept_ite (setFlag_kept hx6) hx6)
  clear_value x7
  have hx8 : Kept s0 x8 := (evrNotice_kept (endLossRun_kept hx7))
  clear_value x8
  have hx9 : Kept s0 x9 := (foldl_kept hx8 (fun _ _ k0 => (setPart_kept k0)))
  clear_value x9
  exact foldl_kept hx9 (fun _ _ k0 => (cursorStart_kept k0))

theorem evrPattern_kept {s0 s : State} (h : Kept s0 s) :
    Kept s0 (State.evrPattern s) := by
  unfold State.evrPattern
  extract_lets x1 x2 x3
  clear_value x1
  have hx2 : Kept s0 x2 := (h.upd rfl rfl rfl rfl rfl)
  clear_value x2
  split
  · exact putLayout_kept (hx2.upd rfl rfl rfl rfl rfl)
  · extract_lets x4 x5 x6 x7 x8 x9 x10 x11 x12
    have hx5 : Kept s0 x5 := (hx2.upd rfl rfl rfl rfl rfl)
    clear_value x6
    have hx7 : Kept s0 x7 := (foldl_kept hx5 (fun _ _ k0 => (setPart_kept k0)))
    clear_value x7
    clear_value x8
    have hx9 : Kept s0 x9 := (putLayout_kept (setTail_kept (hx7.upd rfl rfl rfl rfl rfl)))
    clear_value x9
    have hx10 : Kept s0 x10 := (tailCopy_kept (evrNotice_kept hx9))
    clear_value x10
    clear_value x11
    clear_value x12
    exact kept_ite (putLayout_kept hx5) (hx10.upd rfl rfl rfl rfl rfl)

theorem evrStop_kept {s0 s : State} (h : Kept s0 s) :
    Kept s0 (State.evrStop s) := by
  unfold State.evrStop
  extract_lets x1 x2
  have hx1 : Kept s0 x1 := (setTail_kept (tailMove_kept (postsLost_kept h)))
  clear_value x1
  clear_value x2
  exact setFlag_kept (hx1.upd rfl rfl rfl rfl rfl)

theorem evrIsolate_kept {s0 s : State} (h : Kept s0 s) :
    Kept s0 (State.evrIsolate s) := by
  unfold State.evrIsolate
  extract_lets x1
  clear_value x1
  exact setFlag_kept (postsLost_kept (h.upd rfl rfl rfl rfl rfl))

theorem evrReinit_kept {s0 s : State} (h : Kept s0 s) :
    Kept s0 (State.evrReinit s) := by
  unfold State.evrReinit
  extract_lets x1 x2
  have hx1 : Kept s0 x1 := (evrStart_kept h)
  clear_value x1
  clear_value x2
  exact hx1.upd rfl rfl rfl rfl rfl

theorem swapRate_kept {s0 s : State} {a1} (h : Kept s0 s) :
    Kept s0 (State.swapRate s a1) := by
  unfold State.swapRate
  split
  · exact h
  · extract_lets x1 x2 x3 x4 x5 x6
    have hx1 : Kept s0 x1 := (busWrite_kept h)
    clear_value x1
    have hx2 : Kept s0 x2 := (foldl_kept hx1 (fun _ _ k0 => (setBucket_kept k0)))
    clear_value x2
    clear_value x3
    have hx4 : Kept s0 x4 := (hx2.upd rfl rfl rfl rfl rfl)
    clear_value x4
    clear_value x5
    have hx6 : Kept s0 x6 := (kept_ite (setFlag_kept hx4) hx4)
    clear_value x6
    refine foldl_kept ?_ ?_
    · exact hx6
    · intro w0_0 w0_1 hw0
      extract_lets x7
      clear_value x7
      exact setBucket_kept hw0

end Sys2Proof.Laws
end

