-- ==== Sys2Proof/Laws/KeptProgram.lean ====
section
/-! SUPPORT. What every operation of the program, the pours and the save keeps (`Kept`). -/

namespace Sys2Proof.Laws

open Sys2Proof.Machine

/-! ### Stop -/

theorem updRelay_kept {s0 s : State} (h : Kept s0 s) :
    Kept s0 (State.updRelay s) := by
  unfold State.updRelay
  exact kept_ite (copeEvent_kept (setFlag_kept h)) h

theorem tickRelay_kept {s0 s : State} (h : Kept s0 s) :
    Kept s0 (State.tickRelay s) := by
  unfold State.tickRelay
  exact kept_ite (copeEvent_kept (setFlag_kept h)) (updRelay_kept h)

theorem modeChange_kept {s0 s : State} {a1 a2} (h : Kept s0 s) :
    Kept s0 (State.modeChange s a1 a2) := by
  unfold State.modeChange
  extract_lets x1 x2 x3
  clear_value x1
  clear_value x2
  have hx3 : Kept s0 x3 := (runtimeEvent_kept (setMode_kept h))
  clear_value x3
  exact kept_ite h (updRelay_kept (kept_ite (sendCtrl_kept hx3) hx3))

theorem enterSafe_kept {s0 s : State} {a1} (h : Kept s0 s) :
    Kept s0 (State.enterSafe s a1) := by
  unfold State.enterSafe
  exact kept_ite (modeChange_kept (setFld_kept h)) h

theorem safDemand_kept {s0 s : State} (h : Kept s0 s) :
    Kept s0 (State.safDemand s) := by
  unfold State.safDemand
  exact kept_ite (enterSafe_kept h) h

theorem enterRun_kept {s0 s : State} {a1} (h : Kept s0 s) :
    Kept s0 (State.enterRun s a1) := by
  unfold State.enterRun
  extract_lets x1
  have hx1 : Kept s0 x1 := (endAllTrim_kept (plnEnterRun_kept (cruStart_kept (pourStart_kept h))))
  clear_value x1
  exact safDemand_kept (modeChange_kept hx1)

theorem enterHalt_kept {s0 s : State} {a1} (h : Kept s0 s) :
    Kept s0 (State.enterHalt s a1) := by
  unfold State.enterHalt
  extract_lets x1 x2
  have hx1 : Kept s0 x1 := (ladleEnd_kept (cruStop_kept (pourHalt_kept h)))
  clear_value x1
  have hx2 : Kept s0 x2 := (modeChange_kept (setFld_kept hx1))
  clear_value x2
  exact kept_ite (allOutSub_kept hx2) h

theorem beginStop_kept {s0 s : State} (h : Kept s0 s) :
    Kept s0 (State.beginStop s) := by
  unfold State.beginStop
  exact kept_ite (ladleEnd_kept (cruStop_kept (dropTriggers_kept (setFld_kept h)))) h

theorem enterStop_kept {s0 s : State} (h : Kept s0 s) :
    Kept s0 (State.enterStop s) := by
  unfold State.enterStop
  exact allOutSub_kept (modeChange_kept (cruStop_kept (pourOff_kept h)))

theorem resume_kept {s0 s : State} (h : Kept s0 s) :
    Kept s0 (State.resume s) := by
  unfold State.resume
  exact kept_ite h (kept_ite (setFlag_kept h) (modeChange_kept h))

theorem toStop_kept {s0 s : State} (h : Kept s0 s) :
    Kept s0 (State.toStop s) := by
  unfold State.toStop
  exact kept_ite (beginStop_kept h) (kept_ite (enterStop_kept h) h)

theorem asPrimary_kept {s0 s : State} {a1} (h : Kept s0 s)
    (ha1 : ∀ y0, Kept s0 y0 → Kept s0 (a1 y0)) :
    Kept s0 (State.asPrimary s a1) := by
  unfold State.asPrimary
  exact kept_ite (setFlag_kept h) (ha1 _ h)

theorem owdSignal_kept {s0 s : State} {a1} (h : Kept s0 s) :
    Kept s0 (State.owdSignal s a1) := by
  unfold State.owdSignal
  exact kept_ite (asPrimary_kept h (fun _ k0 => (enterSafe_kept k0))) h

theorem stopDrag_kept {s0 s : State} (h : Kept s0 s) :
    Kept s0 (State.stopDrag s) := by
  unfold State.stopDrag
  extract_lets x1 x2
  have hx1 : Kept s0 x1 := (ladleDrop_kept (cruStop_kept (pourHalt_kept h)))
  clear_value x1
  have hx2 : Kept s0 x2 := (pmcStop_kept (plnStop_kept (canAllOff_kept hx1)))
  clear_value x2
  exact stopConversion_kept hx2

theorem dropWork_kept {s0 s : State} (h : Kept s0 s) :
    Kept s0 (State.dropWork s) := by
  unfold State.dropWork
  extract_lets x1 x2 x3 x4 x5
  have hx1 : Kept s0 x1 := (setFlag_kept (setFlag_kept h))
  clear_value x1
  have hx2 : Kept s0 x2 := (setFlag_kept (setFlag_kept hx1))
  clear_value x2
  have hx3 : Kept s0 x3 := (setFlag_kept (setFld_kept hx2))
  clear_value x3
  clear_value x4
  clear_value x5
  exact hx3.upd rfl rfl rfl rfl rfl

theorem moduleFault_kept {s0 s : State} {a1 a2} (h : Kept s0 s) :
    Kept s0 (State.moduleFault s a1 a2) := by
  unfold State.moduleFault
  extract_lets x1 x2 x3 x4 x5 x6 x7 x8 x9 x10 x11 x12 x13
  clear_value x1
  have hx2 : Kept s0 x2 := (mgdFault_kept (stopDrag_kept h))
  clear_value x2
  have hx3 : Kept s0 x3 := (dropWork_kept (setFld_kept hx2))
  clear_value x3
  have hx4 : Kept s0 x4 := (allOutSub_kept (setMode_kept hx3))
  clear_value x4
  have hx5 : Kept s0 x5 := (runDying_kept (safStop_kept hx4))
  clear_value x5
  have hx6 : Kept s0 x6 := (kept_ite (linkDown_kept hx5) hx5)
  clear_value x6
  have hx7 : Kept s0 x7 := (kept_ite (safFail_kept hx6) hx6)
  clear_value x7
  have hx8 : Kept s0 x8 := (setRegN_kept hx7)
  clear_value x8
  clear_value x9
  have hx10 : Kept s0 x10 := (kept_ite (setFld_kept (setFlag_kept hx8)) hx8)
  clear_value x10
  have hx11 : Kept s0 x11 := (event_kept hx10)
  clear_value x11
  have hx12 : Kept s0 x12 := by
    unfold x12
    split
    · exact event_kept hx11
    · exact hx11
  clear_value x12
  have hx13 : Kept s0 x13 := (kept_ite hx12 (runtimeEvent_kept hx12))
  clear_value x13
  exact updRelay_kept hx13

/-! ### Program -/

theorem updForced_kept {s0 s : State} (h : Kept s0 s) :
    Kept s0 (State.updForced s) := by
  unfold State.updForced
  extract_lets x1
  clear_value x1
  exact setFld_kept (setFlag_kept h)

theorem sendForce_kept {s0 s : State} {a1} (h : Kept s0 s) :
    Kept s0 (State.sendForce s a1) := by
  unfold State.sendForce
  exact sendCtrl_kept h

theorem forceChanged_kept {s0 s : State} {a1} (h : Kept s0 s) :
    Kept s0 (State.forceChanged s a1) := by
  unfold State.forceChanged
  extract_lets x1
  clear_value x1
  exact kept_ite h (kept_ite (h.upd rfl rfl rfl rfl rfl) (sendForce_kept h))

theorem forceCtl_kept {s0 s : State} {a1 a2} (h : Kept s0 s) :
    Kept s0 (State.forceCtl s a1 a2) := by
  unfold State.forceCtl
  extract_lets x1 x2 x3 x4 x5 x6
  clear_value x1
  have hx2 : Kept s0 x2 := (setRegN_kept h)
  clear_value x2
  clear_value x3
  have hx4 : Kept s0 x4 := (hx2.upd rfl rfl rfl rfl rfl)
  clear_value x4
  have hx5 : Kept s0 x5 := (updForced_kept hx4)
  clear_value x5
  have hx6 : Kept s0 x6 := (kept_ite (event_kept hx5) (kept_ite (event_kept hx5) hx5))
  clear_value x6
  exact forceChanged_kept hx6

theorem forceCtlWrite_kept {s0 s : State} {a1 a2 a3} (h : Kept s0 s) :
    Kept s0 (State.forceCtlWrite s a1 a2 a3) := by
  unfold State.forceCtlWrite
  exact kept_ite (h.upd rfl rfl rfl rfl rfl) (asPrimary_kept h (fun _ k0 => (kept_ite (forceCtl_kept k0) k0)))

theorem releaseForce_kept {s0 s : State} {a1 a2} (h : Kept s0 s) :
    Kept s0 (State.releaseForce s a1 a2) := by
  unfold State.releaseForce
  exact kept_ite h (forceCtl_kept h)

theorem bindForce_kept {s0 s : State} {a1 a2 a3} (h : Kept s0 s) :
    Kept s0 (State.bindForce s a1 a2 a3) := by
  unfold State.bindForce
  extract_lets x1 x2
  clear_value x1
  have hx2 : ∀ y0 y1 y2 y3 y4 y5 y6, Kept s0 (x2 y0 y1 y2 y3 y4 y5 y6) := by
    intro y0 y1 y2 y3 y4 y5 y6
    simp only [x2]
    exact setRegN_kept (setRegN_kept (setRegN_kept (setRegN_kept h)))
  clear_value x2
  split
  · exact hx2 _ _ _ _ _ _ _
  · exact hx2 _ _ _ _ _ _ _
  · exact hx2 _ _ _ _ _ _ _

theorem forceSet_kept {s0 s : State} {a1 a2} (h : Kept s0 s) :
    Kept s0 (State.forceSet s a1 a2).2 := by
  unfold State.forceSet
  extract_lets x1
  clear_value x1
  split
  · dsimp only
    exact h
  · split
    · dsimp only
      exact h
    · split
      · dsimp only
        exact h
      · extract_lets x1 x2 x3
        clear_value x1
        have hx2 : Kept s0 x2 := (setRegN_kept (setRegN_kept (bindForce_kept h)))
        clear_value x2
        clear_value x3
        dsimp only
        exact forceCtl_kept (setReg_kept hx2)

theorem forceRelease_kept {s0 s : State} {a1} (h : Kept s0 s) :
    Kept s0 (State.forceRelease s a1).2 := by
  unfold State.forceRelease
  split
  · dsimp only
    exact h
  · split
    · dsimp only
      exact h
    · dsimp only
      exact releaseForce_kept h

theorem resolveForces_kept {s0 s : State} {a1 a2 a3} (h : Kept s0 s) :
    Kept s0 (State.resolveForces s a1 a2 a3) := by
  unfold State.resolveForces
  extract_lets x1
  have hx1 : Kept s0 x1 := by
    unfold x1
    refine foldl_kept ?_ ?_
    · exact h
    · intro w4_0 w4_1 hw4
      extract_lets x2
      clear_value x2
      split
      · exact releaseForce_kept hw4
      · split
        · exact releaseForce_kept hw4
        · exact kept_ite (releaseForce_kept hw4) (kept_ite (releaseForce_kept hw4) (bindForce_kept hw4))
  clear_value x1
  exact updForced_kept hx1

theorem clearForces_kept {s0 s : State} (h : Kept s0 s) :
    Kept s0 (State.clearForces s) := by
  unfold State.clearForces
  extract_lets x1 x2
  have hx1 : Kept s0 x1 := (foldl_kept h fun _ _ k0 => (releaseForce_kept k0))
  clear_value x1
  clear_value x2
  exact clearRegs_kept (hx1.upd rfl rfl rfl rfl rfl)

theorem applyForce_kept {s0 s : State} {a1} (h : Kept s0 s) :
    Kept s0 (State.applyForce s a1) := by
  unfold State.applyForce
  extract_lets x1 x2
  clear_value x1
  have hx2 : Kept s0 x2 := (setReg_kept (setReg_kept (setReg_kept h)))
  clear_value x2
  exact forceCtl_kept (setReg_kept (setReg_kept hx2))

theorem stackBegins_kept {s0 s : State} (h : Kept s0 s) :
    Kept s0 (State.stackBegins s) := by
  unfold State.stackBegins
  extract_lets x1 x2 x3 x4 x5 x6
  clear_value x1
  clear_value x2
  clear_value x3
  clear_value x4
  have hx5 : Kept s0 x5 := (h.upd rfl rfl rfl rfl rfl)
  clear_value x5
  have hx6 : Kept s0 x6 := (foldl_kept hx5 (fun _ _ k0 => (kept_ite (sendForce_kept k0) k0)))
  clear_value x6
  exact foldl_kept hx6 (fun _ _ k0 => (kept_ite (applyForce_kept k0) k0))

theorem atSnapStack_kept {s0 s : State} {a1} (h : Kept s0 s) :
    Kept s0 (State.atSnapStack s a1) := by
  unfold State.atSnapStack
  extract_lets x1 x2 x3 x4
  clear_value x1
  clear_value x2
  have hx3 : Kept s0 x3 := (stackBegins_kept h)
  clear_value x3
  clear_value x4
  exact kept_ite (h.upd rfl rfl rfl rfl rfl) (hx3.upd rfl rfl rfl rfl rfl)

theorem atCommitStack_kept {s0 s : State} {a1} (h : Kept s0 s) :
    Kept s0 (State.atCommitStack s a1) := by
  unfold State.atCommitStack
  extract_lets x1 x2 x3 x4
  clear_value x1
  clear_value x2
  have hx3 : Kept s0 x3 := (stackBegins_kept h)
  clear_value x3
  clear_value x4
  exact kept_ite (h.upd rfl rfl rfl rfl rfl) (hx3.upd rfl rfl rfl rfl rfl)

theorem forceArrives_kept {s0 s : State} {a1} (h : Kept s0 s) :
    Kept s0 (State.forceArrives s a1) := by
  unfold State.forceArrives
  extract_lets x1 x2 x3 x4
  have hx1 : Kept s0 x1 := (applyForce_kept h)
  clear_value x1
  clear_value x2
  clear_value x3
  clear_value x4
  exact kept_ite (hx1.upd rfl rfl rfl rfl rfl) (h.upd rfl rfl rfl rfl rfl)

theorem forcesCopied_kept {s0 s : State} (h : Kept s0 s) :
    Kept s0 (State.forcesCopied s) := by
  unfold State.forcesCopied
  extract_lets x1
  have hx1 : Kept s0 x1 := (foldl_kept h (fun _ _ k0 => (k0.upd rfl rfl rfl rfl rfl)))
  clear_value x1
  exact updForced_kept hx1

theorem forceVars_kept {s0 s : State} {a1 a2} (h : Kept s0 s) :
    Kept s0 (State.forceVars s a1 a2) := by
  unfold State.forceVars
  split
  rename_i e
  have hz := kept_snd e (foldl_kept_snd (p := (false, s)) h fun p x k0 => kept_ite_snd k0 (corePut_kept k0))
  exact kept_ite (moduleFault_kept hz) hz

theorem setImage_kept {s0 s : State} {a1} (h : Kept s0 s) :
    Kept s0 (State.setImage s a1) := by
  unfold State.setImage
  extract_lets x1 x2
  clear_value x1
  have hx2 : Kept s0 x2 := (setRegN_kept (h.upd rfl rfl rfl rfl rfl))
  clear_value x2
  exact putWords_kept hx2

theorem loadSegs_kept {s0 s : State} {a1} (h : Kept s0 s) :
    Kept s0 (State.loadSegs s a1) := by
  unfold State.loadSegs
  exact foldl_kept h (fun _ _ k0 => (kept_ite k0 (cacheDrop_kept (blockWrite_kept k0))))

theorem retRead_kept {s0 s : State} (h : Kept s0 s) :
    Kept s0 (State.retRead s).2 := by
  unfold State.retRead
  extract_lets x1
  clear_value x1
  split
  · rename_i z1 z2 z3
    have hz2 : Kept s0 z2 := kept_snd z3 (busRead_kept h)
    exact hz2
  · rename_i z4 z5 z6 z7
    have hz6 : Kept s0 z6 := kept_snd z7 (busRead_kept h)
    split
    · exact hz6
    · split
      · rename_i z8 z9 z10 z11
        have hz10 : Kept s0 z10 := kept_snd z11 (busRead_kept hz6)
        exact hz10

theorem putBy_kept {s0 : State} {i : Issuer} {p : Bool × State} {a bs} (h : Kept s0 p.2) : Kept s0 (putBy i p a bs).2 := by
  unfold putBy
  exact kept_ite_snd h (busWrite_kept h)

theorem retainBind_kept {s0 s : State} {a1} (h : Kept s0 s) :
    Kept s0 (State.retainBind s a1) := by
  unfold State.retainBind
  split
  rename_i e
  have hz := kept_snd e (retRead_kept h)
  extract_lets x1 x2 x3 x4 x5 x6 x7 x8 x9 x10 x11 x12
  have hx6 : Kept s0 x6.2 := foldl_kept_snd (p := (false, _)) hz fun _ _ k0 => putBy_kept k0
  clear_value x6
  have hx8 : Kept s0 x8.2 := putBy_kept hx6
  clear_value x8
  have hx10 : Kept s0 x10.2 := putBy_kept hx8
  clear_value x10
  have hx11 : Kept s0 x11 := cacheDrop_kept hx10
  clear_value x11
  have hx12 : Kept s0 x12 := setFlag_kept hx11
  clear_value x12
  exact kept_ite (moduleFault_kept hz) (kept_ite hz (kept_ite (moduleFault_kept hx11)
    (kept_ite hx12 (runtimeEvent_kept hx12))))

theorem programTrap_kept {s0 s : State} {a1 a2 a3 a4 a5} (h : Kept s0 s) :
    Kept s0 (State.programTrap s a1 a2 a3 a4 a5) := by
  unfold State.programTrap
  extract_lets x1 x2
  have hx1 : Kept s0 x1 := (setRegN_kept h)
  clear_value x1
  have hx2 : Kept s0 x2 := (setRegN_kept (setRegN_kept (setRegN_kept hx1)))
  clear_value x2
  exact enterHalt_kept (runtimeEvent_kept hx2)

/-! ### Pours -/

theorem skipPour_kept {s0 s : State} {a1} (h : Kept s0 s) :
    Kept s0 (State.skipPour s a1) := by
  unfold State.skipPour
  extract_lets x1 x2
  clear_value x1
  have hx2 : Kept s0 x2 := (setTask_kept h)
  clear_value x2
  exact pmc1_kept (event_kept (bump_kept hx2))

theorem releasePour_kept {s0 s : State} {a1} (h : Kept s0 s) :
    Kept s0 (State.releasePour s a1) := by
  unfold State.releasePour
  extract_lets x1 x2 x3
  have hx1 : Kept s0 x1 := (cacheInval_kept h)
  clear_value x1
  clear_value x2
  have hx3 : Kept s0 x3 := (setFld_kept (setTask_kept hx1))
  clear_value x3
  exact forceVars_kept hx3

theorem seqPut_kept {s0 : State} {p : Bool × State} {a1 a2} (h : Kept s0 p.2) : Kept s0 (seqPut p a1 a2).2 := by
  unfold seqPut
  exact putBy_kept h

theorem seqBit_kept {s0 : State} {p : Bool × State} {a1 a2 a3} (h : Kept s0 p.2) : Kept s0 (seqBit p a1 a2 a3).2 :=
  seqPut_kept h

theorem putInput_kept {s0 : State} {p : Bool × State} {a1 a2 a3} (h : Kept s0 p.2) :
    Kept s0 (putInput p a1 a2 a3).2 := seqBit_kept (seqPut_kept h)

theorem forceInputs_kept {s0 : State} {p : Bool × State} {a1 a2} (h : Kept s0 p.2) :
    Kept s0 (forceInputs p a1 a2).2 := by
  refine foldl_kept_snd h fun p e hp => ?_
  extract_lets x1
  have hx1 : Kept s0 x1.2 := seqPut_kept hp
  split
  · exact hx1
  · exact seqBit_kept hx1

theorem snapshot_kept {s0 s : State} {a1} (h : Kept s0 s) :
    Kept s0 (State.snapshot s a1) := by
  unfold State.snapshot
  split
  · exact h
  · rename_i r _
    extract_lets x1 x2 x3 x4 x5 x6 x7 x8 x9 x10 x11
    have hx4 : Kept s0 x4 := (bump_kept (atSnapStack_kept h))
    clear_value x4
    have hx5 : Kept s0 x5 := pmc1_kept hx4
    clear_value x5
    have hx7 : Kept s0 x7 := setFld_kept (setTask_kept hx5)
    clear_value x6 x7
    have hx8 : Kept s0 x8 := setFlag_kept hx7
    clear_value x8
    have hx11 : Kept s0 x11.2 := seqPut_kept hx8
    have hx12 := foldl_kept_snd (l := x10) (p := x11) hx11 fun p v k0 => putInput_kept (a1 := r.inBase) (a2 := v.1) (a3 := v.2) k0
    refine kept_ite h (kept_ite (setTask_kept h) (kept_ite (skipPour_kept hx4) (kept_ite (kept_ite (releasePour_kept hx8) hx8) ?_)))
    split
    rename_i e
    have hz := kept_snd e (forceInputs_kept hx12)
    exact kept_ite (moduleFault_kept hz) (kept_ite (sendLink_kept (blockRead_kept hz)) hz)

theorem pourRelease_kept {s0 s : State} {a1} (h : Kept s0 s) :
    Kept s0 (State.pourRelease s a1) := by
  unfold State.pourRelease
  split
  · exact h
  · exact kept_ite (releasePour_kept h) h

theorem snapFrame_kept {s0 s : State} {a1 a2 a3} (h : Kept s0 s) :
    Kept s0 (State.snapFrame s a1 a2 a3) := by
  unfold State.snapFrame
  extract_lets x1 x2 x3 x4
  clear_value x1
  have hx2 : Kept s0 x2 := (h.upd rfl rfl rfl rfl rfl)
  clear_value x2
  clear_value x3
  clear_value x4
  split
  · exact h
  · extract_lets x5 x6 x7 x8 x9 x10
    have hx5 : Kept s0 x5 := (blockWrite_kept hx2)
    clear_value x5
    clear_value x6
    have hx7 : Kept s0 x7 := (kept_ite (setRegN_kept hx5) hx5)
    clear_value x7
    clear_value x8
    clear_value x9
    have hx10 : Kept s0 x10 := (kept_ite (setFld_kept (setTask_kept (setRegN_kept hx7))) hx7)
    clear_value x10
    exact kept_ite h (kept_ite (releasePour_kept hx10) hx10)

theorem replayRelease_kept {s0 s : State} {a1} (h : Kept s0 s) :
    Kept s0 (State.replayRelease s a1) := by
  unfold State.replayRelease
  extract_lets x1 x2
  clear_value x1
  clear_value x2
  split
  · exact h
  · exact kept_ite h (kept_ite (kept_ite (h.upd rfl rfl rfl rfl rfl) (replayLost_kept h)) (kept_ite h (kept_ite (releasePour_kept h) (replayLost_kept (setFld_kept (setTask_kept h))))))

theorem budgetExhausted_kept {s0 s : State} {a1} (h : Kept s0 s) :
    Kept s0 (State.budgetExhausted s a1) := by
  unfold State.budgetExhausted
  split
  · exact h
  · exact kept_ite (setFlag_kept h) h

theorem response_kept {s0 s : State} {a1} (h : Kept s0 s) :
    Kept s0 (State.response s a1) := by
  unfold State.response
  extract_lets x1
  clear_value x1
  exact kept_ite (setRegN_kept h) h

theorem pourDone_kept {s0 s : State} {a1 a2} (h : Kept s0 s) :
    Kept s0 (State.pourDone s a1 a2) := by
  unfold State.pourDone
  extract_lets x1 x2
  have hx1 : Kept s0 x1 := (setFld_kept (response_kept h))
  clear_value x1
  clear_value x2
  exact kept_ite (h.upd rfl rfl rfl rfl rfl) (kept_ite (kept_ite (event_kept (setFlag_kept (bump_kept hx1))) hx1) (kept_ite (setFlag_kept (setFld_kept (setTask_kept (response_kept h)))) (setFlag_kept h)))

theorem startFallback_kept {s0 s : State} {a1 a2} (h : Kept s0 s) :
    Kept s0 (State.startFallback s a1 a2) := by
  unfold State.startFallback
  extract_lets x1
  have hx1 : Kept s0 x1 := (event_kept (setFld_kept (setFlag_kept h)))
  clear_value x1
  exact kept_ite (foldl_kept hx1 fun _ _ k0 => (outSub_kept (setCell_kept k0))) (kept_ite (enterHalt_kept hx1) hx1)

theorem endFallback_kept {s0 s : State} {a1 a2} (h : Kept s0 s) :
    Kept s0 (State.endFallback s a1 a2) := by
  unfold State.endFallback
  extract_lets x1
  have hx1 : Kept s0 x1 := (event_kept (setFld_kept (setFlag_kept h)))
  clear_value x1
  exact foldl_kept hx1 fun _ _ k0 => (setCell_kept k0)

theorem safeOuts_kept {s0 s : State} {a1} (h : Kept s0 s) :
    Kept s0 (State.safeOuts s a1) := by
  unfold State.safeOuts
  exact kept_ite (foldl_kept h (fun _ _ k0 => (outSub_kept k0))) h

theorem noCommit_kept {s0 s : State} {a1 a2 a3} (h : Kept s0 s) :
    Kept s0 (State.noCommit s a1 a2 a3) := by
  unfold State.noCommit
  extract_lets x1 x2 x3 x4
  have hx1 : Kept s0 x1 := (setFld_kept (bumpSat_kept h))
  clear_value x1
  clear_value x2
  have hx3 : Kept s0 x3 := (safeOuts_kept (setTask_kept hx1))
  clear_value x3
  have hx4 : Kept s0 x4 := (kept_ite (pmc1_kept (event_kept hx3)) hx3)
  clear_value x4
  exact kept_ite (startFallback_kept hx4) hx4

theorem copyStat_kept {s0 s : State} {a1 a2} (h : Kept s0 s) :
    Kept s0 (State.copyStat s a1 a2) := by
  unfold State.copyStat
  extract_lets x1 x2
  have hx1 : ∀ y0 y1, Kept s0 y0 → Kept s0 (x1 y0 y1) := (fun _ _ k0 => (setFld_kept k0))
  clear_value x1
  have hx2 : Kept s0 x2 := (hx1 _ _ (hx1 _ _ (hx1 _ _ h)))
  clear_value x2
  split
  · exact hx2
  · refine foldl_kept ?_ ?_
    · exact hx2
    · intro w0_0 w0_1 hw0
      extract_lets x3 x4 x5 x6
      clear_value x3
      clear_value x4
      clear_value x5
      have hx6 : Kept s0 x6 := (setCell_kept hw0)
      clear_value x6
      exact kept_ite (outSub_kept hx6) (kept_ite (endSub_kept hx6) hx6)

theorem applyLine_kept {s0 s : State} {a1 a2} (h : Kept s0 s) :
    Kept s0 (State.applyLine s a1 a2) := by
  unfold State.applyLine
  extract_lets x1 x2
  clear_value x1
  clear_value x2
  exact kept_ite (foldl_kept h (fun _ _ k0 => (kept_ite (setRegN_kept k0) (kept_ite (copyStat_kept k0) k0)))) (kept_ite (blockWrite_kept h) h)

theorem applyLines_kept {s0 s : State} {a1} (h : Kept s0 s) :
    Kept s0 (State.applyLines s a1) := by
  unfold State.applyLines
  extract_lets x1 x2
  have hx1 : Kept s0 x1 := (foldl_kept h (fun _ _ k0 => (applyLine_kept k0)))
  clear_value x1
  have hx2 : Kept s0 x2 := (kept_ite (forcesCopied_kept hx1) hx1)
  clear_value x2
  exact setRegN_kept hx2

theorem applyCopies_kept {s0 s : State} {a1 a2} (h : Kept s0 s) :
    Kept s0 (State.applyCopies s a1 a2) := by
  unfold State.applyCopies
  extract_lets x1 x2 x3
  clear_value x1
  clear_value x2
  have hx3 : Kept s0 x3 := (h.upd rfl rfl rfl rfl rfl)
  clear_value x3
  exact foldl_kept hx3 (fun _ _ k0 => (applyLines_kept k0))

theorem copyFrame_kept {s0 s : State} {a1 a2 a3} (h : Kept s0 s) :
    Kept s0 (State.copyFrame s a1 a2 a3) := by
  unfold State.copyFrame
  extract_lets x1 x2
  clear_value x1
  clear_value x2
  exact kept_ite h (kept_ite (h.upd rfl rfl rfl rfl rfl) (applyLines_kept h))

theorem handOvec_kept {s0 s : State} {a1 a2} (h : Kept s0 s) :
    Kept s0 (State.handOvec s a1 a2) := by
  unfold State.handOvec
  extract_lets x1 x2
  clear_value x1
  have hx2 : Kept s0 x2 := (h.upd rfl rfl rfl rfl rfl)
  clear_value x2
  exact kept_ite (sendLink_kept hx2) (kept_ite (applyCopies_kept (compareOvec_kept hx2)) hx2)

theorem sendCopy_kept {s0 s : State} {a1 a2} (h : Kept s0 s) :
    Kept s0 (State.sendCopy s a1 a2) := by
  unfold State.sendCopy
  extract_lets x1 x2 x3 x4 x5 x6 x7 x8 x9
  clear_value x1
  clear_value x2
  clear_value x3
  clear_value x4
  clear_value x5
  clear_value x6
  clear_value x7
  clear_value x8
  have hx9 : Kept s0 x9 := (h.upd rfl rfl rfl rfl rfl)
  clear_value x9
  split
  · exact h
  · split
    · rename_i z1 z2 z3 z4
      have hz3 : Kept s0 z3 := kept_snd z4 (passData_kept hx9)
      extract_lets x10
      have hx10 : Kept s0 x10 := (sendCopyUnit_kept hz3)
      clear_value x10
      exact kept_ite hx10 (event_kept (bump_kept hx10))

theorem stageOut_kept {s0 s : State} {a1 a2} (h : Kept s0 s) :
    Kept s0 (State.stageOut s a1 a2) := by
  unfold State.stageOut
  exact kept_ite (cellCommand_kept h) (kept_ite (setLoopValue_kept h) (plnStage_kept h))

theorem discard_kept {s0 s : State} {a1 a2} (h : Kept s0 s) :
    Kept s0 (State.discard s a1 a2) := by
  unfold State.discard
  extract_lets x1 x2 x3
  have hx1 : Kept s0 x1 := (bump_kept (bump_kept h))
  clear_value x1
  clear_value x2
  have hx3 : Kept s0 x3 := (hx1.upd rfl rfl rfl rfl rfl)
  clear_value x3
  exact kept_ite hx1 (event_kept hx3)

theorem commitOuts_kept {s0 s : State} {a1 a2} (h : Kept s0 s) :
    Kept s0 (State.commitOuts s a1 a2) := by
  unfold State.commitOuts
  refine foldl_kept ?_ ?_
  · exact h
  · intro w2_0 w2_1 hw2
    split
    · exact discard_kept hw2
    · exact stageOut_kept hw2

theorem heldOuts_kept {s0 s : State} {a1} (h : Kept s0 s) :
    Kept s0 (State.heldOuts s a1) := by
  unfold State.heldOuts
  exact kept_ite (foldl_kept h (fun _ _ k0 => (endSub_kept k0))) h

theorem commitDone_kept {s0 s : State} {a1 a2} (h : Kept s0 s) :
    Kept s0 (State.commitDone s a1 a2) := by
  unfold State.commitDone
  extract_lets x1 x2 x3 x4 x5 x6 x7 x8 x9 x10 x11
  have hx1 : Kept s0 x1 := (pmc1_kept (setFld_kept h))
  clear_value x1
  have hx2 : Kept s0 x2 := (kept_ite (bumpSat_kept hx1) hx1)
  clear_value x2
  have hx3 : Kept s0 x3 := (kept_ite (endFallback_kept hx2) hx2)
  clear_value x3
  clear_value x4
  clear_value x5
  clear_value x6
  have hx7 : Kept s0 x7 := (safeOuts_kept (heldOuts_kept (commitOuts_kept hx3)))
  clear_value x7
  clear_value x8
  clear_value x9
  have hx10 : Kept s0 x10 := (setFld_kept (setTask_kept hx7))
  clear_value x10
  clear_value x11
  exact sendCopy_kept (handOvec_kept hx10)

theorem commitClean_kept {s0 s : State} {a1} (h : Kept s0 s) :
    Kept s0 (State.commitClean s a1) := by
  unfold State.commitClean
  extract_lets x1
  have hx1 : Kept s0 x1 := (cacheClean_kept h)
  clear_value x1
  exact foldl_kept hx1 (fun _ _ k0 => (cacheClean_kept k0))

theorem commitRead_kept {s0 s : State} {a1 a2} (h : Kept s0 s) :
    Kept s0 (State.commitRead s a1 a2) := by
  unfold State.commitRead
  split
  · rename_i z1 z2 z3 z4
    have hz3 : Kept s0 z3 := kept_snd z4 (busRead_kept (commitClean_kept h))
    exact kept_ite (moduleFault_kept hz3) (commitDone_kept hz3)

theorem commit_kept {s0 s : State} {a1} (h : Kept s0 s) :
    Kept s0 (State.commit s a1) := by
  unfold State.commit
  extract_lets x1 x2
  have hx1 : Kept s0 x1 := (setFlag_kept (setFld_kept (bump_kept (atCommitStack_kept h))))
  clear_value x1
  have hx2 : Kept s0 x2 := (atCommitStack_kept h)
  clear_value x2
  split
  · exact h
  · extract_lets x3 x4
    have hx3 : Kept s0 x3 := (noCommit_kept hx1)
    clear_value x3
    have hx4 : Kept s0 x4 := (noCommit_kept hx2)
    clear_value x4
    exact kept_ite h (kept_ite (commitRead_kept (atCommitStack_kept h)) (kept_ite (handOvec_kept hx3) (kept_ite (handOvec_kept hx4) h)))

theorem readTriggers_kept {s0 s : State} (h : Kept s0 s) :
    Kept s0 (State.readTriggers s).2 := by
  unfold State.readTriggers
  exact foldl_kept_snd (p := (false, s)) h fun _ _ k0 => busRead_kept k0

theorem acceptTrig_kept {s0 s : State} {a1 a2 a3 a4} (h : Kept s0 s) :
    Kept s0 (State.acceptTrig s a1 a2 a3 a4) := by
  unfold State.acceptTrig
  extract_lets x1 x2
  clear_value x1
  clear_value x2
  exact pmc1_kept (setFlag_kept (setTask_kept h))

theorem triggerTaken_kept {s0 s : State} {a1} (h : Kept s0 s) :
    Kept s0 (State.triggerTaken s a1) := by
  unfold State.triggerTaken
  extract_lets x1 x2 x3 x4
  clear_value x1
  clear_value x2
  clear_value x3
  clear_value x4
  split
  · exact h
  · split
    · exact event_kept (setFlag_kept h)
    · extract_lets x5
      clear_value x5
      exact kept_ite (event_kept (setFlag_kept h)) (kept_ite (event_kept (bump_kept h)) (kept_ite (acceptTrig_kept h) (setFlag_kept (setTask_kept h))))

theorem triggerEntry_kept {s0 s : State} (h : Kept s0 s) :
    Kept s0 (State.triggerEntry s) := by
  unfold State.triggerEntry
  split
  · exact h
  · dsimp only
    have hz : Kept s0 s.readTriggers.2 := readTriggers_kept h
    split
    · exact moduleFault_kept hz
    · exact triggerTaken_kept (bump_kept hz)

theorem heldAccept_kept {s0 s : State} {a1} (h : Kept s0 s) :
    Kept s0 (State.heldAccept s a1) := by
  unfold State.heldAccept
  extract_lets x1
  clear_value x1
  split
  · extract_lets x2
    clear_value x2
    exact kept_ite h (kept_ite (setFlag_kept (setTask_kept h)) (acceptTrig_kept h))
  · exact h

theorem swTrig_kept {s0 s : State} {a1 a2} (h : Kept s0 s) :
    Kept s0 (State.swTrig s a1 a2) := by
  unfold State.swTrig
  exact kept_ite (h.upd rfl rfl rfl rfl rfl) (foldl_kept h fun _ _ k0 => (kept_ite (trigger_kept k0) k0))

theorem times_kept {s0 s : State} {a1 a2} (h : Kept s0 s)
    (ha2 : ∀ y0, Kept s0 y0 → Kept s0 (a2 y0)) :
    Kept s0 (State.times s a1 a2) := by
  unfold State.times
  exact foldl_kept h fun _ _ k0 => (ha2 _ k0)

theorem gapPour_kept {s0 s : State} {a1} (h : Kept s0 s) :
    Kept s0 (State.gapPour s a1) := by
  unfold State.gapPour
  exact skipPour_kept (bump_kept h)

theorem gapLoops_kept {s0 s : State} {a1} (h : Kept s0 s) :
    Kept s0 (State.gapLoops s a1) := by
  unfold State.gapLoops
  exact foldl_kept h fun _ _ k0 => (kept_ite (loopOverrun_kept k0) k0)

theorem reanchor_kept {s0 s : State} (h : Kept s0 s) :
    Kept s0 (State.reanchor s) := by
  unfold State.reanchor
  extract_lets x1 x2 x3 x4 x5 x6 x7 x8 x9 x10 x11 x12
  clear_value x1
  clear_value x2
  clear_value x3
  have hx4 : Kept s0 x4 := (h.upd rfl rfl rfl rfl rfl)
  clear_value x4
  have hx5 : Kept s0 x5 := (bump_kept (setFlag_kept hx4))
  clear_value x5
  clear_value x6
  clear_value x7
  clear_value x8
  have hx9 : Kept s0 x9 := (hx5.upd rfl rfl rfl rfl rfl)
  clear_value x9
  clear_value x10
  have hx11 : Kept s0 x11 := (foldl_kept hx9 (fun _ _ k0 => (times_kept k0 (fun _ k1 => (gapPour_kept k1)))))
  clear_value x11
  have hx12 : Kept s0 x12 := (foldl_kept hx11 (fun _ _ k0 => (times_kept k0 (fun _ k1 => (gapLoops_kept k1)))))
  clear_value x12
  exact updAligned_kept (event_kept hx12)

theorem hyperperiod_kept {s0 s : State} (h : Kept s0 s) :
    Kept s0 (State.hyperperiod s) := by
  unfold State.hyperperiod
  extract_lets x1
  have hx1 : Kept s0 x1 := (kept_ite (sendCopyUnit_kept h) h)
  clear_value x1
  exact kept_ite h (kept_ite (reanchor_kept hx1) hx1)

theorem slewComplete_kept {s0 s : State} (h : Kept s0 s) :
    Kept s0 (State.slewComplete s) := by
  unfold State.slewComplete
  extract_lets x1 x2 x3
  clear_value x1
  clear_value x2
  clear_value x3
  exact kept_ite h (updAligned_kept (setFlag_kept (h.upd rfl rfl rfl rfl rfl)))

theorem swapDone_kept {s0 s : State} {a1 a2} (h : Kept s0 s) :
    Kept s0 (State.swapDone s a1 a2) := by
  unfold State.swapDone
  exact kept_ite (h.upd rfl rfl rfl rfl rfl) (foldl_kept h fun _ _ k0 => (kept_ite (setBit_kept k0) k0))

theorem swapRefuse_kept {s0 s : State} {a1 a2} (h : Kept s0 s) :
    Kept s0 (State.swapRefuse s a1 a2) := by
  unfold State.swapRefuse
  extract_lets x1 x2
  have hx1 : Kept s0 x1 := (setBit_kept (setBit_kept h))
  clear_value x1
  have hx2 : Kept s0 x2 := (setFld_kept (setFld_kept hx1))
  clear_value x2
  exact event_kept hx2

theorem swapReq_kept {s0 s : State} {a1 a2} (h : Kept s0 s) :
    Kept s0 (State.swapReq s a1 a2) := by
  unfold State.swapReq
  exact kept_ite (h.upd rfl rfl rfl rfl rfl) (foldl_kept h fun _ _ k0 => (kept_ite k0 (kept_ite (setBit_kept k0) (swapRefuse_kept k0))))

theorem schedShadow_kept {s0 s : State} (h : Kept s0 s) :
    Kept s0 (State.schedShadow s).2 := by
  unfold State.schedShadow
  exact busRead_kept h

theorem shadow_kept {s0 s : State} {a1} (h : Kept s0 s) :
    Kept s0 (State.shadow s a1).2 := by
  unfold State.shadow
  split
  · exact plnShadow_kept h
  · split
    · exact busRead_kept h
    · split
      · exact schedShadow_kept h
      · exact h

theorem swapTable_kept {s0 s : State} {a1 a2} (h : Kept s0 s) :
    Kept s0 (State.swapTable s a1 a2) := by
  unfold State.swapTable
  extract_lets x1 x2
  have hx1 : Kept s0 x1 := (busWrite_kept h)
  clear_value x1
  clear_value x2
  split
  · exact swapFilters_kept h
  · split
    · split
      · rename_i z1 z2 z3 z4
        have hz3 : Kept s0 z3 := kept_snd z4 (plnSwap_kept h)
        exact owdSignal_kept hz3
    · exact kept_ite (swapRate_kept h) (hx1.upd rfl rfl rfl rfl rfl)

theorem swapOne_kept {s0 s : State} {a1} (h : Kept s0 s) :
    Kept s0 (State.swapOne s a1) := by
  unfold State.swapOne
  split
  · rename_i z1 z2 z3 z4
    have hz3 : Kept s0 z3 := kept_snd z4 (shadow_kept h)
    exact kept_ite (event_kept (setBit_kept (setBit_kept (swapTable_kept hz3)))) (swapRefuse_kept (setBit_kept hz3))
  · rename_i z5 z6 z7
    have hz6 : Kept s0 z6 := kept_snd z7 (shadow_kept h)
    exact swapRefuse_kept (setBit_kept hz6)

theorem swapBoundary_kept {s0 s : State} (h : Kept s0 s) :
    Kept s0 (State.swapBoundary s) := by
  unfold State.swapBoundary
  exact kept_ite h (foldl_kept h (fun _ _ k0 => (kept_ite (swapOne_kept k0) k0)))

/-! ### CheckLoad -/

theorem loadQueues_kept {s0 s : State} {a1} (h : Kept s0 s) :
    Kept s0 (State.loadQueues s a1) := by
  unfold State.loadQueues
  extract_lets x1
  clear_value x1
  refine foldl_kept ?_ ?_
  · exact h
  · intro w2_0 w2_1 hw2
    extract_lets x2 x3 x4 x5 x6
    clear_value x2
    clear_value x3
    have hx4 : Kept s0 x4 := (setRegN_kept hw2)
    clear_value x4
    have hx5 : Kept s0 x5 := (setRegN_kept hx4)
    clear_value x5
    clear_value x6
    exact setRegN_kept hx5

theorem candidate_kept {s0 s : State} {a1 a2} (h : Kept s0 s) :
    Kept s0 (State.candidate s a1 a2) := by
  unfold State.candidate
  extract_lets x1 x2 x3 x4 x5 x6 x7
  clear_value x1
  have hx2 : Kept s0 x2 := (h.upd rfl rfl rfl rfl rfl)
  clear_value x2
  have hx3 : Kept s0 x3 := (loadLoops_kept (loadQueues_kept hx2))
  clear_value x3
  have hx4 : Kept s0 x4 := (putWords_kept hx3)
  clear_value x4
  clear_value x5
  clear_value x6
  clear_value x7
  exact hx4.upd rfl rfl rfl rfl rfl

/-! ### Check -/

theorem acceptSafety_kept {s0 s : State} {a1 a2 a3} (h : Kept s0 s) :
    Kept s0 (State.acceptSafety s a1 a2 a3) := by
  unfold State.acceptSafety
  extract_lets x1 x2 x3
  have hx1 : Kept s0 x1 := (setFlag_kept (foxConfigure_kept h))
  clear_value x1
  have hx2 : Kept s0 x2 := (kept_ite (updSwitches_kept (setSafState_kept hx1)) hx1)
  clear_value x2
  have hx3 : Kept s0 x3 := (safLoad_kept hx2)
  clear_value x3
  exact kept_ite h (kept_ite (kept_ite (safOperate_kept hx3) hx3) hx2)

/-! ### Save -/

theorem loadLoop_kept {s0 s : State} {a1 a2} (h : Kept s0 s) :
    Kept s0 (State.loadLoop s a1 a2) := by
  unfold State.loadLoop
  extract_lets x1 x2 x3 x4 x5 x6 x7
  have hx1 : Kept s0 x1 := (putWords_kept h)
  clear_value x1
  have hx2 : Kept s0 x2 := (setRegN_kept hx1)
  clear_value x2
  clear_value x3
  have hx4 : Kept s0 x4 := (putLoopMode_kept hx2)
  clear_value x4
  have hx5 : Kept s0 x5 := (setFld_kept (setFld_kept (setFld_kept hx4)))
  clear_value x5
  have hx6 : Kept s0 x6 := (setFlag_kept (setFlag_kept hx5))
  clear_value x6
  clear_value x7
  exact setLoop_kept hx6

theorem saveTasks_kept {s0 s : State} {a1} (h : Kept s0 s) :
    Kept s0 (State.saveTasks s a1).2.2 := by
  unfold State.saveTasks
  exact foldl_kept_snd2 (p := ([], false, s)) h fun _ _ k0 => busRead_kept k0

theorem readHeaders_kept {s0 s : State} {a1} (h : Kept s0 s) :
    Kept s0 (State.readHeaders s a1).2.2 := by
  unfold State.readHeaders
  split
  · rename_i z1 z2 z3 z4
    have hz3 : Kept s0 z3 := kept_snd z4 (busRead_kept h)
    split
    · rename_i z5 z6 z7 z8
      have hz7 : Kept s0 z7 := kept_snd z8 (busRead_kept hz3)
      dsimp only
      exact hz7

theorem writeCopy_kept {s0 s : State} {a1 a2 a3 a4 a5 a6 a7} (h : Kept s0 s) :
    Kept s0 (State.writeCopy s a1 a2 a3 a4 a5 a6 a7) := by
  unfold State.writeCopy
  extract_lets x1 x2 x3
  clear_value x1
  clear_value x2
  have hx3 : Kept s0 x3 := (blockWrite_kept h)
  clear_value x3
  exact blockWrite_kept hx3

theorem saveTime_kept {s0 s : State} (h : Kept s0 s) :
    Kept s0 (State.saveTime s).2 := by
  unfold State.saveTime
  split
  · rename_i z1 z2 z3 z4 z5
    have hz4 : Kept s0 z4 := kept_snd2 z5 (readHeaders_kept h)
    split
    · exact hz4
    · exact hz4

theorem copyReads_kept {s0 s : State} (h : Kept s0 s) :
    Kept s0 (State.copyReads s).2 := by
  unfold State.copyReads
  split
  · rename_i z1 z2 z3 z4 z5
    have hz4 : Kept s0 z4 := kept_snd2 z5 (readHeaders_kept h)
    split
    · exact hz4
    · split
      · rename_i z6 z7 z8 z9
        have hz8 : Kept s0 z8 := kept_snd z9 (busRead_kept hz4)
        exact hz8

theorem resumeFallback_kept {s0 s : State} {a1} (h : Kept s0 s) :
    Kept s0 (State.resumeFallback s a1) := by
  unfold State.resumeFallback
  extract_lets x1
  have hx1 : Kept s0 x1 := (setFlag_kept h)
  clear_value x1
  exact kept_ite h (kept_ite (foldl_kept hx1 fun _ _ k0 => (setCell_kept k0)) hx1)

theorem restoreTask_kept {s0 s : State} {a1 a2} (h : Kept s0 s) :
    Kept s0 (State.restoreTask s a1 a2) := by
  unfold State.restoreTask
  extract_lets x1 x2
  clear_value x1
  have hx2 : Kept s0 x2 := (setRegN_kept h)
  clear_value x2
  exact resumeFallback_kept (setFld_kept hx2)

theorem restoreForce_kept {s0 s : State} {a1 a2} (h : Kept s0 s) :
    Kept s0 (State.restoreForce s a1 a2) := by
  unfold State.restoreForce
  extract_lets x1 x2 x3 x4
  clear_value x1
  have hx2 : Kept s0 x2 := (setRegN_kept (setRegN_kept h))
  clear_value x2
  have hx3 : Kept s0 x3 := (setRegN_kept (setRegN_kept hx2))
  clear_value x3
  clear_value x4
  exact hx3.upd rfl rfl rfl rfl rfl

theorem restoreCursor_kept {s0 s : State} {a1 a2} (h : Kept s0 s) :
    Kept s0 (State.restoreCursor s a1 a2) := by
  unfold State.restoreCursor
  extract_lets x1
  clear_value x1
  exact cursorPut_kept h

theorem restoreRegions_kept {s0 s : State} {a1 a2 a3} (h : Kept s0 s) :
    Kept s0 (State.restoreRegions s a1 a2 a3) := by
  induction a2 generalizing s a3 with
  | nil => exact h
  | cons t ts ih => exact ih (blockWrite_kept h)

theorem restoreLoops_kept {s0 s : State} {a1 a2 a3} (h : Kept s0 s) :
    Kept s0 (State.restoreLoops s a1 a2 a3) := by
  induction a2 generalizing s a3 with
  | nil => exact h
  | cons n ns ih =>
    have k : Kept s0 (s.loadLoop n (slice a1 a3 384)) := loadLoop_kept h
    rw [State.restoreLoops]
    exact ih k

theorem restoreRuntime_kept {s0 s : State} {a1} (h : Kept s0 s) :
    Kept s0 (State.restoreRuntime s a1) := by
  unfold State.restoreRuntime
  extract_lets x1 x2 x3 x4 x5 x6
  clear_value x1
  have hx2 : Kept s0 x2 := (h.upd rfl rfl rfl rfl rfl)
  clear_value x2
  have hx3 : Kept s0 x3 := (foldl_kept hx2 (fun _ _ k0 => (restoreTask_kept k0)))
  clear_value x3
  have hx4 : Kept s0 x4 := (foldl_kept hx3 (fun _ _ k0 => (restoreCursor_kept k0)))
  clear_value x4
  clear_value x5
  have hx6 : Kept s0 x6 := (foldl_kept hx4 (fun _ _ k0 => (event_kept k0)))
  clear_value x6
  exact foldl_kept (clearRegs_kept hx6) (fun _ _ k0 => (restoreForce_kept k0))

theorem restore_kept {s0 s : State} {a1} (h : Kept s0 s) :
    Kept s0 (State.restore s a1) := by
  unfold State.restore
  extract_lets x1 x2 x3 x4
  have h1 : Kept s0 x1 := restoreRuntime_kept h
  clear_value x1
  have h2 : Kept s0 x2 := resolveForces_kept h1
  clear_value x2 x3
  have h4 : Kept s0 x4 := restoreRegions_kept h2
  clear_value x4
  apply restoreLoops_kept
  exact h4

theorem runtimeRestart_kept {s0 s : State} {a1} (h : Kept s0 s) :
    Kept s0 (State.runtimeRestart s a1) := by
  unfold State.runtimeRestart
  extract_lets x1 x2
  have hx2 : Kept s0 x2 := setRegN_kept h
  clear_value x1 x2
  split
  rename_i e
  have hz := kept_snd e (kept_ite_snd (copyReads_kept hx2) hx2)
  extract_lets x3 x4 x5 x6
  have hx4 : Kept s0 x4 := restore_kept hz
  clear_value x4
  have hx5 : Kept s0 x5 := coldModes_kept (kept_ite (clearForces_kept hz) hz)
  clear_value x5
  have hx6 : Kept s0 x6 := foldl_kept hx5 fun _ _ k0 => cursorStart_kept k0
  clear_value x6
  exact kept_ite (moduleFault_kept hz) (kept_ite (setFlag_kept (busWrite_kept hx4))
    (kept_ite (copeEvent_kept (setFld_kept hx6)) hx6))

end Sys2Proof.Laws
end

