-- ==== Sys2Proof/Laws/KeptStart.lean ====
section
/-! SUPPORT. What every operation of start-up, restarts, power and the regions keeps (`Kept`). -/

namespace Sys2Proof.Laws

open Sys2Proof.Machine

/-! ### Startup -/

theorem updKeySt_kept {s0 s : State} (h : Kept s0 s) :
    Kept s0 (State.updKeySt s) := by
  unfold State.updKeySt
  exact setRegN_kept h

theorem updFwVer_kept {s0 s : State} {a1} (h : Kept s0 s) :
    Kept s0 (State.updFwVer s a1) := by
  unfold State.updFwVer
  extract_lets x1
  clear_value x1
  exact setFld_kept (setFld_kept h)

theorem takeBank_kept {s0 s : State} {a1 a2} (h : Kept s0 s) :
    Kept s0 (State.takeBank s a1 a2) := by
  unfold State.takeBank
  extract_lets x1 x2
  have hx1 : Kept s0 x1 := (setFlag_kept (setFlag_kept (setFld_kept h)))
  clear_value x1
  have hx2 : Kept s0 x2 := (updFwVer_kept (setFlag_kept hx1))
  clear_value x2
  exact updKeySt_kept hx2

theorem loadRuntime_kept {s0 s : State} {a1} (h : Kept s0 s) :
    Kept s0 (State.loadRuntime s a1) := by
  unfold State.loadRuntime
  extract_lets x1
  clear_value x1
  exact blockWrite_kept h

theorem bootRom_kept {s0 s : State} (h : Kept s0 s) :
    Kept s0 (State.bootRom s) := by
  unfold State.bootRom
  extract_lets x1
  clear_value x1
  exact kept_ite (loadRuntime_kept (takeBank_kept h)) (kept_ite (loadRuntime_kept (takeBank_kept h)) (updKeySt_kept (setFlag_kept (setFld_kept h))))

theorem bootEvents_kept {s0 s : State} (h : Kept s0 s) :
    Kept s0 (State.bootEvents s) := by
  unfold State.bootEvents
  extract_lets x1 x2 x3
  clear_value x1
  have hx2 : Kept s0 x2 := (kept_ite (copeEvent_kept (h.upd rfl rfl rfl rfl rfl)) h)
  clear_value x2
  have hx3 : Kept s0 x3 := (copeEvent_kept hx2)
  clear_value x3
  exact kept_ite (copeEvent_kept hx3) hx3

theorem lastSave_kept {s0 s : State} {a1} (h : Kept s0 s) :
    Kept s0 (State.lastSave s a1) := by
  unfold State.lastSave
  split
  · exact setRegN_kept h
  · extract_lets x1
    clear_value x1
    exact setRegN_kept h

theorem noPattern_kept {s0 s : State} {a1 a2} (h : Kept s0 s) :
    Kept s0 (State.noPattern s a1 a2) := by
  unfold State.noPattern
  extract_lets x1 x2 x3 x4
  have hx1 : Kept s0 x1 := (setFld_kept (modeChange_kept (setFld_kept h)))
  clear_value x1
  have hx2 : Kept s0 x2 := (setFlag_kept (setRegN_kept hx1))
  clear_value x2
  clear_value x3
  clear_value x4
  exact hx2.upd rfl rfl rfl rfl rfl

theorem lampTest_kept {s0 s : State} (h : Kept s0 s) :
    Kept s0 (State.lampTest s) := by
  unfold State.lampTest
  exact h.upd rfl rfl rfl rfl rfl

theorem copeBoot_kept {s0 s : State} (h : Kept s0 s) :
    Kept s0 (State.copeBoot s) := by
  unfold State.copeBoot
  extract_lets x1 x2 x3 x4
  have hx1 : Kept s0 x1 := (lampTest_kept (bootRom_kept h))
  clear_value x1
  clear_value x2
  have hx3 : Kept s0 x3 := (bootEvents_kept (lastSave_kept (evrStart_kept hx1)))
  clear_value x3
  have hx4 : Kept s0 x4 := (runtimeEvent_kept hx3)
  clear_value x4
  exact kept_ite h (kept_ite (noPattern_kept hx4) (setFld_kept hx4))

theorem recordAdmitted_kept {s0 s : State} (h : Kept s0 s) :
    Kept s0 (State.recordAdmitted s) := by
  unfold State.recordAdmitted
  exact h.upd rfl rfl rfl rfl rfl

theorem queuesInit_kept {s0 s : State} (h : Kept s0 s) :
    Kept s0 (State.queuesInit s) := by
  unfold State.queuesInit
  extract_lets x1
  have hx1 : Kept s0 x1 := (foldl_kept h fun _ _ k0 => (setRegN_kept (setRegN_kept k0)))
  clear_value x1
  exact loadQueues_kept hx1

theorem bringIntoForce_kept {s0 s : State} {a1 a2 a3} (h : Kept s0 s) :
    Kept s0 (State.bringIntoForce s a1 a2 a3) := by
  unfold State.bringIntoForce
  extract_lets x1 x2 x3 x4 x5 x6 x7 x8 x9 x10 x11 x12 x13 x14
  clear_value x1
  clear_value x2
  clear_value x3
  have hx4 : Kept s0 x4 := (recordAdmitted_kept (mgdOwed_kept (queuesInit_kept (candidate_kept h))))
  clear_value x4
  clear_value x5
  have hx6 : Kept s0 x6 := (hx4.upd rfl rfl rfl rfl rfl)
  clear_value x6
  clear_value x7
  clear_value x8
  have hx9 : Kept s0 x9 := (hx6.upd rfl rfl rfl rfl rfl)
  clear_value x9
  have hx10 : Kept s0 x10 := (setFlag_kept (setFlag_kept (setFlag_kept (setFld_kept hx9))))
  clear_value x10
  have hx11 : Kept s0 x11 := (setRegN_kept (setFlag_kept hx10))
  clear_value x11
  have hx12 : Kept s0 x12 := (setFld_kept (setRegN_kept (setRegN_kept hx11)))
  clear_value x12
  have hx13 : Kept s0 x13 := (blockWrite_kept (setFlag_kept hx12))
  clear_value x13
  have hx14 : Kept s0 x14 := (mgdUnused_kept (evrPattern_kept hx13))
  clear_value x14
  exact kept_ite (mgdInit_kept hx14) hx14

theorem loadEnds_kept {s0 s : State} (h : Kept s0 s) :
    Kept s0 (State.loadEnds s) := by
  unfold State.loadEnds
  split
  · exact setFld_kept (bringIntoForce_kept h)
  · split
    · exact noPattern_kept h
    · exact noPattern_kept (setRegN_kept h)

theorem refuseSlot_kept {s0 s : State} {a1 a2 a3} (h : Kept s0 s) :
    Kept s0 (State.refuseSlot s a1 a2 a3) := by
  unfold State.refuseSlot
  extract_lets x1 x2 x3
  have hx2 : Kept s0 x2 := (h.upd rfl rfl rfl rfl rfl)
  have hx3 : Kept s0 x3 := (setFlag_kept (setFlag_kept hx2))
  exact kept_ite (loadEnds_kept hx3) (setFld_kept (copeEvent_kept hx3))

theorem stageSlot_kept {s0 s : State} {a1} (h : Kept s0 s) :
    Kept s0 (State.stageSlot s a1) := by
  unfold State.stageSlot
  extract_lets x1
  clear_value x1
  exact kept_ite h (blockWrite_kept h)

theorem patternLoaded_kept {s0 s : State} {a1} (h : Kept s0 s) :
    Kept s0 (State.patternLoaded s a1) := by
  unfold State.patternLoaded
  extract_lets x1 x2 x3 x4
  clear_value x1
  have hx2 : Kept s0 x2 := (h.upd rfl rfl rfl rfl rfl)
  clear_value x2
  have hx3 : Kept s0 x3 := (setRegN_kept hx2)
  clear_value x3
  clear_value x4
  split
  · exact h
  · split
    · exact loadEnds_kept hx3
    · extract_lets x5 x6 x7 x8 x9
      have hx5 : Kept s0 x5 := (hx3.upd rfl rfl rfl rfl rfl)
      clear_value x5
      have hx6 : Kept s0 x6 := (stageSlot_kept hx5)
      clear_value x6
      clear_value x7
      clear_value x8
      have hx9 : Kept s0 x9 := (hx6.upd rfl rfl rfl rfl rfl)
      clear_value x9
      split
      · exact refuseSlot_kept hx6
      · exact setFlag_kept (setFld_kept hx9)

theorem startChecked_kept {s0 s : State} {a1 a2} (h : Kept s0 s) :
    Kept s0 (State.startChecked s a1 a2) := by
  unfold State.startChecked
  extract_lets x1 x2 x3 x4 x5
  clear_value x1
  have hx2 : ∀ y0, Kept s0 y0 → Kept s0 (x2 y0) := (fun _ k0 => (acceptSafety_kept k0))
  clear_value x2
  have hx3 : Kept s0 x3 := (setFlag_kept h)
  clear_value x3
  have hx4 : Kept s0 x4 := (hx2 _ hx3)
  clear_value x4
  clear_value x5
  split
  · exact setFld_kept (hx2 _ (bringIntoForce_kept hx3))
  · extract_lets x6
    have hx6 : Kept s0 x6 := (kept_ite (hx4.upd rfl rfl rfl rfl rfl) hx4)
    clear_value x6
    exact kept_ite (setFld_kept (hx2 _ (bringIntoForce_kept hx3))) (refuseSlot_kept hx6)

theorem checkEnds_kept {s0 s : State} {a1 a2} (h : Kept s0 s) :
    Kept s0 (State.checkEnds s a1 a2) := by
  unfold State.checkEnds
  extract_lets x1
  have hx1 : Kept s0 x1 := (setFlag_kept (setFlag_kept (setFlag_kept h)))
  clear_value x1
  exact setRegN_kept (setFld_kept (setFlag_kept hx1))

theorem standbyRefused_kept {s0 s : State} (h : Kept s0 s) :
    Kept s0 (State.standbyRefused s) := by
  unfold State.standbyRefused
  exact kept_ite (setSstate_kept h) h

theorem laterRole_kept {s0 s : State} (h : Kept s0 s) :
    Kept s0 (State.laterRole s) := by
  unfold State.laterRole
  exact kept_ite (roleResolve_kept h) h

theorem runChecked_kept {s0 s : State} {a1} (h : Kept s0 s) :
    Kept s0 (State.runChecked s a1) := by
  unfold State.runChecked
  extract_lets x1 x2 x3
  clear_value x1
  have hx2 : Kept s0 x2 := (acceptSafety_kept h)
  clear_value x2
  have hx3 : Kept s0 x3 := (laterRole_kept (recordAdmitted_kept (checkEnds_kept hx2)))
  clear_value x3
  split
  · exact standbyRefused_kept (checkEnds_kept hx2)
  · split
    · split
      · exact checkEnds_kept hx3
      · exact hx3
    · exact kept_ite hx3 (enterRun_kept hx3)

theorem checkComplete_kept {s0 s : State} {a1 a2} (h : Kept s0 s) :
    Kept s0 (State.checkComplete s a1 a2) := by
  unfold State.checkComplete
  extract_lets x1 x2
  clear_value x1
  have hx2 : Kept s0 x2 := (h.upd rfl rfl rfl rfl rfl)
  clear_value x2
  split
  · exact hx2
  · split
    · split
      · exact startChecked_kept hx2
      · exact hx2
    · exact kept_ite (runChecked_kept hx2) hx2

theorem pourInit_kept {s0 s : State} (h : Kept s0 s) :
    Kept s0 (State.pourInit s) := by
  unfold State.pourInit
  extract_lets x1 x2 x3 x4
  clear_value x1
  have hx2 : Kept s0 x2 := (clearRegs_kept h)
  clear_value x2
  have hx3 : Kept s0 x3 := (hx2.upd rfl rfl rfl rfl rfl)
  clear_value x3
  have hx4 : Kept s0 x4 := (setFlag_kept (setRegN_kept (setRegN_kept hx3)))
  clear_value x4
  exact updAligned_kept (foldl_kept hx4 (fun _ _ k0 => (setFld_kept (setFld_kept k0))))

theorem dropMem_kept {s0 s : State} {a1 a2} (h : Kept s0 s) :
    Kept s0 (State.dropMem s a1 a2) :=
  ⟨h.pending, h.free, h.outbox, h.regs, fun x => tblWf_filter _ (h.mem x)⟩

theorem ddrLost_kept {s0 s : State} (h : Kept s0 s) :
    Kept s0 (State.ddrLost s) := by
  unfold State.ddrLost
  extract_lets x1 x2 x3
  clear_value x1
  have hx2 : Kept s0 x2 := (dropMem_kept h)
  clear_value x2
  clear_value x3
  exact hx2.upd rfl rfl rfl rfl rfl

theorem domainLost_kept {s0 s : State} {a1} (h : Kept s0 s) :
    Kept s0 (State.domainLost s a1) := by
  unfold State.domainLost
  extract_lets x1 x2 x3 x4 x5
  clear_value x1
  have hx2 : Kept s0 x2 := (foldl_kept h (fun _ _ k0 => (setCell_kept (endTrim_kept k0))))
  clear_value x2
  clear_value x3
  have hx4 : Kept s0 x4 := (clearRegs_kept h)
  clear_value x4
  clear_value x5
  exact kept_ite (h.upd rfl rfl rfl rfl rfl) (kept_ite (clearRegs_kept (clearRegs_kept (h.upd rfl rfl rfl rfl rfl))) (kept_ite (clearRegs_kept (h.upd rfl rfl rfl rfl rfl)) (kept_ite (clearRegs_kept hx2) (kept_ite (setCan_kept hx4) (kept_ite (ddrLost_kept h) h)))))

theorem domainsInit_kept {s0 s : State} (h : Kept s0 s) :
    Kept s0 (State.domainsInit s) := by
  unfold State.domainsInit
  extract_lets x1 x2 x3 x4
  clear_value x1
  clear_value x2
  have hx3 : Kept s0 x3 := (h.upd rfl rfl rfl rfl rfl)
  clear_value x3
  have hx4 : Kept s0 x4 := (setRegN_kept (setRegN_kept hx3))
  clear_value x4
  exact foldl_kept hx4 fun _ _ k0 => (kept_ite (domainLost_kept (setFld_kept k0)) k0)

theorem imageInit_kept {s0 s : State} (h : Kept s0 s) :
    Kept s0 (State.imageInit s) := by
  unfold State.imageInit
  extract_lets x1 x2
  clear_value x1
  have hx2 : Kept s0 x2 := (setFlag_kept (setImage_kept h))
  clear_value x2
  exact kept_ite hx2 (retainBind_kept (loadSegs_kept hx2))

theorem blocksInit_kept {s0 s : State} (h : Kept s0 s) :
    Kept s0 (State.blocksInit s) := by
  unfold State.blocksInit
  extract_lets x1 x2 x3
  have hx1 : Kept s0 x1 := (startCells_kept (loadLoops_kept (pourInit_kept h)))
  clear_value x1
  have hx2 : Kept s0 x2 := (plnStart_kept (netStart_kept (canStart_kept hx1)))
  clear_value x2
  have hx3 : Kept s0 x3 := (pmcStart_kept (ladleInit_kept hx2))
  clear_value x3
  exact runStart_kept hx3

theorem dragStart_kept {s0 s : State} (h : Kept s0 s) :
    Kept s0 (State.dragStart s) := by
  unfold State.dragStart
  extract_lets x1 x2 x3
  have hx1 : Kept s0 x1 := (imageInit_kept (domainsInit_kept h))
  clear_value x1
  have hx2 : Kept s0 x2 := (blocksInit_kept hx1)
  clear_value x2
  have hx3 : Kept s0 x3 := (kept_ite hx2 (dropMem_kept hx2))
  clear_value x3
  exact kept_ite hx1 (updAllDrives_kept (kept_ite (safOperate_kept hx3) hx3))

theorem dragPlane_kept {s0 s : State} (h : Kept s0 s) :
    Kept s0 (State.dragPlane s) := by
  unfold State.dragPlane
  extract_lets x1 x2
  have hx1 : Kept s0 x1 := (dragStart_kept h)
  clear_value x1
  have hx2 : Kept s0 x2 := (kept_ite hx1 (runtimeRestart_kept hx1))
  clear_value x2
  exact kept_ite h (kept_ite hx2 (setFld_kept hx2))

theorem startMode_kept {s0 s : State} (h : Kept s0 s) :
    Kept s0 (State.startMode s) := by
  unfold State.startMode
  extract_lets x1 x2 x3 x4
  clear_value x1
  clear_value x2
  clear_value x3
  have hx4 : Kept s0 x4 := (setRegN_kept h)
  clear_value x4
  exact kept_ite (enterRun_kept hx4) (modeChange_kept hx4)

theorem arbitrate_kept {s0 s : State} (h : Kept s0 s) :
    Kept s0 (State.arbitrate s) := by
  unfold State.arbitrate
  extract_lets x1
  have hx1 : Kept s0 x1 := (roleResolve_kept h)
  clear_value x1
  split
  · exact setRegN_kept (setFld_kept hx1)
  · exact hx1

theorem roleStart_kept {s0 s : State} (h : Kept s0 s) :
    Kept s0 (State.roleStart s) := by
  unfold State.roleStart
  extract_lets x1
  have hx1 : Kept s0 x1 := (arbitrate_kept h)
  clear_value x1
  exact kept_ite h (setFld_kept (startMode_kept hx1))

theorem dlReport_kept {s0 s : State} {a1} (h : Kept s0 s) :
    Kept s0 (State.dlReport s a1) := by
  unfold State.dlReport
  exact kept_ite (sendCtrl_kept h) h

theorem dlEnds_kept {s0 s : State} {a1} (h : Kept s0 s) :
    Kept s0 (State.dlEnds s a1) := by
  unfold State.dlEnds
  extract_lets x1 x2 x3
  have hx1 : Kept s0 x1 := (setFld_kept (setFlag_kept (setFld_kept h)))
  clear_value x1
  clear_value x2
  have hx3 : Kept s0 x3 := (hx1.upd rfl rfl rfl rfl rfl)
  clear_value x3
  exact dlReport_kept (runtimeEvent_kept hx3)

theorem runReq_kept {s0 s : State} (h : Kept s0 s) :
    Kept s0 (State.runReq s) := by
  unfold State.runReq
  exact asPrimary_kept h (fun _ k0 => (kept_ite (setFlag_kept (setFlag_kept (setFlag_kept k0))) k0))

theorem cancelCheck_kept {s0 s : State} (h : Kept s0 s) :
    Kept s0 (State.cancelCheck s) := by
  unfold State.cancelCheck
  extract_lets x1 x2 x3
  have hx1 : Kept s0 x1 := (setFlag_kept (setFlag_kept (setFlag_kept h)))
  clear_value x1
  clear_value x2
  have hx3 : Kept s0 x3 := (hx1.upd rfl rfl rfl rfl rfl)
  clear_value x3
  exact kept_ite (noPattern_kept hx3) (kept_ite hx1 (dlEnds_kept hx1))

theorem stopReq_kept {s0 s : State} (h : Kept s0 s) :
    Kept s0 (State.stopReq s) := by
  unfold State.stopReq
  exact asPrimary_kept h (fun _ k0 => (kept_ite (beginStop_kept k0) (kept_ite (cancelCheck_kept k0) k0)))

theorem reload_kept {s0 s : State} (h : Kept s0 s) :
    Kept s0 (State.reload s) := by
  unfold State.reload
  extract_lets x1 x2 x3
  have hx1 : Kept s0 x1 := (setFlag_kept (setFlag_kept h))
  clear_value x1
  clear_value x2
  have hx3 : Kept s0 x3 := (hx1.upd rfl rfl rfl rfl rfl)
  clear_value x3
  exact kept_ite (kept_ite (setBit_kept (setFld_kept hx3)) hx3) h

theorem runctlWrite_kept {s0 s : State} {a1 a2} (h : Kept s0 s) :
    Kept s0 (State.runctlWrite s a1 a2) := by
  unfold State.runctlWrite
  extract_lets x1
  have hx1 : Kept s0 x1 := (setFld_kept (setFlag_kept h))
  clear_value x1
  exact kept_ite (h.upd rfl rfl rfl rfl rfl) (kept_ite (stopReq_kept hx1) (kept_ite (reload_kept hx1) (kept_ite (runReq_kept hx1) hx1)))

theorem orderlyStop_kept {s0 s : State} {a1} (h : Kept s0 s) :
    Kept s0 (State.orderlyStop s a1) := by
  unfold State.orderlyStop
  extract_lets x1
  have hx1 : Kept s0 x1 := (pourOff_kept h)
  clear_value x1
  split
  · exact h
  · split
    · exact enterStop_kept (runtimeEvent_kept hx1)
    · split
      · rename_i z1 z2 z3 z4 z5
        have hz4 : Kept s0 z4 := kept_snd2 z5 (saveTasks_kept hx1)
        split
        · rename_i z6 z7 z8 z9 z10
          have hz9 : Kept s0 z9 := kept_snd2 z10 (readHeaders_kept hz4)
          exact kept_ite (moduleFault_kept hz9) (enterStop_kept (writeCopy_kept hz9))

theorem reloadForces_kept {s0 s : State} {a1} (h : Kept s0 s) :
    Kept s0 (State.reloadForces s a1) := by
  unfold State.reloadForces
  split
  · exact h
  · exact resolveForces_kept h

theorem fallbackEvents_kept {s0 s : State} {a1} (h : Kept s0 s) :
    Kept s0 (State.fallbackEvents s a1) := by
  unfold State.fallbackEvents
  exact foldl_kept h fun _ _ k0 => (copeEvent_kept k0)

theorem reloadTry_kept {s0 s : State} {a1 a2 a3} (h : Kept s0 s) :
    Kept s0 (State.reloadTry s a1 a2 a3).state := by
  induction a2 generalizing s a3 with
  | nil => exact h
  | cons k ks ih =>
    unfold State.reloadTry
    extract_lets x1 x2 x3
    have hx1 : Kept s0 x1 := stageSlot_kept h
    clear_value x1
    split
    · exact ih hx1
    · split
      · exact hx1
      · have hx4 := acceptSafety_kept (a1 := x3) (a2 := (sectOf x2.bytes SEC_SAFETY).getD []) (a3 := a1) hx1
        split
        · exact hx4
        · exact ih hx4

theorem tried_kept {s0 t : State} {p : Tried} {a b} (e : p = ⟨a, b, t⟩) (h : Kept s0 p.state) : Kept s0 t := by
  rw [e] at h; exact h

theorem reloadComplete_kept {s0 s : State} {a1 a2 a3} (h : Kept s0 s) :
    Kept s0 (State.reloadComplete s a1 a2 a3) := by
  unfold State.reloadComplete
  extract_lets x1 x2 x3 x4
  have hx2 : Kept s0 x2 := (h.upd rfl rfl rfl rfl rfl)
  have hx3 : Kept s0 x3 := (setFlag_kept (setRegN_kept hx2))
  have hx4 : Kept s0 x4 := (setFlag_kept (setFlag_kept hx3))
  clear_value x4
  have hr := reloadTry_kept (a1 := a2) (a2 := x4.reloadOrder) (a3 := []) hx4
  split
  · exact h
  · split
    · rename_i e
      exact setRegN_kept (setFld_kept (setFlag_kept (setRegN_kept (fallbackEvents_kept (tried_kept e hr)))))
    · rename_i e
      extract_lets x5 x6 x7 x8 x9 x10 x11 x12 x13 x14
      have hx7 : Kept s0 x7 := (fallbackEvents_kept (tried_kept e hr))
      clear_value x7
      have hx9 : Kept s0 x9 := (hx7.upd rfl rfl rfl rfl rfl)
      clear_value x9
      have hx10 : Kept s0 x10 := (bringIntoForce_kept (kept_ite hx9 (stopDrag_kept hx9)))
      clear_value x10
      have hx11 : Kept s0 x11 := (dragStart_kept (acceptSafety_kept hx10))
      clear_value x11
      have hx12 : Kept s0 x12 := kept_ite hx11 (runtimeRestart_kept (reloadForces_kept hx11))
      clear_value x12
      have hx14 : Kept s0 x14 := hx12.upd rfl rfl rfl rfl rfl
      clear_value x14
      exact kept_ite hx14 (modeChange_kept (arbitrate_kept (setRole_kept hx14)))

/-! ### Download -/

theorem dlStart_kept {s0 s : State} (h : Kept s0 s) :
    Kept s0 (State.dlStart s) := by
  unfold State.dlStart
  extract_lets x1 x2 x3
  have hx1 : Kept s0 x1 := (setFlag_kept (setFld_kept h))
  clear_value x1
  clear_value x2
  have hx3 : Kept s0 x3 := (setFld_kept h)
  clear_value x3
  exact kept_ite (hx1.upd rfl rfl rfl rfl rfl) (runtimeEvent_kept hx3)

theorem dlData_kept {s0 s : State} {a1 a2} (h : Kept s0 s) :
    Kept s0 (State.dlData s a1 a2) := by
  unfold State.dlData
  extract_lets x1 x2
  clear_value x1
  clear_value x2
  exact kept_ite h (kept_ite (dlEnds_kept h) (h.upd rfl rfl rfl rfl rfl))

theorem dlAbort_kept {s0 s : State} (h : Kept s0 s) :
    Kept s0 (State.dlAbort s) := by
  unfold State.dlAbort
  exact kept_ite (dlEnds_kept h) h

theorem dlCheck_kept {s0 s : State} (h : Kept s0 s) :
    Kept s0 (State.dlCheck s) := by
  unfold State.dlCheck
  exact setFlag_kept (setFlag_kept (setFld_kept h))

theorem pdlAccept_kept {s0 s : State} {a1} (h : Kept s0 s) :
    Kept s0 (State.pdlAccept s a1) := by
  unfold State.pdlAccept
  extract_lets x1 x2 x3
  clear_value x1
  clear_value x2
  have hx3 : Kept s0 x3 := (h.upd rfl rfl rfl rfl rfl)
  clear_value x3
  exact kept_ite (setFld_kept hx3) hx3

theorem dlApply_kept {s0 s : State} (h : Kept s0 s) :
    Kept s0 (State.dlApply s) := by
  unfold State.dlApply
  extract_lets x1 x2 x3
  clear_value x1
  have hx2 : Kept s0 x2 := (h.upd rfl rfl rfl rfl rfl)
  clear_value x2
  have hx3 : Kept s0 x3 := (kept_ite (sendCtrl_kept (setFld_kept hx2)) hx2)
  clear_value x3
  exact kept_ite h (dlCheck_kept hx3)

theorem dlctl_kept {s0 s : State} {a1 a2} (h : Kept s0 s)
    (ha2 : ∀ y0, Kept s0 y0 → Kept s0 (a2 y0)) :
    Kept s0 (State.dlctl s a1 a2) := by
  unfold State.dlctl
  exact kept_ite (h.upd rfl rfl rfl rfl rfl) (ha2 _ h)

theorem withStaged_kept {s0 s : State} (h : Kept s0 s) :
    Kept s0 (State.withStaged s) := by
  unfold State.withStaged
  extract_lets x1
  clear_value x1
  exact h.upd rfl rfl rfl rfl rfl

theorem dlSafety_kept {s0 s : State} {a1} (h : Kept s0 s) :
    Kept s0 (State.dlSafety s a1) := by
  unfold State.dlSafety
  exact kept_ite h (acceptSafety_kept h)

theorem dlChecked_kept {s0 s : State} {a1 a2} (h : Kept s0 s) :
    Kept s0 (State.dlChecked s a1 a2) := by
  unfold State.dlChecked
  extract_lets x1 x2 x3 x4 x5 x6
  clear_value x1
  have hx2 : Kept s0 x2 := (h.upd rfl rfl rfl rfl rfl)
  clear_value x2
  have hx3 : Kept s0 x3 := (checkEnds_kept (dlSafety_kept hx2))
  clear_value x3
  clear_value x4
  clear_value x5
  have hx6 : Kept s0 x6 := (hx3.upd rfl rfl rfl rfl rfl)
  clear_value x6
  split
  · exact h
  · split
    · extract_lets x7
      have hx7 : Kept s0 x7 := (checkEnds_kept (dlSafety_kept hx2))
      clear_value x7
      exact dlEnds_kept (setRegN_kept (setRegN_kept hx7))
    · split
      · exact dlEnds_kept (setRegN_kept hx3)
      · exact setFld_kept (resolveForces_kept hx6)

theorem dlLoaded_kept {s0 s : State} (h : Kept s0 s) :
    Kept s0 (State.dlLoaded s) := by
  unfold State.dlLoaded
  extract_lets x1 x2 x3 x4 x5 x6 x7
  clear_value x1
  have hx2 : Kept s0 x2 := (retainBind_kept (loadSegs_kept h))
  clear_value x2
  have hx3 : Kept s0 x3 := (recordAdmitted_kept (setImage_kept hx2))
  clear_value x3
  have hx4 : Kept s0 x4 := (setFld_kept (setFlag_kept (setFld_kept hx3)))
  clear_value x4
  clear_value x5
  have hx6 : Kept s0 x6 := (hx4.upd rfl rfl rfl rfl rfl)
  clear_value x6
  have hx7 : Kept s0 x7 := (kept_ite (pdlAccept_kept hx6) hx6)
  clear_value x7
  exact kept_ite h (kept_ite hx2 (dlReport_kept (runtimeEvent_kept (setFlag_kept hx7))))

theorem dlForwarded_kept {s0 s : State} {a1} (h : Kept s0 s) :
    Kept s0 (State.dlForwarded s a1) := by
  unfold State.dlForwarded
  exact kept_ite h (kept_ite (dlCheck_kept (h.upd rfl rfl rfl rfl rfl)) (dlReport_kept h))

theorem dlAnswer_kept {s0 s : State} {a1 a2} (h : Kept s0 s) :
    Kept s0 (State.dlAnswer s a1 a2) := by
  unfold State.dlAnswer
  exact kept_ite h (setRegN_kept (kept_ite (pdlAccept_kept h) (setFld_kept h)))

/-! ### Restart -/

theorem copeDown_kept {s0 s : State} (h : Kept s0 s) :
    Kept s0 (State.copeDown s) := by
  unfold State.copeDown
  extract_lets x1 x2 x3
  clear_value x1
  have hx2 : Kept s0 x2 := (setFld_kept (setFlag_kept (setFlag_kept h)))
  clear_value x2
  clear_value x3
  exact hx2.upd rfl rfl rfl rfl rfl

theorem startUp_kept {s0 s : State} (h : Kept s0 s) :
    Kept s0 (State.startUp s) := by
  unfold State.startUp
  extract_lets x1 x2 x3 x4 x5 x6 x7 x8
  clear_value x1
  clear_value x2
  have hx3 : Kept s0 x3 := (h.upd rfl rfl rfl rfl rfl)
  clear_value x3
  have hx4 : Kept s0 x4 := (setRegN_kept (kept_ite (setFld_kept hx3) hx3))
  clear_value x4
  have hx5 : Kept s0 x5 := (setRegN_kept (setFld_kept (setMode_kept hx4)))
  clear_value x5
  have hx6 : Kept s0 x6 := (ddrLost_kept (setFld_kept hx5))
  clear_value x6
  clear_value x7
  have hx8 : Kept s0 x8 := (hx6.upd rfl rfl rfl rfl rfl)
  clear_value x8
  exact updRelay_kept (runAlive_kept (safBoot_kept hx8))

theorem resetPlain_kept {s0 s : State} {a1} (h : Kept s0 s) :
    Kept s0 (State.resetPlain s a1) := by
  unfold State.resetPlain
  exact ⟨h.pending, h.free, h.outbox, fun x => tblWf_filter _ (h.regs x), fun x => tblWf_filter _ (h.mem x)⟩

theorem moduleReset_kept {s0 s : State} {a1} (h : Kept s0 s) :
    Kept s0 (State.moduleReset s a1) := by
  unfold State.moduleReset
  extract_lets x1
  clear_value x1
  exact safOff_kept (runReset_kept (updForced_kept (setFlag_kept (resetPlain_kept (mgdReset_kept (unpowerCells_kept (pmcStop_kept h)))))))

theorem afterReset_kept {s0 s : State} (h : Kept s0 s) :
    Kept s0 (State.afterReset s) := by
  unfold State.afterReset
  exact kept_ite h (startUp_kept h)

theorem powerOff_kept {s0 s : State} (h : Kept s0 s) :
    Kept s0 (State.powerOff s) := by
  unfold State.powerOff
  exact ⟨h.pending, h.free, h.outbox, fun _ => rfl, fun x => tblWf_filter _ (h.mem x)⟩

theorem tailRecord_kept {s0 s : State} {a1 a2 a3 a4} (h : Kept s0 s) :
    Kept s0 (State.tailRecord s a1 a2 a3 a4) := by
  unfold State.tailRecord
  extract_lets x1 x2 x3
  have hx1 : Kept s0 x1 := (seqRestore_kept h)
  clear_value x1
  clear_value x2
  clear_value x3
  exact kept_ite (countRecord_kept (setTail_kept (tailMove_kept hx1))) hx1

theorem watchdogReset_kept {s0 s : State} {a1 a2 a3 a4} (h : Kept s0 s) :
    Kept s0 (State.watchdogReset s a1 a2 a3 a4) := by
  unfold State.watchdogReset
  extract_lets x1 x2
  have hx1 : Kept s0 x1 := (safDown_kept (allOutSub_kept (stopDrag_kept h)))
  clear_value x1
  have hx2 : Kept s0 x2 := (tailRecord_kept (evrStop_kept (runDying_kept hx1)))
  clear_value x2
  exact kept_ite h (afterReset_kept (moduleReset_kept hx2))

theorem contactsOff_kept {s0 s : State} (h : Kept s0 s) :
    Kept s0 (State.contactsOff s) := by
  unfold State.contactsOff
  extract_lets x1 x2 x3
  have hx1 : Kept s0 x1 := (kept_ite (linkDown_kept h) h)
  clear_value x1
  have hx2 : Kept s0 x2 := (foldl_kept hx1 (fun _ _ k0 => (portLink_kept k0)))
  clear_value x2
  clear_value x3
  exact hx2.upd rfl rfl rfl rfl rfl

theorem saveStart_kept {s0 s : State} {a1 a2} (h : Kept s0 s) :
    Kept s0 (State.saveStart s a1 a2) := by
  unfold State.saveStart
  extract_lets x1 x2 x3 x4 x5
  clear_value x1
  clear_value x2
  have hx3 : Kept s0 x3 := (h.upd rfl rfl rfl rfl rfl)
  clear_value x3
  have hx4 : Kept s0 x4 := (stopDrag_kept (contactsOff_kept (runDying_kept (setFld_kept hx3))))
  clear_value x4
  have hx5 : Kept s0 x5 := (safDown_kept (unpowerCells_kept (dropWork_kept hx4)))
  clear_value x5
  exact kept_ite h (updRelay_kept (copeDown_kept (evrStop_kept hx5)))

theorem saveWrite_kept {s0 s : State} {a1 a2} (h : Kept s0 s) :
    Kept s0 (State.saveWrite s a1 a2) := by
  unfold State.saveWrite
  extract_lets x1
  clear_value x1
  split
  rename_i z a b s1 e
  have h1 : Kept s0 s1 := by
    refine kept_snd2 e ?_
    split
    · exact h
    · exact readHeaders_kept h
  extract_lets x2 x3 x4 x5
  have hx4 : Kept s0 x4.2.2 := saveTasks_kept h1
  clear_value x2 x3 x4
  have hx5 : Kept s0 x5 := kept_ite (writeCopy_kept hx4) (kept_ite (writeCopy_kept h1) h1)
  clear_value x5
  exact kept_ite (tailRecord_kept hx5) hx5

theorem saveComplete_kept {s0 s : State} {a1 a2} (h : Kept s0 s) :
    Kept s0 (State.saveComplete s a1 a2) := by
  unfold State.saveComplete
  split
  · exact h
  · extract_lets x1
    have hx1 : Kept s0 x1 := (saveWrite_kept h)
    clear_value x1
    exact kept_ite (powerOff_kept hx1) (afterReset_kept (setFld_kept (moduleReset_kept hx1)))

theorem rstIn_kept {s0 s : State} {a1} (h : Kept s0 s) :
    Kept s0 (State.rstIn s a1) := by
  unfold State.rstIn
  extract_lets x1 x2
  clear_value x1
  have hx2 : Kept s0 x2 := (h.upd rfl rfl rfl rfl rfl)
  clear_value x2
  exact kept_ite h (kept_ite hx2 (saveStart_kept hx2))

theorem rstRelease_kept {s0 s : State} (h : Kept s0 s) :
    Kept s0 (State.rstRelease s) := by
  unfold State.rstRelease
  extract_lets x1 x2
  clear_value x1
  have hx2 : Kept s0 x2 := (h.upd rfl rfl rfl rfl rfl)
  clear_value x2
  exact kept_ite h (kept_ite (afterReset_kept hx2) hx2)

theorem latchStraps_kept {s0 s : State} {a1 a2 a3 a4} (h : Kept s0 s) :
    Kept s0 (State.latchStraps s a1 a2 a3 a4) := by
  unfold State.latchStraps
  extract_lets x1 x2 x3
  clear_value x1
  clear_value x2
  have hx3 : Kept s0 x3 := (h.upd rfl rfl rfl rfl rfl)
  clear_value x3
  exact latchPair_kept hx3

theorem powerGood_kept {s0 s : State} {a1 a2 a3 a4 a5} (h : Kept s0 s) :
    Kept s0 (State.powerGood s a1 a2 a3 a4 a5) := by
  unfold State.powerGood
  extract_lets x1 x2 x3 x4 x5 x6
  have hx2 : Kept s0 x2 := by
    unfold x2
    split
    · exact h.upd rfl rfl rfl rfl rfl
    · exact h
  clear_value x3
  have hx4 : Kept s0 x4 := (hx2.upd rfl rfl rfl rfl rfl)
  clear_value x4
  have hx5 : Kept s0 x5 := (kept_ite hx2 (setFld_kept hx2))
  clear_value x5
  have hx6 : Kept s0 x6 := (setFld_kept (latchStraps_kept hx5))
  clear_value x6
  split
  · split
    · rename_i z1 z2 z3 z4
      have hz3 : Kept s0 z3 := kept_snd z4 (saveTime_kept hx4)
      extract_lets x7 x8
      have hx7 : Kept s0 x7 := (latchStraps_kept (mgdPowerOn_kept hz3))
      clear_value x7
      have hx8 : Kept s0 x8 := (setFld_kept (setFld_kept hx7))
      clear_value x8
      exact kept_ite (runDying_kept hx8) (startUp_kept hx8)
  · exact kept_ite (kept_ite hx6 (startUp_kept hx6)) hx2

/-! ### Power -/

theorem feedChange_kept {s0 s : State} {a1 a2} (h : Kept s0 s) :
    Kept s0 (State.feedChange s a1 a2) := by
  unfold State.feedChange
  extract_lets x1 x2 x3 x4
  clear_value x1
  clear_value x2
  have hx3 : Kept s0 x3 := (kept_ite (setFlag_kept h) h)
  clear_value x3
  have hx4 : Kept s0 x4 := (kept_ite (setFlag_kept hx3) hx3)
  clear_value x4
  exact kept_ite h (kept_ite h (event_kept (setFlag_kept (setFlag_kept hx4))))

theorem overVoltage_kept {s0 s : State} (h : Kept s0 s) :
    Kept s0 (State.overVoltage s) := by
  unfold State.overVoltage
  exact kept_ite h (event_kept (setFlag_kept (setFlag_kept h)))

theorem inputDisc_kept {s0 s : State} {a1 a2} (h : Kept s0 s) :
    Kept s0 (State.inputDisc s a1 a2) := by
  unfold State.inputDisc
  exact h.upd rfl rfl rfl rfl rfl

theorem holdupEntry_kept {s0 s : State} (h : Kept s0 s) :
    Kept s0 (State.holdupEntry s) := by
  unfold State.holdupEntry
  extract_lets x1 x2
  clear_value x1
  have hx2 : Kept s0 x2 := (h.upd rfl rfl rfl rfl rfl)
  clear_value x2
  exact kept_ite h (event_kept (bump_kept (setFlag_kept (setFld_kept hx2))))

theorem feedRestored_kept {s0 s : State} (h : Kept s0 s) :
    Kept s0 (State.feedRestored s) := by
  unfold State.feedRestored
  extract_lets x1 x2
  clear_value x1
  have hx2 : Kept s0 x2 := (setFld_kept (setRegN_kept (setFld_kept h)))
  clear_value x2
  exact kept_ite h (event_kept hx2)

theorem saveTrigger_kept {s0 s : State} {a1} (h : Kept s0 s) :
    Kept s0 (State.saveTrigger s a1) := by
  unfold State.saveTrigger
  exact kept_ite (saveStart_kept h) h

theorem bankCharged_kept {s0 s : State} (h : Kept s0 s) :
    Kept s0 (State.bankCharged s) := by
  unfold State.bankCharged
  exact kept_ite h (kept_ite (setFld_kept h) (setFld_kept (h.upd rfl rfl rfl rfl rfl)))

theorem chargerFault_kept {s0 s : State} (h : Kept s0 s) :
    Kept s0 (State.chargerFault s) := by
  unfold State.chargerFault
  exact kept_ite h (event_kept (setFlag_kept (setFlag_kept (setFld_kept h))))

theorem chargerRetry_kept {s0 s : State} (h : Kept s0 s) :
    Kept s0 (State.chargerRetry s) := by
  unfold State.chargerRetry
  exact kept_ite (setFld_kept h) h

theorem rtest_kept {s0 s : State} {a1} (h : Kept s0 s) :
    Kept s0 (State.rtest s a1) := by
  unfold State.rtest
  exact kept_ite (h.upd rfl rfl rfl rfl rfl) (kept_ite (setFld_kept h) (setFlag_kept h))

theorem healthTest_kept {s0 s : State} {a1 a2} (h : Kept s0 s) :
    Kept s0 (State.healthTest s a1 a2) := by
  unfold State.healthTest
  extract_lets x1 x2 x3 x4 x5
  clear_value x1
  clear_value x2
  clear_value x3
  have hx4 : Kept s0 x4 := (setFlag_kept (setRegN_kept (setFld_kept h)))
  clear_value x4
  have hx5 : Kept s0 x5 := (kept_ite hx4 (setFlag_kept hx4))
  clear_value x5
  exact kept_ite h (event_kept (setFld_kept hx5))

theorem extMeasure_kept {s0 s : State} {a1} (h : Kept s0 s) :
    Kept s0 (State.extMeasure s a1) := by
  unfold State.extMeasure
  extract_lets x1 x2
  clear_value x1
  have hx2 : ∀ y0, Kept s0 (x2 y0) := (fun _ => (h.upd rfl rfl rfl rfl rfl))
  clear_value x2
  split
  · exact hx2 _
  · split
    · exact kept_ite (hx2 _) h
    · extract_lets x3
      clear_value x3
      exact kept_ite h (setFlag_kept (setFld_kept (hx2 _)))

theorem extCharged_kept {s0 s : State} {a1} (h : Kept s0 s) :
    Kept s0 (State.extCharged s a1) := by
  unfold State.extCharged
  extract_lets x1 x2
  clear_value x1
  have hx2 : Kept s0 x2 := (setFlag_kept (setFlag_kept (setFld_kept h)))
  clear_value x2
  exact kept_ite h (event_kept (setFlag_kept hx2))

theorem extFault_kept {s0 s : State} (h : Kept s0 s) :
    Kept s0 (State.extFault s) := by
  unfold State.extFault
  exact kept_ite h (event_kept (setFlag_kept (setFlag_kept h)))

theorem pwrMeasure_kept {s0 s : State} {a1 a2 a3 a4 a5 a6 a7} (h : Kept s0 s) :
    Kept s0 (State.pwrMeasure s a1 a2 a3 a4 a5 a6 a7) := by
  unfold State.pwrMeasure
  extract_lets x1 x2 x3 x4 x5 x6 x7
  have hx1 : Kept s0 x1 := (setRegN_kept (setRegN_kept h))
  clear_value x1
  have hx2 : Kept s0 x2 := (setRegN_kept (setRegN_kept hx1))
  clear_value x2
  have hx3 : Kept s0 x3 := (kept_ite (setFlag_kept hx2) hx2)
  clear_value x3
  have hx4 : Kept s0 x4 := (extMeasure_kept hx3)
  clear_value x4
  clear_value x5
  have hx6 : Kept s0 x6 := (setRegN_kept hx4)
  clear_value x6
  clear_value x7
  exact kept_ite h (hx6.upd rfl rfl rfl rfl rfl)

/-! ### System -/

theorem updRegion_kept {s0 s : State} {a1} (h : Kept s0 s) :
    Kept s0 (State.updRegion s a1) := by
  unfold State.updRegion
  exact kept_ite h (setFld_kept h)

theorem updFieldState_kept {s0 s : State} (h : Kept s0 s) :
    Kept s0 (State.updFieldState s) := by
  unfold State.updFieldState
  extract_lets x1
  have hx1 : Kept s0 x1 := (foldl_kept h (fun _ _ k0 => (setFld_kept k0)))
  clear_value x1
  exact frontUpdate_kept hx1

theorem tellFieldLoss_kept {s0 s : State} (h : Kept s0 s) :
    Kept s0 (State.tellFieldLoss s) := by
  unfold State.tellFieldLoss
  exact kept_ite (sendCtrl_kept h) h

theorem regionDown_kept {s0 s : State} {a1} (h : Kept s0 s) :
    Kept s0 (State.regionDown s a1) := by
  unfold State.regionDown
  extract_lets x1 x2 x3
  have hx1 : Kept s0 x1 := (foldl_kept h (fun _ _ k0 => (blockSubst_kept k0)))
  clear_value x1
  have hx2 : Kept s0 x2 := (linkLoss_kept (plnStop_kept (canAllOff_kept h)))
  clear_value x2
  clear_value x3
  exact kept_ite (tellFieldLoss_kept (updFieldState_kept hx1)) (kept_ite (mgdNetReset_kept (hx2.upd rfl rfl rfl rfl rfl)) (copeDown_kept h))

theorem regionFault_kept {s0 s : State} {a1} (h : Kept s0 s) :
    Kept s0 (State.regionFault s a1) := by
  unfold State.regionFault
  extract_lets x1 x2 x3 x4 x5 x6
  clear_value x1
  clear_value x2
  clear_value x3
  have hx4 : Kept s0 x4 := (h.upd rfl rfl rfl rfl rfl)
  clear_value x4
  have hx5 : Kept s0 x5 := (setFld_kept (bumpSat_kept (setFlag_kept hx4)))
  clear_value x5
  have hx6 : Kept s0 x6 := (foldl_kept hx5 (fun _ _ k0 => (setBit_kept k0)))
  clear_value x6
  exact kept_ite h (kept_ite (moduleFault_kept h) (updRelay_kept (regionDown_kept hx6)))

theorem flushHealth_kept {s0 s : State} (h : Kept s0 s) :
    Kept s0 (State.flushHealth s) := by
  unfold State.flushHealth
  extract_lets x1
  clear_value x1
  split
  · exact h
  · exact kept_ite h (fromP0_kept (h.upd rfl rfl rfl rfl rfl))

theorem regionUp_kept {s0 s : State} {a1} (h : Kept s0 s) :
    Kept s0 (State.regionUp s a1) := by
  unfold State.regionUp
  split
  · exact h
  · split
    · exact foldl_kept h (fun _ _ k0 => (startBlock_kept k0))
    · split
      · rename_i z1 z2 z3 z4
        have hz3 : Kept s0 z3 := kept_snd z4 (plnResume_kept (netStart_kept (canStart_kept h)))
        exact owdSignal_kept hz3

theorem copeReboot_kept {s0 s : State} (h : Kept s0 s) :
    Kept s0 (State.copeReboot s) := by
  unfold State.copeReboot
  extract_lets x1 x2 x3
  clear_value x1
  have hx2 : Kept s0 x2 := (lampTest_kept h)
  clear_value x2
  have hx3 : Kept s0 x3 := (kept_ite (takeBank_kept hx2) (updKeySt_kept (setFlag_kept (setFld_kept hx2))))
  clear_value x3
  exact copeEvent_kept (bootEvents_kept hx3)

theorem regionReady_kept {s0 s : State} {a1 a2} (h : Kept s0 s) :
    Kept s0 (State.regionReady s a1 a2) := by
  unfold State.regionReady
  extract_lets x1 x2 x3 x4 x5 x6
  clear_value x1
  have hx2 : Kept s0 x2 := (h.upd rfl rfl rfl rfl rfl)
  clear_value x2
  clear_value x3
  have hx4 : Kept s0 x4 := (h.upd rfl rfl rfl rfl rfl)
  clear_value x4
  have hx5 : Kept s0 x5 := (moduleFault_kept hx4)
  clear_value x5
  have hx6 : Kept s0 x6 := (updRegion_kept (regionUp_kept (setFld_kept hx4)))
  clear_value x6
  exact kept_ite h (kept_ite (updRelay_kept (updRegion_kept (copeReboot_kept (setFld_kept hx2)))) (kept_ite h (kept_ite (kept_ite (updFieldState_kept hx5) hx5) (kept_ite (updAllDrives_kept (updFieldState_kept hx6)) (flushHealth_kept hx6)))))

theorem isolateBlock_kept {s0 s : State} {a1} (h : Kept s0 s) :
    Kept s0 (State.isolateBlock s a1) := by
  unfold State.isolateBlock
  extract_lets x1 x2
  clear_value x1
  have hx2 : Kept s0 x2 := (event_kept (updFieldState_kept (blockSubst_kept h)))
  clear_value x2
  exact kept_ite (kept_ite (tellFieldLoss_kept hx2) hx2) (kept_ite (frontUpdate_kept h) (kept_ite (ladleFault_kept h) (kept_ite (evrIsolate_kept h) (kept_ite (plnStop_kept h) (kept_ite (canOff_kept h) (kept_ite (linkLoss_kept h) h))))))

theorem blockFault_kept {s0 s : State} {a1} (h : Kept s0 s) :
    Kept s0 (State.blockFault s a1) := by
  unfold State.blockFault
  extract_lets x1 x2
  clear_value x1
  have hx2 : Kept s0 x2 := (setBit_kept (setFlag_kept h))
  clear_value x2
  exact kept_ite (regionFault_kept h) (kept_ite (moduleFault_kept h) (kept_ite (setFlag_kept h) (updRegion_kept (isolateBlock_kept hx2))))

theorem reinitBlock_kept {s0 s : State} {a1} (h : Kept s0 s) :
    Kept s0 (State.reinitBlock s a1) := by
  unfold State.reinitBlock
  exact kept_ite (updAllDrives_kept (updFieldState_kept (startBlock_kept h))) (kept_ite (frontUpdate_kept h) (kept_ite (ladleInit_kept h) (kept_ite (evrReinit_kept h) (kept_ite (pmcStart_kept h) (kept_ite (plnStart_kept h) (kept_ite (canStartOne_kept h) h))))))

theorem blkrst_kept {s0 s : State} {a1} (h : Kept s0 s) :
    Kept s0 (State.blkrst s a1) := by
  unfold State.blkrst
  exact kept_ite h (foldl_kept h fun _ _ k0 => (kept_ite (updRegion_kept (reinitBlock_kept (setBit_kept k0))) k0))

theorem clockLoss_kept {s0 s : State} {a1} (h : Kept s0 s) :
    Kept s0 (State.clockLoss s a1) := by
  unfold State.clockLoss
  split
  · exact regionFault_kept h
  · exact regionFault_kept h
  · exact regionFault_kept h
  · exact moduleFault_kept h

theorem safClockLoss_kept {s0 s : State} (h : Kept s0 s) :
    Kept s0 (State.safClockLoss s) := by
  unfold State.safClockLoss
  exact moduleFault_kept h

theorem faultOf_kept {s0 s : State} {a1} (h : Kept s0 s) :
    Kept s0 (State.faultOf s a1) := by
  unfold State.faultOf
  split
  · exact moduleFault_kept h
  · exact moduleFault_kept h
  · exact moduleFault_kept h

theorem fabricTimeout_kept {s0 s : State} (h : Kept s0 s) :
    Kept s0 (State.fabricTimeout s) := by
  unfold State.fabricTimeout
  exact moduleFault_kept h

theorem promote_kept {s0 s : State} {a1 a2} (h : Kept s0 s) :
    Kept s0 (State.promote s a1 a2) := by
  unfold State.promote
  extract_lets x1 x2
  clear_value x1
  clear_value x2
  exact kept_ite h (pmc1_kept (h.upd rfl rfl rfl rfl rfl))

theorem drain_kept {s0 s : State} {a1} (h : Kept s0 s) :
    Kept s0 (State.drain s a1) := by
  unfold State.drain
  exact pmcCount_kept (setFld_kept h)

theorem domainGate_kept {s0 s : State} {a1 a2} (h : Kept s0 s) :
    Kept s0 (State.domainGate s a1 a2) := by
  unfold State.domainGate
  exact kept_ite h (kept_ite (drain_kept h) (setFld_kept h))

theorem domainWake_kept {s0 s : State} {a1} (h : Kept s0 s) :
    Kept s0 (State.domainWake s a1) := by
  unfold State.domainWake
  exact kept_ite (pmcCount_kept (setFld_kept h)) h

theorem domainOff_kept {s0 s : State} {a1} (h : Kept s0 s) :
    Kept s0 (State.domainOff s a1) := by
  unfold State.domainOff
  exact domainLost_kept (setFld_kept h)

theorem setDrainOff_kept {s0 s : State} {a1} (h : Kept s0 s) :
    Kept s0 (State.setDrainOff s a1) := by
  unfold State.setDrainOff
  exact h.upd rfl rfl rfl rfl rfl

theorem drainDone_kept {s0 s : State} {a1} (h : Kept s0 s) :
    Kept s0 (State.drainDone s a1) := by
  unfold State.drainDone
  exact kept_ite h (kept_ite (domainOff_kept (setDrainOff_kept h)) (setFld_kept h))

theorem drainLapse_kept {s0 s : State} {a1} (h : Kept s0 s) :
    Kept s0 (State.drainLapse s a1) := by
  unfold State.drainLapse
  exact kept_ite (setFld_kept h) h

theorem offReq_kept {s0 s : State} {a1 a2} (h : Kept s0 s) :
    Kept s0 (State.offReq s a1 a2) := by
  unfold State.offReq
  exact kept_ite h (kept_ite (setBit_kept h) (kept_ite (setDrainOff_kept h) (kept_ite (drain_kept (setDrainOff_kept h)) (domainOff_kept h))))

theorem onReq_kept {s0 s : State} {a1} (h : Kept s0 s) :
    Kept s0 (State.onReq s a1) := by
  unfold State.onReq
  exact kept_ite (setFld_kept (setDrainOff_kept h)) (kept_ite (h.upd rfl rfl rfl rfl rfl) h)

theorem pdreq_kept {s0 s : State} {a1 a2} (h : Kept s0 s) :
    Kept s0 (State.pdreq s a1 a2) := by
  unfold State.pdreq
  extract_lets x1
  have hx1 : Kept s0 x1 := (setRegN_kept h)
  clear_value x1
  exact kept_ite h (foldl_kept hx1 fun _ _ k0 => (kept_ite (offReq_kept k0) (onReq_kept k0)))

theorem coldInit_kept {s0 s : State} {a1} (h : Kept s0 s) :
    Kept s0 (State.coldInit s a1) := by
  unfold State.coldInit
  extract_lets x1 x2 x3 x4 x5
  clear_value x1
  have hx2 : Kept s0 x2 := (loadLoops_kept h)
  clear_value x2
  have hx3 : Kept s0 x3 := (ladleInit_kept h)
  clear_value x3
  have hx4 : Kept s0 x4 := (updFieldState_kept (startBlock_kept h))
  clear_value x4
  have hx5 : Kept s0 x5 := (canStartOne_kept h)
  clear_value x5
  exact kept_ite (kept_ite (cruStart_kept hx2) (cruStop_kept hx2)) (kept_ite (kept_ite hx3 (ladleDrop_kept hx3)) (kept_ite (kept_ite hx4 (convOff_kept hx4)) (kept_ite (kept_ite hx5 (canOff_kept hx5)) h)))

theorem powerUpDone_kept {s0 s : State} {a1} (h : Kept s0 s) :
    Kept s0 (State.powerUpDone s a1) := by
  unfold State.powerUpDone
  extract_lets x1 x2
  clear_value x1
  have hx2 : Kept s0 x2 := (h.upd rfl rfl rfl rfl rfl)
  clear_value x2
  exact kept_ite h (kept_ite hx2 (coldInit_kept (setFld_kept hx2)))

theorem upset_kept {s0 s : State} {a1 a2} (h : Kept s0 s) :
    Kept s0 (State.upset s a1 a2) := by
  unfold State.upset
  extract_lets x1
  clear_value x1
  split
  · exact h
  · exact kept_ite h (kept_ite (h.upd rfl rfl rfl rfl rfl) (h.upd rfl rfl rfl rfl rfl))
  · exact kept_ite h (h.upd rfl rfl rfl rfl rfl)

theorem scrub_kept {s0 s : State} {a1 a2} (h : Kept s0 s) :
    Kept s0 (State.scrub s a1 a2) := by
  unfold State.scrub
  split
  · exact h
  · extract_lets x1
    have hx1 : Kept s0 x1 := (pmcBytes_kept (memCount_kept (pmcCount_kept h)))
    clear_value x1
    exact kept_ite h (eccRead_kept (upset_kept hx1))

theorem pidxWrite_kept {s0 s : State} {a1 a2 a3} (h : Kept s0 s) :
    Kept s0 (State.pidxWrite s a1 a2 a3) := by
  unfold State.pidxWrite
  extract_lets x1 x2 x3
  have hx1 : Kept s0 x1 := (h.upd rfl rfl rfl rfl rfl)
  clear_value x1
  clear_value x2
  clear_value x3
  exact kept_ite (h.upd rfl rfl rfl rfl rfl) (kept_ite (setReg_kept hx1) (kept_ite (qLose_kept hx1) (setFlag_kept hx1)))

theorem cidxWrite_kept {s0 s : State} {a1 a2 a3} (h : Kept s0 s) :
    Kept s0 (State.cidxWrite s a1 a2 a3) := by
  unfold State.cidxWrite
  extract_lets x1 x2
  have hx1 : Kept s0 x1 := (h.upd rfl rfl rfl rfl rfl)
  clear_value x1
  clear_value x2
  exact kept_ite (h.upd rfl rfl rfl rfl rfl) (kept_ite (setReg_kept hx1) (kept_ite hx1 (setFlag_kept hx1)))

end Sys2Proof.Laws
end

