-- ==== Sys2Proof/Laws/KeptServices.lean ====
section
/-! SUPPORT. What every operation of the cope processor and the services keeps (`Kept`). -/

namespace Sys2Proof.Laws

open Sys2Proof.Machine

/-! ### Cope -/

theorem sensorChange_kept {s0 s : State} {a1 a2 a3} (h : Kept s0 s) :
    Kept s0 (State.sensorChange s a1 a2 a3) := by
  unfold State.sensorChange
  extract_lets x1
  clear_value x1
  exact kept_ite (copeEvent_kept h) (kept_ite (copeEvent_kept (setFlag_kept h)) (kept_ite (copeEvent_kept (setFlag_kept h)) h))

theorem putReading_kept {s0 s : State} {a1 a2 a3} (h : Kept s0 s) :
    Kept s0 (State.putReading s a1 a2 a3) := by
  unfold State.putReading
  split
  · rename_i z1 z2
    exact setRegN_kept h
  · split
    · rename_i z2 z3 z4 z5
      have hz4 : Kept s0 z4 := kept_snd z5 (draw_kept h)
      exact setRegN_kept hz4

theorem sensorTick_kept {s0 s : State} {a1 a2 a3} (h : Kept s0 s) :
    Kept s0 (State.sensorTick s a1 a2 a3) := by
  unfold State.sensorTick
  extract_lets x1 x2 x3 x4 x5 x6 x7 x8 x9 x10
  clear_value x1
  clear_value x2
  clear_value x3
  clear_value x4
  clear_value x5
  clear_value x6
  have hx7 : Kept s0 x7 := (h.upd rfl rfl rfl rfl rfl)
  clear_value x7
  have hx8 : Kept s0 x8 := (foldl_kept hx7 (fun _ _ k0 => (putReading_kept k0)))
  clear_value x8
  have hx9 : Kept s0 x9 := (setBit_kept (setBit_kept (setBit_kept hx8)))
  clear_value x9
  clear_value x10
  exact kept_ite hx9 (sensorChange_kept hx9)

theorem healthSend_kept {s0 s : State} (h : Kept s0 s) :
    Kept s0 (State.healthSend s) := by
  unfold State.healthSend
  extract_lets x1 x2 x3 x4 x5 x6
  have hx3 : Kept s0 x3 := h.upd rfl rfl rfl rfl rfl
  have hx4 : Kept s0 x4 := kept_ite (copeEvent_kept (setFlag_kept hx3)) h
  clear_value x4
  exact flushHealth_kept (hx4.upd rfl rfl rfl rfl rfl)

theorem copeTick_kept {s0 s : State} {a1} (h : Kept s0 s) :
    Kept s0 (State.copeTick s a1) := by
  unfold State.copeTick
  extract_lets x1 x2 x3 x4
  clear_value x1
  have hx2 : Kept s0 x2 := (foldl_kept h fun _ _ k0 => (sensorTick_kept k0))
  clear_value x2
  have hx3 : Kept s0 x3 := (sensorTick_kept hx2)
  clear_value x3
  have hx4 : Kept s0 x4 := (updFwVer_kept (setRegN_kept (bump_kept hx3)))
  clear_value x4
  exact kept_ite h (healthSend_kept (tickRelay_kept hx4))

theorem copeWatchdog_kept {s0 s : State} (h : Kept s0 s) :
    Kept s0 (State.copeWatchdog s) := by
  unfold State.copeWatchdog
  exact regionFault_kept h

theorem sessionEnd_kept {s0 s : State} (h : Kept s0 s) :
    Kept s0 (State.sessionEnd s) := by
  unfold State.sessionEnd
  exact kept_ite (copeEvent_kept (setFlag_kept h)) h

theorem mgmtWrong_kept {s0 s : State} (h : Kept s0 s) :
    Kept s0 (State.mgmtWrong s) := by
  unfold State.mgmtWrong
  extract_lets x1 x2 x3
  clear_value x1
  clear_value x2
  have hx3 : Kept s0 x3 := (h.upd rfl rfl rfl rfl rfl)
  clear_value x3
  exact copeEvent_kept (setFlag_kept hx3)

theorem loginLockExpiry_kept {s0 s : State} (h : Kept s0 s) :
    Kept s0 (State.loginLockExpiry s) := by
  unfold State.loginLockExpiry
  exact kept_ite (h.upd rfl rfl rfl rfl rfl) h

theorem refused_kept {s0 s : State} (h : Kept s0 s) :
    Kept s0 (State.refused s).2 := by
  unfold State.refused
  split
  · rename_i z1 z2 z3 z4
    have hz3 : Kept s0 z3 := kept_snd z4 (draw_kept h)
    dsimp only
    exact hz3

theorem copeHead_kept {s0 s : State} {a1} (h : Kept s0 s) :
    Kept s0 (State.copeHead s a1).2 := by
  unfold State.copeHead
  split
  · split
    · rename_i z1 z2 z3 z4
      have hz3 : Kept s0 z3 := kept_snd z4 (blockRead_kept h)
      exact hz3
  · exact h

theorem copeRead_kept {s0 s : State} {a1} (h : Kept s0 s) :
    Kept s0 (State.copeRead s a1).2 := by
  unfold State.copeRead
  split
  · exact h
  · exact h
  · exact copeHead_kept h
  · exact copeHead_kept h

theorem malformed_kept {s0 s : State} (h : Kept s0 s) :
    Kept s0 (State.malformed s) := by
  unfold State.malformed
  exact copeEvent_kept (setFlag_kept h)

theorem answerTo_kept {s0 s : State} {a1 a2 a3} (h : Kept s0 s) :
    Kept s0 (State.answerTo s a1 a2 a3) := by
  unfold State.answerTo
  extract_lets x1 x2
  clear_value x1
  clear_value x2
  split
  · exact h.out rfl rfl rfl rfl rfl
  · exact h
  · exact qOffer_kept h
  · exact qOffer_kept h

theorem copeCmd_kept {s0 s : State} {a1 a2 a3} (h : Kept s0 s)
    (ha3 : ∀ y0 y1, Kept s0 y0 → Kept s0 (a3 y0 y1).2) :
    Kept s0 (State.copeCmd s a1 a2 a3) := by
  unfold State.copeCmd
  extract_lets t x5 port
  have hx4 : Kept s0 t := copeRead_kept h
  have hx5 : Kept s0 x5 := by
    unfold x5
    split
    · exact bump_kept hx4
    · exact hx4
  clear_value x5
  have hm := malformed_kept hx5
  split
  · exact h
  · extract_lets c known
    refine kept_ite h (kept_ite hm (kept_ite (answerTo_kept hm) (kept_ite (kept_ite (answerTo_kept hm)
      (answerTo_kept hx5)) (kept_ite (answerTo_kept hx5) (kept_ite (answerTo_kept hx5)
      (kept_ite (answerTo_kept hx5) ?_))))))
    split
    rename_i e
    have hz := kept_snd e (ha3 _ _ hx5)
    exact answerTo_kept (kept_ite (malformed_kept hz) hz)

theorem copeServe_kept {s0 s : State} {a1 a2} (h : Kept s0 s)
    (ha2 : ∀ y0 y1 y2, Kept y0 y1 → Kept y0 (a2 y1 y2)) : Kept s0 (State.copeServe s a1 a2) := by
  unfold State.copeServe
  split
  · split
    · exact h
    · extract_lets t n
      have ht : Kept s t := ha2 s s _ Kept.refl
      obtain ⟨l, hl⟩ := ht.outbox
      have k := ha2 s0 s (CopeSrc.port ‹_›) h
      refine ⟨k.pending, k.free, ?_, k.regs, k.mem⟩
      show s0.outbox <+: t.outbox.take n ++ _
      rw [← hl, List.take_left]
      exact h.outbox.trans (List.prefix_append _ _)
  · exact ha2 _ _ _ h

theorem login_kept {s0 s : State} {a1} (h : Kept s0 s) :
    Kept s0 (State.login s a1).2 := by
  unfold State.login
  extract_lets x1 x2
  clear_value x1
  have hx2 : Kept s0 x2 := (h.upd rfl rfl rfl rfl rfl)
  clear_value x2
  split
  · dsimp only
    exact h
  · split
    · exact refused_kept h
    · split
      · dsimp only
        exact h
      · split
        · dsimp only
          exact copeEvent_kept (setFlag_kept hx2)
        · dsimp only
          exact mgmtWrong_kept h

theorem logout_kept {s0 s : State} {a1} (h : Kept s0 s) :
    Kept s0 (State.logout s a1).2 := by
  unfold State.logout
  dsimp only
  exact sessionEnd_kept h

theorem setMgmtPw_kept {s0 s : State} {a1} (h : Kept s0 s) :
    Kept s0 (State.setMgmtPw s a1).2 := by
  unfold State.setMgmtPw
  split
  · dsimp only
    exact h
  · split
    · dsimp only
      exact h
    · split
      · dsimp only
        exact h
      · split
        · dsimp only
          exact mgmtWrong_kept h
        · split
          · rename_i z8 z9 z10 z11
            have hz10 : Kept s0 z10 := kept_snd z11 (draw_kept h)
            split
            · rename_i z12 z13 z14 z15
              have hz14 : Kept s0 z14 := kept_snd z15 (draw_kept hz10)
              extract_lets x1 x2 x3
              clear_value x1
              clear_value x2
              have hx3 : Kept s0 x3 := (hz14.upd rfl rfl rfl rfl rfl)
              clear_value x3
              dsimp only
              exact setFlag_kept hx3

theorem health_kept {s0 s : State} {a1} (h : Kept s0 s) :
    Kept s0 (State.health s a1).2 := by
  unfold State.health
  dsimp only
  exact h

theorem copeReset_kept {s0 s : State} (h : Kept s0 s) :
    Kept s0 (State.copeReset s) := by
  unfold State.copeReset
  exact saveStart_kept h

theorem runctlAct_kept {s0 s : State} {a1 a2} (h : Kept s0 s) :
    Kept s0 (State.runctlAct s a1 a2).2 := by
  unfold State.runctlAct
  extract_lets x1 x2 x3 x4 x5
  clear_value x1
  clear_value x2
  clear_value x3
  clear_value x4
  have hx5 : Kept s0 x5 := (kept_ite (runctlWrite_kept h) (kept_ite (runctlWrite_kept h) (kept_ite (asPrimary_kept h (fun _ k0 => (resume_kept k0))) (kept_ite (asPrimary_kept h (fun _ k0 => (toStop_kept k0))) (runctlWrite_kept h)))))
  clear_value x5
  dsimp only
  exact hx5

theorem copeRunctl_kept {s0 s : State} {a1 a2} (h : Kept s0 s) :
    Kept s0 (State.copeRunctl s a1 a2).2 := by
  unfold State.copeRunctl
  split
  · rename_i z1 z2 z3 z4
    have hz3 : Kept s0 z3 := kept_snd z4 (runctlAct_kept h)
    dsimp only
    exact hz3

theorem keywsOpen_kept {s0 s : State} {a1} (h : Kept s0 s) :
    Kept s0 (State.keywsOpen s a1).2 := by
  unfold State.keywsOpen
  split
  · dsimp only
    exact h
  · dsimp only
    exact copeEvent_kept (setFlag_kept h)

theorem keywsWrite_kept {s0 s : State} {a1 a2} (h : Kept s0 s) :
    Kept s0 (State.keywsWrite s a1 a2).2 := by
  unfold State.keywsWrite
  extract_lets x1 x2 x3 x4 x5 x6 x7
  clear_value x1
  clear_value x2
  clear_value x3
  clear_value x4
  clear_value x5
  clear_value x6
  have hx7 : Kept s0 x7 := (kept_ite (h.upd rfl rfl rfl rfl rfl) (h.upd rfl rfl rfl rfl rfl))
  clear_value x7
  split
  · exact refused_kept h
  · dsimp only
    exact copeEvent_kept hx7

theorem keywsClose_kept {s0 s : State} {a1} (h : Kept s0 s) :
    Kept s0 (State.keywsClose s a1).2 := by
  unfold State.keywsClose
  split
  · dsimp only
    exact copeEvent_kept (setFlag_kept h)
  · exact refused_kept h

theorem copeDlStart_kept {s0 s : State} {a1} (h : Kept s0 s) :
    Kept s0 (State.copeDlStart s a1).2 := by
  unfold State.copeDlStart
  dsimp only
  exact dlStart_kept h

theorem dlStaged_kept {s0 s : State} {a1} (h : Kept s0 s)
    (ha1 : ∀ y0, Kept s0 y0 → Kept s0 (a1 y0)) :
    Kept s0 (State.dlStaged s a1).2 := by
  unfold State.dlStaged
  split
  · dsimp only
    exact ha1 _ h
  · exact refused_kept h

theorem copeDlData_kept {s0 s : State} {a1} (h : Kept s0 s) :
    Kept s0 (State.copeDlData s a1).2 := by
  unfold State.copeDlData
  exact dlStaged_kept h (fun _ k0 => (dlData_kept k0))

theorem copeDlApply_kept {s0 s : State} {a1} (h : Kept s0 s) :
    Kept s0 (State.copeDlApply s a1).2 := by
  unfold State.copeDlApply
  exact dlStaged_kept h (fun _ k0 => (dlApply_kept k0))

theorem copeDlAbort_kept {s0 s : State} {a1} (h : Kept s0 s) :
    Kept s0 (State.copeDlAbort s a1).2 := by
  unfold State.copeDlAbort
  exact dlStaged_kept h (fun _ k0 => (dlAbort_kept k0))

theorem setBank_kept {s0 s : State} {a1 a2} (h : Kept s0 s) :
    Kept s0 (State.setBank s a1 a2) := by
  unfold State.setBank
  exact kept_ite (h.upd rfl rfl rfl rfl rfl) (h.upd rfl rfl rfl rfl rfl)

theorem fwBegin_kept {s0 s : State} {a1} (h : Kept s0 s) :
    Kept s0 (State.fwBegin s a1).2 := by
  unfold State.fwBegin
  extract_lets x1
  clear_value x1
  split
  · dsimp only
    exact h
  · dsimp only
    exact copeEvent_kept (h.upd rfl rfl rfl rfl rfl)

theorem fwData_kept {s0 s : State} {a1} (h : Kept s0 s) :
    Kept s0 (State.fwData s a1).2 := by
  unfold State.fwData
  extract_lets x1 x2 x3 x4
  clear_value x1
  clear_value x2
  clear_value x3
  clear_value x4
  split
  · exact refused_kept h
  · dsimp only
    exact setBank_kept h

theorem fwInstall_kept {s0 s : State} {a1} (h : Kept s0 s) :
    Kept s0 (State.fwInstall s a1).2 := by
  unfold State.fwInstall
  extract_lets x1 x2 x3 x4 x5
  clear_value x1
  clear_value x2
  have hx3 : Kept s0 x3 := (h.upd rfl rfl rfl rfl rfl)
  clear_value x3
  clear_value x4
  have hx5 : Kept s0 x5 := (hx3.upd rfl rfl rfl rfl rfl)
  clear_value x5
  split
  · exact refused_kept h
  · split
    · dsimp only
      exact copeEvent_kept (setFlag_kept hx3)
    · dsimp only
      exact copeEvent_kept (updFwVer_kept (setFlag_kept hx5))

theorem keyChange_kept {s0 s : State} {a1 a2 a3 a4} (h : Kept s0 s) :
    Kept s0 (State.keyChange s a1 a2 a3 a4).2 := by
  unfold State.keyChange
  extract_lets x1 x2 x3
  clear_value x1
  clear_value x2
  have hx3 : Kept s0 x3 := (h.upd rfl rfl rfl rfl rfl)
  clear_value x3
  split
  · dsimp only
    exact h
  · split
    · exact refused_kept h
    · dsimp only
      exact copeEvent_kept (updKeySt_kept hx3)

theorem keyInstall_kept {s0 s : State} {a1} (h : Kept s0 s) :
    Kept s0 (State.keyInstall s a1).2 := by
  unfold State.keyInstall
  split
  · dsimp only
    exact h
  · exact keyChange_kept h

theorem keyRevoke_kept {s0 s : State} {a1} (h : Kept s0 s) :
    Kept s0 (State.keyRevoke s a1).2 := by
  unfold State.keyRevoke
  exact keyChange_kept h

theorem keyList_kept {s0 s : State} {a1} (h : Kept s0 s) :
    Kept s0 (State.keyList s a1).2 := by
  unfold State.keyList
  dsimp only
  exact h

theorem copeEvrClear_kept {s0 s : State} {a1} (h : Kept s0 s) :
    Kept s0 (State.copeEvrClear s a1).2 := by
  unfold State.copeEvrClear
  dsimp only
  exact partitionClear_kept h

theorem cursorCtl_kept {s0 s : State} {a1 a2 a3} (h : Kept s0 s) :
    Kept s0 (State.cursorCtl s a1 a2 a3) := by
  unfold State.cursorCtl
  split
  · exact cursorOldest_kept h
  · exact cursorSeq_kept h
  · exact cursorTime_kept h
  · exact cursorNewest_kept h
  · exact cursorAdvance_kept h
  · exact kept_ite h (h.upd rfl rfl rfl rfl rfl)

theorem copeEvrRead_kept {s0 s : State} {a1} (h : Kept s0 s) :
    Kept s0 (State.copeEvrRead s a1).2 := by
  unfold State.copeEvrRead
  extract_lets x1 x2
  have hx1 : Kept s0 x1 := (setRegN_kept h)
  clear_value x1
  have hx2 : Kept s0 x2 := (cursorFill_kept (cursorCtl_kept hx1))
  clear_value x2
  dsimp only
  exact hx2

theorem cmdReset_kept {s0 s : State} {a1} (h : Kept s0 s) :
    Kept s0 (State.cmdReset s a1) := by
  unfold State.cmdReset
  extract_lets x1 x2
  have hx1 : Kept s0 x1 := (copeCmd_kept h (fun _ _ k0 => k0))
  clear_value x1
  clear_value x2
  exact kept_ite (copeReset_kept hx1) hx1

theorem cmdFwInstall_kept {s0 s : State} {a1} (h : Kept s0 s) :
    Kept s0 (State.cmdFwInstall s a1) := by
  unfold State.cmdFwInstall
  extract_lets x1 x2
  have hx1 : Kept s0 x1 := (copeCmd_kept h (fun _ _ k0 => (fwInstall_kept k0)))
  clear_value x1
  clear_value x2
  exact kept_ite (copeReset_kept hx1) hx1

/-! ### Services -/

theorem svcHear_kept {s0 s : State} {a1} (h : Kept s0 s) :
    Kept s0 (State.svcHear s a1) := by
  unfold State.svcHear
  exact kept_ite (dupSource_kept h) h

theorem svcReply_kept {s0 s : State} {a1 a2 a3 a4} (h : Kept s0 s) :
    Kept s0 (State.svcReply s a1 a2 a3 a4) := by
  unfold State.svcReply
  extract_lets x1 x2
  clear_value x1
  clear_value x2
  exact sendFrame_kept h

theorem svcPass_kept {s0 s : State} {a1 a2 a3} (h : Kept s0 s) :
    Kept s0 (State.svcPass s a1 a2 a3).2 := by
  unfold State.svcPass
  split
  · exact h
  · exact rxPut_kept h

theorem svcNotEng_kept {s0 s : State} (h : Kept s0 s) :
    Kept s0 (State.svcNotEng s) := by
  unfold State.svcNotEng
  exact event_kept (setFlag_kept (bump_kept h))

theorem service_kept {s0 s : State} {a1 a2 a3 a4 a5 a6} (h : Kept s0 s)
    (ha6 : ∀ y0, Kept s0 y0 → Kept s0 (a6 y0).2) :
    Kept s0 (State.service s a1 a2 a3 a4 a5 a6) := by
  unfold State.service
  extract_lets x0 x1
  have hx0 : Kept s0 x0 := svcHear_kept h
  have hx1 : Kept s0 x1 := pmc1_kept hx0
  clear_value x1
  refine kept_ite hx0 (kept_ite (svcReply_kept (svcNotEng_kept hx1)) (kept_ite (svcReply_kept hx1)
    (kept_ite (svcReply_kept hx1) ?_)))
  split
  rename_i e
  have hz := kept_snd e (svcPass_kept hx1)
  refine kept_ite hz ?_
  split
  rename_i e
  have hy := kept_snd e (ha6 _ hz)
  exact kept_ite (svcReply_kept hy) hy

theorem svcUnknown_kept {s0 s : State} {a1 a2 a3} (h : Kept s0 s) :
    Kept s0 (State.svcUnknown s a1 a2 a3) :=
  kept_ite h (kept_ite (service_kept h fun _ k => k)
    (kept_ite (svcReply_kept (pmc1_kept (svcHear_kept h))) (svcHear_kept h)))

theorem coreTouch_kept {s0 s : State} {a1 a2 a3} (h : Kept s0 s) :
    Kept s0 (State.coreTouch s a1 a2 a3) := by
  unfold State.coreTouch
  split
  · exact h
  · split
    · rename_i z1 z2 z3 z4
      have hz3 : Kept s0 z3 := kept_snd z4 (busRead_kept h)
      exact kept_ite hz3 (moduleFault_kept hz3)

theorem readSym_kept {s0 s : State} {a1} (h : Kept s0 s) :
    Kept s0 (State.readSym s a1).2 := by
  unfold State.readSym
  extract_lets x1
  clear_value x1
  split
  · exact h
  · split
    · exact h
    · split
      · split
        · exact coreTouch_kept h

theorem readSyms_kept {s0 s : State} {a1} (h : Kept s0 s) : Kept s0 (State.readSyms s a1).2 := by
  induction a1 generalizing s with
  | nil => exact h
  | cons id ids ih => exact ih (readSym_kept h)

theorem svcRead_kept {s0 s : State} {a1} (h : Kept s0 s) : Kept s0 (State.svcRead s a1) :=
  service_kept h fun _ k => kept_ite_snd k (readSyms_kept k)

theorem svcForceSet_kept {s0 s : State} {a1} (h : Kept s0 s) :
    Kept s0 (State.svcForceSet s a1) := by
  unfold State.svcForceSet
  extract_lets x1
  clear_value x1
  refine service_kept ?_ ?_
  · exact h
  · intro w2_0 hw2
    split
    · dsimp only
      exact hw2
    · split
      · dsimp only
        exact hw2
      · dsimp only
        exact forceSet_kept hw2

theorem svcForceRelease_kept {s0 s : State} {a1} (h : Kept s0 s) :
    Kept s0 (State.svcForceRelease s a1) := by
  unfold State.svcForceRelease
  extract_lets x1
  clear_value x1
  refine service_kept ?_ ?_
  · exact h
  · intro w2_0 hw2
    split
    · dsimp only
      exact hw2
    · split
      · dsimp only
        exact hw2
      · split
        · dsimp only
          exact hw2
        · dsimp only
          exact forceRelease_kept hw2

theorem svcForceList_kept {s0 s : State} {a1} (h : Kept s0 s) :
    Kept s0 (State.svcForceList s a1) := by
  unfold State.svcForceList
  refine service_kept ?_ ?_
  · exact h
  · intro w2_0 hw2
    extract_lets x1
    clear_value x1
    dsimp only
    exact hw2

theorem svcCope_kept {s0 s : State} {a1 a2 a3 a4} (h : Kept s0 s)
    (ha4 : ∀ y0, Kept s0 y0 → Kept s0 (a4 y0).2) : Kept s0 (State.svcCope s a1 a2 a3 a4) :=
  service_kept h ha4

theorem svcDl_kept {s0 s : State} {a1} (h : Kept s0 s)
    (ha1 : ∀ y0, Kept s0 y0 → Kept s0 (a1 y0)) :
    Kept s0 (State.svcDl s a1).2 := by
  unfold State.svcDl
  extract_lets x1
  have hx1 : Kept s0 x1 := (ha1 _ h)
  clear_value x1
  split
  · dsimp only
    exact h
  · split
    · dsimp only
      exact hx1
    · dsimp only
      exact hx1

theorem svcDlStart_kept {s0 s : State} {a1} (h : Kept s0 s) :
    Kept s0 (State.svcDlStart s a1) := by
  unfold State.svcDlStart
  exact svcCope_kept h (fun _ k0 => (dlStart_kept k0))

theorem svcDlData_kept {s0 s : State} {a1} (h : Kept s0 s) :
    Kept s0 (State.svcDlData s a1) := by
  unfold State.svcDlData
  exact svcCope_kept h (fun _ k0 => (svcDl_kept k0 (fun _ k1 => (dlData_kept k1))))

theorem svcDlApply_kept {s0 s : State} {a1} (h : Kept s0 s) :
    Kept s0 (State.svcDlApply s a1) := by
  unfold State.svcDlApply
  exact svcCope_kept h (fun _ k0 => (svcDl_kept k0 (fun _ k1 => (dlApply_kept k1))))

theorem svcDlAbort_kept {s0 s : State} {a1} (h : Kept s0 s) :
    Kept s0 (State.svcDlAbort s a1) := by
  unfold State.svcDlAbort
  exact svcCope_kept h (fun _ k0 => (svcDl_kept k0 (fun _ k1 => (dlAbort_kept k1))))

theorem svcDlStatus_kept {s0 s : State} {a1} (h : Kept s0 s) :
    Kept s0 (State.svcDlStatus s a1) := by
  unfold State.svcDlStatus
  exact svcCope_kept h (fun _ k0 => k0)

theorem svcRunctl_kept {s0 s : State} {a1 a2} (h : Kept s0 s) :
    Kept s0 (State.svcRunctl s a1 a2) := by
  unfold State.svcRunctl
  refine svcCope_kept ?_ ?_
  · exact h
  · intro w2_0 hw2
    split
    · rename_i z1 z2 z3 z4
      have hz3 : Kept s0 z3 := kept_snd z4 (runctlAct_kept hw2)
      dsimp only
      exact hz3

theorem svcDiagStatus_kept {s0 s : State} {a1} (h : Kept s0 s) :
    Kept s0 (State.svcDiagStatus s a1) := by
  unfold State.svcDiagStatus
  exact service_kept h (fun _ k0 => k0)

theorem svcDiagEvents_kept {s0 s : State} {a1} (h : Kept s0 s) :
    Kept s0 (State.svcDiagEvents s a1) := by
  unfold State.svcDiagEvents
  exact service_kept h (fun _ k0 => k0)

/-! ### Link -/

theorem ctrlForce_kept {s0 s : State} {a1} (h : Kept s0 s) :
    Kept s0 (State.ctrlForce s a1) := by
  unfold State.ctrlForce
  exact kept_ite (forceArrives_kept h) h

theorem ctrlMode_kept {s0 s : State} {a1 a2 a3} (h : Kept s0 s) :
    Kept s0 (State.ctrlMode s a1 a2 a3) := by
  unfold State.ctrlMode
  exact kept_ite h (kept_ite (kept_ite (modeChange_kept h) (kept_ite (setFlag_kept h) h)) (kept_ite (enterSafe_kept h) (kept_ite (kept_ite (enterHalt_kept h) h) (kept_ite (kept_ite (enterStop_kept h) (beginStop_kept h)) h))))

theorem ctrlEpoch_kept {s0 s : State} {a1 a2 a3} (h : Kept s0 s) :
    Kept s0 (State.ctrlEpoch s a1 a2 a3) := by
  unfold State.ctrlEpoch
  exact kept_ite (setReg_kept (setFlag_kept h)) h

theorem ctrlEntry_kept {s0 s : State} {a1 a2 a3 a4} (h : Kept s0 s) :
    Kept s0 (State.ctrlEntry s a1 a2 a3 a4) := by
  unfold State.ctrlEntry
  extract_lets x1 x2 x3 x4
  clear_value x1
  clear_value x2
  have hx3 : Kept s0 x3 := (kept_ite (setRegN_kept h) h)
  clear_value x3
  have hx4 : Kept s0 x4 := (kept_ite (blockWrite_kept hx3) hx3)
  clear_value x4
  exact kept_ite h (qOffer_kept hx4)

theorem ctrlCheck_kept {s0 s : State} (h : Kept s0 s) :
    Kept s0 (State.ctrlCheck s) := by
  unfold State.ctrlCheck
  exact setFlag_kept h

theorem lostFrame_kept {s0 s : State} (h : Kept s0 s) :
    Kept s0 (State.lostFrame s) := by
  unfold State.lostFrame
  exact restartSync_kept (frameBad_kept h)

theorem ctrlFrame_kept {s0 s : State} {a1 a2} (h : Kept s0 s) :
    Kept s0 (State.ctrlFrame s a1 a2) := by
  unfold State.ctrlFrame
  extract_lets x1
  have hx1 : Kept s0 x1 := (frameGood_kept h)
  clear_value x1
  split
  · exact h
  · split
    · exact lostFrame_kept h
    · split
      · exact partnerStatus_kept hx1
      · exact ctrlForce_kept hx1
      · exact ctrlMode_kept hx1
      · exact ctrlEpoch_kept hx1
      · exact ctrlEntry_kept hx1
      · exact yieldTo_kept hx1
      · exact ctrlCheck_kept hx1
      · exact kept_ite (beginTake_kept hx1) hx1
      · exact partnerFieldLoss_kept hx1
      · exact partnerCellFault_kept hx1
      · exact startPass_kept hx1
      · exact dlForwarded_kept hx1
      · exact dlAnswer_kept hx1

theorem linkFrame_kept {s0 s : State} {a1 a2} (h : Kept s0 s)
    (ha2 : ∀ y0, Kept s0 y0 → Kept s0 (a2 y0)) :
    Kept s0 (State.linkFrame s a1 a2) := by
  unfold State.linkFrame
  exact kept_ite h (kept_ite (lostFrame_kept h) (ha2 _ (frameGood_kept h)))

end Sys2Proof.Laws
end

