-- ==== Sys2Proof/Laws/KeptBus.lean ====
section
/-! SUPPORT. What every operation of the register windows and the commands of several units keeps (`Kept`). -/

namespace Sys2Proof.Laws

open Sys2Proof.Machine

/-! ### Bus -/

theorem whileUp_kept {s0 s : State} {a1} (h : Kept s0 s)
    (ha1 : ∀ y0, Kept s0 y0 → Kept s0 (a1 y0)) :
    Kept s0 (State.whileUp s a1) := by
  unfold State.whileUp
  exact kept_ite (ha1 _ h) h

theorem whileBlock_kept {s0 s : State} {a1 a2} (h : Kept s0 s)
    (ha2 : ∀ y0, Kept s0 y0 → Kept s0 (a2 y0)) :
    Kept s0 (State.whileBlock s a1 a2) := by
  unfold State.whileBlock
  exact kept_ite (ha2 _ h) h

theorem busOk_kept {s0 s : State} {a1} (h : Kept s0 s) :
    Kept s0 (State.busOk s a1) := by
  unfold State.busOk
  exact h.upd rfl rfl rfl rfl rfl

theorem busErr_kept {s0 s : State} {a1} (h : Kept s0 s) :
    Kept s0 (State.busErr s a1) := by
  unfold State.busErr
  exact h.upd rfl rfl rfl rfl rfl

theorem issue_kept {s0 s : State} {a1 a2 a3} (h : Kept s0 s)
    (ha3 : ∀ y0, Kept s0 y0 → Kept s0 (a3 y0)) :
    Kept s0 (State.issue s a1 a2 a3) := by
  unfold State.issue
  exact kept_ite h (kept_ite (busErr_kept h) (ha3 _ h))

theorem only_kept {s0 s : State} {a1 a2} (h : Kept s0 s)
    (ha2 : ∀ y0, Kept s0 y0 → Kept s0 (a2 y0)) :
    Kept s0 (State.only s a1 a2) := by
  unfold State.only
  exact kept_ite (ha2 _ h) (busErr_kept h)

theorem w1c_kept {s0 s : State} {a1 a2 a3} (h : Kept s0 s) :
    Kept s0 (State.w1c s a1 a2 a3) := by
  unfold State.w1c
  exact setReg_kept h

theorem rw_kept {s0 s : State} {a1 a2 a3} (h : Kept s0 s) :
    Kept s0 (State.rw s a1 a2 a3) := by
  unfold State.rw
  exact setReg_kept h

theorem rwl_kept {s0 s : State} {a1 a2 a3} (h : Kept s0 s) :
    Kept s0 (State.rwl s a1 a2 a3) := by
  unfold State.rwl
  exact kept_ite (rw_kept h) h

theorem wakeFor_kept {s0 s : State} {a1} (h : Kept s0 s) :
    Kept s0 (State.wakeFor s a1) := by
  unfold State.wakeFor
  split
  · exact domainWake_kept h
  · exact h

theorem queueWrite_kept {s0 s : State} {a1 a2 a3 a4 a5} (h : Kept s0 s) :
    Kept s0 (State.queueWrite s a1 a2 a3 a4 a5) := by
  unfold State.queueWrite
  split
  · exact rwl_kept h
  · exact rwl_kept h
  · exact rwl_kept h
  · exact pidxWrite_kept h
  · exact cidxWrite_kept h
  · exact w1c_kept h
  · exact h

theorem sysWrite_kept {s0 s : State} {a1 a2 a3 a4} (h : Kept s0 s) :
    Kept s0 (State.sysWrite s a1 a2 a3 a4) := by
  unfold State.sysWrite
  split
  · exact queueWrite_kept h
  · split
    · exact runctlWrite_kept h
    · exact w1c_kept h
    · exact blkrst_kept h
    · exact pdreq_kept h
    · exact w1c_kept h
    · exact h

theorem pourWrite_kept {s0 s : State} {a1 a2 a3 a4} (h : Kept s0 s) :
    Kept s0 (State.pourWrite s a1 a2 a3 a4) := by
  unfold State.pourWrite
  split
  · exact pourDone_kept h
  · exact swTrig_kept h
  · exact only_kept h (fun _ k0 => (w1c_kept k0))
  · exact swapReq_kept h
  · exact only_kept h (fun _ k0 => (w1c_kept k0))
  · exact swapDone_kept h
  · exact only_kept h (fun _ k0 => k0)

theorem modeReq_kept {s0 s : State} {a1} (h : Kept s0 s) :
    Kept s0 (State.modeReq s a1) := by
  unfold State.modeReq
  exact kept_ite (enterHalt_kept h) (kept_ite (toStop_kept h) (kept_ite (enterSafe_kept h) (kept_ite (resume_kept h) h)))

theorem modectl_kept {s0 s : State} {a1 a2 a3} (h : Kept s0 s) :
    Kept s0 (State.modectl s a1 a2 a3) := by
  unfold State.modectl
  exact only_kept h (fun _ k0 => (asPrimary_kept k0 (fun _ k1 => (modeReq_kept k1))))

theorem dlctlWrite_kept {s0 s : State} {a1 a2} (h : Kept s0 s) :
    Kept s0 (State.dlctlWrite s a1 a2) := by
  unfold State.dlctlWrite
  refine dlctl_kept ?_ ?_
  · exact h
  · intro w2_0 hw2
    extract_lets x1 x2
    have hx1 : Kept s0 x1 := (kept_ite (dlAbort_kept hw2) hw2)
    clear_value x1
    have hx2 : Kept s0 x2 := (kept_ite (dlStart_kept hx1) hx1)
    clear_value x2
    exact kept_ite (dlApply_kept hx2) hx2

theorem forceRegWrite_kept {s0 s : State} {a1 a2 a3 a4} (h : Kept s0 s) :
    Kept s0 (State.forceRegWrite s a1 a2 a3 a4) := by
  unfold State.forceRegWrite
  exact only_kept h (fun _ k0 => (kept_ite (asPrimary_kept k0 (fun _ k1 => (kept_ite (setReg_kept k1) k1))) k0))

theorem prgWrite_kept {s0 s : State} {a1 a2 a3 a4 a5} (h : Kept s0 s) :
    Kept s0 (State.prgWrite s a1 a2 a3 a4 a5) := by
  unfold State.prgWrite
  split
  · exact kept_ite (forceCtlWrite_kept h) (forceRegWrite_kept h)
  · split
    · exact modectl_kept h
    · exact only_kept h (fun _ k0 => (w1c_kept k0))
    · exact dlctlWrite_kept h
    · exact h

theorem loopStatWrite_kept {s0 s : State} {a1 a2 a3} (h : Kept s0 s) :
    Kept s0 (State.loopStatWrite s a1 a2 a3) := by
  unfold State.loopStatWrite
  extract_lets x1 x2
  have hx1 : Kept s0 x1 := (kept_ite (clearPlaus_kept h) h)
  clear_value x1
  have hx2 : Kept s0 x2 := (kept_ite (clearNum_kept hx1) hx1)
  clear_value x2
  exact w1c_kept hx2

theorem cruWrite_kept {s0 s : State} {a1 a2 a3 a4} (h : Kept s0 s) :
    Kept s0 (State.cruWrite s a1 a2 a3 a4) := by
  unfold State.cruWrite
  exact only_kept h (fun _ k0 => (kept_ite (kept_ite (ownWrite_kept k0 (fun _ k1 => (setReg_kept k1))) (kept_ite (ownWrite_kept k0 (fun _ k1 => (loopStatWrite_kept k1))) k0)) (kept_ite (w1c_kept k0) k0)))

theorem relink_kept {s0 s : State} (h : Kept s0 s) :
    Kept s0 (State.relink s) := by
  unfold State.relink
  extract_lets x1 x2
  have hx1 : Kept s0 x1 := (clearRegs_kept h)
  clear_value x1
  have hx2 : Kept s0 x2 := (foldl_kept hx1 (fun _ _ k0 => (setFlag_kept k0)))
  clear_value x2
  exact linkTable_kept (setRegN_kept (setFld_kept hx2))

theorem descWrite_kept {s0 s : State} {a1 a2 a3 a4} (h : Kept s0 s) :
    Kept s0 (State.descWrite s a1 a2 a3 a4) := by
  unfold State.descWrite
  extract_lets x1 x2
  clear_value x1
  clear_value x2
  refine only_kept ?_ ?_
  · exact h
  · intro w0_0 hw0
    extract_lets x3
    have hx3 : Kept s0 x3 := (rwl_kept hw0)
    clear_value x3
    exact kept_ite hw0 (kept_ite (ownWrite_kept hw0 (fun _ k0 => (requestMode_kept k0))) (kept_ite (ownWrite_kept hw0 (fun _ k0 => (setReg_kept k0))) (kept_ite (relink_kept hx3) hx3)))

theorem chbWrite_kept {s0 s : State} {a1 a2 a3 a4 a5} (h : Kept s0 s) :
    Kept s0 (State.chbWrite s a1 a2 a3 a4 a5) := by
  unfold State.chbWrite
  extract_lets x1
  clear_value x1
  split
  · split
    · exact w1c_kept h
    · exact only_kept h (fun _ k0 => (trimWrite_kept k0))
    · exact h
  · exact kept_ite (only_kept h (fun _ k0 => (w1c_kept k0))) (kept_ite (only_kept h (fun _ k0 => (w1c_kept k0))) h)

theorem runWrite_kept {s0 s : State} {a1 a2 a3 a4 a5} (h : Kept s0 s) :
    Kept s0 (State.runWrite s a1 a2 a3 a4 a5) := by
  unfold State.runWrite
  split
  · exact only_kept h (fun _ k0 => (w1c_kept k0))
  · refine only_kept ?_ ?_
    · exact h
    · intro w0_0 hw0
      extract_lets x1
      have hx1 : Kept s0 x1 := (kept_ite (switchReq_kept hw0) hw0)
      clear_value x1
      exact kept_ite (resyncReq_kept hx1) hx1
  · exact only_kept h (fun _ k0 => k0)

theorem mgdWrite_kept {s0 s : State} {a1 a2 a3 a4 a5} (h : Kept s0 s) :
    Kept s0 (State.mgdWrite s a1 a2 a3 a4 a5) := by
  have may : ∀ f : State → State, (∀ t, Kept s0 t → Kept s0 (f t)) → Kept s0 (s.only (isApPriv a1 a2) f) :=
    fun f hf => only_kept h hf
  unfold State.mgdWrite
  dsimp only
  split
  · refine may _ fun t k => ?_
    split
    · exact armAlarm_kept k
    · exact setReg_kept k
  · split
    · exact may _ fun t k => w1c_kept k
    · refine may _ fun t k => ?_
      split
      · exact mgdSet_kept k
      · exact k
    · exact may _ fun t k => setReg_kept k
    · exact may _ fun t k => setReg_kept k
    · exact may _ fun t k => setReg_kept k
    · exact may _ fun t k => k

theorem canWrite_kept {s0 s : State} {a1 a2 a3 a4 a5} (h : Kept s0 s) :
    Kept s0 (State.canWrite s a1 a2 a3 a4 a5) := by
  unfold State.canWrite
  extract_lets x1 x2
  clear_value x1
  clear_value x2
  refine only_kept ?_ ?_
  · exact h
  · intro w0_0 hw0
    split
    · exact kept_ite (canTbCtl_kept hw0) (kept_ite (canTbWrite_kept hw0) hw0)
    · split
      · exact w1c_kept hw0
      · exact canCtl_kept hw0
      · exact canFltCtl_kept hw0
      · exact canTxReq_kept hw0
      · split
        · rename_i z1 z2 z3 z4
          have hz3 : Kept s0 z3 := kept_snd z4 (draw_kept hw0)
          exact canCancel_kept hz3
      · exact hw0

theorem ldlChanWrite_kept {s0 s : State} {a1 a2 a3 a4} (h : Kept s0 s) :
    Kept s0 (State.ldlChanWrite s a1 a2 a3 a4) := by
  unfold State.ldlChanWrite
  exact kept_ite (setFlag_kept h) (setReg_kept h)

theorem ldlWrite_kept {s0 s : State} {a1 a2 a3 a4} (h : Kept s0 s) :
    Kept s0 (State.ldlWrite s a1 a2 a3 a4) := by
  unfold State.ldlWrite
  extract_lets x1
  clear_value x1
  refine only_kept ?_ ?_
  · exact h
  · intro w2_0 hw2
    extract_lets x2
    have hx2 : Kept s0 x2 := (kept_ite (ladleAbort_kept hw2) hw2)
    clear_value x2
    split
    · split
      · exact ldlChanWrite_kept hw2
      · exact ldlChanWrite_kept hw2
      · exact kept_ite (ladleStart_kept hx2) hx2
      · exact ldlChanWrite_kept hw2
      · exact ldlChanWrite_kept hw2
      · exact hw2
    · split
      · exact w1c_kept hw2
      · exact kept_ite (ladleClrHalt_kept hw2) hw2
      · exact w1c_kept hw2
      · exact hw2

theorem evrWrite_kept {s0 s : State} {a1 a2 a3 a4 a5} (h : Kept s0 s) :
    Kept s0 (State.evrWrite s a1 a2 a3 a4 a5) := by
  unfold State.evrWrite
  extract_lets x1 x2
  clear_value x1
  clear_value x2
  exact kept_ite (kept_ite (cursorCtl_kept h) (kept_ite (only_kept h (fun _ k0 => (setReg_kept k0))) (busErr_kept h))) (kept_ite (only_kept h (fun _ k0 => (postCtl_kept k0))) (kept_ite (only_kept h (fun _ k0 => (postBufWrite_kept k0))) (kept_ite (only_kept h (fun _ k0 => (w1c_kept k0))) (kept_ite (partitionClear_kept h) (busErr_kept h)))))

theorem copeWrite_kept {s0 s : State} {a1 a2 a3 a4} (h : Kept s0 s) :
    Kept s0 (State.copeWrite s a1 a2 a3 a4) := by
  unfold State.copeWrite
  exact kept_ite (only_kept h (fun _ k0 => (w1c_kept k0))) (only_kept h (fun _ k0 => (kept_ite k0 (rw_kept k0))))

theorem pwrWrite_kept {s0 s : State} {a1 a2 a3 a4} (h : Kept s0 s) :
    Kept s0 (State.pwrWrite s a1 a2 a3 a4) := by
  unfold State.pwrWrite
  split
  · exact only_kept h (fun _ k0 => (w1c_kept k0))
  · exact kept_ite (rtest_kept h) (only_kept h (fun _ k0 => k0))
  · exact only_kept h (fun _ k0 => k0)

theorem errWrite_kept {s0 s : State} {a1 a2 a3 a4 a5} (h : Kept s0 s) :
    Kept s0 (State.errWrite s a1 a2 a3 a4 a5) := by
  unfold State.errWrite
  exact only_kept h (fun _ k0 => (kept_ite (w1c_kept k0) k0))

theorem safWrite_kept {s0 s : State} {a1 a2 a3 a4} (h : Kept s0 s) :
    Kept s0 (State.safWrite s a1 a2 a3 a4) := by
  unfold State.safWrite
  exact kept_ite (only_kept h (fun _ k0 => (w1c_kept k0))) (only_kept h (fun _ k0 => k0))

theorem patWrite_kept {s0 s : State} {a1 a2 a3 a4} (h : Kept s0 s) :
    Kept s0 (State.patWrite s a1 a2 a3 a4) := by
  unfold State.patWrite
  exact kept_ite (kept_ite (rw_kept h) h) h

theorem winWrite_kept {s0 s : State} {a1 a2 a3 a4 a5} (h : Kept s0 s) :
    Kept s0 (State.winWrite s a1 a2 a3 a4 a5) := by
  unfold State.winWrite
  extract_lets x1
  clear_value x1
  split
  · exact sysWrite_kept h
  · exact patWrite_kept h
  · exact pourWrite_kept h
  · exact prgWrite_kept h
  · exact cruWrite_kept h
  · exact descWrite_kept h
  · exact chbWrite_kept h
  · exact safWrite_kept h
  · exact busErr_kept h
  · exact runWrite_kept h
  · exact mgdWrite_kept h
  · exact errWrite_kept h
  · exact errWrite_kept h
  · exact canWrite_kept h
  · exact ldlWrite_kept h
  · exact evrWrite_kept h
  · exact pmcWrite_kept h
  · exact copeWrite_kept h
  · exact pwrWrite_kept h

theorem unpair_kept {s0 s : State} (h : Kept s0 s) :
    Kept s0 (State.unpair s) := by
  unfold State.unpair
  exact h.upd rfl rfl rfl rfl rfl

theorem regWrite_kept {s0 s : State} {a1 a2 a3 a4} (h : Kept s0 s) :
    Kept s0 (State.regWrite s a1 a2 a3 a4) := by
  unfold State.regWrite
  extract_lets x1
  have hx1 : Kept s0 x1 := (unpair_kept h)
  clear_value x1
  split
  · exact busErr_kept hx1
  · exact kept_ite (busErr_kept hx1) (winWrite_kept (busOk_kept (served_kept (wakeFor_kept hx1))))

theorem liRead_kept {s0 s : State} {a1} (h : Kept s0 s) :
    Kept s0 (State.liRead s a1) := by
  unfold State.liRead
  extract_lets x1 x2
  have hx1 : Kept s0 x1 := (busOk_kept h)
  clear_value x1
  clear_value x2
  exact hx1.upd rfl rfl rfl rfl rfl

theorem liHiRead_kept {s0 s : State} {a1} (h : Kept s0 s) :
    Kept s0 (State.liHiRead s a1) := by
  unfold State.liHiRead
  extract_lets x1
  clear_value x1
  exact unpair_kept (busOk_kept h)

theorem fabGroup_kept {s0 s : State} {a1 a2 a3} (h : Kept s0 s) :
    Kept s0 (State.fabGroup s a1 a2 a3) := by
  unfold State.fabGroup
  split
  · split
    · rename_i z1 z2 z3 z4
      have hz3 : Kept s0 z3 := kept_snd z4 (draw_kept h)
      exact setFld_kept hz3
  · exact setFld_kept h

theorem fabCapture_kept {s0 s : State} (h : Kept s0 s) :
    Kept s0 (State.fabCapture s) := by
  unfold State.fabCapture
  extract_lets x1 x2 x3 x4 x5
  clear_value x1
  have hx2 : Kept s0 x2 := (fabGroup_kept h)
  clear_value x2
  have hx3 : Kept s0 x3 := (fabGroup_kept hx2)
  clear_value x3
  have hx4 : Kept s0 x4 := (fabGroup_kept hx3)
  clear_value x4
  have hx5 : Kept s0 x5 := (fabGroup_kept hx4)
  clear_value x5
  exact fabGroup_kept hx5

theorem winRead_kept {s0 s : State} {a1 a2 a3 a4} (h : Kept s0 s) :
    Kept s0 (State.winRead s a1 a2 a3 a4) := by
  unfold State.winRead
  extract_lets x1 x2 x3 x4
  clear_value x1
  have hx2 : Kept s0 x2 := (kept_ite (fabCapture_kept h) h)
  clear_value x2
  have hx3 : Kept s0 x3 := (kept_ite (foxCapture_kept h) h)
  clear_value x3
  have hx4 : Kept s0 x4 := (kept_ite (tnsCapture_kept h) h)
  clear_value x4
  split
  · exact kept_ite (liRead_kept h) (kept_ite (liHiRead_kept h) (unpair_kept (busOk_kept h)))
  · exact unpair_kept (busOk_kept hx2)
  · exact unpair_kept (kept_ite (pmcTask_kept h) (pmcReadBy_kept h))
  · exact unpair_kept (busOk_kept hx3)
  · exact unpair_kept (busOk_kept hx4)
  · exact unpair_kept (busOk_kept h)

theorem regRead_kept {s0 s : State} {a1 a2 a3} (h : Kept s0 s) :
    Kept s0 (State.regRead s a1 a2 a3) := by
  unfold State.regRead
  split
  · exact unpair_kept (busErr_kept h)
  · exact kept_ite (unpair_kept (busErr_kept h)) (winRead_kept (served_kept (wakeFor_kept h)))

theorem memUe_kept {s0 s : State} {a1 a2} (h : Kept s0 s) :
    Kept s0 (State.memUe s a1 a2) := by
  unfold State.memUe
  extract_lets x1
  have hx1 : Kept s0 x1 := (busErr_kept h)
  clear_value x1
  split
  · exact moduleFault_kept hx1
  · exact hx1

theorem memRead_kept {s0 s : State} {a1 a2 a3 a4} (h : Kept s0 s) :
    Kept s0 (State.memRead s a1 a2 a3 a4) := by
  unfold State.memRead
  split
  · rename_i z1 z2 z3 z4
    have hz3 : Kept s0 z3 := kept_snd z4 (hwRead_kept (memTraffic_kept (upset_kept (wakeFor_kept h))))
    exact busOk_kept hz3
  · rename_i z5 z6 z7
    have hz6 : Kept s0 z6 := kept_snd z7 (hwRead_kept (memTraffic_kept (upset_kept (wakeFor_kept h))))
    exact memUe_kept hz6

theorem memWrite_kept {s0 s : State} {a1 a2 a3 a4} (h : Kept s0 s) :
    Kept s0 (State.memWrite s a1 a2 a3 a4) := by
  unfold State.memWrite
  split
  · rename_i z1 z2 z3
    have hz2 : Kept s0 z2 := kept_snd z3 (hwWrite_kept (memTraffic_kept (upset_kept (wakeFor_kept h))))
    exact busOk_kept (markDirty_kept hz2)
  · rename_i z4 z5 z6
    have hz5 : Kept s0 z5 := kept_snd z6 (hwWrite_kept (memTraffic_kept (upset_kept (wakeFor_kept h))))
    exact memUe_kept hz5

theorem cacheCe_kept {s0 s : State} {a1} (h : Kept s0 s) :
    Kept s0 (State.cacheCe s a1) := by
  unfold State.cacheCe
  exact event_kept (bumpSat_kept h)

theorem fillLines_kept {s0 s : State} {a1 a2} (h : Kept s0 s) :
    Kept s0 (State.fillLines s a1 a2).2 := by
  induction a2 generalizing s with
  | nil => exact h
  | cons l ls ih =>
    unfold State.fillLines
    have hw := hwRead_kept (a1 := 64 * l) (a2 := 64) (pmc1_kept (a1 := a1) (a2 := 0x13)
      (transfer_kept (a1 := issAp a1) (a2 := 64 * l) (a3 := 64) (a4 := false) (wakeFor_kept (a1 := 64 * l) h)))
    split
    · exact ih h
    · split
      · rename_i e
        exact ih (setLine_kept (kept_snd e hw))
      · rename_i e
        exact kept_snd e hw

theorem coreUpset_kept {s0 s : State} {a1 a2 a3 a4} (h : Kept s0 s) :
    Kept s0 (State.coreUpset s a1 a2 a3 a4).2 := by
  unfold State.coreUpset
  split
  · exact upset_kept h
  · split
    · exact h
    · exact cacheCe_kept h
    · exact moduleFault_kept h

theorem coreRead_kept {s0 s : State} {a1 a2 a3 a4} (h : Kept s0 s) :
    Kept s0 (State.coreRead s a1 a2 a3 a4) := by
  unfold State.coreRead
  split
  · rename_i z1 z2 z3
    have hz2 : Kept s0 z2 := kept_snd z3 (coreUpset_kept h)
    exact busErr_kept hz2
  · rename_i z4 z5 z6
    have hz5 : Kept s0 z5 := kept_snd z6 (coreUpset_kept h)
    split
    · rename_i z7 z8 z9
      have hz8 : Kept s0 z8 := kept_snd z9 (fillLines_kept hz5)
      exact memUe_kept hz8
    · rename_i z10 z11 z12
      have hz11 : Kept s0 z11 := kept_snd z12 (fillLines_kept hz5)
      exact busOk_kept hz11

theorem coreWrite_kept {s0 s : State} {a1 a2 a3 a4} (h : Kept s0 s) :
    Kept s0 (State.coreWrite s a1 a2 a3 a4) := by
  unfold State.coreWrite
  extract_lets x1
  have hx1 : Kept s0 x1 := (memWrite_kept h)
  clear_value x1
  split
  · split
    · rename_i z1 z2 z3
      have hz2 : Kept s0 z2 := kept_snd z3 (coreUpset_kept h)
      exact busErr_kept hz2
    · rename_i z4 z5 z6
      have hz5 : Kept s0 z5 := kept_snd z6 (coreUpset_kept h)
      split
      · rename_i z7 z8 z9
        have hz8 : Kept s0 z8 := kept_snd z9 (fillLines_kept hz5)
        exact memUe_kept hz8
      · rename_i z10 z11 z12
        have hz11 : Kept s0 z11 := kept_snd z12 (fillLines_kept hz5)
        exact busOk_kept (intoLines_kept hz11)
  · exact kept_ite hx1 (intoLines_kept hx1)

theorem readFrom_kept {s0 s : State} {a1 a2 a3 a4} (h : Kept s0 s) :
    Kept s0 (State.readFrom s a1 a2 a3 a4) := by
  unfold State.readFrom
  split
  · exact busErr_kept (granted_kept h)
  · split
    · exact kept_ite (coreRead_kept h) (memRead_kept h)
    · exact memRead_kept h

theorem writeTo_kept {s0 s : State} {a1 a2 a3 a4} (h : Kept s0 s) :
    Kept s0 (State.writeTo s a1 a2 a3 a4) := by
  unfold State.writeTo
  split
  · exact busErr_kept (granted_kept h)
  · split
    · exact kept_ite (coreWrite_kept h) (memWrite_kept h)
    · exact memWrite_kept h

theorem access_kept {s0 s : State} {a1 a2 a3 a4 a5 a6} (h : Kept s0 s) :
    Kept s0 (State.access s a1 a2 a3 a4 a5 a6) := by
  unfold State.access
  split
  · exact unpair_kept (busOk_kept h)
  · refine issue_kept ?_ ?_
    · exact h
    · intro w0_0 hw0
      extract_lets x1 x2
      have hx1 : Kept s0 x1 := (granted_kept hw0)
      clear_value x1
      have hx2 : Kept s0 x2 := (unpair_kept hw0)
      clear_value x2
      split
      · split
        · exact kept_ite (regWrite_kept hx1) (unpair_kept (busErr_kept hx1))
        · exact kept_ite (regRead_kept hx1) (unpair_kept (busErr_kept hx1))
      · split
        · exact writeTo_kept hx2
        · exact readFrom_kept hx2

theorem cacheOp_kept {s0 s : State} {a1 a2} (h : Kept s0 s)
    (ha2 : ∀ y0 y1, Kept s0 y0 → Kept s0 (a2 y0 y1)) :
    Kept s0 (State.cacheOp s a1 a2) := by
  unfold State.cacheOp
  split
  · exact ha2 _ _ h
  · exact h

theorem slew_kept {s0 s : State} (h : Kept s0 s) :
    Kept s0 (State.slew s) := by
  unfold State.slew
  extract_lets x1 x2
  clear_value x1
  clear_value x2
  exact kept_ite h (kept_ite (updAligned_kept (h.upd rfl rfl rfl rfl rfl)) (kept_ite (updAligned_kept (h.upd rfl rfl rfl rfl rfl)) h))

theorem ageTick_kept {s0 s : State} (h : Kept s0 s) :
    Kept s0 (State.ageTick s) := by
  unfold State.ageTick
  exact kept_ite (bumpSat_kept h) h

theorem statusTick_kept {s0 s : State} (h : Kept s0 s) :
    Kept s0 (State.statusTick s) := by
  unfold State.statusTick
  exact kept_ite (sendCtrl_kept h) h

theorem tick_kept {s0 s : State} (h : Kept s0 s) :
    Kept s0 (State.tick s) := by
  unfold State.tick
  extract_lets x1 x2
  have hx1 : Kept s0 x1 := (h.upd rfl rfl rfl rfl rfl)
  clear_value x1
  have hx2 : Kept s0 x2 := (mgdTick_kept hx1)
  clear_value x2
  exact kept_ite h (kept_ite hx2 (dupForget_kept (gateTick_kept (supTick_kept (ptpTick_kept (linkTick_kept (passTick_kept (statusTick_kept (ageTick_kept (wavesReady_kept (canTick_kept (slew_kept hx2))))))))))))

/-! ### Commands -/

theorem whileOn_kept {s0 s : State} {a1} (h : Kept s0 s)
    (ha1 : ∀ y0, Kept s0 y0 → Kept s0 (a1 y0)) :
    Kept s0 (State.whileOn s a1) := by
  unfold State.whileOn
  exact kept_ite (ha1 _ h) h

theorem withFrame_kept {s0 s : State} {a1 a2} (h : Kept s0 s)
    (ha2 : ∀ y0, Kept s0 y0 → Kept s0 (a2 y0)) :
    Kept s0 (State.withFrame s a1 a2) := by
  unfold State.withFrame
  exact kept_ite (ha2 _ h) h

theorem busCmd_kept {s0 s : State} {a1 a2 a3} (h : Kept s0 s)
    (ha3 : ∀ y0, Kept s0 y0 → Kept s0 (a3 y0)) :
    Kept s0 (State.busCmd s a1 a2 a3) := by
  unfold State.busCmd
  exact issue_kept (unpair_kept h) (fun _ k0 => (ha3 _ (busOk_kept (served_kept (granted_kept k0)))))

theorem taskCmd_kept {s0 s : State} {a1 a2 a3} (h : Kept s0 s)
    (ha3 : ∀ y0, Kept s0 y0 → Kept s0 (a3 y0)) :
    Kept s0 (State.taskCmd s a1 a2 a3) := by
  unfold State.taskCmd
  exact ha3 _ (busOk_kept (served_kept (granted_kept (unpair_kept h))))

theorem regCmd_kept {s0 s : State} {a1 a2 a3} (h : Kept s0 s)
    (ha3 : ∀ y0, Kept s0 y0 → Kept s0 (a3 y0)) :
    Kept s0 (State.regCmd s a1 a2 a3) := by
  unfold State.regCmd
  refine issue_kept ?_ ?_
  · exact unpair_kept h
  · intro w0_0 hw0
    extract_lets x1
    have hx1 : Kept s0 x1 := (granted_kept hw0)
    clear_value x1
    split
    · exact busErr_kept hx1
    · exact kept_ite (busErr_kept hx1) (ha3 _ (busOk_kept (served_kept (wakeFor_kept hx1))))

theorem readCmd_kept {s0 s : State} {a1 a2} (h : Kept s0 s) :
    Kept s0 (State.readCmd s a1 a2) := by
  unfold State.readCmd
  exact issue_kept h (fun _ k0 => (regRead_kept (granted_kept k0)))

theorem busAccess_kept {s0 s : State} {a1 a2 a3 a4 a5} (h : Kept s0 s) :
    Kept s0 (State.busAccess s a1 a2 a3 a4 a5) := by
  unfold State.busAccess
  split
  · exact access_kept h
  · exact access_kept h
  · exact cacheOp_kept (unpair_kept h) (fun _ _ k0 => (cacheClean_kept k0))
  · exact cacheOp_kept (unpair_kept h) (fun _ _ k0 => (cacheInval_kept k0))
  · exact cacheOp_kept (unpair_kept h) (fun _ _ k0 => (cacheFlush_kept k0))

theorem atEntry_kept {s0 s : State} {a1 a2} (h : Kept s0 s)
    (ha2 : ∀ y0 y1, Kept s0 y0 → Kept s0 (a2 y0 y1)) :
    Kept s0 (State.atEntry s a1 a2) := by
  unfold State.atEntry
  split
  · exact ha2 _ _ h
  · exact h

theorem safetyTick_kept {s0 s : State} {a1} (h : Kept s0 s) :
    Kept s0 (State.safetyTick s a1) := by
  unfold State.safetyTick
  split
  · rename_i z1 z2 z3 z4
    have hz3 : Kept s0 z3 := kept_snd z4 (safetyCycle_kept h)
    exact moduleFault_kept hz3
  · rename_i z5 z6 z7
    have hz6 : Kept s0 z6 := kept_snd z7 (safetyCycle_kept h)
    exact safDemand_kept hz6

theorem latchLost_kept {s0 s : State} (h : Kept s0 s) :
    Kept s0 (State.latchLost s) := by
  unfold State.latchLost
  exact kept_ite h (frameBad_kept h)

theorem loopHistory_kept {s0 s : State} {a1 a2 a3 a4} (h : Kept s0 s) :
    Kept s0 (State.loopHistory s a1 a2 a3 a4) := by
  unfold State.loopHistory
  extract_lets x1
  clear_value x1
  exact kept_ite (setLoop_kept h) h

theorem copyUnit_kept {s0 s : State} {a1 a2 a3 a4} (h : Kept s0 s) :
    Kept s0 (State.copyUnit s a1 a2 a3 a4) := by
  unfold State.copyUnit
  extract_lets x1
  have hx1 : Kept s0 x1 := (copyFrame_kept h)
  clear_value x1
  exact foldl_kept hx1 (fun _ _ k0 => (loopHistory_kept (loopRecord_kept k0)))

theorem pathDelay_kept {s0 s : State} {a1 a2} (h : Kept s0 s) :
    Kept s0 (State.pathDelay s a1 a2) := by
  unfold State.pathDelay
  extract_lets x1
  clear_value x1
  exact kept_ite (setReg_kept h) h

theorem subscriptionStale_kept {s0 s : State} {a1} (h : Kept s0 s) :
    Kept s0 (State.subscriptionStale s a1) := by
  unfold State.subscriptionStale
  split
  · rename_i z1 z2 z3 z4
    have hz3 : Kept s0 z3 := kept_snd z4 (subStale_kept h)
    exact owdSignal_kept hz3

theorem connWatchdog_kept {s0 s : State} {a1} (h : Kept s0 s) :
    Kept s0 (State.connWatchdog s a1) := by
  unfold State.connWatchdog
  split
  · exact safMsgWd_kept h
  · exact h

end Sys2Proof.Laws
end

