-- ==== Sys2Proof/Laws/KeptCommands.lean ====
section
/-! SUPPORT. What the meaning of every command keeps (`Kept`). -/

namespace Sys2Proof.Laws

open Sys2Proof.Machine

/-! ### CmdSystem -/

theorem execSubWordAccess_kept {s0 s t : State} {a1 a2 a3 a4} (h : Kept s0 s)
    (e : execSubWordAccess a1 a2 a3 a4 s = .next t) : Kept s0 t := by
  unfold execSubWordAccess at e
  cases e
  exact whileUp_kept h (fun _ k0 => (access_kept k0))

theorem execRegisterWrite_kept {s0 s t : State} {a1 a2 a3 a4} (h : Kept s0 s)
    (e : execRegisterWrite a1 a2 a3 a4 s = .next t) : Kept s0 t := by
  unfold execRegisterWrite at e
  cases e
  exact whileUp_kept h (fun _ k0 => (access_kept k0))

theorem execMemoryAccess_kept {s0 s t : State} {a1 a2 a3 a4 a5} (h : Kept s0 s)
    (e : execMemoryAccess a1 a2 a3 a4 a5 s = .next t) : Kept s0 t := by
  unfold execMemoryAccess at e
  cases e
  exact whileUp_kept h (fun _ k0 => (busAccess_kept k0))

theorem execScrubRead_kept {s0 s t : State} {a1 a2} (h : Kept s0 s)
    (e : execScrubRead a1 a2 s = .next t) : Kept s0 t := by
  unfold execScrubRead at e
  cases e
  exact whileUp_kept h (fun _ k0 => (scrub_kept k0))

theorem execModuleFault_kept {s0 s t : State} {a1} (h : Kept s0 s)
    (e : execModuleFault a1 s = .next t) : Kept s0 t := by
  unfold execModuleFault at e
  cases e
  exact whileUp_kept h (fun _ k0 => (faultOf_kept k0))

theorem execBlockFault_kept {s0 s t : State} {a1} (h : Kept s0 s)
    (e : execBlockFault a1 s = .next t) : Kept s0 t := by
  unfold execBlockFault at e
  cases e
  exact whileUp_kept h (fun _ k0 => (blockFault_kept k0))

theorem execRegionReset_kept {s0 s t : State} {a1} (h : Kept s0 s)
    (e : execRegionReset a1 s = .next t) : Kept s0 t := by
  unfold execRegionReset at e
  cases e
  exact whileUp_kept h (fun _ k0 => (regionFault_kept k0))

theorem execRegionResetComplete_kept {s0 s t : State} {a1 a2} (h : Kept s0 s)
    (e : execRegionResetComplete a1 a2 s = .next t) : Kept s0 t := by
  unfold execRegionResetComplete at e
  cases e
  exact whileUp_kept h (fun _ k0 => (regionReady_kept k0))

theorem execClockLoss_kept {s0 s t : State} {a1} (h : Kept s0 s)
    (e : execClockLoss a1 s = .next t) : Kept s0 t := by
  unfold execClockLoss at e
  cases e
  exact whileUp_kept h (fun _ k0 => (clockLoss_kept k0))

theorem execSafClockLoss_kept {s0 s t : State} (h : Kept s0 s)
    (e : execSafClockLoss s = .next t) : Kept s0 t := by
  unfold execSafClockLoss at e
  cases e
  exact whileUp_kept h (fun _ k0 => (safClockLoss_kept k0))

theorem execFabricTimeout_kept {s0 s t : State} (h : Kept s0 s)
    (e : execFabricTimeout s = .next t) : Kept s0 t := by
  unfold execFabricTimeout at e
  cases e
  exact whileUp_kept h (fun _ k0 => (fabricTimeout_kept k0))

theorem execFabricPromotion_kept {s0 s t : State} {a1 a2} (h : Kept s0 s)
    (e : execFabricPromotion a1 a2 s = .next t) : Kept s0 t := by
  unfold execFabricPromotion at e
  cases e
  exact whileUp_kept h (fun _ k0 => (promote_kept k0))

theorem execDomainGate_kept {s0 s t : State} {a1 a2} (h : Kept s0 s)
    (e : execDomainGate a1 a2 s = .next t) : Kept s0 t := by
  unfold execDomainGate at e
  cases e
  exact whileUp_kept h (fun _ k0 => (domainGate_kept k0))

theorem execDomainWake_kept {s0 s t : State} {a1} (h : Kept s0 s)
    (e : execDomainWake a1 s = .next t) : Kept s0 t := by
  unfold execDomainWake at e
  cases e
  exact whileUp_kept h (fun _ k0 => (domainWake_kept k0))

theorem execDrainComplete_kept {s0 s t : State} {a1} (h : Kept s0 s)
    (e : execDrainComplete a1 s = .next t) : Kept s0 t := by
  unfold execDrainComplete at e
  cases e
  exact whileUp_kept h (fun _ k0 => (drainDone_kept k0))

theorem execDrainLapse_kept {s0 s t : State} {a1} (h : Kept s0 s)
    (e : execDrainLapse a1 s = .next t) : Kept s0 t := by
  unfold execDrainLapse at e
  cases e
  exact whileUp_kept h (fun _ k0 => (drainLapse_kept k0))

theorem execPdreqWrite_kept {s0 s t : State} {a1 a2 a3} (h : Kept s0 s)
    (e : execPdreqWrite a1 a2 a3 s = .next t) : Kept s0 t := by
  unfold execPdreqWrite at e
  cases e
  exact whileUp_kept h (fun _ k0 => (busCmd_kept k0 (fun _ k1 => (pdreq_kept k1))))

theorem execDomainPowerUpDone_kept {s0 s t : State} {a1} (h : Kept s0 s)
    (e : execDomainPowerUpDone a1 s = .next t) : Kept s0 t := by
  unfold execDomainPowerUpDone at e
  cases e
  exact whileUp_kept h (fun _ k0 => (powerUpDone_kept k0))

theorem execQueuePidxWrite_kept {s0 s t : State} {a1 a2 a3} (h : Kept s0 s)
    (e : execQueuePidxWrite a1 a2 a3 s = .next t) : Kept s0 t := by
  unfold execQueuePidxWrite at e
  cases e
  exact whileUp_kept h (fun _ k0 => (busCmd_kept k0 (fun _ k1 => (pidxWrite_kept k1))))

theorem execQueueCidxWrite_kept {s0 s t : State} {a1 a2 a3} (h : Kept s0 s)
    (e : execQueueCidxWrite a1 a2 a3 s = .next t) : Kept s0 t := by
  unfold execQueueCidxWrite at e
  cases e
  exact whileUp_kept h (fun _ k0 => (busCmd_kept k0 (fun _ k1 => (cidxWrite_kept k1))))

theorem execBlkrstWrite_kept {s0 s t : State} {a1 a2} (h : Kept s0 s)
    (e : execBlkrstWrite a1 a2 s = .next t) : Kept s0 t := by
  unfold execBlkrstWrite at e
  cases e
  exact whileUp_kept h (fun _ k0 => (busCmd_kept k0 (fun _ k1 => (blkrst_kept k1))))

/-! ### CmdStartup -/

theorem execPowerGood_kept {s0 s t : State} {a1 a2 a3 a4 a5} (h : Kept s0 s)
    (e : execPowerGood a1 a2 a3 a4 a5 s = .next t) : Kept s0 t := by
  unfold execPowerGood at e
  cases e
  exact powerGood_kept h

theorem execCopeBootComplete_kept {s0 s t : State} (h : Kept s0 s)
    (e : execCopeBootComplete s = .next t) : Kept s0 t := by
  unfold execCopeBootComplete at e
  cases e
  exact whileUp_kept h (fun _ k0 => (copeBoot_kept k0))

theorem execPatternLoadComplete_kept {s0 s t : State} {a1} (h : Kept s0 s)
    (e : execPatternLoadComplete a1 s = .next t) : Kept s0 t := by
  unfold execPatternLoadComplete at e
  cases e
  exact whileUp_kept h (fun _ k0 => (patternLoaded_kept k0))

theorem execCheckComplete_kept {s0 s t : State} {a1 a2} (h : Kept s0 s)
    (e : execCheckComplete a1 a2 s = .next t) : Kept s0 t := by
  unfold execCheckComplete at e
  cases e
  exact whileUp_kept h (fun _ k0 => (checkComplete_kept k0))

theorem execDragPlaneStart_kept {s0 s t : State} (h : Kept s0 s)
    (e : execDragPlaneStart s = .next t) : Kept s0 t := by
  unfold execDragPlaneStart at e
  cases e
  exact whileUp_kept h (fun _ k0 => (dragPlane_kept k0))

theorem execRoleResolve_kept {s0 s t : State} (h : Kept s0 s)
    (e : execRoleResolve s = .next t) : Kept s0 t := by
  unfold execRoleResolve at e
  cases e
  exact whileUp_kept h (fun _ k0 => (roleStart_kept k0))

theorem execRstIn_kept {s0 s t : State} {a1} (h : Kept s0 s)
    (e : execRstIn a1 s = .next t) : Kept s0 t := by
  unfold execRstIn at e
  cases e
  exact rstIn_kept h

theorem execRunReq_kept {s0 s t : State} {a1 a2} (h : Kept s0 s)
    (e : execRunReq a1 a2 s = .next t) : Kept s0 t := by
  unfold execRunReq at e
  cases e
  exact whileUp_kept h (fun _ k0 => (busCmd_kept k0 (fun _ k1 => (runctlWrite_kept k1))))

theorem execStopReq_kept {s0 s t : State} {a1} (h : Kept s0 s)
    (e : execStopReq a1 s = .next t) : Kept s0 t := by
  unfold execStopReq at e
  cases e
  exact whileUp_kept h (fun _ k0 => (busCmd_kept k0 (fun _ k1 => (runctlWrite_kept k1))))

theorem execReload_kept {s0 s t : State} {a1 a2} (h : Kept s0 s)
    (e : execReload a1 a2 s = .next t) : Kept s0 t := by
  unfold execReload at e
  cases e
  exact whileUp_kept h (fun _ k0 => (busCmd_kept k0 (fun _ k1 => (runctlWrite_kept k1))))

theorem execReloadComplete_kept {s0 s t : State} {a1 a2 a3} (h : Kept s0 s)
    (e : execReloadComplete a1 a2 a3 s = .next t) : Kept s0 t := by
  unfold execReloadComplete at e
  cases e
  exact whileUp_kept h (fun _ k0 => (reloadComplete_kept k0))

theorem execOrderlyStopComplete_kept {s0 s t : State} {a1} (h : Kept s0 s)
    (e : execOrderlyStopComplete a1 s = .next t) : Kept s0 t := by
  unfold execOrderlyStopComplete at e
  cases e
  exact whileUp_kept h (fun _ k0 => (orderlyStop_kept k0))

/-! ### CmdPour -/

theorem execSnapshot_kept {s0 s t : State} {a1} (h : Kept s0 s)
    (e : execSnapshot a1 s = .next t) : Kept s0 t := by
  unfold execSnapshot at e
  cases e
  exact whileUp_kept h (fun _ k0 => (snapshot_kept k0))

theorem execPourRelease_kept {s0 s t : State} {a1} (h : Kept s0 s)
    (e : execPourRelease a1 s = .next t) : Kept s0 t := by
  unfold execPourRelease at e
  cases e
  exact whileUp_kept h (fun _ k0 => (pourRelease_kept k0))

theorem execPourDone_kept {s0 s t : State} {a1 a2} (h : Kept s0 s)
    (e : execPourDone a1 a2 s = .next t) : Kept s0 t := by
  unfold execPourDone at e
  cases e
  exact whileUp_kept h (fun _ k0 => (busCmd_kept k0 (fun _ k1 => (pourDone_kept k1))))

theorem execBudgetExhausted_kept {s0 s t : State} {a1} (h : Kept s0 s)
    (e : execBudgetExhausted a1 s = .next t) : Kept s0 t := by
  unfold execBudgetExhausted at e
  cases e
  exact whileUp_kept h (fun _ k0 => (budgetExhausted_kept k0))

theorem execCommit_kept {s0 s t : State} {a1} (h : Kept s0 s)
    (e : execCommit a1 s = .next t) : Kept s0 t := by
  unfold execCommit at e
  cases e
  exact whileUp_kept h (fun _ k0 => (commit_kept k0))

theorem execTriggerEntry_kept {s0 s t : State} (h : Kept s0 s)
    (e : execTriggerEntry s = .next t) : Kept s0 t := by
  unfold execTriggerEntry at e
  cases e
  exact whileUp_kept h (fun _ k0 => (triggerEntry_kept k0))

theorem execHeldTriggerAccept_kept {s0 s t : State} {a1} (h : Kept s0 s)
    (e : execHeldTriggerAccept a1 s = .next t) : Kept s0 t := by
  unfold execHeldTriggerAccept at e
  cases e
  exact whileUp_kept h (fun _ k0 => (heldAccept_kept k0))

theorem execPourSwtrig_kept {s0 s t : State} {a1 a2} (h : Kept s0 s)
    (e : execPourSwtrig a1 a2 s = .next t) : Kept s0 t := by
  unfold execPourSwtrig at e
  cases e
  exact whileUp_kept h (fun _ k0 => (busCmd_kept k0 (fun _ k1 => (swTrig_kept k1))))

theorem execHyperperiodStart_kept {s0 s t : State} (h : Kept s0 s)
    (e : execHyperperiodStart s = .next t) : Kept s0 t := by
  unfold execHyperperiodStart at e
  cases e
  exact whileUp_kept h (fun _ k0 => (hyperperiod_kept k0))

theorem execSlewComplete_kept {s0 s t : State} (h : Kept s0 s)
    (e : execSlewComplete s = .next t) : Kept s0 t := by
  unfold execSlewComplete at e
  cases e
  exact whileUp_kept h (fun _ k0 => (slewComplete_kept k0))

theorem execSwapBoundary_kept {s0 s t : State} (h : Kept s0 s)
    (e : execSwapBoundary s = .next t) : Kept s0 t := by
  unfold execSwapBoundary at e
  cases e
  exact whileUp_kept h (fun _ k0 => (swapBoundary_kept k0))

theorem execPourSwapdone_kept {s0 s t : State} {a1 a2} (h : Kept s0 s)
    (e : execPourSwapdone a1 a2 s = .next t) : Kept s0 t := by
  unfold execPourSwapdone at e
  cases e
  exact whileUp_kept h (fun _ k0 => (busCmd_kept k0 (fun _ k1 => (swapDone_kept k1))))

theorem execPourSwapreq_kept {s0 s t : State} {a1 a2} (h : Kept s0 s)
    (e : execPourSwapreq a1 a2 s = .next t) : Kept s0 t := by
  unfold execPourSwapreq at e
  cases e
  exact whileUp_kept h (fun _ k0 => (busCmd_kept k0 (fun _ k1 => (swapReq_kept k1))))

theorem execSequencerWatchdog_kept {s0 s t : State} (h : Kept s0 s)
    (e : execSequencerWatchdog s = .next t) : Kept s0 t := by
  unfold execSequencerWatchdog at e
  cases e
  exact whileUp_kept h (fun _ k0 => (kept_ite (watchdogReset_kept k0) k0))

/-! ### CmdProgram -/

theorem execSafeReq_kept {s0 s t : State} {a1 a2} (h : Kept s0 s)
    (e : execSafeReq a1 a2 s = .next t) : Kept s0 t := by
  unfold execSafeReq at e
  cases e
  exact whileUp_kept h (fun _ k0 => (busCmd_kept k0 (fun _ k1 => (modectl_kept k1))))

theorem execResume_kept {s0 s t : State} {a1 a2} (h : Kept s0 s)
    (e : execResume a1 a2 s = .next t) : Kept s0 t := by
  unfold execResume at e
  cases e
  exact whileUp_kept h (fun _ k0 => (busCmd_kept k0 (fun _ k1 => (modectl_kept k1))))

theorem execToStop_kept {s0 s t : State} {a1 a2} (h : Kept s0 s)
    (e : execToStop a1 a2 s = .next t) : Kept s0 t := by
  unfold execToStop at e
  cases e
  exact whileUp_kept h (fun _ k0 => (busCmd_kept k0 (fun _ k1 => (modectl_kept k1))))

theorem execHaltReq_kept {s0 s t : State} {a1 a2} (h : Kept s0 s)
    (e : execHaltReq a1 a2 s = .next t) : Kept s0 t := by
  unfold execHaltReq at e
  cases e
  exact whileUp_kept h (fun _ k0 => (busCmd_kept k0 (fun _ k1 => (modectl_kept k1))))

theorem execProgramTrap_kept {s0 s t : State} {a1 a2 a3 a4 a5} (h : Kept s0 s)
    (e : execProgramTrap a1 a2 a3 a4 a5 s = .next t) : Kept s0 t := by
  unfold execProgramTrap at e
  cases e
  exact whileUp_kept h (fun _ k0 => (programTrap_kept k0))

theorem execApplicationWatchdog_kept {s0 s t : State} {a1 a2} (h : Kept s0 s)
    (e : execApplicationWatchdog a1 a2 s = .next t) : Kept s0 t := by
  unfold execApplicationWatchdog at e
  cases e
  exact whileUp_kept h (fun _ k0 => (watchdogReset_kept k0))

theorem execForceCtlWrite_kept {s0 s t : State} {a1 a2 a3} (h : Kept s0 s)
    (e : execForceCtlWrite a1 a2 a3 s = .next t) : Kept s0 t := by
  unfold execForceCtlWrite at e
  cases e
  exact whileUp_kept h (fun _ k0 => (busCmd_kept k0 (fun _ k1 => (forceCtlWrite_kept k1))))

theorem execDlctlStart_kept {s0 s t : State} {a1} (h : Kept s0 s)
    (e : execDlctlStart a1 s = .next t) : Kept s0 t := by
  unfold execDlctlStart at e
  cases e
  exact whileUp_kept h (fun _ k0 => (busCmd_kept k0 (fun _ k1 => (dlctl_kept k1 (fun _ k2 => (dlStart_kept k2))))))

theorem execDlctlApply_kept {s0 s t : State} {a1} (h : Kept s0 s)
    (e : execDlctlApply a1 s = .next t) : Kept s0 t := by
  unfold execDlctlApply at e
  cases e
  exact whileUp_kept h (fun _ k0 => (busCmd_kept k0 (fun _ k1 => (dlctl_kept k1 (fun _ k2 => (dlApply_kept k2))))))

theorem execDlctlAbort_kept {s0 s t : State} {a1} (h : Kept s0 s)
    (e : execDlctlAbort a1 s = .next t) : Kept s0 t := by
  unfold execDlctlAbort at e
  cases e
  exact whileUp_kept h (fun _ k0 => (busCmd_kept k0 (fun _ k1 => (dlctl_kept k1 (fun _ k2 => (dlAbort_kept k2))))))

theorem execDlCheckComplete_kept {s0 s t : State} {a1 a2} (h : Kept s0 s)
    (e : execDlCheckComplete a1 a2 s = .next t) : Kept s0 t := by
  unfold execDlCheckComplete at e
  cases e
  exact whileUp_kept h (fun _ k0 => (dlChecked_kept k0))

theorem execDlLoadComplete_kept {s0 s t : State} (h : Kept s0 s)
    (e : execDlLoadComplete s = .next t) : Kept s0 t := by
  unfold execDlLoadComplete at e
  cases e
  exact whileUp_kept h (fun _ k0 => (dlLoaded_kept k0))

/-! ### CmdCrucible -/

theorem execCrucibleStage_kept {s0 s t : State} {a1} (h : Kept s0 s)
    (e : execCrucibleStage a1 s = .next t) : Kept s0 t := by
  unfold execCrucibleStage at e
  cases e
  exact whileUp_kept h (fun _ k0 => (atEntry_kept k0 (fun _ _ k1 => (crucibleStage_kept k1))))

theorem execCrucibleSample_kept {s0 s t : State} {a1 a2} (h : Kept s0 s)
    (e : execCrucibleSample a1 a2 s = .next t) : Kept s0 t := by
  unfold execCrucibleSample at e
  cases e
  exact whileUp_kept h (fun _ k0 => (atEntry_kept k0 (fun _ _ k1 => (sampleEntry_kept k1))))

theorem execLoopModeWrite_kept {s0 s t : State} {a1 a2 a3} (h : Kept s0 s)
    (e : execLoopModeWrite a1 a2 a3 s = .next t) : Kept s0 t := by
  unfold execLoopModeWrite at e
  cases e
  exact whileUp_kept h (fun _ k0 => (regCmd_kept k0 (fun _ k1 => (only_kept k1 (fun _ k2 => (ownWrite_kept k2 (fun _ k3 => (requestMode_kept k3))))))))

theorem execPlausClear_kept {s0 s t : State} {a1 a2} (h : Kept s0 s)
    (e : execPlausClear a1 a2 s = .next t) : Kept s0 t := by
  unfold execPlausClear at e
  cases e
  exact whileUp_kept h (fun _ k0 => (regCmd_kept k0 (fun _ k1 => (only_kept k1 (fun _ k2 => (ownWrite_kept k2 (fun _ k3 => (clearPlaus_kept k3))))))))

theorem execIntegratorRead_kept {s0 s t : State} {a1 a2} (h : Kept s0 s)
    (e : execIntegratorRead a1 a2 s = .next t) : Kept s0 t := by
  unfold execIntegratorRead at e
  cases e
  exact whileUp_kept h (fun _ k0 => (readCmd_kept k0))

/-! ### CmdCells -/

theorem execCellPowerOn_kept {s0 s t : State} {a1} (h : Kept s0 s)
    (e : execCellPowerOn a1 s = .next t) : Kept s0 t := by
  unfold execCellPowerOn at e
  cases e
  exact whileBlock_kept h (fun _ k0 => (cellPowerOn_kept k0))

theorem execCellResult_kept {s0 s t : State} {a1 a2} (h : Kept s0 s)
    (e : execCellResult a1 a2 s = .next t) : Kept s0 t := by
  unfold execCellResult at e
  cases e
  exact whileBlock_kept h (fun _ k0 => (monCompare_kept (cellResult_kept k0)))

theorem execResultMissing_kept {s0 s t : State} {a1} (h : Kept s0 s)
    (e : execResultMissing a1 s = .next t) : Kept s0 t := by
  unfold execResultMissing at e
  cases e
  exact whileBlock_kept h (fun _ k0 => (kept_ite (missing_kept k0) k0))

theorem execCellReinit_kept {s0 s t : State} {a1} (h : Kept s0 s)
    (e : execCellReinit a1 s = .next t) : Kept s0 t := by
  unfold execCellReinit at e
  cases e
  exact whileBlock_kept h (fun _ k0 => (cellReinit_kept k0))

theorem execDiAccept_kept {s0 s t : State} {a1 a2} (h : Kept s0 s)
    (e : execDiAccept a1 a2 s = .next t) : Kept s0 t := by
  unfold execDiAccept at e
  cases e
  exact whileBlock_kept h (fun _ k0 => (kept_ite (diAccept_kept k0) k0))

theorem execDiRawReport_kept {s0 s t : State} {a1 a2} (h : Kept s0 s)
    (e : execDiRawReport a1 a2 s = .next t) : Kept s0 t := by
  unfold execDiRawReport at e
  cases e
  exact whileBlock_kept h (fun _ k0 => (kept_ite (diRaw_kept k0) k0))

theorem execWaveSample_kept {s0 s t : State} {a1 a2 a3} (h : Kept s0 s)
    (e : execWaveSample a1 a2 a3 s = .next t) : Kept s0 t := by
  unfold execWaveSample at e
  cases e
  exact whileBlock_kept h (fun _ k0 => (kept_ite (waveSample_kept k0) k0))

theorem execNocycleResult_kept {s0 s t : State} {a1} (h : Kept s0 s)
    (e : execNocycleResult a1 s = .next t) : Kept s0 t := by
  unfold execNocycleResult at e
  cases e
  exact whileBlock_kept h (fun _ k0 => (kept_ite (noCycle_kept k0) k0))

theorem execOpenWireTest_kept {s0 s t : State} {a1 a2 a3} (h : Kept s0 s)
    (e : execOpenWireTest a1 a2 a3 s = .next t) : Kept s0 t := by
  unfold execOpenWireTest at e
  cases e
  exact whileBlock_kept h (fun _ k0 => (openWire_kept k0))

theorem execDoResult_kept {s0 s t : State} {a1 a2} (h : Kept s0 s)
    (e : execDoResult a1 a2 s = .next t) : Kept s0 t := by
  unfold execDoResult at e
  cases e
  exact whileBlock_kept h (fun _ k0 => (monCompare_kept (doResult_kept k0)))

theorem execFieldFaultTimeout_kept {s0 s t : State} {a1 a2 a3} (h : Kept s0 s)
    (e : execFieldFaultTimeout a1 a2 a3 s = .next t) : Kept s0 t := by
  unfold execFieldFaultTimeout at e
  cases e
  exact whileBlock_kept h (fun _ k0 => (ffTimeout_kept k0))

theorem execDoShort_kept {s0 s t : State} {a1} (h : Kept s0 s)
    (e : execDoShort a1 s = .next t) : Kept s0 t := by
  unfold execDoShort at e
  cases e
  exact whileBlock_kept h (fun _ k0 => (doShort_kept k0))

theorem execDoRetry_kept {s0 s t : State} {a1} (h : Kept s0 s)
    (e : execDoRetry a1 s = .next t) : Kept s0 t := by
  unfold execDoRetry at e
  cases e
  exact whileBlock_kept h (fun _ k0 => (doRetry_kept k0))

theorem execStageTest_kept {s0 s t : State} {a1 a2 a3 a4 a5 a6} (h : Kept s0 s)
    (e : execStageTest a1 a2 a3 a4 a5 a6 s = .next t) : Kept s0 t := by
  unfold execStageTest at e
  cases e
  exact whileBlock_kept h (fun _ k0 => (stageTest_kept k0))

theorem execStageOvertemp_kept {s0 s t : State} {a1} (h : Kept s0 s)
    (e : execStageOvertemp a1 s = .next t) : Kept s0 t := by
  unfold execStageOvertemp at e
  cases e
  exact whileBlock_kept h (fun _ k0 => (overTemp_kept k0))

theorem execTrimDrive_kept {s0 s t : State} {a1 a2 a3} (h : Kept s0 s)
    (e : execTrimDrive a1 a2 a3 s = .next t) : Kept s0 t := by
  unfold execTrimDrive at e
  cases e
  exact whileUp_kept h (fun _ k0 => (regCmd_kept k0 (fun _ k1 => (only_kept k1 (fun _ k2 => (trimWrite_kept k2))))))

theorem execChannelBlockFault_kept {s0 s t : State} {a1} (h : Kept s0 s)
    (e : execChannelBlockFault a1 s = .next t) : Kept s0 t := by
  unfold execChannelBlockFault at e
  cases e
  exact whileUp_kept h (fun _ k0 => (blockFault_kept k0))

/-! ### CmdSafety -/

theorem execSupplySupervisorTrip_kept {s0 s t : State} {a1} (h : Kept s0 s)
    (e : execSupplySupervisorTrip a1 s = .next t) : Kept s0 t := by
  unfold execSupplySupervisorTrip at e
  cases e
  exact whileOn_kept h (fun _ k0 => (supplyTrip_kept k0))

theorem execSupplySupervisorRecover_kept {s0 s t : State} {a1} (h : Kept s0 s)
    (e : execSupplySupervisorRecover a1 s = .next t) : Kept s0 t := by
  unfold execSupplySupervisorRecover at e
  cases e
  exact whileOn_kept h (fun _ k0 => (supplyRecover_kept k0))

theorem execLatticeSourceChange_kept {s0 s t : State} {a1} (h : Kept s0 s)
    (e : execLatticeSourceChange a1 s = .next t) : Kept s0 t := by
  unfold execLatticeSourceChange at e
  cases e
  exact whileOn_kept h (fun _ k0 => (latticeSource_kept k0))

theorem execLatticeTimerExpiry_kept {s0 s t : State} {a1} (h : Kept s0 s)
    (e : execLatticeTimerExpiry a1 s = .next t) : Kept s0 t := by
  unfold execLatticeTimerExpiry at e
  cases e
  exact whileOn_kept h (fun _ k0 => (latticeTimer_kept k0))

theorem execSafetyCycle_kept {s0 s t : State} {a1 a2 a3 a4 a5 a6 a7} (h : Kept s0 s)
    (e : execSafetyCycle a1 a2 a3 a4 a5 a6 a7 s = .next t) : Kept s0 t := by
  unfold execSafetyCycle at e
  cases e
  exact whileUp_kept h (fun _ k0 => (safetyTick_kept k0))

theorem execSafetyWatchdog_kept {s0 s t : State} (h : Kept s0 s)
    (e : execSafetyWatchdog s = .next t) : Kept s0 t := by
  unfold execSafetyWatchdog at e
  cases e
  exact whileUp_kept h (fun _ k0 => (watchdogReset_kept k0))

theorem execSafetySelftestDone_kept {s0 s t : State} {a1} (h : Kept s0 s)
    (e : execSafetySelftestDone a1 s = .next t) : Kept s0 t := by
  unfold execSafetySelftestDone at e
  cases e
  exact whileUp_kept h (fun _ k0 => (safSelftest_kept k0))

theorem execTpSchedule_kept {s0 s t : State} {a1 a2 a3 a4 a5} (h : Kept s0 s)
    (e : execTpSchedule a1 a2 a3 a4 a5 s = .next t) : Kept s0 t := by
  unfold execTpSchedule at e
  cases e
  exact whileUp_kept h (fun _ k0 => (tpSchedule_kept k0))

theorem execPreEnergiseTest_kept {s0 s t : State} {a1 a2 a3} (h : Kept s0 s)
    (e : execPreEnergiseTest a1 a2 a3 s = .next t) : Kept s0 t := by
  unfold execPreEnergiseTest at e
  cases e
  exact whileUp_kept h (fun _ k0 => (preEnergise_kept k0))

theorem execOffPulse_kept {s0 s t : State} {a1 a2} (h : Kept s0 s)
    (e : execOffPulse a1 a2 s = .next t) : Kept s0 t := by
  unfold execOffPulse at e
  cases e
  exact whileUp_kept h (fun _ k0 => (offPulse_kept k0))

theorem execOffPulseEnd_kept {s0 s t : State} {a1 a2} (h : Kept s0 s)
    (e : execOffPulseEnd a1 a2 s = .next t) : Kept s0 t := by
  unfold execOffPulseEnd at e
  cases e
  exact whileUp_kept h (fun _ k0 => (offPulseEnd_kept k0))

theorem execOvercurrent_kept {s0 s t : State} {a1} (h : Kept s0 s)
    (e : execOvercurrent a1 s = .next t) : Kept s0 t := by
  unfold execOvercurrent at e
  cases e
  exact whileUp_kept h (fun _ k0 => (overcurrent_kept k0))

theorem execLfLow_kept {s0 s t : State} (h : Kept s0 s)
    (e : execLfLow s = .next t) : Kept s0 t := by
  unfold execLfLow at e
  cases e
  exact whileUp_kept h (fun _ k0 => (lfLow_kept k0))

theorem execLfRestored_kept {s0 s t : State} (h : Kept s0 s)
    (e : execLfRestored s = .next t) : Kept s0 t := by
  unfold execLfRestored at e
  cases e
  exact whileUp_kept h (fun _ k0 => (lfRestored_kept k0))

theorem execAuthorise_kept {s0 s t : State} (h : Kept s0 s)
    (e : execAuthorise s = .next t) : Kept s0 t := by
  unfold execAuthorise at e
  cases e
  exact whileUp_kept h (fun _ k0 => (q60_kept k0))

theorem execSetPassword_kept {s0 s t : State} (h : Kept s0 s)
    (e : execSetPassword s = .next t) : Kept s0 t := by
  unfold execSetPassword at e
  cases e
  exact whileUp_kept h (fun _ k0 => (q60_kept k0))

theorem execSetPasswordNew_kept {s0 s t : State} (h : Kept s0 s)
    (e : execSetPasswordNew s = .next t) : Kept s0 t := by
  unfold execSetPasswordNew at e
  cases e
  exact whileUp_kept h (fun _ k0 => (q60_kept k0))

theorem execReadLog_kept {s0 s t : State} (h : Kept s0 s)
    (e : execReadLog s = .next t) : Kept s0 t := by
  unfold execReadLog at e
  cases e
  exact whileUp_kept h (fun _ k0 => (q60_kept k0))

theorem execPwlockExpiry_kept {s0 s t : State} (h : Kept s0 s)
    (e : execPwlockExpiry s = .next t) : Kept s0 t := by
  unfold execPwlockExpiry at e
  cases e
  exact whileUp_kept h (fun _ k0 => (pwLockExpiry_kept k0))

theorem execFoxSrcRead_kept {s0 s t : State} {a1} (h : Kept s0 s)
    (e : execFoxSrcRead a1 s = .next t) : Kept s0 t := by
  unfold execFoxSrcRead at e
  cases e
  exact whileUp_kept h (fun _ k0 => (readCmd_kept k0))

/-! ### CmdRunner -/

theorem execAliveInChange_kept {s0 s t : State} {a1} (h : Kept s0 s)
    (e : execAliveInChange a1 s = .next t) : Kept s0 t := by
  unfold execAliveInChange at e
  cases e
  exact whileOn_kept h (fun _ k0 => (kept_ite (safDemand_kept (aliveIn_kept k0)) (aliveClass_kept k0)))

theorem execOwnInChange_kept {s0 s t : State} {a1} (h : Kept s0 s)
    (e : execOwnInChange a1 s = .next t) : Kept s0 t := by
  unfold execOwnInChange at e
  cases e
  exact whileOn_kept h (fun _ k0 => (kept_ite (safDemand_kept (ownIn_kept k0)) (ownClass_kept k0)))

theorem execOwnershipClaim_kept {s0 s t : State} (h : Kept s0 s)
    (e : execOwnershipClaim s = .next t) : Kept s0 t := by
  unfold execOwnershipClaim at e
  cases e
  exact whileUp_kept h (fun _ k0 => (safDemand_kept (claim_kept k0)))

theorem execDualDriveEnd_kept {s0 s t : State} {a1} (h : Kept s0 s)
    (e : execDualDriveEnd a1 s = .next t) : Kept s0 t := by
  unfold execDualDriveEnd at e
  cases e
  exact whileUp_kept h (fun _ k0 => (dualEnd_kept k0))

theorem execLinkTrained_kept {s0 s t : State} (h : Kept s0 s)
    (e : execLinkTrained s = .next t) : Kept s0 t := by
  unfold execLinkTrained at e
  cases e
  exact whileUp_kept h (fun _ k0 => (linkTrained_kept k0))

theorem execLinkLoss_kept {s0 s t : State} {a1 a2} (h : Kept s0 s)
    (e : execLinkLoss a1 a2 s = .next t) : Kept s0 t := by
  unfold execLinkLoss at e
  cases e
  exact whileUp_kept h (fun _ k0 => (linkLoss_kept k0))

theorem execLinkRetrain_kept {s0 s t : State} (h : Kept s0 s)
    (e : execLinkRetrain s = .next t) : Kept s0 t := by
  unfold execLinkRetrain at e
  cases e
  exact whileUp_kept h (fun _ k0 => (linkRetrain_kept k0))

theorem execCtrlFrame_kept {s0 s t : State} {a1 a2} (h : Kept s0 s)
    (e : execCtrlFrame a1 a2 s = .next t) : Kept s0 t := by
  unfold execCtrlFrame at e
  cases e
  exact whileUp_kept h (fun _ k0 => (safDemand_kept (ctrlFrame_kept k0)))

theorem execLatchFrame_kept {s0 s t : State} {a1 a2} (h : Kept s0 s)
    (e : execLatchFrame a1 a2 s = .next t) : Kept s0 t := by
  unfold execLatchFrame at e
  cases e
  exact whileUp_kept h (fun _ k0 => (kept_ite (linkFrame_kept k0 (fun _ k1 => (latchFrame_kept k1))) (latchLost_kept k0)))

theorem execSnapFrame_kept {s0 s t : State} {a1 a2 a3 a4} (h : Kept s0 s)
    (e : execSnapFrame a1 a2 a3 a4 s = .next t) : Kept s0 t := by
  unfold execSnapFrame at e
  cases e
  exact whileUp_kept h (fun _ k0 => (linkFrame_kept k0 (fun _ k1 => (snapFrame_kept k1))))

theorem execOvecFrame_kept {s0 s t : State} {a1 a2} (h : Kept s0 s)
    (e : execOvecFrame a1 a2 s = .next t) : Kept s0 t := by
  unfold execOvecFrame at e
  cases e
  exact whileUp_kept h (fun _ k0 => (linkFrame_kept k0 (fun _ k1 => (ovecFrame_kept k1))))

theorem execCopyFrame_kept {s0 s t : State} {a1 a2 a3 a4} (h : Kept s0 s)
    (e : execCopyFrame a1 a2 a3 a4 s = .next t) : Kept s0 t := by
  unfold execCopyFrame at e
  cases e
  exact whileUp_kept h (fun _ k0 => (linkFrame_kept k0 (fun _ k1 => (copyUnit_kept k1))))

theorem execReplayRelease_kept {s0 s t : State} {a1} (h : Kept s0 s)
    (e : execReplayRelease a1 s = .next t) : Kept s0 t := by
  unfold execReplayRelease at e
  cases e
  exact whileUp_kept h (fun _ k0 => (replayRelease_kept k0))

theorem execResync_kept {s0 s t : State} {a1 a2} (h : Kept s0 s)
    (e : execResync a1 a2 s = .next t) : Kept s0 t := by
  unfold execResync at e
  cases e
  exact whileUp_kept h (fun _ k0 => (regCmd_kept k0 (fun _ k1 => (only_kept k1 (fun _ k2 => (resyncReq_kept k2))))))

theorem execResyncComplete_kept {s0 s t : State} (h : Kept s0 s)
    (e : execResyncComplete s = .next t) : Kept s0 t := by
  unfold execResyncComplete at e
  cases e
  exact whileUp_kept h (fun _ k0 => (resyncDone_kept k0))

theorem execSelfCheckResult_kept {s0 s t : State} {a1 a2 a3 a4} (h : Kept s0 s)
    (e : execSelfCheckResult a1 a2 a3 a4 s = .next t) : Kept s0 t := by
  unfold execSelfCheckResult at e
  cases e
  exact whileUp_kept h (fun _ k0 => (safDemand_kept (selfCheckResult_kept k0)))

theorem execSwitch_kept {s0 s t : State} {a1 a2} (h : Kept s0 s)
    (e : execSwitch a1 a2 s = .next t) : Kept s0 t := by
  unfold execSwitch at e
  cases e
  exact whileUp_kept h (fun _ k0 => (regCmd_kept k0 (fun _ k1 => (safDemand_kept (only_kept k1 (fun _ k2 => (switchReq_kept k2)))))))

/-! ### CmdMarigold -/

theorem execOffsetMeasurement_kept {s0 s t : State} {a1 a2} (h : Kept s0 s)
    (e : execOffsetMeasurement a1 a2 s = .next t) : Kept s0 t := by
  unfold execOffsetMeasurement at e
  cases e
  exact whileBlock_kept h (fun _ k0 => (offsetMeas_kept k0))

theorem execAnnounce_kept {s0 s t : State} {a1 a2} (h : Kept s0 s)
    (e : execAnnounce a1 a2 s = .next t) : Kept s0 t := by
  unfold execAnnounce at e
  cases e
  exact whileBlock_kept h (fun _ k0 => (announce_kept k0))

theorem execAnnounceTimeout_kept {s0 s t : State} {a1} (h : Kept s0 s)
    (e : execAnnounceTimeout a1 s = .next t) : Kept s0 t := by
  unfold execAnnounceTimeout at e
  cases e
  exact whileBlock_kept h (fun _ k0 => (announceTimeout_kept k0))

theorem execSyncHoldExpiry_kept {s0 s t : State} (h : Kept s0 s)
    (e : execSyncHoldExpiry s = .next t) : Kept s0 t := by
  unfold execSyncHoldExpiry at e
  cases e
  exact syncHoldExpiry_kept h

theorem execMgdSet_kept {s0 s t : State} {a1 a2} (h : Kept s0 s)
    (e : execMgdSet a1 a2 s = .next t) : Kept s0 t := by
  unfold execMgdSet at e
  cases e
  exact whileUp_kept h (fun _ k0 => (regCmd_kept k0 (fun _ k1 => (only_kept k1 (fun _ k2 => (mgdSet_kept k2))))))

theorem execRef10mLost_kept {s0 s t : State} (h : Kept s0 s)
    (e : execRef10mLost s = .next t) : Kept s0 t := by
  unfold execRef10mLost at e
  cases e
  exact whileUp_kept h (fun _ k0 => (refLost_kept k0))

theorem execRef10mRestored_kept {s0 s t : State} (h : Kept s0 s)
    (e : execRef10mRestored s = .next t) : Kept s0 t := by
  unfold execRef10mRestored at e
  cases e
  exact whileUp_kept h (fun _ k0 => (refRestored_kept k0))

theorem execPpsInEdge_kept {s0 s t : State} (h : Kept s0 s)
    (e : execPpsInEdge s = .next t) : Kept s0 t := by
  unfold execPpsInEdge at e
  cases e
  exact whileUp_kept h (fun _ k0 => (ppsEdge_kept k0))

theorem execPpsLost_kept {s0 s t : State} (h : Kept s0 s)
    (e : execPpsLost s = .next t) : Kept s0 t := by
  unfold execPpsLost at e
  cases e
  exact whileUp_kept h (fun _ k0 => (ppsLost_kept k0))

theorem execAlarmArm_kept {s0 s t : State} {a1 a2 a3 a4} (h : Kept s0 s)
    (e : execAlarmArm a1 a2 a3 a4 s = .next t) : Kept s0 t := by
  unfold execAlarmArm at e
  cases e
  exact whileUp_kept h (fun _ k0 => (regCmd_kept k0 (fun _ k1 => (only_kept k1 (fun _ k2 => (armAlarm_kept k2))))))

theorem execAlarmFire_kept {s0 s t : State} {a1} (h : Kept s0 s)
    (e : execAlarmFire a1 s = .next t) : Kept s0 t := by
  unfold execAlarmFire at e
  cases e
  exact whileUp_kept h (fun _ k0 => (alarmFire_kept k0))

theorem execTnsRead_kept {s0 s t : State} {a1} (h : Kept s0 s)
    (e : execTnsRead a1 s = .next t) : Kept s0 t := by
  unfold execTnsRead at e
  cases e
  exact whileUp_kept h (fun _ k0 => (readCmd_kept k0))

theorem execPathDelayMeasurement_kept {s0 s t : State} {a1 a2} (h : Kept s0 s)
    (e : execPathDelayMeasurement a1 a2 s = .next t) : Kept s0 t := by
  unfold execPathDelayMeasurement at e
  cases e
  exact whileBlock_kept h (fun _ k0 => (pathDelay_kept k0))

/-! ### CmdNetwork -/

theorem execPublication_kept {s0 s t : State} {a1} (h : Kept s0 s)
    (e : execPublication a1 s = .next t) : Kept s0 t := by
  unfold execPublication at e
  cases e
  exact whileBlock_kept h (fun _ k0 => (atEntry_kept k0 (fun _ _ k1 => (publication_kept k1))))

theorem execCyclicFrameRx_kept {s0 s t : State} {a1 a2} (h : Kept s0 s)
    (e : execCyclicFrameRx a1 a2 s = .next t) : Kept s0 t := by
  unfold execCyclicFrameRx at e
  cases e
  exact whileBlock_kept h (fun _ k0 => (withFrame_kept k0 (fun _ k1 => (cyclicRx_kept k1))))

theorem execSubscriptionStale_kept {s0 s t : State} {a1} (h : Kept s0 s)
    (e : execSubscriptionStale a1 s = .next t) : Kept s0 t := by
  unfold execSubscriptionStale at e
  cases e
  exact whileUp_kept h (fun _ k0 => (kept_ite k0 (subscriptionStale_kept k0)))

theorem execSafetyMsgWatchdog_kept {s0 s t : State} {a1} (h : Kept s0 s)
    (e : execSafetyMsgWatchdog a1 s = .next t) : Kept s0 t := by
  unfold execSafetyMsgWatchdog at e
  cases e
  exact whileUp_kept h (fun _ k0 => (connWatchdog_kept k0))

theorem execPortLinkChange_kept {s0 s t : State} {a1 a2} (h : Kept s0 s)
    (e : execPortLinkChange a1 a2 s = .next t) : Kept s0 t := by
  unfold execPortLinkChange at e
  cases e
  exact whileBlock_kept h (fun _ k0 => (portLink_kept k0))

theorem execRedundantPathChange_kept {s0 s t : State} {a1 a2} (h : Kept s0 s)
    (e : execRedundantPathChange a1 a2 s = .next t) : Kept s0 t := by
  unfold execRedundantPathChange at e
  cases e
  exact whileBlock_kept h (fun _ k0 => (redPath_kept k0))

theorem execTxQueueEntry_kept {s0 s t : State} {a1} (h : Kept s0 s)
    (e : execTxQueueEntry a1 s = .next t) : Kept s0 t := by
  unfold execTxQueueEntry at e
  cases e
  exact whileBlock_kept h (fun _ k0 => (txEntry_kept k0))

theorem execRxFrame_kept {s0 s t : State} {a1 a2} (h : Kept s0 s)
    (e : execRxFrame a1 a2 s = .next t) : Kept s0 t := by
  unfold execRxFrame at e
  cases e
  exact whileBlock_kept h (fun _ k0 => (withFrame_kept k0 (fun _ k1 => (rxFrame_kept k1))))

theorem execFrameForward_kept {s0 s t : State} {a1 a2 a3 a4} (h : Kept s0 s)
    (e : execFrameForward a1 a2 a3 a4 s = .next t) : Kept s0 t := by
  unfold execFrameForward at e
  cases e
  exact whileBlock_kept h (fun _ k0 => (frameForward_kept k0))

theorem execLearnedEntryAgeOut_kept {s0 s t : State} {a1 a2} (h : Kept s0 s)
    (e : execLearnedEntryAgeOut a1 a2 s = .next t) : Kept s0 t := by
  unfold execLearnedEntryAgeOut at e
  cases e
  exact whileBlock_kept h (fun _ k0 => (ageOut_kept k0))

theorem execTransitFrameDrop_kept {s0 s t : State} {a1} (h : Kept s0 s)
    (e : execTransitFrameDrop a1 s = .next t) : Kept s0 t := by
  unfold execTransitFrameDrop at e
  cases e
  exact whileBlock_kept h (fun _ k0 => (transitDrop_kept k0))

/-! ### CmdServices -/

theorem execRead_kept {s0 s t : State} {a1} (h : Kept s0 s)
    (e : execRead a1 s = .next t) : Kept s0 t := by
  unfold execRead at e
  cases e
  exact whileBlock_kept h (fun _ k0 => (svcRead_kept k0))

theorem execForceSet_kept {s0 s t : State} {a1} (h : Kept s0 s)
    (e : execForceSet a1 s = .next t) : Kept s0 t := by
  unfold execForceSet at e
  cases e
  exact whileBlock_kept h (fun _ k0 => (svcForceSet_kept k0))

theorem execForceRelease_kept {s0 s t : State} {a1} (h : Kept s0 s)
    (e : execForceRelease a1 s = .next t) : Kept s0 t := by
  unfold execForceRelease at e
  cases e
  exact whileBlock_kept h (fun _ k0 => (svcForceRelease_kept k0))

theorem execForceList_kept {s0 s t : State} {a1} (h : Kept s0 s)
    (e : execForceList a1 s = .next t) : Kept s0 t := by
  unfold execForceList at e
  cases e
  exact whileBlock_kept h (fun _ k0 => (svcForceList_kept k0))

theorem execDownloadStart_kept {s0 s t : State} {a1} (h : Kept s0 s)
    (e : execDownloadStart a1 s = .next t) : Kept s0 t := by
  unfold execDownloadStart at e
  cases e
  exact whileBlock_kept h (fun _ k0 => (svcDlStart_kept k0))

theorem execDownloadData_kept {s0 s t : State} {a1} (h : Kept s0 s)
    (e : execDownloadData a1 s = .next t) : Kept s0 t := by
  unfold execDownloadData at e
  cases e
  exact whileBlock_kept h (fun _ k0 => (svcDlData_kept k0))

theorem execDownloadApply_kept {s0 s t : State} {a1} (h : Kept s0 s)
    (e : execDownloadApply a1 s = .next t) : Kept s0 t := by
  unfold execDownloadApply at e
  cases e
  exact whileBlock_kept h (fun _ k0 => (svcDlApply_kept k0))

theorem execDownloadAbort_kept {s0 s t : State} {a1} (h : Kept s0 s)
    (e : execDownloadAbort a1 s = .next t) : Kept s0 t := by
  unfold execDownloadAbort at e
  cases e
  exact whileBlock_kept h (fun _ k0 => (svcDlAbort_kept k0))

theorem execDownloadStatus_kept {s0 s t : State} {a1} (h : Kept s0 s)
    (e : execDownloadStatus a1 s = .next t) : Kept s0 t := by
  unfold execDownloadStatus at e
  cases e
  exact whileBlock_kept h (fun _ k0 => (svcDlStatus_kept k0))

theorem execRunctlStopReq_kept {s0 s t : State} {a1} (h : Kept s0 s)
    (e : execRunctlStopReq a1 s = .next t) : Kept s0 t := by
  unfold execRunctlStopReq at e
  cases e
  exact whileBlock_kept h (fun _ k0 => (svcRunctl_kept k0))

theorem execRunctlRunReq_kept {s0 s t : State} {a1} (h : Kept s0 s)
    (e : execRunctlRunReq a1 s = .next t) : Kept s0 t := by
  unfold execRunctlRunReq at e
  cases e
  exact whileBlock_kept h (fun _ k0 => (svcRunctl_kept k0))

theorem execRunctlResume_kept {s0 s t : State} {a1} (h : Kept s0 s)
    (e : execRunctlResume a1 s = .next t) : Kept s0 t := by
  unfold execRunctlResume at e
  cases e
  exact whileBlock_kept h (fun _ k0 => (svcRunctl_kept k0))

theorem execRunctlToStop_kept {s0 s t : State} {a1} (h : Kept s0 s)
    (e : execRunctlToStop a1 s = .next t) : Kept s0 t := by
  unfold execRunctlToStop at e
  cases e
  exact whileBlock_kept h (fun _ k0 => (svcRunctl_kept k0))

theorem execDiagStatus_kept {s0 s t : State} {a1} (h : Kept s0 s)
    (e : execDiagStatus a1 s = .next t) : Kept s0 t := by
  unfold execDiagStatus at e
  cases e
  exact whileBlock_kept h (fun _ k0 => (svcDiagStatus_kept k0))

theorem execDiagEvents_kept {s0 s t : State} {a1} (h : Kept s0 s)
    (e : execDiagEvents a1 s = .next t) : Kept s0 t := by
  unfold execDiagEvents at e
  cases e
  exact whileBlock_kept h (fun _ k0 => (svcDiagEvents_kept k0))

theorem execUnknownService_kept {s0 s t : State} {a1 a2 a3} (h : Kept s0 s)
    (e : execUnknownService a1 a2 a3 s = .next t) : Kept s0 t := by
  unfold execUnknownService at e
  cases e
  exact whileBlock_kept h (fun _ k0 => (svcUnknown_kept k0))

/-! ### CmdCan -/

theorem execCanFrameRx_kept {s0 s t : State} {a1 a2 a3 a4 a5 a6 a7 a8 a9} (h : Kept s0 s)
    (e : execCanFrameRx a1 a2 a3 a4 a5 a6 a7 a8 a9 s = .next t) : Kept s0 t := by
  unfold execCanFrameRx at e
  cases e
  exact whileBlock_kept h (fun _ k0 => (canRx_kept k0))

theorem execDetectDwellEnd_kept {s0 s t : State} {a1} (h : Kept s0 s)
    (e : execDetectDwellEnd a1 s = .next t) : Kept s0 t := by
  unfold execDetectDwellEnd at e
  cases e
  exact whileBlock_kept h (fun _ k0 => (canDwellEnd_kept k0))

theorem execRecover_kept {s0 s t : State} {a1 a2} (h : Kept s0 s)
    (e : execRecover a1 a2 s = .next t) : Kept s0 t := by
  unfold execRecover at e
  cases e
  exact whileUp_kept h (fun _ k0 => (regCmd_kept k0 (fun _ k1 => (only_kept k1 (fun _ k2 => (canCtl_kept k2))))))

theorem execGoNormal_kept {s0 s t : State} {a1 a2} (h : Kept s0 s)
    (e : execGoNormal a1 a2 s = .next t) : Kept s0 t := by
  unfold execGoNormal at e
  cases e
  exact whileUp_kept h (fun _ k0 => (regCmd_kept k0 (fun _ k1 => (only_kept k1 (fun _ k2 => (canCtl_kept k2))))))

theorem execRedetect_kept {s0 s t : State} {a1 a2} (h : Kept s0 s)
    (e : execRedetect a1 a2 s = .next t) : Kept s0 t := by
  unfold execRedetect at e
  cases e
  exact whileUp_kept h (fun _ k0 => (regCmd_kept k0 (fun _ k1 => (only_kept k1 (fun _ k2 => (canCtl_kept k2))))))

theorem execCanFltctl_kept {s0 s t : State} {a1 a2 a3} (h : Kept s0 s)
    (e : execCanFltctl a1 a2 a3 s = .next t) : Kept s0 t := by
  unfold execCanFltctl at e
  cases e
  exact whileUp_kept h (fun _ k0 => (regCmd_kept k0 (fun _ k1 => (only_kept k1 (fun _ k2 => (canFltCtl_kept k2))))))

theorem execFilterScanEnd_kept {s0 s t : State} {a1} (h : Kept s0 s)
    (e : execFilterScanEnd a1 s = .next t) : Kept s0 t := by
  unfold execFilterScanEnd at e
  cases e
  exact whileBlock_kept h (fun _ k0 => (canScanEnd_kept k0))

theorem execCanTxreq_kept {s0 s t : State} {a1 a2 a3} (h : Kept s0 s)
    (e : execCanTxreq a1 a2 a3 s = .next t) : Kept s0 t := by
  unfold execCanTxreq at e
  cases e
  exact whileUp_kept h (fun _ k0 => (regCmd_kept k0 (fun _ k1 => (only_kept k1 (fun _ k2 => (canTxReq_kept k2))))))

theorem execCanTxcancel_kept {s0 s t : State} {a1 a2 a3 a4} (h : Kept s0 s)
    (e : execCanTxcancel a1 a2 a3 a4 s = .next t) : Kept s0 t := by
  unfold execCanTxcancel at e
  cases e
  exact whileUp_kept h (fun _ k0 => (regCmd_kept k0 (fun _ k1 => (only_kept k1 (fun _ k2 => (canCancel_kept k2))))))

theorem execCanTbctlWrite_kept {s0 s t : State} {a1 a2 a3 a4} (h : Kept s0 s)
    (e : execCanTbctlWrite a1 a2 a3 a4 s = .next t) : Kept s0 t := by
  unfold execCanTbctlWrite at e
  cases e
  exact whileUp_kept h (fun _ k0 => (regCmd_kept k0 (fun _ k1 => (only_kept k1 (fun _ k2 => (canTbCtl_kept k2))))))

theorem execCanTxEnd_kept {s0 s t : State} {a1 a2 a3} (h : Kept s0 s)
    (e : execCanTxEnd a1 a2 a3 s = .next t) : Kept s0 t := by
  unfold execCanTxEnd at e
  cases e
  exact whileBlock_kept h (fun _ k0 => (canTxEnd_kept k0))

theorem execCanTxOccurrence_kept {s0 s t : State} {a1 a2} (h : Kept s0 s)
    (e : execCanTxOccurrence a1 a2 s = .next t) : Kept s0 t := by
  unfold execCanTxOccurrence at e
  cases e
  exact whileBlock_kept h (fun _ k0 => (canOccurrence_kept k0))

theorem execCanSlotEnd_kept {s0 s t : State} {a1 a2 a3} (h : Kept s0 s)
    (e : execCanSlotEnd a1 a2 a3 s = .next t) : Kept s0 t := by
  unfold execCanSlotEnd at e
  cases e
  exact whileBlock_kept h (fun _ k0 => (canSlotEnd_kept k0))

theorem execBusoffRecoveryComplete_kept {s0 s t : State} {a1} (h : Kept s0 s)
    (e : execBusoffRecoveryComplete a1 s = .next t) : Kept s0 t := by
  unfold execBusoffRecoveryComplete at e
  cases e
  exact whileBlock_kept h (fun _ k0 => (canRecovered_kept k0))

theorem execCanBusIdle_kept {s0 s t : State} {a1} (h : Kept s0 s)
    (e : execCanBusIdle a1 s = .next t) : Kept s0 t := by
  unfold execCanBusIdle at e
  cases e
  exact whileBlock_kept h (fun _ k0 => (canBusIdle_kept k0))

theorem execCanBusError_kept {s0 s t : State} {a1 a2 a3} (h : Kept s0 s)
    (e : execCanBusError a1 a2 a3 s = .next t) : Kept s0 t := by
  unfold execCanBusError at e
  cases e
  exact whileBlock_kept h (fun _ k0 => (canBusError_kept k0))

theorem execCanAllocationEnd_kept {s0 s t : State} {a1 a2 a3} (h : Kept s0 s)
    (e : execCanAllocationEnd a1 a2 a3 s = .next t) : Kept s0 t := by
  unfold execCanAllocationEnd at e
  cases e
  exact whileBlock_kept h (fun _ k0 => (canAllocEnd_kept k0))

/-! ### CmdLadle -/

theorem execLadleOccurrence_kept {s0 s t : State} {a1} (h : Kept s0 s)
    (e : execLadleOccurrence a1 s = .next t) : Kept s0 t := by
  unfold execLadleOccurrence at e
  cases e
  exact whileUp_kept h (fun _ k0 => (ladleOccurrence_kept k0))

theorem execStart_kept {s0 s t : State} {a1 a2} (h : Kept s0 s)
    (e : execStart a1 a2 s = .next t) : Kept s0 t := by
  unfold execStart at e
  cases e
  exact whileUp_kept h (fun _ k0 => (regCmd_kept k0 (fun _ k1 => (only_kept k1 (fun _ k2 => (ladleStart_kept k2))))))

theorem execAbort_kept {s0 s t : State} {a1 a2} (h : Kept s0 s)
    (e : execAbort a1 a2 s = .next t) : Kept s0 t := by
  unfold execAbort at e
  cases e
  exact whileUp_kept h (fun _ k0 => (regCmd_kept k0 (fun _ k1 => (only_kept k1 (fun _ k2 => (ladleAbort_kept k2))))))

theorem execChainTake_kept {s0 s t : State} (h : Kept s0 s)
    (e : execChainTake s = .next t) : Kept s0 t := by
  unfold execChainTake at e
  cases e
  exact whileUp_kept h (fun _ k0 => (chainTake_kept k0))

theorem execDescriptorEnd_kept {s0 s t : State} (h : Kept s0 s)
    (e : execDescriptorEnd s = .next t) : Kept s0 t := by
  unfold execDescriptorEnd at e
  cases e
  exact whileUp_kept h (fun _ k0 => (descriptorEnd_kept k0))

theorem execLadleBusError_kept {s0 s t : State} {a1 a2} (h : Kept s0 s)
    (e : execLadleBusError a1 a2 s = .next t) : Kept s0 t := by
  unfold execLadleBusError at e
  cases e
  exact whileUp_kept h (fun _ k0 => (ladleBusError_kept k0))

theorem execClrhalt_kept {s0 s t : State} {a1} (h : Kept s0 s)
    (e : execClrhalt a1 s = .next t) : Kept s0 t := by
  unfold execClrhalt at e
  cases e
  exact whileUp_kept h (fun _ k0 => (regCmd_kept k0 (fun _ k1 => (only_kept k1 (fun _ k2 => (ladleClrHalt_kept k2))))))

/-! ### CmdRecorder -/

theorem execIngestEntry_kept {s0 s t : State} (h : Kept s0 s)
    (e : execIngestEntry s = .next t) : Kept s0 t := by
  unfold execIngestEntry at e
  cases e
  exact whileUp_kept h (fun _ k0 => (ingestEntry_kept k0))

theorem execPost_kept {s0 s t : State} {a1 a2 a3} (h : Kept s0 s)
    (e : execPost a1 a2 a3 s = .next t) : Kept s0 t := by
  unfold execPost at e
  cases e
  exact whileUp_kept h (fun _ k0 => (busCmd_kept k0 (fun _ k1 => (only_kept k1 (fun _ k2 => (postCtl_kept k2))))))

theorem execSummaryRecord_kept {s0 s t : State} {a1} (h : Kept s0 s)
    (e : execSummaryRecord a1 s = .next t) : Kept s0 t := by
  unfold execSummaryRecord at e
  cases e
  exact whileUp_kept h (fun _ k0 => (summaryRecord_kept k0))

theorem execTailCopy_kept {s0 s t : State} (h : Kept s0 s)
    (e : execTailCopy s = .next t) : Kept s0 t := by
  unfold execTailCopy at e
  cases e
  exact whileUp_kept h (fun _ k0 => (tailCopy_kept k0))

theorem execFlashWrite_kept {s0 s t : State} {a1 a2} (h : Kept s0 s)
    (e : execFlashWrite a1 a2 s = .next t) : Kept s0 t := by
  unfold execFlashWrite at e
  cases e
  exact whileUp_kept h (fun _ k0 => (flashWrite_kept k0))

theorem execOldest_kept {s0 s t : State} {a1 a2 a3} (h : Kept s0 s)
    (e : execOldest a1 a2 a3 s = .next t) : Kept s0 t := by
  unfold execOldest at e
  cases e
  exact whileUp_kept h (fun _ k0 => (busCmd_kept k0 (fun _ k1 => (cursorOldest_kept k1))))

theorem execSeq_kept {s0 s t : State} {a1 a2 a3} (h : Kept s0 s)
    (e : execSeq a1 a2 a3 s = .next t) : Kept s0 t := by
  unfold execSeq at e
  cases e
  exact whileUp_kept h (fun _ k0 => (busCmd_kept k0 (fun _ k1 => (cursorSeq_kept k1))))

theorem execTime_kept {s0 s t : State} {a1 a2 a3} (h : Kept s0 s)
    (e : execTime a1 a2 a3 s = .next t) : Kept s0 t := by
  unfold execTime at e
  cases e
  exact whileUp_kept h (fun _ k0 => (busCmd_kept k0 (fun _ k1 => (cursorTime_kept k1))))

theorem execNewest_kept {s0 s t : State} {a1 a2 a3} (h : Kept s0 s)
    (e : execNewest a1 a2 a3 s = .next t) : Kept s0 t := by
  unfold execNewest at e
  cases e
  exact whileUp_kept h (fun _ k0 => (busCmd_kept k0 (fun _ k1 => (cursorNewest_kept k1))))

theorem execAdvance_kept {s0 s t : State} {a1 a2} (h : Kept s0 s)
    (e : execAdvance a1 a2 s = .next t) : Kept s0 t := by
  unfold execAdvance at e
  cases e
  exact whileUp_kept h (fun _ k0 => (busCmd_kept k0 (fun _ k1 => (cursorAdvance_kept k1))))

theorem execCursorFillDone_kept {s0 s t : State} {a1 a2} (h : Kept s0 s)
    (e : execCursorFillDone a1 a2 s = .next t) : Kept s0 t := by
  unfold execCursorFillDone at e
  cases e
  exact whileUp_kept h (fun _ k0 => (cursorFill_kept k0))

theorem execPartitionClear_kept {s0 s t : State} {a1 a2 a3} (h : Kept s0 s)
    (e : execPartitionClear a1 a2 a3 s = .next t) : Kept s0 t := by
  unfold execPartitionClear at e
  cases e
  exact whileUp_kept h (fun _ k0 => (busCmd_kept k0 (fun _ k1 => (partitionClear_kept k1))))

theorem execPartitionClearDone_kept {s0 s t : State} {a1} (h : Kept s0 s)
    (e : execPartitionClearDone a1 s = .next t) : Kept s0 t := by
  unfold execPartitionClearDone at e
  cases e
  exact whileUp_kept h (fun _ k0 => (clearDone_kept k0))

/-! ### CmdCounters -/

theorem execPmcWindowEnd_kept {s0 s t : State} {a1} (h : Kept s0 s)
    (e : execPmcWindowEnd a1 s = .next t) : Kept s0 t := by
  unfold execPmcWindowEnd at e
  cases e
  exact whileUp_kept h (fun _ k0 => (pmcWindowEnd_kept k0))

theorem execPmcStagedWrite_kept {s0 s t : State} {a1 a2 a3 a4} (h : Kept s0 s)
    (e : execPmcStagedWrite a1 a2 a3 a4 s = .next t) : Kept s0 t := by
  unfold execPmcStagedWrite at e
  cases e
  exact whileUp_kept h (fun _ k0 => (busCmd_kept k0 (fun _ k1 => (pmcWrite_kept k1))))

theorem execPmcTaskAccess_kept {s0 s t : State} {a1 a2} (h : Kept s0 s)
    (e : execPmcTaskAccess a1 a2 s = .next t) : Kept s0 t := by
  unfold execPmcTaskAccess at e
  cases e
  exact whileUp_kept h (fun _ k0 => (taskCmd_kept k0 (fun _ k1 => (pmcTask_kept k1))))

theorem execPmcCounterRead_kept {s0 s t : State} {a1 a2} (h : Kept s0 s)
    (e : execPmcCounterRead a1 a2 s = .next t) : Kept s0 t := by
  unfold execPmcCounterRead at e
  cases e
  exact whileUp_kept h (fun _ k0 => (readCmd_kept k0))

/-! ### CmdCope -/

theorem execCopeTick_kept {s0 s t : State} {a1} (h : Kept s0 s)
    (e : execCopeTick a1 s = .next t) : Kept s0 t := by
  unfold execCopeTick at e
  cases e
  exact whileUp_kept h (fun _ k0 => (copeTick_kept k0))

theorem execCopeWatchdog_kept {s0 s t : State} (h : Kept s0 s)
    (e : execCopeWatchdog s = .next t) : Kept s0 t := by
  unfold execCopeWatchdog at e
  cases e
  exact whileUp_kept h (fun _ k0 => (copeWatchdog_kept k0))

theorem execLogin_kept {s0 s t : State} {a1} (h : Kept s0 s)
    (e : execLogin a1 s = .next t) : Kept s0 t := by
  unfold execLogin at e
  cases e
  exact whileUp_kept h (fun _ k0 => (copeServe_kept k0 fun _ _ _ k0 => (copeCmd_kept k0 (fun _ _ k1 => (login_kept k1)))))

theorem execLogout_kept {s0 s t : State} {a1} (h : Kept s0 s)
    (e : execLogout a1 s = .next t) : Kept s0 t := by
  unfold execLogout at e
  cases e
  exact whileUp_kept h (fun _ k0 => (copeServe_kept k0 fun _ _ _ k0 => (copeCmd_kept k0 (fun _ _ k1 => (logout_kept k1)))))

theorem execSetPw_kept {s0 s t : State} {a1} (h : Kept s0 s)
    (e : execSetPw a1 s = .next t) : Kept s0 t := by
  unfold execSetPw at e
  cases e
  exact whileUp_kept h (fun _ k0 => (copeServe_kept k0 fun _ _ _ k0 => (copeCmd_kept k0 (fun _ _ k1 => (setMgmtPw_kept k1)))))

theorem execHealth_kept {s0 s t : State} {a1} (h : Kept s0 s)
    (e : execHealth a1 s = .next t) : Kept s0 t := by
  unfold execHealth at e
  cases e
  exact whileUp_kept h (fun _ k0 => (copeServe_kept k0 fun _ _ _ k0 => (copeCmd_kept k0 (fun _ _ k1 => (health_kept k1)))))

theorem execReset_kept {s0 s t : State} {a1} (h : Kept s0 s)
    (e : execReset a1 s = .next t) : Kept s0 t := by
  unfold execReset at e
  cases e
  exact whileUp_kept h (fun _ k0 => (copeServe_kept k0 fun _ _ _ k0 => (cmdReset_kept k0)))

theorem execCopeStopReq_kept {s0 s t : State} {a1} (h : Kept s0 s)
    (e : execCopeStopReq a1 s = .next t) : Kept s0 t := by
  unfold execCopeStopReq at e
  cases e
  exact whileUp_kept h (fun _ k0 => (copeServe_kept k0 fun _ _ _ k0 => (copeCmd_kept k0 (fun _ _ k1 => (copeRunctl_kept k1)))))

theorem execCopeRunReq_kept {s0 s t : State} {a1} (h : Kept s0 s)
    (e : execCopeRunReq a1 s = .next t) : Kept s0 t := by
  unfold execCopeRunReq at e
  cases e
  exact whileUp_kept h (fun _ k0 => (copeServe_kept k0 fun _ _ _ k0 => (copeCmd_kept k0 (fun _ _ k1 => (copeRunctl_kept k1)))))

theorem execCopeResume_kept {s0 s t : State} {a1} (h : Kept s0 s)
    (e : execCopeResume a1 s = .next t) : Kept s0 t := by
  unfold execCopeResume at e
  cases e
  exact whileUp_kept h (fun _ k0 => (copeServe_kept k0 fun _ _ _ k0 => (copeCmd_kept k0 (fun _ _ k1 => (copeRunctl_kept k1)))))

theorem execCopeToStop_kept {s0 s t : State} {a1} (h : Kept s0 s)
    (e : execCopeToStop a1 s = .next t) : Kept s0 t := by
  unfold execCopeToStop at e
  cases e
  exact whileUp_kept h (fun _ k0 => (copeServe_kept k0 fun _ _ _ k0 => (copeCmd_kept k0 (fun _ _ k1 => (copeRunctl_kept k1)))))

theorem execCopeReload_kept {s0 s t : State} {a1} (h : Kept s0 s)
    (e : execCopeReload a1 s = .next t) : Kept s0 t := by
  unfold execCopeReload at e
  cases e
  exact whileUp_kept h (fun _ k0 => (copeServe_kept k0 fun _ _ _ k0 => (copeCmd_kept k0 (fun _ _ k1 => (copeRunctl_kept k1)))))

theorem execKeywsOpen_kept {s0 s t : State} {a1} (h : Kept s0 s)
    (e : execKeywsOpen a1 s = .next t) : Kept s0 t := by
  unfold execKeywsOpen at e
  cases e
  exact whileUp_kept h (fun _ k0 => (copeServe_kept k0 fun _ _ _ k0 => (copeCmd_kept k0 (fun _ _ k1 => (keywsOpen_kept k1)))))

theorem execKeywsWrite_kept {s0 s t : State} {a1 a2} (h : Kept s0 s)
    (e : execKeywsWrite a1 a2 s = .next t) : Kept s0 t := by
  unfold execKeywsWrite at e
  cases e
  exact whileUp_kept h (fun _ k0 => (copeServe_kept k0 fun _ _ _ k0 => (copeCmd_kept k0 (fun _ _ k1 => (keywsWrite_kept k1)))))

theorem execKeywsClose_kept {s0 s t : State} {a1} (h : Kept s0 s)
    (e : execKeywsClose a1 s = .next t) : Kept s0 t := by
  unfold execKeywsClose at e
  cases e
  exact whileUp_kept h (fun _ k0 => (copeServe_kept k0 fun _ _ _ k0 => (copeCmd_kept k0 (fun _ _ k1 => (keywsClose_kept k1)))))

theorem execDlStart_kept {s0 s t : State} {a1} (h : Kept s0 s)
    (e : execDlStart a1 s = .next t) : Kept s0 t := by
  unfold execDlStart at e
  cases e
  exact whileUp_kept h (fun _ k0 => (copeServe_kept k0 fun _ _ _ k0 => (copeCmd_kept k0 (fun _ _ k1 => (copeDlStart_kept k1)))))

theorem execDlData_kept {s0 s t : State} {a1} (h : Kept s0 s)
    (e : execDlData a1 s = .next t) : Kept s0 t := by
  unfold execDlData at e
  cases e
  exact whileUp_kept h (fun _ k0 => (copeServe_kept k0 fun _ _ _ k0 => (copeCmd_kept k0 (fun _ _ k1 => (copeDlData_kept k1)))))

theorem execDlApply_kept {s0 s t : State} {a1} (h : Kept s0 s)
    (e : execDlApply a1 s = .next t) : Kept s0 t := by
  unfold execDlApply at e
  cases e
  exact whileUp_kept h (fun _ k0 => (copeServe_kept k0 fun _ _ _ k0 => (copeCmd_kept k0 (fun _ _ k1 => (copeDlApply_kept k1)))))

theorem execDlAbort_kept {s0 s t : State} {a1} (h : Kept s0 s)
    (e : execDlAbort a1 s = .next t) : Kept s0 t := by
  unfold execDlAbort at e
  cases e
  exact whileUp_kept h (fun _ k0 => (copeServe_kept k0 fun _ _ _ k0 => (copeCmd_kept k0 (fun _ _ k1 => (copeDlAbort_kept k1)))))

theorem execFwBegin_kept {s0 s t : State} {a1} (h : Kept s0 s)
    (e : execFwBegin a1 s = .next t) : Kept s0 t := by
  unfold execFwBegin at e
  cases e
  exact whileUp_kept h (fun _ k0 => (copeServe_kept k0 fun _ _ _ k0 => (copeCmd_kept k0 (fun _ _ k1 => (fwBegin_kept k1)))))

theorem execFwData_kept {s0 s t : State} {a1} (h : Kept s0 s)
    (e : execFwData a1 s = .next t) : Kept s0 t := by
  unfold execFwData at e
  cases e
  exact whileUp_kept h (fun _ k0 => (copeServe_kept k0 fun _ _ _ k0 => (copeCmd_kept k0 (fun _ _ k1 => (fwData_kept k1)))))

theorem execFwInstall_kept {s0 s t : State} {a1} (h : Kept s0 s)
    (e : execFwInstall a1 s = .next t) : Kept s0 t := by
  unfold execFwInstall at e
  cases e
  exact whileUp_kept h (fun _ k0 => (copeServe_kept k0 fun _ _ _ k0 => (cmdFwInstall_kept k0)))

theorem execKeyInstall_kept {s0 s t : State} {a1} (h : Kept s0 s)
    (e : execKeyInstall a1 s = .next t) : Kept s0 t := by
  unfold execKeyInstall at e
  cases e
  exact whileUp_kept h (fun _ k0 => (copeServe_kept k0 fun _ _ _ k0 => (copeCmd_kept k0 (fun _ _ k1 => (keyInstall_kept k1)))))

theorem execKeyRevoke_kept {s0 s t : State} {a1} (h : Kept s0 s)
    (e : execKeyRevoke a1 s = .next t) : Kept s0 t := by
  unfold execKeyRevoke at e
  cases e
  exact whileUp_kept h (fun _ k0 => (copeServe_kept k0 fun _ _ _ k0 => (copeCmd_kept k0 (fun _ _ k1 => (keyRevoke_kept k1)))))

theorem execKeyList_kept {s0 s t : State} {a1} (h : Kept s0 s)
    (e : execKeyList a1 s = .next t) : Kept s0 t := by
  unfold execKeyList at e
  cases e
  exact whileUp_kept h (fun _ k0 => (copeServe_kept k0 fun _ _ _ k0 => (copeCmd_kept k0 (fun _ _ k1 => (keyList_kept k1)))))

theorem execEvrClear_kept {s0 s t : State} {a1} (h : Kept s0 s)
    (e : execEvrClear a1 s = .next t) : Kept s0 t := by
  unfold execEvrClear at e
  cases e
  exact whileUp_kept h (fun _ k0 => (copeServe_kept k0 fun _ _ _ k0 => (copeCmd_kept k0 (fun _ _ k1 => (copeEvrClear_kept k1)))))

theorem execEvrRead_kept {s0 s t : State} {a1} (h : Kept s0 s)
    (e : execEvrRead a1 s = .next t) : Kept s0 t := by
  unfold execEvrRead at e
  cases e
  exact whileUp_kept h (fun _ k0 => (copeServe_kept k0 fun _ _ _ k0 => (copeCmd_kept k0 (fun _ _ k1 => (copeEvrRead_kept k1)))))

theorem execSessionTimeout_kept {s0 s t : State} (h : Kept s0 s)
    (e : execSessionTimeout s = .next t) : Kept s0 t := by
  unfold execSessionTimeout at e
  cases e
  exact whileUp_kept h (fun _ k0 => (sessionEnd_kept k0))

theorem execServiceLinkLoss_kept {s0 s t : State} (h : Kept s0 s)
    (e : execServiceLinkLoss s = .next t) : Kept s0 t := by
  unfold execServiceLinkLoss at e
  cases e
  exact whileUp_kept h (fun _ k0 => (sessionEnd_kept k0))

theorem execLoginLockExpiry_kept {s0 s t : State} (h : Kept s0 s)
    (e : execLoginLockExpiry s = .next t) : Kept s0 t := by
  unfold execLoginLockExpiry at e
  cases e
  exact whileUp_kept h (fun _ k0 => (loginLockExpiry_kept k0))

/-! ### CmdPower -/

theorem execFeedChange_kept {s0 s t : State} {a1 a2} (h : Kept s0 s)
    (e : execFeedChange a1 a2 s = .next t) : Kept s0 t := by
  unfold execFeedChange at e
  cases e
  exact feedChange_kept h

theorem execOvervoltage_kept {s0 s t : State} (h : Kept s0 s)
    (e : execOvervoltage s = .next t) : Kept s0 t := by
  unfold execOvervoltage at e
  cases e
  exact overVoltage_kept h

theorem execInputDisconnect_kept {s0 s t : State} {a1} (h : Kept s0 s)
    (e : execInputDisconnect a1 s = .next t) : Kept s0 t := by
  unfold execInputDisconnect at e
  cases e
  exact inputDisc_kept h

theorem execInputReconnect_kept {s0 s t : State} {a1} (h : Kept s0 s)
    (e : execInputReconnect a1 s = .next t) : Kept s0 t := by
  unfold execInputReconnect at e
  cases e
  exact inputDisc_kept h

theorem execHoldupEntry_kept {s0 s t : State} (h : Kept s0 s)
    (e : execHoldupEntry s = .next t) : Kept s0 t := by
  unfold execHoldupEntry at e
  cases e
  exact holdupEntry_kept h

theorem execFeedRestored_kept {s0 s t : State} (h : Kept s0 s)
    (e : execFeedRestored s = .next t) : Kept s0 t := by
  unfold execFeedRestored at e
  cases e
  exact feedRestored_kept h

theorem execSaveTrigger_kept {s0 s t : State} {a1} (h : Kept s0 s)
    (e : execSaveTrigger a1 s = .next t) : Kept s0 t := by
  unfold execSaveTrigger at e
  cases e
  exact saveTrigger_kept h

theorem execSaveComplete_kept {s0 s t : State} {a1 a2} (h : Kept s0 s)
    (e : execSaveComplete a1 a2 s = .next t) : Kept s0 t := by
  unfold execSaveComplete at e
  cases e
  exact saveComplete_kept h

theorem execBankCharged_kept {s0 s t : State} (h : Kept s0 s)
    (e : execBankCharged s = .next t) : Kept s0 t := by
  unfold execBankCharged at e
  cases e
  exact bankCharged_kept h

theorem execChargerFault_kept {s0 s t : State} (h : Kept s0 s)
    (e : execChargerFault s = .next t) : Kept s0 t := by
  unfold execChargerFault at e
  cases e
  exact chargerFault_kept h

theorem execChargerRetry_kept {s0 s t : State} (h : Kept s0 s)
    (e : execChargerRetry s = .next t) : Kept s0 t := by
  unfold execChargerRetry at e
  cases e
  exact chargerRetry_kept h

theorem execRtest_kept {s0 s t : State} {a1} (h : Kept s0 s)
    (e : execRtest a1 s = .next t) : Kept s0 t := by
  unfold execRtest at e
  cases e
  exact whileUp_kept h (fun _ k0 => (busCmd_kept k0 (fun _ k1 => (rtest_kept k1))))

theorem execHealthTestComplete_kept {s0 s t : State} {a1 a2} (h : Kept s0 s)
    (e : execHealthTestComplete a1 a2 s = .next t) : Kept s0 t := by
  unfold execHealthTestComplete at e
  cases e
  exact healthTest_kept h

theorem execExtensionCharged_kept {s0 s t : State} {a1} (h : Kept s0 s)
    (e : execExtensionCharged a1 s = .next t) : Kept s0 t := by
  unfold execExtensionCharged at e
  cases e
  exact extCharged_kept h

theorem execExtensionFault_kept {s0 s t : State} (h : Kept s0 s)
    (e : execExtensionFault s = .next t) : Kept s0 t := by
  unfold execExtensionFault at e
  cases e
  exact extFault_kept h

theorem execPwrMeasure_kept {s0 s t : State} {a1 a2 a3 a4 a5 a6 a7} (h : Kept s0 s)
    (e : execPwrMeasure a1 a2 a3 a4 a5 a6 a7 s = .next t) : Kept s0 t := by
  unfold execPwrMeasure at e
  cases e
  exact pwrMeasure_kept h

theorem execRstInRelease_kept {s0 s t : State} (h : Kept s0 s)
    (e : execRstInRelease s = .next t) : Kept s0 t := by
  unfold execRstInRelease at e
  cases e
  exact rstRelease_kept h

end Sys2Proof.Laws
end

