-- ==== Sys2Proof/Laws/State.lean ====
section
/-! SUPPORT. What each update of the registers and of memory leaves alone: one lemma per field per update. -/

namespace Sys2Proof.Machine

@[simp] theorem State.setReg_mem (s : State) {a} {v} : (s.setReg a v).mem = s.mem := rfl
@[simp] theorem State.setReg_mono (s : State) {a} {v} : (s.setReg a v).mono = s.mono := rfl
@[simp] theorem State.setReg_mgdNs (s : State) {a} {v} : (s.setReg a v).mgdNs = s.mgdNs := rfl
@[simp] theorem State.setReg_free (s : State) {a} {v} : (s.setReg a v).free = s.free := rfl
@[simp] theorem State.setReg_evr (s : State) {a} {v} : (s.setReg a v).evr = s.evr := rfl
@[simp] theorem State.setReg_bus (s : State) {a} {v} : (s.setReg a v).bus = s.bus := rfl
@[simp] theorem State.setReg_outbox (s : State) {a} {v} : (s.setReg a v).outbox = s.outbox := rfl
@[simp] theorem State.setReg_sys (s : State) {a} {v} : (s.setReg a v).sys = s.sys := rfl
@[simp] theorem State.setReg_pat (s : State) {a} {v} : (s.setReg a v).pat = s.pat := rfl
@[simp] theorem State.setReg_pour (s : State) {a} {v} : (s.setReg a v).pour = s.pour := rfl
@[simp] theorem State.setReg_prg (s : State) {a} {v} : (s.setReg a v).prg = s.prg := rfl
@[simp] theorem State.setReg_chan (s : State) {a} {v} : (s.setReg a v).chan = s.chan := rfl
@[simp] theorem State.setReg_cru (s : State) {a} {v} : (s.setReg a v).cru = s.cru := rfl
@[simp] theorem State.setReg_fox (s : State) {a} {v} : (s.setReg a v).fox = s.fox := rfl
@[simp] theorem State.setReg_saf (s : State) {a} {v} : (s.setReg a v).saf = s.saf := rfl
@[simp] theorem State.setReg_safNv (s : State) {a} {v} : (s.setReg a v).safNv = s.safNv := rfl
@[simp] theorem State.setReg_mgd (s : State) {a} {v} : (s.setReg a v).mgd = s.mgd := rfl
@[simp] theorem State.setReg_can (s : State) {a} {v} : (s.setReg a v).can = s.can := rfl
@[simp] theorem State.setReg_net (s : State) {a} {v} : (s.setReg a v).net = s.net := rfl
@[simp] theorem State.setReg_run (s : State) {a} {v} : (s.setReg a v).run = s.run := rfl
@[simp] theorem State.setReg_ldl (s : State) {a} {v} : (s.setReg a v).ldl = s.ldl := rfl
@[simp] theorem State.setReg_pmc (s : State) {a} {v} : (s.setReg a v).pmc = s.pmc := rfl
@[simp] theorem State.setReg_cope (s : State) {a} {v} : (s.setReg a v).cope = s.cope := rfl
@[simp] theorem State.setReg_pwr (s : State) {a} {v} : (s.setReg a v).pwr = s.pwr := rfl
@[simp] theorem State.setReg_pending (s : State) {a} {v} : (s.setReg a v).pending = s.pending := rfl
@[simp] theorem State.setRegN_mem (s : State) {a} {v} : (s.setRegN a v).mem = s.mem := rfl
@[simp] theorem State.setRegN_mono (s : State) {a} {v} : (s.setRegN a v).mono = s.mono := rfl
@[simp] theorem State.setRegN_mgdNs (s : State) {a} {v} : (s.setRegN a v).mgdNs = s.mgdNs := rfl
@[simp] theorem State.setRegN_free (s : State) {a} {v} : (s.setRegN a v).free = s.free := rfl
@[simp] theorem State.setRegN_evr (s : State) {a} {v} : (s.setRegN a v).evr = s.evr := rfl
@[simp] theorem State.setRegN_bus (s : State) {a} {v} : (s.setRegN a v).bus = s.bus := rfl
@[simp] theorem State.setRegN_outbox (s : State) {a} {v} : (s.setRegN a v).outbox = s.outbox := rfl
@[simp] theorem State.setRegN_sys (s : State) {a} {v} : (s.setRegN a v).sys = s.sys := rfl
@[simp] theorem State.setRegN_pat (s : State) {a} {v} : (s.setRegN a v).pat = s.pat := rfl
@[simp] theorem State.setRegN_pour (s : State) {a} {v} : (s.setRegN a v).pour = s.pour := rfl
@[simp] theorem State.setRegN_prg (s : State) {a} {v} : (s.setRegN a v).prg = s.prg := rfl
@[simp] theorem State.setRegN_chan (s : State) {a} {v} : (s.setRegN a v).chan = s.chan := rfl
@[simp] theorem State.setRegN_cru (s : State) {a} {v} : (s.setRegN a v).cru = s.cru := rfl
@[simp] theorem State.setRegN_fox (s : State) {a} {v} : (s.setRegN a v).fox = s.fox := rfl
@[simp] theorem State.setRegN_saf (s : State) {a} {v} : (s.setRegN a v).saf = s.saf := rfl
@[simp] theorem State.setRegN_safNv (s : State) {a} {v} : (s.setRegN a v).safNv = s.safNv := rfl
@[simp] theorem State.setRegN_mgd (s : State) {a} {v} : (s.setRegN a v).mgd = s.mgd := rfl
@[simp] theorem State.setRegN_can (s : State) {a} {v} : (s.setRegN a v).can = s.can := rfl
@[simp] theorem State.setRegN_net (s : State) {a} {v} : (s.setRegN a v).net = s.net := rfl
@[simp] theorem State.setRegN_run (s : State) {a} {v} : (s.setRegN a v).run = s.run := rfl
@[simp] theorem State.setRegN_ldl (s : State) {a} {v} : (s.setRegN a v).ldl = s.ldl := rfl
@[simp] theorem State.setRegN_pmc (s : State) {a} {v} : (s.setRegN a v).pmc = s.pmc := rfl
@[simp] theorem State.setRegN_cope (s : State) {a} {v} : (s.setRegN a v).cope = s.cope := rfl
@[simp] theorem State.setRegN_pwr (s : State) {a} {v} : (s.setRegN a v).pwr = s.pwr := rfl
@[simp] theorem State.setRegN_pending (s : State) {a} {v} : (s.setRegN a v).pending = s.pending := rfl
@[simp] theorem State.bumpBy_mem (s : State) {a} {v} : (s.bumpBy a v).mem = s.mem := rfl
@[simp] theorem State.bumpBy_mono (s : State) {a} {v} : (s.bumpBy a v).mono = s.mono := rfl
@[simp] theorem State.bumpBy_mgdNs (s : State) {a} {v} : (s.bumpBy a v).mgdNs = s.mgdNs := rfl
@[simp] theorem State.bumpBy_free (s : State) {a} {v} : (s.bumpBy a v).free = s.free := rfl
@[simp] theorem State.bumpBy_evr (s : State) {a} {v} : (s.bumpBy a v).evr = s.evr := rfl
@[simp] theorem State.bumpBy_bus (s : State) {a} {v} : (s.bumpBy a v).bus = s.bus := rfl
@[simp] theorem State.bumpBy_outbox (s : State) {a} {v} : (s.bumpBy a v).outbox = s.outbox := rfl
@[simp] theorem State.bumpBy_sys (s : State) {a} {v} : (s.bumpBy a v).sys = s.sys := rfl
@[simp] theorem State.bumpBy_pat (s : State) {a} {v} : (s.bumpBy a v).pat = s.pat := rfl
@[simp] theorem State.bumpBy_pour (s : State) {a} {v} : (s.bumpBy a v).pour = s.pour := rfl
@[simp] theorem State.bumpBy_prg (s : State) {a} {v} : (s.bumpBy a v).prg = s.prg := rfl
@[simp] theorem State.bumpBy_chan (s : State) {a} {v} : (s.bumpBy a v).chan = s.chan := rfl
@[simp] theorem State.bumpBy_cru (s : State) {a} {v} : (s.bumpBy a v).cru = s.cru := rfl
@[simp] theorem State.bumpBy_fox (s : State) {a} {v} : (s.bumpBy a v).fox = s.fox := rfl
@[simp] theorem State.bumpBy_saf (s : State) {a} {v} : (s.bumpBy a v).saf = s.saf := rfl
@[simp] theorem State.bumpBy_safNv (s : State) {a} {v} : (s.bumpBy a v).safNv = s.safNv := rfl
@[simp] theorem State.bumpBy_mgd (s : State) {a} {v} : (s.bumpBy a v).mgd = s.mgd := rfl
@[simp] theorem State.bumpBy_can (s : State) {a} {v} : (s.bumpBy a v).can = s.can := rfl
@[simp] theorem State.bumpBy_net (s : State) {a} {v} : (s.bumpBy a v).net = s.net := rfl
@[simp] theorem State.bumpBy_run (s : State) {a} {v} : (s.bumpBy a v).run = s.run := rfl
@[simp] theorem State.bumpBy_ldl (s : State) {a} {v} : (s.bumpBy a v).ldl = s.ldl := rfl
@[simp] theorem State.bumpBy_pmc (s : State) {a} {v} : (s.bumpBy a v).pmc = s.pmc := rfl
@[simp] theorem State.bumpBy_cope (s : State) {a} {v} : (s.bumpBy a v).cope = s.cope := rfl
@[simp] theorem State.bumpBy_pwr (s : State) {a} {v} : (s.bumpBy a v).pwr = s.pwr := rfl
@[simp] theorem State.bumpBy_pending (s : State) {a} {v} : (s.bumpBy a v).pending = s.pending := rfl
@[simp] theorem State.bump_mem (s : State) {a} : (s.bump a).mem = s.mem := rfl
@[simp] theorem State.bump_mono (s : State) {a} : (s.bump a).mono = s.mono := rfl
@[simp] theorem State.bump_mgdNs (s : State) {a} : (s.bump a).mgdNs = s.mgdNs := rfl
@[simp] theorem State.bump_free (s : State) {a} : (s.bump a).free = s.free := rfl
@[simp] theorem State.bump_evr (s : State) {a} : (s.bump a).evr = s.evr := rfl
@[simp] theorem State.bump_bus (s : State) {a} : (s.bump a).bus = s.bus := rfl
@[simp] theorem State.bump_outbox (s : State) {a} : (s.bump a).outbox = s.outbox := rfl
@[simp] theorem State.bump_sys (s : State) {a} : (s.bump a).sys = s.sys := rfl
@[simp] theorem State.bump_pat (s : State) {a} : (s.bump a).pat = s.pat := rfl
@[simp] theorem State.bump_pour (s : State) {a} : (s.bump a).pour = s.pour := rfl
@[simp] theorem State.bump_prg (s : State) {a} : (s.bump a).prg = s.prg := rfl
@[simp] theorem State.bump_chan (s : State) {a} : (s.bump a).chan = s.chan := rfl
@[simp] theorem State.bump_cru (s : State) {a} : (s.bump a).cru = s.cru := rfl
@[simp] theorem State.bump_fox (s : State) {a} : (s.bump a).fox = s.fox := rfl
@[simp] theorem State.bump_saf (s : State) {a} : (s.bump a).saf = s.saf := rfl
@[simp] theorem State.bump_safNv (s : State) {a} : (s.bump a).safNv = s.safNv := rfl
@[simp] theorem State.bump_mgd (s : State) {a} : (s.bump a).mgd = s.mgd := rfl
@[simp] theorem State.bump_can (s : State) {a} : (s.bump a).can = s.can := rfl
@[simp] theorem State.bump_net (s : State) {a} : (s.bump a).net = s.net := rfl
@[simp] theorem State.bump_run (s : State) {a} : (s.bump a).run = s.run := rfl
@[simp] theorem State.bump_ldl (s : State) {a} : (s.bump a).ldl = s.ldl := rfl
@[simp] theorem State.bump_pmc (s : State) {a} : (s.bump a).pmc = s.pmc := rfl
@[simp] theorem State.bump_cope (s : State) {a} : (s.bump a).cope = s.cope := rfl
@[simp] theorem State.bump_pwr (s : State) {a} : (s.bump a).pwr = s.pwr := rfl
@[simp] theorem State.bump_pending (s : State) {a} : (s.bump a).pending = s.pending := rfl
@[simp] theorem State.setFld_mem (s : State) {f} {v} : (s.setFld f v).mem = s.mem := rfl
@[simp] theorem State.setFld_mono (s : State) {f} {v} : (s.setFld f v).mono = s.mono := rfl
@[simp] theorem State.setFld_mgdNs (s : State) {f} {v} : (s.setFld f v).mgdNs = s.mgdNs := rfl
@[simp] theorem State.setFld_free (s : State) {f} {v} : (s.setFld f v).free = s.free := rfl
@[simp] theorem State.setFld_evr (s : State) {f} {v} : (s.setFld f v).evr = s.evr := rfl
@[simp] theorem State.setFld_bus (s : State) {f} {v} : (s.setFld f v).bus = s.bus := rfl
@[simp] theorem State.setFld_outbox (s : State) {f} {v} : (s.setFld f v).outbox = s.outbox := rfl
@[simp] theorem State.setFld_sys (s : State) {f} {v} : (s.setFld f v).sys = s.sys := rfl
@[simp] theorem State.setFld_pat (s : State) {f} {v} : (s.setFld f v).pat = s.pat := rfl
@[simp] theorem State.setFld_pour (s : State) {f} {v} : (s.setFld f v).pour = s.pour := rfl
@[simp] theorem State.setFld_prg (s : State) {f} {v} : (s.setFld f v).prg = s.prg := rfl
@[simp] theorem State.setFld_chan (s : State) {f} {v} : (s.setFld f v).chan = s.chan := rfl
@[simp] theorem State.setFld_cru (s : State) {f} {v} : (s.setFld f v).cru = s.cru := rfl
@[simp] theorem State.setFld_fox (s : State) {f} {v} : (s.setFld f v).fox = s.fox := rfl
@[simp] theorem State.setFld_saf (s : State) {f} {v} : (s.setFld f v).saf = s.saf := rfl
@[simp] theorem State.setFld_safNv (s : State) {f} {v} : (s.setFld f v).safNv = s.safNv := rfl
@[simp] theorem State.setFld_mgd (s : State) {f} {v} : (s.setFld f v).mgd = s.mgd := rfl
@[simp] theorem State.setFld_can (s : State) {f} {v} : (s.setFld f v).can = s.can := rfl
@[simp] theorem State.setFld_net (s : State) {f} {v} : (s.setFld f v).net = s.net := rfl
@[simp] theorem State.setFld_run (s : State) {f} {v} : (s.setFld f v).run = s.run := rfl
@[simp] theorem State.setFld_ldl (s : State) {f} {v} : (s.setFld f v).ldl = s.ldl := rfl
@[simp] theorem State.setFld_pmc (s : State) {f} {v} : (s.setFld f v).pmc = s.pmc := rfl
@[simp] theorem State.setFld_cope (s : State) {f} {v} : (s.setFld f v).cope = s.cope := rfl
@[simp] theorem State.setFld_pwr (s : State) {f} {v} : (s.setFld f v).pwr = s.pwr := rfl
@[simp] theorem State.setFld_pending (s : State) {f} {v} : (s.setFld f v).pending = s.pending := rfl
@[simp] theorem State.setFlag_mem (s : State) {f} {v} : (s.setFlag f v).mem = s.mem := rfl
@[simp] theorem State.setFlag_mono (s : State) {f} {v} : (s.setFlag f v).mono = s.mono := rfl
@[simp] theorem State.setFlag_mgdNs (s : State) {f} {v} : (s.setFlag f v).mgdNs = s.mgdNs := rfl
@[simp] theorem State.setFlag_free (s : State) {f} {v} : (s.setFlag f v).free = s.free := rfl
@[simp] theorem State.setFlag_evr (s : State) {f} {v} : (s.setFlag f v).evr = s.evr := rfl
@[simp] theorem State.setFlag_bus (s : State) {f} {v} : (s.setFlag f v).bus = s.bus := rfl
@[simp] theorem State.setFlag_outbox (s : State) {f} {v} : (s.setFlag f v).outbox = s.outbox := rfl
@[simp] theorem State.setFlag_sys (s : State) {f} {v} : (s.setFlag f v).sys = s.sys := rfl
@[simp] theorem State.setFlag_pat (s : State) {f} {v} : (s.setFlag f v).pat = s.pat := rfl
@[simp] theorem State.setFlag_pour (s : State) {f} {v} : (s.setFlag f v).pour = s.pour := rfl
@[simp] theorem State.setFlag_prg (s : State) {f} {v} : (s.setFlag f v).prg = s.prg := rfl
@[simp] theorem State.setFlag_chan (s : State) {f} {v} : (s.setFlag f v).chan = s.chan := rfl
@[simp] theorem State.setFlag_cru (s : State) {f} {v} : (s.setFlag f v).cru = s.cru := rfl
@[simp] theorem State.setFlag_fox (s : State) {f} {v} : (s.setFlag f v).fox = s.fox := rfl
@[simp] theorem State.setFlag_saf (s : State) {f} {v} : (s.setFlag f v).saf = s.saf := rfl
@[simp] theorem State.setFlag_safNv (s : State) {f} {v} : (s.setFlag f v).safNv = s.safNv := rfl
@[simp] theorem State.setFlag_mgd (s : State) {f} {v} : (s.setFlag f v).mgd = s.mgd := rfl
@[simp] theorem State.setFlag_can (s : State) {f} {v} : (s.setFlag f v).can = s.can := rfl
@[simp] theorem State.setFlag_net (s : State) {f} {v} : (s.setFlag f v).net = s.net := rfl
@[simp] theorem State.setFlag_run (s : State) {f} {v} : (s.setFlag f v).run = s.run := rfl
@[simp] theorem State.setFlag_ldl (s : State) {f} {v} : (s.setFlag f v).ldl = s.ldl := rfl
@[simp] theorem State.setFlag_pmc (s : State) {f} {v} : (s.setFlag f v).pmc = s.pmc := rfl
@[simp] theorem State.setFlag_cope (s : State) {f} {v} : (s.setFlag f v).cope = s.cope := rfl
@[simp] theorem State.setFlag_pwr (s : State) {f} {v} : (s.setFlag f v).pwr = s.pwr := rfl
@[simp] theorem State.setFlag_pending (s : State) {f} {v} : (s.setFlag f v).pending = s.pending := rfl
@[simp] theorem State.setBit_mem (s : State) {a} {i} {v} : (s.setBit a i v).mem = s.mem := rfl
@[simp] theorem State.setBit_mono (s : State) {a} {i} {v} : (s.setBit a i v).mono = s.mono := rfl
@[simp] theorem State.setBit_mgdNs (s : State) {a} {i} {v} : (s.setBit a i v).mgdNs = s.mgdNs := rfl
@[simp] theorem State.setBit_free (s : State) {a} {i} {v} : (s.setBit a i v).free = s.free := rfl
@[simp] theorem State.setBit_evr (s : State) {a} {i} {v} : (s.setBit a i v).evr = s.evr := rfl
@[simp] theorem State.setBit_bus (s : State) {a} {i} {v} : (s.setBit a i v).bus = s.bus := rfl
@[simp] theorem State.setBit_outbox (s : State) {a} {i} {v} : (s.setBit a i v).outbox = s.outbox := rfl
@[simp] theorem State.setBit_sys (s : State) {a} {i} {v} : (s.setBit a i v).sys = s.sys := rfl
@[simp] theorem State.setBit_pat (s : State) {a} {i} {v} : (s.setBit a i v).pat = s.pat := rfl
@[simp] theorem State.setBit_pour (s : State) {a} {i} {v} : (s.setBit a i v).pour = s.pour := rfl
@[simp] theorem State.setBit_prg (s : State) {a} {i} {v} : (s.setBit a i v).prg = s.prg := rfl
@[simp] theorem State.setBit_chan (s : State) {a} {i} {v} : (s.setBit a i v).chan = s.chan := rfl
@[simp] theorem State.setBit_cru (s : State) {a} {i} {v} : (s.setBit a i v).cru = s.cru := rfl
@[simp] theorem State.setBit_fox (s : State) {a} {i} {v} : (s.setBit a i v).fox = s.fox := rfl
@[simp] theorem State.setBit_saf (s : State) {a} {i} {v} : (s.setBit a i v).saf = s.saf := rfl
@[simp] theorem State.setBit_safNv (s : State) {a} {i} {v} : (s.setBit a i v).safNv = s.safNv := rfl
@[simp] theorem State.setBit_mgd (s : State) {a} {i} {v} : (s.setBit a i v).mgd = s.mgd := rfl
@[simp] theorem State.setBit_can (s : State) {a} {i} {v} : (s.setBit a i v).can = s.can := rfl
@[simp] theorem State.setBit_net (s : State) {a} {i} {v} : (s.setBit a i v).net = s.net := rfl
@[simp] theorem State.setBit_run (s : State) {a} {i} {v} : (s.setBit a i v).run = s.run := rfl
@[simp] theorem State.setBit_ldl (s : State) {a} {i} {v} : (s.setBit a i v).ldl = s.ldl := rfl
@[simp] theorem State.setBit_pmc (s : State) {a} {i} {v} : (s.setBit a i v).pmc = s.pmc := rfl
@[simp] theorem State.setBit_cope (s : State) {a} {i} {v} : (s.setBit a i v).cope = s.cope := rfl
@[simp] theorem State.setBit_pwr (s : State) {a} {i} {v} : (s.setBit a i v).pwr = s.pwr := rfl
@[simp] theorem State.setBit_pending (s : State) {a} {i} {v} : (s.setBit a i v).pending = s.pending := rfl
@[simp] theorem State.orReg_mem (s : State) {a} {v} : (s.orReg a v).mem = s.mem := rfl
@[simp] theorem State.orReg_mono (s : State) {a} {v} : (s.orReg a v).mono = s.mono := rfl
@[simp] theorem State.orReg_mgdNs (s : State) {a} {v} : (s.orReg a v).mgdNs = s.mgdNs := rfl
@[simp] theorem State.orReg_free (s : State) {a} {v} : (s.orReg a v).free = s.free := rfl
@[simp] theorem State.orReg_evr (s : State) {a} {v} : (s.orReg a v).evr = s.evr := rfl
@[simp] theorem State.orReg_bus (s : State) {a} {v} : (s.orReg a v).bus = s.bus := rfl
@[simp] theorem State.orReg_outbox (s : State) {a} {v} : (s.orReg a v).outbox = s.outbox := rfl
@[simp] theorem State.orReg_sys (s : State) {a} {v} : (s.orReg a v).sys = s.sys := rfl
@[simp] theorem State.orReg_pat (s : State) {a} {v} : (s.orReg a v).pat = s.pat := rfl
@[simp] theorem State.orReg_pour (s : State) {a} {v} : (s.orReg a v).pour = s.pour := rfl
@[simp] theorem State.orReg_prg (s : State) {a} {v} : (s.orReg a v).prg = s.prg := rfl
@[simp] theorem State.orReg_chan (s : State) {a} {v} : (s.orReg a v).chan = s.chan := rfl
@[simp] theorem State.orReg_cru (s : State) {a} {v} : (s.orReg a v).cru = s.cru := rfl
@[simp] theorem State.orReg_fox (s : State) {a} {v} : (s.orReg a v).fox = s.fox := rfl
@[simp] theorem State.orReg_saf (s : State) {a} {v} : (s.orReg a v).saf = s.saf := rfl
@[simp] theorem State.orReg_safNv (s : State) {a} {v} : (s.orReg a v).safNv = s.safNv := rfl
@[simp] theorem State.orReg_mgd (s : State) {a} {v} : (s.orReg a v).mgd = s.mgd := rfl
@[simp] theorem State.orReg_can (s : State) {a} {v} : (s.orReg a v).can = s.can := rfl
@[simp] theorem State.orReg_net (s : State) {a} {v} : (s.orReg a v).net = s.net := rfl
@[simp] theorem State.orReg_run (s : State) {a} {v} : (s.orReg a v).run = s.run := rfl
@[simp] theorem State.orReg_ldl (s : State) {a} {v} : (s.orReg a v).ldl = s.ldl := rfl
@[simp] theorem State.orReg_pmc (s : State) {a} {v} : (s.orReg a v).pmc = s.pmc := rfl
@[simp] theorem State.orReg_cope (s : State) {a} {v} : (s.orReg a v).cope = s.cope := rfl
@[simp] theorem State.orReg_pwr (s : State) {a} {v} : (s.orReg a v).pwr = s.pwr := rfl
@[simp] theorem State.orReg_pending (s : State) {a} {v} : (s.orReg a v).pending = s.pending := rfl
@[simp] theorem State.bumpSat_mem (s : State) {f} : (s.bumpSat f).mem = s.mem := rfl
@[simp] theorem State.bumpSat_mono (s : State) {f} : (s.bumpSat f).mono = s.mono := rfl
@[simp] theorem State.bumpSat_mgdNs (s : State) {f} : (s.bumpSat f).mgdNs = s.mgdNs := rfl
@[simp] theorem State.bumpSat_free (s : State) {f} : (s.bumpSat f).free = s.free := rfl
@[simp] theorem State.bumpSat_evr (s : State) {f} : (s.bumpSat f).evr = s.evr := rfl
@[simp] theorem State.bumpSat_bus (s : State) {f} : (s.bumpSat f).bus = s.bus := rfl
@[simp] theorem State.bumpSat_outbox (s : State) {f} : (s.bumpSat f).outbox = s.outbox := rfl
@[simp] theorem State.bumpSat_sys (s : State) {f} : (s.bumpSat f).sys = s.sys := rfl
@[simp] theorem State.bumpSat_pat (s : State) {f} : (s.bumpSat f).pat = s.pat := rfl
@[simp] theorem State.bumpSat_pour (s : State) {f} : (s.bumpSat f).pour = s.pour := rfl
@[simp] theorem State.bumpSat_prg (s : State) {f} : (s.bumpSat f).prg = s.prg := rfl
@[simp] theorem State.bumpSat_chan (s : State) {f} : (s.bumpSat f).chan = s.chan := rfl
@[simp] theorem State.bumpSat_cru (s : State) {f} : (s.bumpSat f).cru = s.cru := rfl
@[simp] theorem State.bumpSat_fox (s : State) {f} : (s.bumpSat f).fox = s.fox := rfl
@[simp] theorem State.bumpSat_saf (s : State) {f} : (s.bumpSat f).saf = s.saf := rfl
@[simp] theorem State.bumpSat_safNv (s : State) {f} : (s.bumpSat f).safNv = s.safNv := rfl
@[simp] theorem State.bumpSat_mgd (s : State) {f} : (s.bumpSat f).mgd = s.mgd := rfl
@[simp] theorem State.bumpSat_can (s : State) {f} : (s.bumpSat f).can = s.can := rfl
@[simp] theorem State.bumpSat_net (s : State) {f} : (s.bumpSat f).net = s.net := rfl
@[simp] theorem State.bumpSat_run (s : State) {f} : (s.bumpSat f).run = s.run := rfl
@[simp] theorem State.bumpSat_ldl (s : State) {f} : (s.bumpSat f).ldl = s.ldl := rfl
@[simp] theorem State.bumpSat_pmc (s : State) {f} : (s.bumpSat f).pmc = s.pmc := rfl
@[simp] theorem State.bumpSat_cope (s : State) {f} : (s.bumpSat f).cope = s.cope := rfl
@[simp] theorem State.bumpSat_pwr (s : State) {f} : (s.bumpSat f).pwr = s.pwr := rfl
@[simp] theorem State.bumpSat_pending (s : State) {f} : (s.bumpSat f).pending = s.pending := rfl
@[simp] theorem State.clearRegs_mem (s : State) {a} {v} : (s.clearRegs a v).mem = s.mem := rfl
@[simp] theorem State.clearRegs_mono (s : State) {a} {v} : (s.clearRegs a v).mono = s.mono := rfl
@[simp] theorem State.clearRegs_mgdNs (s : State) {a} {v} : (s.clearRegs a v).mgdNs = s.mgdNs := rfl
@[simp] theorem State.clearRegs_free (s : State) {a} {v} : (s.clearRegs a v).free = s.free := rfl
@[simp] theorem State.clearRegs_evr (s : State) {a} {v} : (s.clearRegs a v).evr = s.evr := rfl
@[simp] theorem State.clearRegs_bus (s : State) {a} {v} : (s.clearRegs a v).bus = s.bus := rfl
@[simp] theorem State.clearRegs_outbox (s : State) {a} {v} : (s.clearRegs a v).outbox = s.outbox := rfl
@[simp] theorem State.clearRegs_sys (s : State) {a} {v} : (s.clearRegs a v).sys = s.sys := rfl
@[simp] theorem State.clearRegs_pat (s : State) {a} {v} : (s.clearRegs a v).pat = s.pat := rfl
@[simp] theorem State.clearRegs_pour (s : State) {a} {v} : (s.clearRegs a v).pour = s.pour := rfl
@[simp] theorem State.clearRegs_prg (s : State) {a} {v} : (s.clearRegs a v).prg = s.prg := rfl
@[simp] theorem State.clearRegs_chan (s : State) {a} {v} : (s.clearRegs a v).chan = s.chan := rfl
@[simp] theorem State.clearRegs_cru (s : State) {a} {v} : (s.clearRegs a v).cru = s.cru := rfl
@[simp] theorem State.clearRegs_fox (s : State) {a} {v} : (s.clearRegs a v).fox = s.fox := rfl
@[simp] theorem State.clearRegs_saf (s : State) {a} {v} : (s.clearRegs a v).saf = s.saf := rfl
@[simp] theorem State.clearRegs_safNv (s : State) {a} {v} : (s.clearRegs a v).safNv = s.safNv := rfl
@[simp] theorem State.clearRegs_mgd (s : State) {a} {v} : (s.clearRegs a v).mgd = s.mgd := rfl
@[simp] theorem State.clearRegs_can (s : State) {a} {v} : (s.clearRegs a v).can = s.can := rfl
@[simp] theorem State.clearRegs_net (s : State) {a} {v} : (s.clearRegs a v).net = s.net := rfl
@[simp] theorem State.clearRegs_run (s : State) {a} {v} : (s.clearRegs a v).run = s.run := rfl
@[simp] theorem State.clearRegs_ldl (s : State) {a} {v} : (s.clearRegs a v).ldl = s.ldl := rfl
@[simp] theorem State.clearRegs_pmc (s : State) {a} {v} : (s.clearRegs a v).pmc = s.pmc := rfl
@[simp] theorem State.clearRegs_cope (s : State) {a} {v} : (s.clearRegs a v).cope = s.cope := rfl
@[simp] theorem State.clearRegs_pwr (s : State) {a} {v} : (s.clearRegs a v).pwr = s.pwr := rfl
@[simp] theorem State.clearRegs_pending (s : State) {a} {v} : (s.clearRegs a v).pending = s.pending := rfl
@[simp] theorem State.setMode_mem (s : State) {v} : (s.setMode v).mem = s.mem := rfl
@[simp] theorem State.setMode_mono (s : State) {v} : (s.setMode v).mono = s.mono := rfl
@[simp] theorem State.setMode_mgdNs (s : State) {v} : (s.setMode v).mgdNs = s.mgdNs := rfl
@[simp] theorem State.setMode_free (s : State) {v} : (s.setMode v).free = s.free := rfl
@[simp] theorem State.setMode_evr (s : State) {v} : (s.setMode v).evr = s.evr := rfl
@[simp] theorem State.setMode_bus (s : State) {v} : (s.setMode v).bus = s.bus := rfl
@[simp] theorem State.setMode_outbox (s : State) {v} : (s.setMode v).outbox = s.outbox := rfl
@[simp] theorem State.setMode_sys (s : State) {v} : (s.setMode v).sys = s.sys := rfl
@[simp] theorem State.setMode_pat (s : State) {v} : (s.setMode v).pat = s.pat := rfl
@[simp] theorem State.setMode_pour (s : State) {v} : (s.setMode v).pour = s.pour := rfl
@[simp] theorem State.setMode_prg (s : State) {v} : (s.setMode v).prg = s.prg := rfl
@[simp] theorem State.setMode_chan (s : State) {v} : (s.setMode v).chan = s.chan := rfl
@[simp] theorem State.setMode_cru (s : State) {v} : (s.setMode v).cru = s.cru := rfl
@[simp] theorem State.setMode_fox (s : State) {v} : (s.setMode v).fox = s.fox := rfl
@[simp] theorem State.setMode_saf (s : State) {v} : (s.setMode v).saf = s.saf := rfl
@[simp] theorem State.setMode_safNv (s : State) {v} : (s.setMode v).safNv = s.safNv := rfl
@[simp] theorem State.setMode_mgd (s : State) {v} : (s.setMode v).mgd = s.mgd := rfl
@[simp] theorem State.setMode_can (s : State) {v} : (s.setMode v).can = s.can := rfl
@[simp] theorem State.setMode_net (s : State) {v} : (s.setMode v).net = s.net := rfl
@[simp] theorem State.setMode_run (s : State) {v} : (s.setMode v).run = s.run := rfl
@[simp] theorem State.setMode_ldl (s : State) {v} : (s.setMode v).ldl = s.ldl := rfl
@[simp] theorem State.setMode_pmc (s : State) {v} : (s.setMode v).pmc = s.pmc := rfl
@[simp] theorem State.setMode_cope (s : State) {v} : (s.setMode v).cope = s.cope := rfl
@[simp] theorem State.setMode_pwr (s : State) {v} : (s.setMode v).pwr = s.pwr := rfl
@[simp] theorem State.setMode_pending (s : State) {v} : (s.setMode v).pending = s.pending := rfl
@[simp] theorem State.mput_regs (s : State) {a} {v} : (s.mput a v).regs = s.regs := rfl
@[simp] theorem State.mput_mono (s : State) {a} {v} : (s.mput a v).mono = s.mono := rfl
@[simp] theorem State.mput_mgdNs (s : State) {a} {v} : (s.mput a v).mgdNs = s.mgdNs := rfl
@[simp] theorem State.mput_free (s : State) {a} {v} : (s.mput a v).free = s.free := rfl
@[simp] theorem State.mput_evr (s : State) {a} {v} : (s.mput a v).evr = s.evr := rfl
@[simp] theorem State.mput_bus (s : State) {a} {v} : (s.mput a v).bus = s.bus := rfl
@[simp] theorem State.mput_outbox (s : State) {a} {v} : (s.mput a v).outbox = s.outbox := rfl
@[simp] theorem State.mput_pat (s : State) {a} {v} : (s.mput a v).pat = s.pat := rfl
@[simp] theorem State.mput_pour (s : State) {a} {v} : (s.mput a v).pour = s.pour := rfl
@[simp] theorem State.mput_prg (s : State) {a} {v} : (s.mput a v).prg = s.prg := rfl
@[simp] theorem State.mput_chan (s : State) {a} {v} : (s.mput a v).chan = s.chan := rfl
@[simp] theorem State.mput_cru (s : State) {a} {v} : (s.mput a v).cru = s.cru := rfl
@[simp] theorem State.mput_fox (s : State) {a} {v} : (s.mput a v).fox = s.fox := rfl
@[simp] theorem State.mput_saf (s : State) {a} {v} : (s.mput a v).saf = s.saf := rfl
@[simp] theorem State.mput_safNv (s : State) {a} {v} : (s.mput a v).safNv = s.safNv := rfl
@[simp] theorem State.mput_mgd (s : State) {a} {v} : (s.mput a v).mgd = s.mgd := rfl
@[simp] theorem State.mput_can (s : State) {a} {v} : (s.mput a v).can = s.can := rfl
@[simp] theorem State.mput_net (s : State) {a} {v} : (s.mput a v).net = s.net := rfl
@[simp] theorem State.mput_run (s : State) {a} {v} : (s.mput a v).run = s.run := rfl
@[simp] theorem State.mput_ldl (s : State) {a} {v} : (s.mput a v).ldl = s.ldl := rfl
@[simp] theorem State.mput_pmc (s : State) {a} {v} : (s.mput a v).pmc = s.pmc := rfl
@[simp] theorem State.mput_cope (s : State) {a} {v} : (s.mput a v).cope = s.cope := rfl
@[simp] theorem State.mput_pwr (s : State) {a} {v} : (s.mput a v).pwr = s.pwr := rfl
@[simp] theorem State.mput_pending (s : State) {a} {v} : (s.mput a v).pending = s.pending := rfl
@[simp] theorem State.draw_regs (s : State) {w} : (s.draw w).2.regs = s.regs := rfl
@[simp] theorem State.draw_mem (s : State) {w} : (s.draw w).2.mem = s.mem := rfl
@[simp] theorem State.draw_mono (s : State) {w} : (s.draw w).2.mono = s.mono := rfl
@[simp] theorem State.draw_mgdNs (s : State) {w} : (s.draw w).2.mgdNs = s.mgdNs := rfl
@[simp] theorem State.draw_evr (s : State) {w} : (s.draw w).2.evr = s.evr := rfl
@[simp] theorem State.draw_bus (s : State) {w} : (s.draw w).2.bus = s.bus := rfl
@[simp] theorem State.draw_outbox (s : State) {w} : (s.draw w).2.outbox = s.outbox := rfl
@[simp] theorem State.draw_sys (s : State) {w} : (s.draw w).2.sys = s.sys := rfl
@[simp] theorem State.draw_pat (s : State) {w} : (s.draw w).2.pat = s.pat := rfl
@[simp] theorem State.draw_pour (s : State) {w} : (s.draw w).2.pour = s.pour := rfl
@[simp] theorem State.draw_prg (s : State) {w} : (s.draw w).2.prg = s.prg := rfl
@[simp] theorem State.draw_chan (s : State) {w} : (s.draw w).2.chan = s.chan := rfl
@[simp] theorem State.draw_cru (s : State) {w} : (s.draw w).2.cru = s.cru := rfl
@[simp] theorem State.draw_fox (s : State) {w} : (s.draw w).2.fox = s.fox := rfl
@[simp] theorem State.draw_saf (s : State) {w} : (s.draw w).2.saf = s.saf := rfl
@[simp] theorem State.draw_safNv (s : State) {w} : (s.draw w).2.safNv = s.safNv := rfl
@[simp] theorem State.draw_mgd (s : State) {w} : (s.draw w).2.mgd = s.mgd := rfl
@[simp] theorem State.draw_can (s : State) {w} : (s.draw w).2.can = s.can := rfl
@[simp] theorem State.draw_net (s : State) {w} : (s.draw w).2.net = s.net := rfl
@[simp] theorem State.draw_run (s : State) {w} : (s.draw w).2.run = s.run := rfl
@[simp] theorem State.draw_ldl (s : State) {w} : (s.draw w).2.ldl = s.ldl := rfl
@[simp] theorem State.draw_pmc (s : State) {w} : (s.draw w).2.pmc = s.pmc := rfl
@[simp] theorem State.draw_cope (s : State) {w} : (s.draw w).2.cope = s.cope := rfl
@[simp] theorem State.draw_pwr (s : State) {w} : (s.draw w).2.pwr = s.pwr := rfl
@[simp] theorem State.draw_pending (s : State) {w} : (s.draw w).2.pending = s.pending := rfl

end Sys2Proof.Machine
end

