-- ==== Sys2Proof/Laws/Ops.lean ====
section
/-! SUPPORT. Reads after the named updates of Machine/Ops.lean: registers, fields, bits and bytes of memory. -/

namespace Sys2Proof.Machine

open Sys2Proof.Laws

@[simp] theorem State.reg_setReg (s : State) (a : Nat) (v : Word) (b : Nat) :
    (s.setReg a v).reg b = if b = a then v else s.reg b := tblGet_put_one

theorem State.reg_setReg_same (s : State) (a : Nat) (v : Word) : (s.setReg a v).reg a = v := by simp

theorem State.reg_setReg_ne (s : State) {a b : Nat} (v : Word) (h : b ≠ a) : (s.setReg a v).reg b = s.reg b := by
  simp [h]

@[simp] theorem State.reg_mput (s : State) (a : Nat) (bs : List Byte) (b : Nat) : (s.mput a bs).reg b = s.reg b := rfl

@[simp] theorem State.mget_setReg (s : State) (a : Nat) (v : Word) (b : Nat) :
    (s.setReg a v).mget b = s.mget b := rfl

theorem State.mget_mput_out (s : State) {a b : Nat} {bs : List Byte} (h : b < a ∨ a + bs.length ≤ b) :
    (s.mput a bs).mget b = s.mget b := tblGet_put_out h

theorem State.mget_mput_in (s : State) {a b : Nat} {bs : List Byte} (h1 : a ≤ b) (h2 : b < a + bs.length) :
    (s.mput a bs).mget b = bs[b - a]'(by omega) := tblGet_put_in h1 h2

theorem State.mput_wf (s : State) (a : Nat) (bs : List Byte) (h : Memory.wf s.mem = true) :
    Memory.wf (s.mput a bs).mem = true := tblPut_wf _ _ h

/-- A word is what its fields' mask says, bit by bit. -/
theorem setBits_testBit (w : Word) (hi lo v i : Nat) (h : hi < 32) :
    (setBits w hi lo v).toNat.testBit i
      = if lo ≤ i ∧ i ≤ hi then v.testBit (i - lo) else w.toNat.testBit i := by
  have hw : ∀ i, 32 ≤ i → w.toNat.testBit i = false := fun i hi =>
    Nat.testBit_lt_two_pow (Nat.lt_of_lt_of_le w.isLt (Nat.pow_le_pow_right (by decide) hi))
  simp only [setBits, BitVec.toNat_or, BitVec.toNat_and, BitVec.toNat_ofNat, BitVec.toNat_not, Nat.testBit_or,
    Nat.testBit_and, Nat.testBit_mod_two_pow, Nat.testBit_mul_two_pow, Nat.testBit_two_pow_sub_one]
  by_cases hi32 : i < 32
  · have e : (2 ^ 32 - 1 - (2 ^ (hi + 1 - lo) - 1) * 2 ^ lo % 2 ^ 32)
        = (2 ^ 32 - ((2 ^ (hi + 1 - lo) - 1) * 2 ^ lo % 2 ^ 32 + 1)) := by omega
    rw [e, Nat.testBit_two_pow_sub_succ (Nat.mod_lt _ (by decide))]
    simp only [Nat.testBit_mod_two_pow, Nat.testBit_mul_two_pow, Nat.testBit_two_pow_sub_one, hi32, decide_true,
      Bool.true_and]
    by_cases h1 : lo ≤ i <;> by_cases h2 : i ≤ hi <;> simp [h1, h2]
    · have : i - lo < hi + 1 - lo := by omega
      simp [this]
    · have : ¬ i - lo < hi + 1 - lo := by omega
      simp [this]
  · have h1 : ¬ i ≤ hi := by omega
    simp [hi32, h1, hw i (by omega)]

theorem setBits_same (w : Word) (hi lo v : Nat) (h : hi < 32) :
    bitsOf (setBits w hi lo v).toNat hi lo = v % 2 ^ (hi + 1 - lo) := by
  refine Nat.eq_of_testBit_eq fun i => ?_
  simp only [bitsOf, Nat.testBit_mod_two_pow, Nat.testBit_div_two_pow, setBits_testBit _ _ _ _ _ h]
  by_cases h1 : i < hi + 1 - lo
  · have h2 : lo ≤ i + lo ∧ i + lo ≤ hi := by omega
    rw [if_pos h2]; simp
  · simp [h1]

theorem setBits_other (w : Word) (hi lo v hi' lo' : Nat) (h : hi < 32) (d : hi < lo' ∨ hi' < lo) :
    bitsOf (setBits w hi lo v).toNat hi' lo' = bitsOf w.toNat hi' lo' := by
  refine Nat.eq_of_testBit_eq fun i => ?_
  simp only [bitsOf, Nat.testBit_mod_two_pow, Nat.testBit_div_two_pow, setBits_testBit _ _ _ _ _ h]
  by_cases h1 : i < hi' + 1 - lo'
  · have h2 : ¬ (lo ≤ i + lo' ∧ i + lo' ≤ hi) := by omega
    simp [h2]
  · simp [h1]

theorem State.fld_setReg_ne (s : State) {a : Nat} {v : Word} {f : Fld} (h : f.addr ≠ a) :
    (s.setReg a v).fld f = s.fld f := by
  simp [State.fld, State.regN, h]

/-- A field reads as it was set, modulo its width. -/
theorem State.fld_setFld_same (s : State) (f : Fld) (v : Nat) (h : f.hi < 32) :
    (s.setFld f v).fld f = v % 2 ^ (f.hi + 1 - f.lo) := by
  simp [State.fld, State.regN, State.setFld, setBits_same _ _ _ _ h]

/-- A field of another register, or of other bits of the same, is left alone. -/
theorem State.fld_setFld_other (s : State) (f g : Fld) (v : Nat) (h : f.hi < 32)
    (d : g.addr ≠ f.addr ∨ f.hi < g.lo ∨ g.hi < f.lo) : (s.setFld f v).fld g = s.fld g := by
  by_cases a : g.addr = f.addr
  · have d : f.hi < g.lo ∨ g.hi < f.lo := d.resolve_left fun x => x a
    simp [State.fld, State.regN, State.setFld, a, setBits_other _ _ _ _ _ _ h d]
  · exact s.fld_setReg_ne a

theorem State.reg_setFld_ne (s : State) {f : Fld} {v a : Nat} (h : a ≠ f.addr) : (s.setFld f v).reg a = s.reg a := by
  simp [State.setFld, h]

@[simp] theorem State.reg_draw (s : State) (w a : Nat) : (s.draw w).2.reg a = s.reg a := rfl

@[simp] theorem State.mget_draw (s : State) (w a : Nat) : (s.draw w).2.mget a = s.mget a := rfl

/-- The memory a read sees is the list that State holds. -/
theorem State.mget_congr {s t : State} (h : t.mem = s.mem) (a : Nat) : t.mget a = s.mget a := by
  simp [State.mget, h]

theorem State.reg_congr {s t : State} (h : t.regs = s.regs) (a : Nat) : t.reg a = s.reg a := by
  simp [State.reg, h]

end Sys2Proof.Machine
end

