-- ==== Sys2Proof/Laws/PerInstr.lean ====
section
/-! SUPPORT. One lemma per command for each family of LAWS.json. Total: the command is answered with a next state, in
every state and with every operand. Keeps: what a command keeps when it answers a next state (Laws/Kept.lean). -/

namespace Sys2Proof.Laws

open Sys2Proof.Machine

/-- Every state answers the command with a next state. -/
def Total.Statement (i : Instr) : Prop := ∀ s : State, ∃ t, exec i s = .next t

/-- What a command keeps when it answers a next state. -/
def Keeps.Statement (i : Instr) : Prop := ∀ s t : State, exec i s = .next t → Kept s t

theorem Total.subWordAccess : ∀ who half write addr, Total.Statement (.subWordAccess who half write addr) :=
  fun _ _ _ _ => fun _ => ⟨_, rfl⟩

theorem Total.registerWrite : ∀ who priv addr value, Total.Statement (.registerWrite who priv addr value) :=
  fun _ _ _ _ => fun _ => ⟨_, rfl⟩

theorem Total.memoryAccess : ∀ who priv addr op ecc, Total.Statement (.memoryAccess who priv addr op ecc) :=
  fun _ _ _ _ _ => fun _ => ⟨_, rfl⟩

theorem Total.scrubRead : ∀ addr ecc, Total.Statement (.scrubRead addr ecc) :=
  fun _ _ => fun _ => ⟨_, rfl⟩

theorem Total.moduleFault : ∀ origin, Total.Statement (.moduleFault origin) :=
  fun _ => fun _ => ⟨_, rfl⟩

theorem Total.blockFault : ∀ block, Total.Statement (.blockFault block) :=
  fun _ => fun _ => ⟨_, rfl⟩

theorem Total.regionReset : ∀ region, Total.Statement (.regionReset region) :=
  fun _ => fun _ => ⟨_, rfl⟩

theorem Total.regionResetComplete : ∀ region fault, Total.Statement (.regionResetComplete region fault) :=
  fun _ _ => fun _ => ⟨_, rfl⟩

theorem Total.clockLoss : ∀ clock, Total.Statement (.clockLoss clock) :=
  fun _ => fun _ => ⟨_, rfl⟩

theorem Total.safClockLoss : Total.Statement .safClockLoss :=
  fun _ => ⟨_, rfl⟩

theorem Total.fabricTimeout : Total.Statement .fabricTimeout :=
  fun _ => ⟨_, rfl⟩

theorem Total.fabricPromotion : ∀ port cls, Total.Statement (.fabricPromotion port cls) :=
  fun _ _ => fun _ => ⟨_, rfl⟩

theorem Total.domainGate : ∀ domain busy, Total.Statement (.domainGate domain busy) :=
  fun _ _ => fun _ => ⟨_, rfl⟩

theorem Total.domainWake : ∀ domain, Total.Statement (.domainWake domain) :=
  fun _ => fun _ => ⟨_, rfl⟩

theorem Total.drainComplete : ∀ domain, Total.Statement (.drainComplete domain) :=
  fun _ => fun _ => ⟨_, rfl⟩

theorem Total.drainLapse : ∀ domain, Total.Statement (.drainLapse domain) :=
  fun _ => fun _ => ⟨_, rfl⟩

theorem Total.pdreqWrite : ∀ who off busy, Total.Statement (.pdreqWrite who off busy) :=
  fun _ _ _ => fun _ => ⟨_, rfl⟩

theorem Total.domainPowerUpDone : ∀ domain, Total.Statement (.domainPowerUpDone domain) :=
  fun _ => fun _ => ⟨_, rfl⟩

theorem Total.queuePidxWrite : ∀ who queue value, Total.Statement (.queuePidxWrite who queue value) :=
  fun _ _ _ => fun _ => ⟨_, rfl⟩

theorem Total.queueCidxWrite : ∀ who queue value, Total.Statement (.queueCidxWrite who queue value) :=
  fun _ _ _ => fun _ => ⟨_, rfl⟩

theorem Total.blkrstWrite : ∀ who mask, Total.Statement (.blkrstWrite who mask) :=
  fun _ _ => fun _ => ⟨_, rfl⟩

theorem Total.powerGood : ∀ straps idPar present sideA key, Total.Statement (.powerGood straps idPar present sideA key) :=
  fun _ _ _ _ _ => fun _ => ⟨_, rfl⟩

theorem Total.copeBootComplete : Total.Statement .copeBootComplete :=
  fun _ => ⟨_, rfl⟩

theorem Total.patternLoadComplete : ∀ fault, Total.Statement (.patternLoadComplete fault) :=
  fun _ => fun _ => ⟨_, rfl⟩

theorem Total.checkComplete : ∀ readback wpHigh, Total.Statement (.checkComplete readback wpHigh) :=
  fun _ _ => fun _ => ⟨_, rfl⟩

theorem Total.dragPlaneStart : Total.Statement .dragPlaneStart :=
  fun _ => ⟨_, rfl⟩

theorem Total.roleResolve : Total.Statement .roleResolve :=
  fun _ => ⟨_, rfl⟩

theorem Total.rstIn : ∀ low, Total.Statement (.rstIn low) :=
  fun _ => fun _ => ⟨_, rfl⟩

theorem Total.runReq : ∀ who checkOnly, Total.Statement (.runReq who checkOnly) :=
  fun _ _ => fun _ => ⟨_, rfl⟩

theorem Total.stopReq : ∀ who, Total.Statement (.stopReq who) :=
  fun _ => fun _ => ⟨_, rfl⟩

theorem Total.reload : ∀ who slot, Total.Statement (.reload who slot) :=
  fun _ _ => fun _ => ⟨_, rfl⟩

theorem Total.reloadComplete : ∀ fault readback wpHigh, Total.Statement (.reloadComplete fault readback wpHigh) :=
  fun _ _ _ => fun _ => ⟨_, rfl⟩

theorem Total.orderlyStopComplete : ∀ writeError, Total.Statement (.orderlyStopComplete writeError) :=
  fun _ => fun _ => ⟨_, rfl⟩

theorem Total.snapshot : ∀ task, Total.Statement (.snapshot task) :=
  fun _ => fun _ => ⟨_, rfl⟩

theorem Total.pourRelease : ∀ task, Total.Statement (.pourRelease task) :=
  fun _ => fun _ => ⟨_, rfl⟩

theorem Total.pourDone : ∀ who task, Total.Statement (.pourDone who task) :=
  fun _ _ => fun _ => ⟨_, rfl⟩

theorem Total.budgetExhausted : ∀ task, Total.Statement (.budgetExhausted task) :=
  fun _ => fun _ => ⟨_, rfl⟩

theorem Total.commit : ∀ task, Total.Statement (.commit task) :=
  fun _ => fun _ => ⟨_, rfl⟩

theorem Total.triggerEntry : Total.Statement .triggerEntry :=
  fun _ => ⟨_, rfl⟩

theorem Total.heldTriggerAccept : ∀ task, Total.Statement (.heldTriggerAccept task) :=
  fun _ => fun _ => ⟨_, rfl⟩

theorem Total.pourSwtrig : ∀ who mask, Total.Statement (.pourSwtrig who mask) :=
  fun _ _ => fun _ => ⟨_, rfl⟩

theorem Total.hyperperiodStart : Total.Statement .hyperperiodStart :=
  fun _ => ⟨_, rfl⟩

theorem Total.slewComplete : Total.Statement .slewComplete :=
  fun _ => ⟨_, rfl⟩

theorem Total.swapBoundary : Total.Statement .swapBoundary :=
  fun _ => ⟨_, rfl⟩

theorem Total.pourSwapdone : ∀ who mask, Total.Statement (.pourSwapdone who mask) :=
  fun _ _ => fun _ => ⟨_, rfl⟩

theorem Total.pourSwapreq : ∀ who mask, Total.Statement (.pourSwapreq who mask) :=
  fun _ _ => fun _ => ⟨_, rfl⟩

theorem Total.sequencerWatchdog : Total.Statement .sequencerWatchdog :=
  fun _ => ⟨_, rfl⟩

theorem Total.safeReq : ∀ who priv, Total.Statement (.safeReq who priv) :=
  fun _ _ => fun _ => ⟨_, rfl⟩

theorem Total.resume : ∀ who priv, Total.Statement (.resume who priv) :=
  fun _ _ => fun _ => ⟨_, rfl⟩

theorem Total.toStop : ∀ who priv, Total.Statement (.toStop who priv) :=
  fun _ _ => fun _ => ⟨_, rfl⟩

theorem Total.haltReq : ∀ who priv, Total.Statement (.haltReq who priv) :=
  fun _ _ => fun _ => ⟨_, rfl⟩

theorem Total.programTrap : ∀ task pair cause pc addr, Total.Statement (.programTrap task pair cause pc addr) :=
  fun _ _ _ _ _ => fun _ => ⟨_, rfl⟩

theorem Total.applicationWatchdog : ∀ pair task, Total.Statement (.applicationWatchdog pair task) :=
  fun _ _ => fun _ => ⟨_, rfl⟩

theorem Total.forceCtlWrite : ∀ who entry value, Total.Statement (.forceCtlWrite who entry value) :=
  fun _ _ _ => fun _ => ⟨_, rfl⟩

theorem Total.dlctlStart : ∀ who, Total.Statement (.dlctlStart who) :=
  fun _ => fun _ => ⟨_, rfl⟩

theorem Total.dlctlApply : ∀ who, Total.Statement (.dlctlApply who) :=
  fun _ => fun _ => ⟨_, rfl⟩

theorem Total.dlctlAbort : ∀ who, Total.Statement (.dlctlAbort who) :=
  fun _ => fun _ => ⟨_, rfl⟩

theorem Total.dlCheckComplete : ∀ readback wpHigh, Total.Statement (.dlCheckComplete readback wpHigh) :=
  fun _ _ => fun _ => ⟨_, rfl⟩

theorem Total.dlLoadComplete : Total.Statement .dlLoadComplete :=
  fun _ => ⟨_, rfl⟩

theorem Total.crucibleStage : ∀ entry, Total.Statement (.crucibleStage entry) :=
  fun _ => fun _ => ⟨_, rfl⟩

theorem Total.crucibleSample : ∀ entry done, Total.Statement (.crucibleSample entry done) :=
  fun _ _ => fun _ => ⟨_, rfl⟩

theorem Total.loopModeWrite : ∀ who loop mode, Total.Statement (.loopModeWrite who loop mode) :=
  fun _ _ _ => fun _ => ⟨_, rfl⟩

theorem Total.plausClear : ∀ who loop, Total.Statement (.plausClear who loop) :=
  fun _ _ => fun _ => ⟨_, rfl⟩

theorem Total.integratorRead : ∀ who loop, Total.Statement (.integratorRead who loop) :=
  fun _ _ => fun _ => ⟨_, rfl⟩

theorem Total.cellPowerOn : ∀ cell, Total.Statement (.cellPowerOn cell) :=
  fun _ => fun _ => ⟨_, rfl⟩

theorem Total.cellResult : ∀ cell m, Total.Statement (.cellResult cell m) :=
  fun _ _ => fun _ => ⟨_, rfl⟩

theorem Total.resultMissing : ∀ cell, Total.Statement (.resultMissing cell) :=
  fun _ => fun _ => ⟨_, rfl⟩

theorem Total.cellReinit : ∀ cell, Total.Statement (.cellReinit cell) :=
  fun _ => fun _ => ⟨_, rfl⟩

theorem Total.diAccept : ∀ cell v, Total.Statement (.diAccept cell v) :=
  fun _ _ => fun _ => ⟨_, rfl⟩

theorem Total.diRawReport : ∀ cell v, Total.Statement (.diRawReport cell v) :=
  fun _ _ => fun _ => ⟨_, rfl⟩

theorem Total.waveSample : ∀ cell x xs, Total.Statement (.waveSample cell x xs) :=
  fun _ _ _ => fun _ => ⟨_, rfl⟩

theorem Total.nocycleResult : ∀ cell, Total.Statement (.nocycleResult cell) :=
  fun _ => fun _ => ⟨_, rfl⟩

theorem Total.openWireTest : ∀ cell before after, Total.Statement (.openWireTest cell before after) :=
  fun _ _ _ => fun _ => ⟨_, rfl⟩

theorem Total.doResult : ∀ cell m, Total.Statement (.doResult cell m) :=
  fun _ _ => fun _ => ⟨_, rfl⟩

theorem Total.fieldFaultTimeout : ∀ cell flag present, Total.Statement (.fieldFaultTimeout cell flag present) :=
  fun _ _ _ => fun _ => ⟨_, rfl⟩

theorem Total.doShort : ∀ cell, Total.Statement (.doShort cell) :=
  fun _ => fun _ => ⟨_, rfl⟩

theorem Total.doRetry : ∀ cell, Total.Statement (.doRetry cell) :=
  fun _ => fun _ => ⟨_, rfl⟩

theorem Total.stageTest : ∀ cell lo hi swOn swOff cool, Total.Statement (.stageTest cell lo hi swOn swOff cool) :=
  fun _ _ _ _ _ _ => fun _ => ⟨_, rfl⟩

theorem Total.stageOvertemp : ∀ cell, Total.Statement (.stageOvertemp cell) :=
  fun _ => fun _ => ⟨_, rfl⟩

theorem Total.trimDrive : ∀ who cell point, Total.Statement (.trimDrive who cell point) :=
  fun _ _ _ => fun _ => ⟨_, rfl⟩

theorem Total.channelBlockFault : ∀ block, Total.Statement (.channelBlockFault block) :=
  fun _ => fun _ => ⟨_, rfl⟩

theorem Total.supplySupervisorTrip : ∀ lattice, Total.Statement (.supplySupervisorTrip lattice) :=
  fun _ => fun _ => ⟨_, rfl⟩

theorem Total.supplySupervisorRecover : ∀ lattice, Total.Statement (.supplySupervisorRecover lattice) :=
  fun _ => fun _ => ⟨_, rfl⟩

theorem Total.latticeSourceChange : ∀ src, Total.Statement (.latticeSourceChange src) :=
  fun _ => fun _ => ⟨_, rfl⟩

theorem Total.latticeTimerExpiry : ∀ timer, Total.Statement (.latticeTimerExpiry timer) :=
  fun _ => fun _ => ⟨_, rfl⟩

theorem Total.safetyCycle : ∀ sdi qp qn tp lf testFail mirrorBad, Total.Statement (.safetyCycle sdi qp qn tp lf testFail mirrorBad) :=
  fun _ _ _ _ _ _ _ => fun _ => ⟨_, rfl⟩

theorem Total.safetyWatchdog : Total.Statement .safetyWatchdog :=
  fun _ => ⟨_, rfl⟩

theorem Total.safetySelftestDone : ∀ fail, Total.Statement (.safetySelftestDone fail) :=
  fun _ => fun _ => ⟨_, rfl⟩

theorem Total.tpSchedule : ∀ w0 w1 w2 w3 bad, Total.Statement (.tpSchedule w0 w1 w2 w3 bad) :=
  fun _ _ _ _ _ => fun _ => ⟨_, rfl⟩

theorem Total.preEnergiseTest : ∀ out qpLow qnLow, Total.Statement (.preEnergiseTest out qpLow qnLow) :=
  fun _ _ _ => fun _ => ⟨_, rfl⟩

theorem Total.offPulse : ∀ out low, Total.Statement (.offPulse out low) :=
  fun _ _ => fun _ => ⟨_, rfl⟩

theorem Total.offPulseEnd : ∀ changed restored, Total.Statement (.offPulseEnd changed restored) :=
  fun _ _ => fun _ => ⟨_, rfl⟩

theorem Total.overcurrent : ∀ out, Total.Statement (.overcurrent out) :=
  fun _ => fun _ => ⟨_, rfl⟩

theorem Total.lfLow : Total.Statement .lfLow :=
  fun _ => ⟨_, rfl⟩

theorem Total.lfRestored : Total.Statement .lfRestored :=
  fun _ => ⟨_, rfl⟩

theorem Total.authorise : Total.Statement .authorise :=
  fun _ => ⟨_, rfl⟩

theorem Total.setPassword : Total.Statement .setPassword :=
  fun _ => ⟨_, rfl⟩

theorem Total.setPasswordNew : Total.Statement .setPasswordNew :=
  fun _ => ⟨_, rfl⟩

theorem Total.readLog : Total.Statement .readLog :=
  fun _ => ⟨_, rfl⟩

theorem Total.pwlockExpiry : Total.Statement .pwlockExpiry :=
  fun _ => ⟨_, rfl⟩

theorem Total.aliveInChange : ∀ cls, Total.Statement (.aliveInChange cls) :=
  fun _ => fun _ => ⟨_, rfl⟩

theorem Total.ownInChange : ∀ cls, Total.Statement (.ownInChange cls) :=
  fun _ => fun _ => ⟨_, rfl⟩

theorem Total.ownershipClaim : Total.Statement .ownershipClaim :=
  fun _ => ⟨_, rfl⟩

theorem Total.dualDriveEnd : ∀ timer, Total.Statement (.dualDriveEnd timer) :=
  fun _ => fun _ => ⟨_, rfl⟩

theorem Total.linkTrained : Total.Statement .linkTrained :=
  fun _ => ⟨_, rfl⟩

theorem Total.linkLoss : ∀ l0 l1, Total.Statement (.linkLoss l0 l1) :=
  fun _ _ => fun _ => ⟨_, rfl⟩

theorem Total.linkRetrain : Total.Statement .linkRetrain :=
  fun _ => ⟨_, rfl⟩

theorem Total.ctrlFrame : ∀ m good, Total.Statement (.ctrlFrame m good) :=
  fun _ _ => fun _ => ⟨_, rfl⟩

theorem Total.latchFrame : ∀ payload good, Total.Statement (.latchFrame payload good) :=
  fun _ _ => fun _ => ⟨_, rfl⟩

theorem Total.snapFrame : ∀ task no region good, Total.Statement (.snapFrame task no region good) :=
  fun _ _ _ _ => fun _ => ⟨_, rfl⟩

theorem Total.ovecFrame : ∀ vector good, Total.Statement (.ovecFrame vector good) :=
  fun _ _ => fun _ => ⟨_, rfl⟩

theorem Total.copyFrame : ∀ unit lines loops good, Total.Statement (.copyFrame unit lines loops good) :=
  fun _ _ _ _ => fun _ => ⟨_, rfl⟩

theorem Total.replayRelease : ∀ task, Total.Statement (.replayRelease task) :=
  fun _ => fun _ => ⟨_, rfl⟩

theorem Total.resync : ∀ who priv, Total.Statement (.resync who priv) :=
  fun _ _ => fun _ => ⟨_, rfl⟩

theorem Total.resyncComplete : Total.Statement .resyncComplete :=
  fun _ => ⟨_, rfl⟩

theorem Total.selfCheckResult : ∀ vector cell own partner, Total.Statement (.selfCheckResult vector cell own partner) :=
  fun _ _ _ _ => fun _ => ⟨_, rfl⟩

theorem Total.switch : ∀ who priv, Total.Statement (.switch who priv) :=
  fun _ _ => fun _ => ⟨_, rfl⟩

theorem Total.offsetMeasurement : ∀ p2 raw, Total.Statement (.offsetMeasurement p2 raw) :=
  fun _ _ => fun _ => ⟨_, rfl⟩

theorem Total.announce : ∀ p2 a, Total.Statement (.announce p2 a) :=
  fun _ _ => fun _ => ⟨_, rfl⟩

theorem Total.announceTimeout : ∀ p2, Total.Statement (.announceTimeout p2) :=
  fun _ => fun _ => ⟨_, rfl⟩

theorem Total.syncHoldExpiry : Total.Statement .syncHoldExpiry :=
  fun _ => ⟨_, rfl⟩

theorem Total.mgdSet : ∀ who priv, Total.Statement (.mgdSet who priv) :=
  fun _ _ => fun _ => ⟨_, rfl⟩

theorem Total.ref10mLost : Total.Statement .ref10mLost :=
  fun _ => ⟨_, rfl⟩

theorem Total.ref10mRestored : Total.Statement .ref10mRestored :=
  fun _ => ⟨_, rfl⟩

theorem Total.ppsInEdge : Total.Statement .ppsInEdge :=
  fun _ => ⟨_, rfl⟩

theorem Total.ppsLost : Total.Statement .ppsLost :=
  fun _ => ⟨_, rfl⟩

theorem Total.alarmArm : ∀ who priv alarm value, Total.Statement (.alarmArm who priv alarm value) :=
  fun _ _ _ _ => fun _ => ⟨_, rfl⟩

theorem Total.alarmFire : ∀ alarm, Total.Statement (.alarmFire alarm) :=
  fun _ => fun _ => ⟨_, rfl⟩

theorem Total.tnsRead : ∀ who, Total.Statement (.tnsRead who) :=
  fun _ => fun _ => ⟨_, rfl⟩

theorem Total.publication : ∀ entry, Total.Statement (.publication entry) :=
  fun _ => fun _ => ⟨_, rfl⟩

theorem Total.cyclicFrameRx : ∀ p2 frame, Total.Statement (.cyclicFrameRx p2 frame) :=
  fun _ _ => fun _ => ⟨_, rfl⟩

theorem Total.subscriptionStale : ∀ sub, Total.Statement (.subscriptionStale sub) :=
  fun _ => fun _ => ⟨_, rfl⟩

theorem Total.safetyMsgWatchdog : ∀ conn, Total.Statement (.safetyMsgWatchdog conn) :=
  fun _ => fun _ => ⟨_, rfl⟩

theorem Total.portLinkChange : ∀ p2 linked, Total.Statement (.portLinkChange p2 linked) :=
  fun _ _ => fun _ => ⟨_, rfl⟩

theorem Total.redundantPathChange : ∀ pathB ok, Total.Statement (.redundantPathChange pathB ok) :=
  fun _ _ => fun _ => ⟨_, rfl⟩

theorem Total.txQueueEntry : ∀ cls, Total.Statement (.txQueueEntry cls) :=
  fun _ => fun _ => ⟨_, rfl⟩

theorem Total.rxFrame : ∀ p2 frame, Total.Statement (.rxFrame p2 frame) :=
  fun _ _ => fun _ => ⟨_, rfl⟩

theorem Total.read : ∀ q, Total.Statement (.read q) :=
  fun _ => fun _ => ⟨_, rfl⟩

theorem Total.forceSet : ∀ q, Total.Statement (.forceSet q) :=
  fun _ => fun _ => ⟨_, rfl⟩

theorem Total.forceRelease : ∀ q, Total.Statement (.forceRelease q) :=
  fun _ => fun _ => ⟨_, rfl⟩

theorem Total.forceList : ∀ q, Total.Statement (.forceList q) :=
  fun _ => fun _ => ⟨_, rfl⟩

theorem Total.downloadStart : ∀ q, Total.Statement (.downloadStart q) :=
  fun _ => fun _ => ⟨_, rfl⟩

theorem Total.downloadData : ∀ q, Total.Statement (.downloadData q) :=
  fun _ => fun _ => ⟨_, rfl⟩

theorem Total.downloadApply : ∀ q, Total.Statement (.downloadApply q) :=
  fun _ => fun _ => ⟨_, rfl⟩

theorem Total.downloadAbort : ∀ q, Total.Statement (.downloadAbort q) :=
  fun _ => fun _ => ⟨_, rfl⟩

theorem Total.downloadStatus : ∀ q, Total.Statement (.downloadStatus q) :=
  fun _ => fun _ => ⟨_, rfl⟩

theorem Total.runctlStopReq : ∀ q, Total.Statement (.runctlStopReq q) :=
  fun _ => fun _ => ⟨_, rfl⟩

theorem Total.runctlRunReq : ∀ q, Total.Statement (.runctlRunReq q) :=
  fun _ => fun _ => ⟨_, rfl⟩

theorem Total.runctlResume : ∀ q, Total.Statement (.runctlResume q) :=
  fun _ => fun _ => ⟨_, rfl⟩

theorem Total.runctlToStop : ∀ q, Total.Statement (.runctlToStop q) :=
  fun _ => fun _ => ⟨_, rfl⟩

theorem Total.diagStatus : ∀ q, Total.Statement (.diagStatus q) :=
  fun _ => fun _ => ⟨_, rfl⟩

theorem Total.diagEvents : ∀ q, Total.Statement (.diagEvents q) :=
  fun _ => fun _ => ⟨_, rfl⟩

theorem Total.unknownService : ∀ q svc sub, Total.Statement (.unknownService q svc sub) :=
  fun _ _ _ => fun _ => ⟨_, rfl⟩

theorem Total.canFrameRx : ∀ n ident xtd rtr fdf brs esi dlc rx, Total.Statement (.canFrameRx n ident xtd rtr fdf brs esi dlc rx) :=
  fun _ _ _ _ _ _ _ _ _ => fun _ => ⟨_, rfl⟩

theorem Total.detectDwellEnd : ∀ n, Total.Statement (.detectDwellEnd n) :=
  fun _ => fun _ => ⟨_, rfl⟩

theorem Total.recover : ∀ who n, Total.Statement (.recover who n) :=
  fun _ _ => fun _ => ⟨_, rfl⟩

theorem Total.goNormal : ∀ who n, Total.Statement (.goNormal who n) :=
  fun _ _ => fun _ => ⟨_, rfl⟩

theorem Total.redetect : ∀ who n, Total.Statement (.redetect who n) :=
  fun _ _ => fun _ => ⟨_, rfl⟩

theorem Total.canFltctl : ∀ who n value, Total.Statement (.canFltctl who n value) :=
  fun _ _ _ => fun _ => ⟨_, rfl⟩

theorem Total.filterScanEnd : ∀ n, Total.Statement (.filterScanEnd n) :=
  fun _ => fun _ => ⟨_, rfl⟩

theorem Total.canTxreq : ∀ who n mask, Total.Statement (.canTxreq who n mask) :=
  fun _ _ _ => fun _ => ⟨_, rfl⟩

theorem Total.canTxcancel : ∀ who n mask sof, Total.Statement (.canTxcancel who n mask sof) :=
  fun _ _ _ _ => fun _ => ⟨_, rfl⟩

theorem Total.canTbctlWrite : ∀ who n buf value, Total.Statement (.canTbctlWrite who n buf value) :=
  fun _ _ _ _ => fun _ => ⟨_, rfl⟩

theorem Total.canTxEnd : ∀ n buf outcome, Total.Statement (.canTxEnd n buf outcome) :=
  fun _ _ _ => fun _ => ⟨_, rfl⟩

theorem Total.canTxOccurrence : ∀ n buf, Total.Statement (.canTxOccurrence n buf) :=
  fun _ _ => fun _ => ⟨_, rfl⟩

theorem Total.canSlotEnd : ∀ n buf started, Total.Statement (.canSlotEnd n buf started) :=
  fun _ _ _ => fun _ => ⟨_, rfl⟩

theorem Total.busoffRecoveryComplete : ∀ n, Total.Statement (.busoffRecoveryComplete n) :=
  fun _ => fun _ => ⟨_, rfl⟩

theorem Total.ladleOccurrence : ∀ ch, Total.Statement (.ladleOccurrence ch) :=
  fun _ => fun _ => ⟨_, rfl⟩

theorem Total.start : ∀ who ch, Total.Statement (.start who ch) :=
  fun _ _ => fun _ => ⟨_, rfl⟩

theorem Total.abort : ∀ who ch, Total.Statement (.abort who ch) :=
  fun _ _ => fun _ => ⟨_, rfl⟩

theorem Total.chainTake : Total.Statement .chainTake :=
  fun _ => ⟨_, rfl⟩

theorem Total.descriptorEnd : Total.Statement .descriptorEnd :=
  fun _ => ⟨_, rfl⟩

theorem Total.ladleBusError : ∀ addr done, Total.Statement (.ladleBusError addr done) :=
  fun _ _ => fun _ => ⟨_, rfl⟩

theorem Total.clrhalt : ∀ who, Total.Statement (.clrhalt who) :=
  fun _ => fun _ => ⟨_, rfl⟩

theorem Total.ingestEntry : Total.Statement .ingestEntry :=
  fun _ => ⟨_, rfl⟩

theorem Total.post : ∀ who buf keepTs, Total.Statement (.post who buf keepTs) :=
  fun _ _ _ => fun _ => ⟨_, rfl⟩

theorem Total.summaryRecord : ∀ cls, Total.Statement (.summaryRecord cls) :=
  fun _ => fun _ => ⟨_, rfl⟩

theorem Total.tailCopy : Total.Statement .tailCopy :=
  fun _ => ⟨_, rfl⟩

theorem Total.flashWrite : ∀ n bad, Total.Statement (.flashWrite n bad) :=
  fun _ _ => fun _ => ⟨_, rfl⟩

theorem Total.oldest : ∀ who k part, Total.Statement (.oldest who k part) :=
  fun _ _ _ => fun _ => ⟨_, rfl⟩

theorem Total.seq : ∀ who k part, Total.Statement (.seq who k part) :=
  fun _ _ _ => fun _ => ⟨_, rfl⟩

theorem Total.time : ∀ who k part, Total.Statement (.time who k part) :=
  fun _ _ _ => fun _ => ⟨_, rfl⟩

theorem Total.newest : ∀ who k part, Total.Statement (.newest who k part) :=
  fun _ _ _ => fun _ => ⟨_, rfl⟩

theorem Total.advance : ∀ who k, Total.Statement (.advance who k) :=
  fun _ _ => fun _ => ⟨_, rfl⟩

theorem Total.cursorFillDone : ∀ k bad, Total.Statement (.cursorFillDone k bad) :=
  fun _ _ => fun _ => ⟨_, rfl⟩

theorem Total.partitionClear : ∀ who priv mask, Total.Statement (.partitionClear who priv mask) :=
  fun _ _ _ => fun _ => ⟨_, rfl⟩

theorem Total.pmcWindowEnd : ∀ x, Total.Statement (.pmcWindowEnd x) :=
  fun _ => fun _ => ⟨_, rfl⟩

theorem Total.pmcStagedWrite : ∀ who priv off value, Total.Statement (.pmcStagedWrite who priv off value) :=
  fun _ _ _ _ => fun _ => ⟨_, rfl⟩

theorem Total.pmcTaskAccess : ∀ off write, Total.Statement (.pmcTaskAccess off write) :=
  fun _ _ => fun _ => ⟨_, rfl⟩

theorem Total.pmcCounterRead : ∀ who counter, Total.Statement (.pmcCounterRead who counter) :=
  fun _ _ => fun _ => ⟨_, rfl⟩

theorem Total.copeTick : ∀ readings, Total.Statement (.copeTick readings) :=
  fun _ => fun _ => ⟨_, rfl⟩

theorem Total.copeWatchdog : Total.Statement .copeWatchdog :=
  fun _ => ⟨_, rfl⟩

theorem Total.login : ∀ src, Total.Statement (.login src) :=
  fun _ => fun _ => ⟨_, rfl⟩

theorem Total.logout : ∀ src, Total.Statement (.logout src) :=
  fun _ => fun _ => ⟨_, rfl⟩

theorem Total.setPw : ∀ src, Total.Statement (.setPw src) :=
  fun _ => fun _ => ⟨_, rfl⟩

theorem Total.health : ∀ src, Total.Statement (.health src) :=
  fun _ => fun _ => ⟨_, rfl⟩

theorem Total.reset : ∀ src, Total.Statement (.reset src) :=
  fun _ => fun _ => ⟨_, rfl⟩

theorem Total.copeStopReq : ∀ src, Total.Statement (.copeStopReq src) :=
  fun _ => fun _ => ⟨_, rfl⟩

theorem Total.copeRunReq : ∀ src, Total.Statement (.copeRunReq src) :=
  fun _ => fun _ => ⟨_, rfl⟩

theorem Total.copeResume : ∀ src, Total.Statement (.copeResume src) :=
  fun _ => fun _ => ⟨_, rfl⟩

theorem Total.copeToStop : ∀ src, Total.Statement (.copeToStop src) :=
  fun _ => fun _ => ⟨_, rfl⟩

theorem Total.copeReload : ∀ src, Total.Statement (.copeReload src) :=
  fun _ => fun _ => ⟨_, rfl⟩

theorem Total.keywsOpen : ∀ src, Total.Statement (.keywsOpen src) :=
  fun _ => fun _ => ⟨_, rfl⟩

theorem Total.keywsWrite : ∀ src fault, Total.Statement (.keywsWrite src fault) :=
  fun _ _ => fun _ => ⟨_, rfl⟩

theorem Total.keywsClose : ∀ src, Total.Statement (.keywsClose src) :=
  fun _ => fun _ => ⟨_, rfl⟩

theorem Total.dlStart : ∀ src, Total.Statement (.dlStart src) :=
  fun _ => fun _ => ⟨_, rfl⟩

theorem Total.dlData : ∀ src, Total.Statement (.dlData src) :=
  fun _ => fun _ => ⟨_, rfl⟩

theorem Total.dlApply : ∀ src, Total.Statement (.dlApply src) :=
  fun _ => fun _ => ⟨_, rfl⟩

theorem Total.dlAbort : ∀ src, Total.Statement (.dlAbort src) :=
  fun _ => fun _ => ⟨_, rfl⟩

theorem Total.fwBegin : ∀ src, Total.Statement (.fwBegin src) :=
  fun _ => fun _ => ⟨_, rfl⟩

theorem Total.fwData : ∀ src, Total.Statement (.fwData src) :=
  fun _ => fun _ => ⟨_, rfl⟩

theorem Total.fwInstall : ∀ src, Total.Statement (.fwInstall src) :=
  fun _ => fun _ => ⟨_, rfl⟩

theorem Total.keyInstall : ∀ src, Total.Statement (.keyInstall src) :=
  fun _ => fun _ => ⟨_, rfl⟩

theorem Total.keyRevoke : ∀ src, Total.Statement (.keyRevoke src) :=
  fun _ => fun _ => ⟨_, rfl⟩

theorem Total.keyList : ∀ src, Total.Statement (.keyList src) :=
  fun _ => fun _ => ⟨_, rfl⟩

theorem Total.evrClear : ∀ src, Total.Statement (.evrClear src) :=
  fun _ => fun _ => ⟨_, rfl⟩

theorem Total.evrRead : ∀ src, Total.Statement (.evrRead src) :=
  fun _ => fun _ => ⟨_, rfl⟩

theorem Total.sessionTimeout : Total.Statement .sessionTimeout :=
  fun _ => ⟨_, rfl⟩

theorem Total.serviceLinkLoss : Total.Statement .serviceLinkLoss :=
  fun _ => ⟨_, rfl⟩

theorem Total.loginLockExpiry : Total.Statement .loginLockExpiry :=
  fun _ => ⟨_, rfl⟩

theorem Total.feedChange : ∀ feedB mv, Total.Statement (.feedChange feedB mv) :=
  fun _ _ => fun _ => ⟨_, rfl⟩

theorem Total.overvoltage : Total.Statement .overvoltage :=
  fun _ => ⟨_, rfl⟩

theorem Total.inputDisconnect : ∀ feedB, Total.Statement (.inputDisconnect feedB) :=
  fun _ => fun _ => ⟨_, rfl⟩

theorem Total.inputReconnect : ∀ feedB, Total.Statement (.inputReconnect feedB) :=
  fun _ => fun _ => ⟨_, rfl⟩

theorem Total.holdupEntry : Total.Statement .holdupEntry :=
  fun _ => ⟨_, rfl⟩

theorem Total.feedRestored : Total.Statement .feedRestored :=
  fun _ => ⟨_, rfl⟩

theorem Total.saveTrigger : ∀ vr, Total.Statement (.saveTrigger vr) :=
  fun _ => fun _ => ⟨_, rfl⟩

theorem Total.saveComplete : ∀ done vinGood, Total.Statement (.saveComplete done vinGood) :=
  fun _ _ => fun _ => ⟨_, rfl⟩

theorem Total.bankCharged : Total.Statement .bankCharged :=
  fun _ => ⟨_, rfl⟩

theorem Total.chargerFault : Total.Statement .chargerFault :=
  fun _ => ⟨_, rfl⟩

theorem Total.chargerRetry : Total.Statement .chargerRetry :=
  fun _ => ⟨_, rfl⟩

theorem Total.rtest : ∀ who, Total.Statement (.rtest who) :=
  fun _ => fun _ => ⟨_, rfl⟩

theorem Total.healthTestComplete : ∀ step fall, Total.Statement (.healthTestComplete step fall) :=
  fun _ _ => fun _ => ⟨_, rfl⟩

theorem Total.extensionCharged : ∀ cap, Total.Statement (.extensionCharged cap) :=
  fun _ => fun _ => ⟨_, rfl⟩

theorem Total.extensionFault : Total.Statement .extensionFault :=
  fun _ => ⟨_, rfl⟩

theorem Total.pwrMeasure : ∀ vin feedA feedB vr vext pin chg, Total.Statement (.pwrMeasure vin feedA feedB vr vext pin chg) :=
  fun _ _ _ _ _ _ _ => fun _ => ⟨_, rfl⟩

theorem Total.rstInRelease : Total.Statement .rstInRelease :=
  fun _ => ⟨_, rfl⟩

theorem Total.foxSrcRead : ∀ who, Total.Statement (.foxSrcRead who) :=
  fun _ => fun _ => ⟨_, rfl⟩

theorem Total.canBusIdle : ∀ n, Total.Statement (.canBusIdle n) :=
  fun _ => fun _ => ⟨_, rfl⟩

theorem Total.canBusError : ∀ n tx eight, Total.Statement (.canBusError n tx eight) :=
  fun _ _ _ => fun _ => ⟨_, rfl⟩

theorem Total.frameForward : ∀ port frame residence good, Total.Statement (.frameForward port frame residence good) :=
  fun _ _ _ _ => fun _ => ⟨_, rfl⟩

theorem Total.learnedEntryAgeOut : ∀ mac vid, Total.Statement (.learnedEntryAgeOut mac vid) :=
  fun _ _ => fun _ => ⟨_, rfl⟩

theorem Total.transitFrameDrop : ∀ p2, Total.Statement (.transitFrameDrop p2) :=
  fun _ => fun _ => ⟨_, rfl⟩

theorem Total.pathDelayMeasurement : ∀ p2 delay, Total.Statement (.pathDelayMeasurement p2 delay) :=
  fun _ _ => fun _ => ⟨_, rfl⟩

theorem Total.canAllocationEnd : ∀ n buf started, Total.Statement (.canAllocationEnd n buf started) :=
  fun _ _ _ => fun _ => ⟨_, rfl⟩

theorem Total.partitionClearDone : ∀ part, Total.Statement (.partitionClearDone part) :=
  fun _ => fun _ => ⟨_, rfl⟩

theorem Keeps.subWordAccess : ∀ who half write addr, Keeps.Statement (.subWordAccess who half write addr) :=
  fun _ _ _ _ => fun _ _ => execSubWordAccess_kept Kept.refl

theorem Keeps.registerWrite : ∀ who priv addr value, Keeps.Statement (.registerWrite who priv addr value) :=
  fun _ _ _ _ => fun _ _ => execRegisterWrite_kept Kept.refl

theorem Keeps.memoryAccess : ∀ who priv addr op ecc, Keeps.Statement (.memoryAccess who priv addr op ecc) :=
  fun _ _ _ _ _ => fun _ _ => execMemoryAccess_kept Kept.refl

theorem Keeps.scrubRead : ∀ addr ecc, Keeps.Statement (.scrubRead addr ecc) :=
  fun _ _ => fun _ _ => execScrubRead_kept Kept.refl

theorem Keeps.moduleFault : ∀ origin, Keeps.Statement (.moduleFault origin) :=
  fun _ => fun _ _ => execModuleFault_kept Kept.refl

theorem Keeps.blockFault : ∀ block, Keeps.Statement (.blockFault block) :=
  fun _ => fun _ _ => execBlockFault_kept Kept.refl

theorem Keeps.regionReset : ∀ region, Keeps.Statement (.regionReset region) :=
  fun _ => fun _ _ => execRegionReset_kept Kept.refl

theorem Keeps.regionResetComplete : ∀ region fault, Keeps.Statement (.regionResetComplete region fault) :=
  fun _ _ => fun _ _ => execRegionResetComplete_kept Kept.refl

theorem Keeps.clockLoss : ∀ clock, Keeps.Statement (.clockLoss clock) :=
  fun _ => fun _ _ => execClockLoss_kept Kept.refl

theorem Keeps.safClockLoss : Keeps.Statement .safClockLoss :=
  fun _ _ => execSafClockLoss_kept Kept.refl

theorem Keeps.fabricTimeout : Keeps.Statement .fabricTimeout :=
  fun _ _ => execFabricTimeout_kept Kept.refl

theorem Keeps.fabricPromotion : ∀ port cls, Keeps.Statement (.fabricPromotion port cls) :=
  fun _ _ => fun _ _ => execFabricPromotion_kept Kept.refl

theorem Keeps.domainGate : ∀ domain busy, Keeps.Statement (.domainGate domain busy) :=
  fun _ _ => fun _ _ => execDomainGate_kept Kept.refl

theorem Keeps.domainWake : ∀ domain, Keeps.Statement (.domainWake domain) :=
  fun _ => fun _ _ => execDomainWake_kept Kept.refl

theorem Keeps.drainComplete : ∀ domain, Keeps.Statement (.drainComplete domain) :=
  fun _ => fun _ _ => execDrainComplete_kept Kept.refl

theorem Keeps.drainLapse : ∀ domain, Keeps.Statement (.drainLapse domain) :=
  fun _ => fun _ _ => execDrainLapse_kept Kept.refl

theorem Keeps.pdreqWrite : ∀ who off busy, Keeps.Statement (.pdreqWrite who off busy) :=
  fun _ _ _ => fun _ _ => execPdreqWrite_kept Kept.refl

theorem Keeps.domainPowerUpDone : ∀ domain, Keeps.Statement (.domainPowerUpDone domain) :=
  fun _ => fun _ _ => execDomainPowerUpDone_kept Kept.refl

theorem Keeps.queuePidxWrite : ∀ who queue value, Keeps.Statement (.queuePidxWrite who queue value) :=
  fun _ _ _ => fun _ _ => execQueuePidxWrite_kept Kept.refl

theorem Keeps.queueCidxWrite : ∀ who queue value, Keeps.Statement (.queueCidxWrite who queue value) :=
  fun _ _ _ => fun _ _ => execQueueCidxWrite_kept Kept.refl

theorem Keeps.blkrstWrite : ∀ who mask, Keeps.Statement (.blkrstWrite who mask) :=
  fun _ _ => fun _ _ => execBlkrstWrite_kept Kept.refl

theorem Keeps.powerGood : ∀ straps idPar present sideA key, Keeps.Statement (.powerGood straps idPar present sideA key) :=
  fun _ _ _ _ _ => fun _ _ => execPowerGood_kept Kept.refl

theorem Keeps.copeBootComplete : Keeps.Statement .copeBootComplete :=
  fun _ _ => execCopeBootComplete_kept Kept.refl

theorem Keeps.patternLoadComplete : ∀ fault, Keeps.Statement (.patternLoadComplete fault) :=
  fun _ => fun _ _ => execPatternLoadComplete_kept Kept.refl

theorem Keeps.checkComplete : ∀ readback wpHigh, Keeps.Statement (.checkComplete readback wpHigh) :=
  fun _ _ => fun _ _ => execCheckComplete_kept Kept.refl

theorem Keeps.dragPlaneStart : Keeps.Statement .dragPlaneStart :=
  fun _ _ => execDragPlaneStart_kept Kept.refl

theorem Keeps.roleResolve : Keeps.Statement .roleResolve :=
  fun _ _ => execRoleResolve_kept Kept.refl

theorem Keeps.rstIn : ∀ low, Keeps.Statement (.rstIn low) :=
  fun _ => fun _ _ => execRstIn_kept Kept.refl

theorem Keeps.runReq : ∀ who checkOnly, Keeps.Statement (.runReq who checkOnly) :=
  fun _ _ => fun _ _ => execRunReq_kept Kept.refl

theorem Keeps.stopReq : ∀ who, Keeps.Statement (.stopReq who) :=
  fun _ => fun _ _ => execStopReq_kept Kept.refl

theorem Keeps.reload : ∀ who slot, Keeps.Statement (.reload who slot) :=
  fun _ _ => fun _ _ => execReload_kept Kept.refl

theorem Keeps.reloadComplete : ∀ fault readback wpHigh, Keeps.Statement (.reloadComplete fault readback wpHigh) :=
  fun _ _ _ => fun _ _ => execReloadComplete_kept Kept.refl

theorem Keeps.orderlyStopComplete : ∀ writeError, Keeps.Statement (.orderlyStopComplete writeError) :=
  fun _ => fun _ _ => execOrderlyStopComplete_kept Kept.refl

theorem Keeps.snapshot : ∀ task, Keeps.Statement (.snapshot task) :=
  fun _ => fun _ _ => execSnapshot_kept Kept.refl

theorem Keeps.pourRelease : ∀ task, Keeps.Statement (.pourRelease task) :=
  fun _ => fun _ _ => execPourRelease_kept Kept.refl

theorem Keeps.pourDone : ∀ who task, Keeps.Statement (.pourDone who task) :=
  fun _ _ => fun _ _ => execPourDone_kept Kept.refl

theorem Keeps.budgetExhausted : ∀ task, Keeps.Statement (.budgetExhausted task) :=
  fun _ => fun _ _ => execBudgetExhausted_kept Kept.refl

theorem Keeps.commit : ∀ task, Keeps.Statement (.commit task) :=
  fun _ => fun _ _ => execCommit_kept Kept.refl

theorem Keeps.triggerEntry : Keeps.Statement .triggerEntry :=
  fun _ _ => execTriggerEntry_kept Kept.refl

theorem Keeps.heldTriggerAccept : ∀ task, Keeps.Statement (.heldTriggerAccept task) :=
  fun _ => fun _ _ => execHeldTriggerAccept_kept Kept.refl

theorem Keeps.pourSwtrig : ∀ who mask, Keeps.Statement (.pourSwtrig who mask) :=
  fun _ _ => fun _ _ => execPourSwtrig_kept Kept.refl

theorem Keeps.hyperperiodStart : Keeps.Statement .hyperperiodStart :=
  fun _ _ => execHyperperiodStart_kept Kept.refl

theorem Keeps.slewComplete : Keeps.Statement .slewComplete :=
  fun _ _ => execSlewComplete_kept Kept.refl

theorem Keeps.swapBoundary : Keeps.Statement .swapBoundary :=
  fun _ _ => execSwapBoundary_kept Kept.refl

theorem Keeps.pourSwapdone : ∀ who mask, Keeps.Statement (.pourSwapdone who mask) :=
  fun _ _ => fun _ _ => execPourSwapdone_kept Kept.refl

theorem Keeps.pourSwapreq : ∀ who mask, Keeps.Statement (.pourSwapreq who mask) :=
  fun _ _ => fun _ _ => execPourSwapreq_kept Kept.refl

theorem Keeps.sequencerWatchdog : Keeps.Statement .sequencerWatchdog :=
  fun _ _ => execSequencerWatchdog_kept Kept.refl

theorem Keeps.safeReq : ∀ who priv, Keeps.Statement (.safeReq who priv) :=
  fun _ _ => fun _ _ => execSafeReq_kept Kept.refl

theorem Keeps.resume : ∀ who priv, Keeps.Statement (.resume who priv) :=
  fun _ _ => fun _ _ => execResume_kept Kept.refl

theorem Keeps.toStop : ∀ who priv, Keeps.Statement (.toStop who priv) :=
  fun _ _ => fun _ _ => execToStop_kept Kept.refl

theorem Keeps.haltReq : ∀ who priv, Keeps.Statement (.haltReq who priv) :=
  fun _ _ => fun _ _ => execHaltReq_kept Kept.refl

theorem Keeps.programTrap : ∀ task pair cause pc addr, Keeps.Statement (.programTrap task pair cause pc addr) :=
  fun _ _ _ _ _ => fun _ _ => execProgramTrap_kept Kept.refl

theorem Keeps.applicationWatchdog : ∀ pair task, Keeps.Statement (.applicationWatchdog pair task) :=
  fun _ _ => fun _ _ => execApplicationWatchdog_kept Kept.refl

theorem Keeps.forceCtlWrite : ∀ who entry value, Keeps.Statement (.forceCtlWrite who entry value) :=
  fun _ _ _ => fun _ _ => execForceCtlWrite_kept Kept.refl

theorem Keeps.dlctlStart : ∀ who, Keeps.Statement (.dlctlStart who) :=
  fun _ => fun _ _ => execDlctlStart_kept Kept.refl

theorem Keeps.dlctlApply : ∀ who, Keeps.Statement (.dlctlApply who) :=
  fun _ => fun _ _ => execDlctlApply_kept Kept.refl

theorem Keeps.dlctlAbort : ∀ who, Keeps.Statement (.dlctlAbort who) :=
  fun _ => fun _ _ => execDlctlAbort_kept Kept.refl

theorem Keeps.dlCheckComplete : ∀ readback wpHigh, Keeps.Statement (.dlCheckComplete readback wpHigh) :=
  fun _ _ => fun _ _ => execDlCheckComplete_kept Kept.refl

theorem Keeps.dlLoadComplete : Keeps.Statement .dlLoadComplete :=
  fun _ _ => execDlLoadComplete_kept Kept.refl

theorem Keeps.crucibleStage : ∀ entry, Keeps.Statement (.crucibleStage entry) :=
  fun _ => fun _ _ => execCrucibleStage_kept Kept.refl

theorem Keeps.crucibleSample : ∀ entry done, Keeps.Statement (.crucibleSample entry done) :=
  fun _ _ => fun _ _ => execCrucibleSample_kept Kept.refl

theorem Keeps.loopModeWrite : ∀ who loop mode, Keeps.Statement (.loopModeWrite who loop mode) :=
  fun _ _ _ => fun _ _ => execLoopModeWrite_kept Kept.refl

theorem Keeps.plausClear : ∀ who loop, Keeps.Statement (.plausClear who loop) :=
  fun _ _ => fun _ _ => execPlausClear_kept Kept.refl

theorem Keeps.integratorRead : ∀ who loop, Keeps.Statement (.integratorRead who loop) :=
  fun _ _ => fun _ _ => execIntegratorRead_kept Kept.refl

theorem Keeps.cellPowerOn : ∀ cell, Keeps.Statement (.cellPowerOn cell) :=
  fun _ => fun _ _ => execCellPowerOn_kept Kept.refl

theorem Keeps.cellResult : ∀ cell m, Keeps.Statement (.cellResult cell m) :=
  fun _ _ => fun _ _ => execCellResult_kept Kept.refl

theorem Keeps.resultMissing : ∀ cell, Keeps.Statement (.resultMissing cell) :=
  fun _ => fun _ _ => execResultMissing_kept Kept.refl

theorem Keeps.cellReinit : ∀ cell, Keeps.Statement (.cellReinit cell) :=
  fun _ => fun _ _ => execCellReinit_kept Kept.refl

theorem Keeps.diAccept : ∀ cell v, Keeps.Statement (.diAccept cell v) :=
  fun _ _ => fun _ _ => execDiAccept_kept Kept.refl

theorem Keeps.diRawReport : ∀ cell v, Keeps.Statement (.diRawReport cell v) :=
  fun _ _ => fun _ _ => execDiRawReport_kept Kept.refl

theorem Keeps.waveSample : ∀ cell x xs, Keeps.Statement (.waveSample cell x xs) :=
  fun _ _ _ => fun _ _ => execWaveSample_kept Kept.refl

theorem Keeps.nocycleResult : ∀ cell, Keeps.Statement (.nocycleResult cell) :=
  fun _ => fun _ _ => execNocycleResult_kept Kept.refl

theorem Keeps.openWireTest : ∀ cell before after, Keeps.Statement (.openWireTest cell before after) :=
  fun _ _ _ => fun _ _ => execOpenWireTest_kept Kept.refl

theorem Keeps.doResult : ∀ cell m, Keeps.Statement (.doResult cell m) :=
  fun _ _ => fun _ _ => execDoResult_kept Kept.refl

theorem Keeps.fieldFaultTimeout : ∀ cell flag present, Keeps.Statement (.fieldFaultTimeout cell flag present) :=
  fun _ _ _ => fun _ _ => execFieldFaultTimeout_kept Kept.refl

theorem Keeps.doShort : ∀ cell, Keeps.Statement (.doShort cell) :=
  fun _ => fun _ _ => execDoShort_kept Kept.refl

theorem Keeps.doRetry : ∀ cell, Keeps.Statement (.doRetry cell) :=
  fun _ => fun _ _ => execDoRetry_kept Kept.refl

theorem Keeps.stageTest : ∀ cell lo hi swOn swOff cool, Keeps.Statement (.stageTest cell lo hi swOn swOff cool) :=
  fun _ _ _ _ _ _ => fun _ _ => execStageTest_kept Kept.refl

theorem Keeps.stageOvertemp : ∀ cell, Keeps.Statement (.stageOvertemp cell) :=
  fun _ => fun _ _ => execStageOvertemp_kept Kept.refl

theorem Keeps.trimDrive : ∀ who cell point, Keeps.Statement (.trimDrive who cell point) :=
  fun _ _ _ => fun _ _ => execTrimDrive_kept Kept.refl

theorem Keeps.channelBlockFault : ∀ block, Keeps.Statement (.channelBlockFault block) :=
  fun _ => fun _ _ => execChannelBlockFault_kept Kept.refl

theorem Keeps.supplySupervisorTrip : ∀ lattice, Keeps.Statement (.supplySupervisorTrip lattice) :=
  fun _ => fun _ _ => execSupplySupervisorTrip_kept Kept.refl

theorem Keeps.supplySupervisorRecover : ∀ lattice, Keeps.Statement (.supplySupervisorRecover lattice) :=
  fun _ => fun _ _ => execSupplySupervisorRecover_kept Kept.refl

theorem Keeps.latticeSourceChange : ∀ src, Keeps.Statement (.latticeSourceChange src) :=
  fun _ => fun _ _ => execLatticeSourceChange_kept Kept.refl

theorem Keeps.latticeTimerExpiry : ∀ timer, Keeps.Statement (.latticeTimerExpiry timer) :=
  fun _ => fun _ _ => execLatticeTimerExpiry_kept Kept.refl

theorem Keeps.safetyCycle : ∀ sdi qp qn tp lf testFail mirrorBad, Keeps.Statement (.safetyCycle sdi qp qn tp lf testFail mirrorBad) :=
  fun _ _ _ _ _ _ _ => fun _ _ => execSafetyCycle_kept Kept.refl

theorem Keeps.safetyWatchdog : Keeps.Statement .safetyWatchdog :=
  fun _ _ => execSafetyWatchdog_kept Kept.refl

theorem Keeps.safetySelftestDone : ∀ fail, Keeps.Statement (.safetySelftestDone fail) :=
  fun _ => fun _ _ => execSafetySelftestDone_kept Kept.refl

theorem Keeps.tpSchedule : ∀ w0 w1 w2 w3 bad, Keeps.Statement (.tpSchedule w0 w1 w2 w3 bad) :=
  fun _ _ _ _ _ => fun _ _ => execTpSchedule_kept Kept.refl

theorem Keeps.preEnergiseTest : ∀ out qpLow qnLow, Keeps.Statement (.preEnergiseTest out qpLow qnLow) :=
  fun _ _ _ => fun _ _ => execPreEnergiseTest_kept Kept.refl

theorem Keeps.offPulse : ∀ out low, Keeps.Statement (.offPulse out low) :=
  fun _ _ => fun _ _ => execOffPulse_kept Kept.refl

theorem Keeps.offPulseEnd : ∀ changed restored, Keeps.Statement (.offPulseEnd changed restored) :=
  fun _ _ => fun _ _ => execOffPulseEnd_kept Kept.refl

theorem Keeps.overcurrent : ∀ out, Keeps.Statement (.overcurrent out) :=
  fun _ => fun _ _ => execOvercurrent_kept Kept.refl

theorem Keeps.lfLow : Keeps.Statement .lfLow :=
  fun _ _ => execLfLow_kept Kept.refl

theorem Keeps.lfRestored : Keeps.Statement .lfRestored :=
  fun _ _ => execLfRestored_kept Kept.refl

theorem Keeps.authorise : Keeps.Statement .authorise :=
  fun _ _ => execAuthorise_kept Kept.refl

theorem Keeps.setPassword : Keeps.Statement .setPassword :=
  fun _ _ => execSetPassword_kept Kept.refl

theorem Keeps.setPasswordNew : Keeps.Statement .setPasswordNew :=
  fun _ _ => execSetPasswordNew_kept Kept.refl

theorem Keeps.readLog : Keeps.Statement .readLog :=
  fun _ _ => execReadLog_kept Kept.refl

theorem Keeps.pwlockExpiry : Keeps.Statement .pwlockExpiry :=
  fun _ _ => execPwlockExpiry_kept Kept.refl

theorem Keeps.aliveInChange : ∀ cls, Keeps.Statement (.aliveInChange cls) :=
  fun _ => fun _ _ => execAliveInChange_kept Kept.refl

theorem Keeps.ownInChange : ∀ cls, Keeps.Statement (.ownInChange cls) :=
  fun _ => fun _ _ => execOwnInChange_kept Kept.refl

theorem Keeps.ownershipClaim : Keeps.Statement .ownershipClaim :=
  fun _ _ => execOwnershipClaim_kept Kept.refl

theorem Keeps.dualDriveEnd : ∀ timer, Keeps.Statement (.dualDriveEnd timer) :=
  fun _ => fun _ _ => execDualDriveEnd_kept Kept.refl

theorem Keeps.linkTrained : Keeps.Statement .linkTrained :=
  fun _ _ => execLinkTrained_kept Kept.refl

theorem Keeps.linkLoss : ∀ l0 l1, Keeps.Statement (.linkLoss l0 l1) :=
  fun _ _ => fun _ _ => execLinkLoss_kept Kept.refl

theorem Keeps.linkRetrain : Keeps.Statement .linkRetrain :=
  fun _ _ => execLinkRetrain_kept Kept.refl

theorem Keeps.ctrlFrame : ∀ m good, Keeps.Statement (.ctrlFrame m good) :=
  fun _ _ => fun _ _ => execCtrlFrame_kept Kept.refl

theorem Keeps.latchFrame : ∀ payload good, Keeps.Statement (.latchFrame payload good) :=
  fun _ _ => fun _ _ => execLatchFrame_kept Kept.refl

theorem Keeps.snapFrame : ∀ task no region good, Keeps.Statement (.snapFrame task no region good) :=
  fun _ _ _ _ => fun _ _ => execSnapFrame_kept Kept.refl

theorem Keeps.ovecFrame : ∀ vector good, Keeps.Statement (.ovecFrame vector good) :=
  fun _ _ => fun _ _ => execOvecFrame_kept Kept.refl

theorem Keeps.copyFrame : ∀ unit lines loops good, Keeps.Statement (.copyFrame unit lines loops good) :=
  fun _ _ _ _ => fun _ _ => execCopyFrame_kept Kept.refl

theorem Keeps.replayRelease : ∀ task, Keeps.Statement (.replayRelease task) :=
  fun _ => fun _ _ => execReplayRelease_kept Kept.refl

theorem Keeps.resync : ∀ who priv, Keeps.Statement (.resync who priv) :=
  fun _ _ => fun _ _ => execResync_kept Kept.refl

theorem Keeps.resyncComplete : Keeps.Statement .resyncComplete :=
  fun _ _ => execResyncComplete_kept Kept.refl

theorem Keeps.selfCheckResult : ∀ vector cell own partner, Keeps.Statement (.selfCheckResult vector cell own partner) :=
  fun _ _ _ _ => fun _ _ => execSelfCheckResult_kept Kept.refl

theorem Keeps.switch : ∀ who priv, Keeps.Statement (.switch who priv) :=
  fun _ _ => fun _ _ => execSwitch_kept Kept.refl

theorem Keeps.offsetMeasurement : ∀ p2 raw, Keeps.Statement (.offsetMeasurement p2 raw) :=
  fun _ _ => fun _ _ => execOffsetMeasurement_kept Kept.refl

theorem Keeps.announce : ∀ p2 a, Keeps.Statement (.announce p2 a) :=
  fun _ _ => fun _ _ => execAnnounce_kept Kept.refl

theorem Keeps.announceTimeout : ∀ p2, Keeps.Statement (.announceTimeout p2) :=
  fun _ => fun _ _ => execAnnounceTimeout_kept Kept.refl

theorem Keeps.syncHoldExpiry : Keeps.Statement .syncHoldExpiry :=
  fun _ _ => execSyncHoldExpiry_kept Kept.refl

theorem Keeps.mgdSet : ∀ who priv, Keeps.Statement (.mgdSet who priv) :=
  fun _ _ => fun _ _ => execMgdSet_kept Kept.refl

theorem Keeps.ref10mLost : Keeps.Statement .ref10mLost :=
  fun _ _ => execRef10mLost_kept Kept.refl

theorem Keeps.ref10mRestored : Keeps.Statement .ref10mRestored :=
  fun _ _ => execRef10mRestored_kept Kept.refl

theorem Keeps.ppsInEdge : Keeps.Statement .ppsInEdge :=
  fun _ _ => execPpsInEdge_kept Kept.refl

theorem Keeps.ppsLost : Keeps.Statement .ppsLost :=
  fun _ _ => execPpsLost_kept Kept.refl

theorem Keeps.alarmArm : ∀ who priv alarm value, Keeps.Statement (.alarmArm who priv alarm value) :=
  fun _ _ _ _ => fun _ _ => execAlarmArm_kept Kept.refl

theorem Keeps.alarmFire : ∀ alarm, Keeps.Statement (.alarmFire alarm) :=
  fun _ => fun _ _ => execAlarmFire_kept Kept.refl

theorem Keeps.tnsRead : ∀ who, Keeps.Statement (.tnsRead who) :=
  fun _ => fun _ _ => execTnsRead_kept Kept.refl

theorem Keeps.publication : ∀ entry, Keeps.Statement (.publication entry) :=
  fun _ => fun _ _ => execPublication_kept Kept.refl

theorem Keeps.cyclicFrameRx : ∀ p2 frame, Keeps.Statement (.cyclicFrameRx p2 frame) :=
  fun _ _ => fun _ _ => execCyclicFrameRx_kept Kept.refl

theorem Keeps.subscriptionStale : ∀ sub, Keeps.Statement (.subscriptionStale sub) :=
  fun _ => fun _ _ => execSubscriptionStale_kept Kept.refl

theorem Keeps.safetyMsgWatchdog : ∀ conn, Keeps.Statement (.safetyMsgWatchdog conn) :=
  fun _ => fun _ _ => execSafetyMsgWatchdog_kept Kept.refl

theorem Keeps.portLinkChange : ∀ p2 linked, Keeps.Statement (.portLinkChange p2 linked) :=
  fun _ _ => fun _ _ => execPortLinkChange_kept Kept.refl

theorem Keeps.redundantPathChange : ∀ pathB ok, Keeps.Statement (.redundantPathChange pathB ok) :=
  fun _ _ => fun _ _ => execRedundantPathChange_kept Kept.refl

theorem Keeps.txQueueEntry : ∀ cls, Keeps.Statement (.txQueueEntry cls) :=
  fun _ => fun _ _ => execTxQueueEntry_kept Kept.refl

theorem Keeps.rxFrame : ∀ p2 frame, Keeps.Statement (.rxFrame p2 frame) :=
  fun _ _ => fun _ _ => execRxFrame_kept Kept.refl

theorem Keeps.read : ∀ q, Keeps.Statement (.read q) :=
  fun _ => fun _ _ => execRead_kept Kept.refl

theorem Keeps.forceSet : ∀ q, Keeps.Statement (.forceSet q) :=
  fun _ => fun _ _ => execForceSet_kept Kept.refl

theorem Keeps.forceRelease : ∀ q, Keeps.Statement (.forceRelease q) :=
  fun _ => fun _ _ => execForceRelease_kept Kept.refl

theorem Keeps.forceList : ∀ q, Keeps.Statement (.forceList q) :=
  fun _ => fun _ _ => execForceList_kept Kept.refl

theorem Keeps.downloadStart : ∀ q, Keeps.Statement (.downloadStart q) :=
  fun _ => fun _ _ => execDownloadStart_kept Kept.refl

theorem Keeps.downloadData : ∀ q, Keeps.Statement (.downloadData q) :=
  fun _ => fun _ _ => execDownloadData_kept Kept.refl

theorem Keeps.downloadApply : ∀ q, Keeps.Statement (.downloadApply q) :=
  fun _ => fun _ _ => execDownloadApply_kept Kept.refl

theorem Keeps.downloadAbort : ∀ q, Keeps.Statement (.downloadAbort q) :=
  fun _ => fun _ _ => execDownloadAbort_kept Kept.refl

theorem Keeps.downloadStatus : ∀ q, Keeps.Statement (.downloadStatus q) :=
  fun _ => fun _ _ => execDownloadStatus_kept Kept.refl

theorem Keeps.runctlStopReq : ∀ q, Keeps.Statement (.runctlStopReq q) :=
  fun _ => fun _ _ => execRunctlStopReq_kept Kept.refl

theorem Keeps.runctlRunReq : ∀ q, Keeps.Statement (.runctlRunReq q) :=
  fun _ => fun _ _ => execRunctlRunReq_kept Kept.refl

theorem Keeps.runctlResume : ∀ q, Keeps.Statement (.runctlResume q) :=
  fun _ => fun _ _ => execRunctlResume_kept Kept.refl

theorem Keeps.runctlToStop : ∀ q, Keeps.Statement (.runctlToStop q) :=
  fun _ => fun _ _ => execRunctlToStop_kept Kept.refl

theorem Keeps.diagStatus : ∀ q, Keeps.Statement (.diagStatus q) :=
  fun _ => fun _ _ => execDiagStatus_kept Kept.refl

theorem Keeps.diagEvents : ∀ q, Keeps.Statement (.diagEvents q) :=
  fun _ => fun _ _ => execDiagEvents_kept Kept.refl

theorem Keeps.unknownService : ∀ q svc sub, Keeps.Statement (.unknownService q svc sub) :=
  fun _ _ _ => fun _ _ => execUnknownService_kept Kept.refl

theorem Keeps.canFrameRx : ∀ n ident xtd rtr fdf brs esi dlc rx, Keeps.Statement (.canFrameRx n ident xtd rtr fdf brs esi dlc rx) :=
  fun _ _ _ _ _ _ _ _ _ => fun _ _ => execCanFrameRx_kept Kept.refl

theorem Keeps.detectDwellEnd : ∀ n, Keeps.Statement (.detectDwellEnd n) :=
  fun _ => fun _ _ => execDetectDwellEnd_kept Kept.refl

theorem Keeps.recover : ∀ who n, Keeps.Statement (.recover who n) :=
  fun _ _ => fun _ _ => execRecover_kept Kept.refl

theorem Keeps.goNormal : ∀ who n, Keeps.Statement (.goNormal who n) :=
  fun _ _ => fun _ _ => execGoNormal_kept Kept.refl

theorem Keeps.redetect : ∀ who n, Keeps.Statement (.redetect who n) :=
  fun _ _ => fun _ _ => execRedetect_kept Kept.refl

theorem Keeps.canFltctl : ∀ who n value, Keeps.Statement (.canFltctl who n value) :=
  fun _ _ _ => fun _ _ => execCanFltctl_kept Kept.refl

theorem Keeps.filterScanEnd : ∀ n, Keeps.Statement (.filterScanEnd n) :=
  fun _ => fun _ _ => execFilterScanEnd_kept Kept.refl

theorem Keeps.canTxreq : ∀ who n mask, Keeps.Statement (.canTxreq who n mask) :=
  fun _ _ _ => fun _ _ => execCanTxreq_kept Kept.refl

theorem Keeps.canTxcancel : ∀ who n mask sof, Keeps.Statement (.canTxcancel who n mask sof) :=
  fun _ _ _ _ => fun _ _ => execCanTxcancel_kept Kept.refl

theorem Keeps.canTbctlWrite : ∀ who n buf value, Keeps.Statement (.canTbctlWrite who n buf value) :=
  fun _ _ _ _ => fun _ _ => execCanTbctlWrite_kept Kept.refl

theorem Keeps.canTxEnd : ∀ n buf outcome, Keeps.Statement (.canTxEnd n buf outcome) :=
  fun _ _ _ => fun _ _ => execCanTxEnd_kept Kept.refl

theorem Keeps.canTxOccurrence : ∀ n buf, Keeps.Statement (.canTxOccurrence n buf) :=
  fun _ _ => fun _ _ => execCanTxOccurrence_kept Kept.refl

theorem Keeps.canSlotEnd : ∀ n buf started, Keeps.Statement (.canSlotEnd n buf started) :=
  fun _ _ _ => fun _ _ => execCanSlotEnd_kept Kept.refl

theorem Keeps.busoffRecoveryComplete : ∀ n, Keeps.Statement (.busoffRecoveryComplete n) :=
  fun _ => fun _ _ => execBusoffRecoveryComplete_kept Kept.refl

theorem Keeps.ladleOccurrence : ∀ ch, Keeps.Statement (.ladleOccurrence ch) :=
  fun _ => fun _ _ => execLadleOccurrence_kept Kept.refl

theorem Keeps.start : ∀ who ch, Keeps.Statement (.start who ch) :=
  fun _ _ => fun _ _ => execStart_kept Kept.refl

theorem Keeps.abort : ∀ who ch, Keeps.Statement (.abort who ch) :=
  fun _ _ => fun _ _ => execAbort_kept Kept.refl

theorem Keeps.chainTake : Keeps.Statement .chainTake :=
  fun _ _ => execChainTake_kept Kept.refl

theorem Keeps.descriptorEnd : Keeps.Statement .descriptorEnd :=
  fun _ _ => execDescriptorEnd_kept Kept.refl

theorem Keeps.ladleBusError : ∀ addr done, Keeps.Statement (.ladleBusError addr done) :=
  fun _ _ => fun _ _ => execLadleBusError_kept Kept.refl

theorem Keeps.clrhalt : ∀ who, Keeps.Statement (.clrhalt who) :=
  fun _ => fun _ _ => execClrhalt_kept Kept.refl

theorem Keeps.ingestEntry : Keeps.Statement .ingestEntry :=
  fun _ _ => execIngestEntry_kept Kept.refl

theorem Keeps.post : ∀ who buf keepTs, Keeps.Statement (.post who buf keepTs) :=
  fun _ _ _ => fun _ _ => execPost_kept Kept.refl

theorem Keeps.summaryRecord : ∀ cls, Keeps.Statement (.summaryRecord cls) :=
  fun _ => fun _ _ => execSummaryRecord_kept Kept.refl

theorem Keeps.tailCopy : Keeps.Statement .tailCopy :=
  fun _ _ => execTailCopy_kept Kept.refl

theorem Keeps.flashWrite : ∀ n bad, Keeps.Statement (.flashWrite n bad) :=
  fun _ _ => fun _ _ => execFlashWrite_kept Kept.refl

theorem Keeps.oldest : ∀ who k part, Keeps.Statement (.oldest who k part) :=
  fun _ _ _ => fun _ _ => execOldest_kept Kept.refl

theorem Keeps.seq : ∀ who k part, Keeps.Statement (.seq who k part) :=
  fun _ _ _ => fun _ _ => execSeq_kept Kept.refl

theorem Keeps.time : ∀ who k part, Keeps.Statement (.time who k part) :=
  fun _ _ _ => fun _ _ => execTime_kept Kept.refl

theorem Keeps.newest : ∀ who k part, Keeps.Statement (.newest who k part) :=
  fun _ _ _ => fun _ _ => execNewest_kept Kept.refl

theorem Keeps.advance : ∀ who k, Keeps.Statement (.advance who k) :=
  fun _ _ => fun _ _ => execAdvance_kept Kept.refl

theorem Keeps.cursorFillDone : ∀ k bad, Keeps.Statement (.cursorFillDone k bad) :=
  fun _ _ => fun _ _ => execCursorFillDone_kept Kept.refl

theorem Keeps.partitionClear : ∀ who priv mask, Keeps.Statement (.partitionClear who priv mask) :=
  fun _ _ _ => fun _ _ => execPartitionClear_kept Kept.refl

theorem Keeps.pmcWindowEnd : ∀ x, Keeps.Statement (.pmcWindowEnd x) :=
  fun _ => fun _ _ => execPmcWindowEnd_kept Kept.refl

theorem Keeps.pmcStagedWrite : ∀ who priv off value, Keeps.Statement (.pmcStagedWrite who priv off value) :=
  fun _ _ _ _ => fun _ _ => execPmcStagedWrite_kept Kept.refl

theorem Keeps.pmcTaskAccess : ∀ off write, Keeps.Statement (.pmcTaskAccess off write) :=
  fun _ _ => fun _ _ => execPmcTaskAccess_kept Kept.refl

theorem Keeps.pmcCounterRead : ∀ who counter, Keeps.Statement (.pmcCounterRead who counter) :=
  fun _ _ => fun _ _ => execPmcCounterRead_kept Kept.refl

theorem Keeps.copeTick : ∀ readings, Keeps.Statement (.copeTick readings) :=
  fun _ => fun _ _ => execCopeTick_kept Kept.refl

theorem Keeps.copeWatchdog : Keeps.Statement .copeWatchdog :=
  fun _ _ => execCopeWatchdog_kept Kept.refl

theorem Keeps.login : ∀ src, Keeps.Statement (.login src) :=
  fun _ => fun _ _ => execLogin_kept Kept.refl

theorem Keeps.logout : ∀ src, Keeps.Statement (.logout src) :=
  fun _ => fun _ _ => execLogout_kept Kept.refl

theorem Keeps.setPw : ∀ src, Keeps.Statement (.setPw src) :=
  fun _ => fun _ _ => execSetPw_kept Kept.refl

theorem Keeps.health : ∀ src, Keeps.Statement (.health src) :=
  fun _ => fun _ _ => execHealth_kept Kept.refl

theorem Keeps.reset : ∀ src, Keeps.Statement (.reset src) :=
  fun _ => fun _ _ => execReset_kept Kept.refl

theorem Keeps.copeStopReq : ∀ src, Keeps.Statement (.copeStopReq src) :=
  fun _ => fun _ _ => execCopeStopReq_kept Kept.refl

theorem Keeps.copeRunReq : ∀ src, Keeps.Statement (.copeRunReq src) :=
  fun _ => fun _ _ => execCopeRunReq_kept Kept.refl

theorem Keeps.copeResume : ∀ src, Keeps.Statement (.copeResume src) :=
  fun _ => fun _ _ => execCopeResume_kept Kept.refl

theorem Keeps.copeToStop : ∀ src, Keeps.Statement (.copeToStop src) :=
  fun _ => fun _ _ => execCopeToStop_kept Kept.refl

theorem Keeps.copeReload : ∀ src, Keeps.Statement (.copeReload src) :=
  fun _ => fun _ _ => execCopeReload_kept Kept.refl

theorem Keeps.keywsOpen : ∀ src, Keeps.Statement (.keywsOpen src) :=
  fun _ => fun _ _ => execKeywsOpen_kept Kept.refl

theorem Keeps.keywsWrite : ∀ src fault, Keeps.Statement (.keywsWrite src fault) :=
  fun _ _ => fun _ _ => execKeywsWrite_kept Kept.refl

theorem Keeps.keywsClose : ∀ src, Keeps.Statement (.keywsClose src) :=
  fun _ => fun _ _ => execKeywsClose_kept Kept.refl

theorem Keeps.dlStart : ∀ src, Keeps.Statement (.dlStart src) :=
  fun _ => fun _ _ => execDlStart_kept Kept.refl

theorem Keeps.dlData : ∀ src, Keeps.Statement (.dlData src) :=
  fun _ => fun _ _ => execDlData_kept Kept.refl

theorem Keeps.dlApply : ∀ src, Keeps.Statement (.dlApply src) :=
  fun _ => fun _ _ => execDlApply_kept Kept.refl

theorem Keeps.dlAbort : ∀ src, Keeps.Statement (.dlAbort src) :=
  fun _ => fun _ _ => execDlAbort_kept Kept.refl

theorem Keeps.fwBegin : ∀ src, Keeps.Statement (.fwBegin src) :=
  fun _ => fun _ _ => execFwBegin_kept Kept.refl

theorem Keeps.fwData : ∀ src, Keeps.Statement (.fwData src) :=
  fun _ => fun _ _ => execFwData_kept Kept.refl

theorem Keeps.fwInstall : ∀ src, Keeps.Statement (.fwInstall src) :=
  fun _ => fun _ _ => execFwInstall_kept Kept.refl

theorem Keeps.keyInstall : ∀ src, Keeps.Statement (.keyInstall src) :=
  fun _ => fun _ _ => execKeyInstall_kept Kept.refl

theorem Keeps.keyRevoke : ∀ src, Keeps.Statement (.keyRevoke src) :=
  fun _ => fun _ _ => execKeyRevoke_kept Kept.refl

theorem Keeps.keyList : ∀ src, Keeps.Statement (.keyList src) :=
  fun _ => fun _ _ => execKeyList_kept Kept.refl

theorem Keeps.evrClear : ∀ src, Keeps.Statement (.evrClear src) :=
  fun _ => fun _ _ => execEvrClear_kept Kept.refl

theorem Keeps.evrRead : ∀ src, Keeps.Statement (.evrRead src) :=
  fun _ => fun _ _ => execEvrRead_kept Kept.refl

theorem Keeps.sessionTimeout : Keeps.Statement .sessionTimeout :=
  fun _ _ => execSessionTimeout_kept Kept.refl

theorem Keeps.serviceLinkLoss : Keeps.Statement .serviceLinkLoss :=
  fun _ _ => execServiceLinkLoss_kept Kept.refl

theorem Keeps.loginLockExpiry : Keeps.Statement .loginLockExpiry :=
  fun _ _ => execLoginLockExpiry_kept Kept.refl

theorem Keeps.feedChange : ∀ feedB mv, Keeps.Statement (.feedChange feedB mv) :=
  fun _ _ => fun _ _ => execFeedChange_kept Kept.refl

theorem Keeps.overvoltage : Keeps.Statement .overvoltage :=
  fun _ _ => execOvervoltage_kept Kept.refl

theorem Keeps.inputDisconnect : ∀ feedB, Keeps.Statement (.inputDisconnect feedB) :=
  fun _ => fun _ _ => execInputDisconnect_kept Kept.refl

theorem Keeps.inputReconnect : ∀ feedB, Keeps.Statement (.inputReconnect feedB) :=
  fun _ => fun _ _ => execInputReconnect_kept Kept.refl

theorem Keeps.holdupEntry : Keeps.Statement .holdupEntry :=
  fun _ _ => execHoldupEntry_kept Kept.refl

theorem Keeps.feedRestored : Keeps.Statement .feedRestored :=
  fun _ _ => execFeedRestored_kept Kept.refl

theorem Keeps.saveTrigger : ∀ vr, Keeps.Statement (.saveTrigger vr) :=
  fun _ => fun _ _ => execSaveTrigger_kept Kept.refl

theorem Keeps.saveComplete : ∀ done vinGood, Keeps.Statement (.saveComplete done vinGood) :=
  fun _ _ => fun _ _ => execSaveComplete_kept Kept.refl

theorem Keeps.bankCharged : Keeps.Statement .bankCharged :=
  fun _ _ => execBankCharged_kept Kept.refl

theorem Keeps.chargerFault : Keeps.Statement .chargerFault :=
  fun _ _ => execChargerFault_kept Kept.refl

theorem Keeps.chargerRetry : Keeps.Statement .chargerRetry :=
  fun _ _ => execChargerRetry_kept Kept.refl

theorem Keeps.rtest : ∀ who, Keeps.Statement (.rtest who) :=
  fun _ => fun _ _ => execRtest_kept Kept.refl

theorem Keeps.healthTestComplete : ∀ step fall, Keeps.Statement (.healthTestComplete step fall) :=
  fun _ _ => fun _ _ => execHealthTestComplete_kept Kept.refl

theorem Keeps.extensionCharged : ∀ cap, Keeps.Statement (.extensionCharged cap) :=
  fun _ => fun _ _ => execExtensionCharged_kept Kept.refl

theorem Keeps.extensionFault : Keeps.Statement .extensionFault :=
  fun _ _ => execExtensionFault_kept Kept.refl

theorem Keeps.pwrMeasure : ∀ vin feedA feedB vr vext pin chg, Keeps.Statement (.pwrMeasure vin feedA feedB vr vext pin chg) :=
  fun _ _ _ _ _ _ _ => fun _ _ => execPwrMeasure_kept Kept.refl

theorem Keeps.rstInRelease : Keeps.Statement .rstInRelease :=
  fun _ _ => execRstInRelease_kept Kept.refl

theorem Keeps.foxSrcRead : ∀ who, Keeps.Statement (.foxSrcRead who) :=
  fun _ => fun _ _ => execFoxSrcRead_kept Kept.refl

theorem Keeps.canBusIdle : ∀ n, Keeps.Statement (.canBusIdle n) :=
  fun _ => fun _ _ => execCanBusIdle_kept Kept.refl

theorem Keeps.canBusError : ∀ n tx eight, Keeps.Statement (.canBusError n tx eight) :=
  fun _ _ _ => fun _ _ => execCanBusError_kept Kept.refl

theorem Keeps.frameForward : ∀ port frame residence good, Keeps.Statement (.frameForward port frame residence good) :=
  fun _ _ _ _ => fun _ _ => execFrameForward_kept Kept.refl

theorem Keeps.learnedEntryAgeOut : ∀ mac vid, Keeps.Statement (.learnedEntryAgeOut mac vid) :=
  fun _ _ => fun _ _ => execLearnedEntryAgeOut_kept Kept.refl

theorem Keeps.transitFrameDrop : ∀ p2, Keeps.Statement (.transitFrameDrop p2) :=
  fun _ => fun _ _ => execTransitFrameDrop_kept Kept.refl

theorem Keeps.pathDelayMeasurement : ∀ p2 delay, Keeps.Statement (.pathDelayMeasurement p2 delay) :=
  fun _ _ => fun _ _ => execPathDelayMeasurement_kept Kept.refl

theorem Keeps.canAllocationEnd : ∀ n buf started, Keeps.Statement (.canAllocationEnd n buf started) :=
  fun _ _ _ => fun _ _ => execCanAllocationEnd_kept Kept.refl

theorem Keeps.partitionClearDone : ∀ part, Keeps.Statement (.partitionClearDone part) :=
  fun _ => fun _ _ => execPartitionClearDone_kept Kept.refl

end Sys2Proof.Laws
end

