-- ==== Sys2Proof/Laws/Units.lean ====
section
/-! SUPPORT. What each update of one cell, loop, task, subscription, class, CAN controller, cursor, cache line or bus response
leaves alone: one lemma per field per update; and what reads back after it. -/

namespace Sys2Proof.Machine

open Sys2Proof.Laws

@[simp] theorem State.setCell_regs (s : State) {n} {c} : (s.setCell n c).regs = s.regs := rfl
@[simp] theorem State.setCell_mem (s : State) {n} {c} : (s.setCell n c).mem = s.mem := rfl
@[simp] theorem State.setCell_mono (s : State) {n} {c} : (s.setCell n c).mono = s.mono := rfl
@[simp] theorem State.setCell_mgdNs (s : State) {n} {c} : (s.setCell n c).mgdNs = s.mgdNs := rfl
@[simp] theorem State.setCell_free (s : State) {n} {c} : (s.setCell n c).free = s.free := rfl
@[simp] theorem State.setCell_evr (s : State) {n} {c} : (s.setCell n c).evr = s.evr := rfl
@[simp] theorem State.setCell_bus (s : State) {n} {c} : (s.setCell n c).bus = s.bus := rfl
@[simp] theorem State.setCell_outbox (s : State) {n} {c} : (s.setCell n c).outbox = s.outbox := rfl
@[simp] theorem State.setCell_sys (s : State) {n} {c} : (s.setCell n c).sys = s.sys := rfl
@[simp] theorem State.setCell_pat (s : State) {n} {c} : (s.setCell n c).pat = s.pat := rfl
@[simp] theorem State.setCell_pour (s : State) {n} {c} : (s.setCell n c).pour = s.pour := rfl
@[simp] theorem State.setCell_prg (s : State) {n} {c} : (s.setCell n c).prg = s.prg := rfl
@[simp] theorem State.setCell_cru (s : State) {n} {c} : (s.setCell n c).cru = s.cru := rfl
@[simp] theorem State.setCell_fox (s : State) {n} {c} : (s.setCell n c).fox = s.fox := rfl
@[simp] theorem State.setCell_saf (s : State) {n} {c} : (s.setCell n c).saf = s.saf := rfl
@[simp] theorem State.setCell_safNv (s : State) {n} {c} : (s.setCell n c).safNv = s.safNv := rfl
@[simp] theorem State.setCell_mgd (s : State) {n} {c} : (s.setCell n c).mgd = s.mgd := rfl
@[simp] theorem State.setCell_can (s : State) {n} {c} : (s.setCell n c).can = s.can := rfl
@[simp] theorem State.setCell_net (s : State) {n} {c} : (s.setCell n c).net = s.net := rfl
@[simp] theorem State.setCell_run (s : State) {n} {c} : (s.setCell n c).run = s.run := rfl
@[simp] theorem State.setCell_ldl (s : State) {n} {c} : (s.setCell n c).ldl = s.ldl := rfl
@[simp] theorem State.setCell_pmc (s : State) {n} {c} : (s.setCell n c).pmc = s.pmc := rfl
@[simp] theorem State.setCell_cope (s : State) {n} {c} : (s.setCell n c).cope = s.cope := rfl
@[simp] theorem State.setCell_pwr (s : State) {n} {c} : (s.setCell n c).pwr = s.pwr := rfl
@[simp] theorem State.setCell_pending (s : State) {n} {c} : (s.setCell n c).pending = s.pending := rfl
@[simp] theorem State.setLoop_regs (s : State) {n} {l} : (s.setLoop n l).regs = s.regs := rfl
@[simp] theorem State.setLoop_mem (s : State) {n} {l} : (s.setLoop n l).mem = s.mem := rfl
@[simp] theorem State.setLoop_mono (s : State) {n} {l} : (s.setLoop n l).mono = s.mono := rfl
@[simp] theorem State.setLoop_mgdNs (s : State) {n} {l} : (s.setLoop n l).mgdNs = s.mgdNs := rfl
@[simp] theorem State.setLoop_free (s : State) {n} {l} : (s.setLoop n l).free = s.free := rfl
@[simp] theorem State.setLoop_evr (s : State) {n} {l} : (s.setLoop n l).evr = s.evr := rfl
@[simp] theorem State.setLoop_bus (s : State) {n} {l} : (s.setLoop n l).bus = s.bus := rfl
@[simp] theorem State.setLoop_outbox (s : State) {n} {l} : (s.setLoop n l).outbox = s.outbox := rfl
@[simp] theorem State.setLoop_sys (s : State) {n} {l} : (s.setLoop n l).sys = s.sys := rfl
@[simp] theorem State.setLoop_pat (s : State) {n} {l} : (s.setLoop n l).pat = s.pat := rfl
@[simp] theorem State.setLoop_pour (s : State) {n} {l} : (s.setLoop n l).pour = s.pour := rfl
@[simp] theorem State.setLoop_prg (s : State) {n} {l} : (s.setLoop n l).prg = s.prg := rfl
@[simp] theorem State.setLoop_chan (s : State) {n} {l} : (s.setLoop n l).chan = s.chan := rfl
@[simp] theorem State.setLoop_fox (s : State) {n} {l} : (s.setLoop n l).fox = s.fox := rfl
@[simp] theorem State.setLoop_saf (s : State) {n} {l} : (s.setLoop n l).saf = s.saf := rfl
@[simp] theorem State.setLoop_safNv (s : State) {n} {l} : (s.setLoop n l).safNv = s.safNv := rfl
@[simp] theorem State.setLoop_mgd (s : State) {n} {l} : (s.setLoop n l).mgd = s.mgd := rfl
@[simp] theorem State.setLoop_can (s : State) {n} {l} : (s.setLoop n l).can = s.can := rfl
@[simp] theorem State.setLoop_net (s : State) {n} {l} : (s.setLoop n l).net = s.net := rfl
@[simp] theorem State.setLoop_run (s : State) {n} {l} : (s.setLoop n l).run = s.run := rfl
@[simp] theorem State.setLoop_ldl (s : State) {n} {l} : (s.setLoop n l).ldl = s.ldl := rfl
@[simp] theorem State.setLoop_pmc (s : State) {n} {l} : (s.setLoop n l).pmc = s.pmc := rfl
@[simp] theorem State.setLoop_cope (s : State) {n} {l} : (s.setLoop n l).cope = s.cope := rfl
@[simp] theorem State.setLoop_pwr (s : State) {n} {l} : (s.setLoop n l).pwr = s.pwr := rfl
@[simp] theorem State.setLoop_pending (s : State) {n} {l} : (s.setLoop n l).pending = s.pending := rfl
@[simp] theorem State.setTask_regs (s : State) {t} {x} : (s.setTask t x).regs = s.regs := rfl
@[simp] theorem State.setTask_mem (s : State) {t} {x} : (s.setTask t x).mem = s.mem := rfl
@[simp] theorem State.setTask_mono (s : State) {t} {x} : (s.setTask t x).mono = s.mono := rfl
@[simp] theorem State.setTask_mgdNs (s : State) {t} {x} : (s.setTask t x).mgdNs = s.mgdNs := rfl
@[simp] theorem State.setTask_free (s : State) {t} {x} : (s.setTask t x).free = s.free := rfl
@[simp] theorem State.setTask_evr (s : State) {t} {x} : (s.setTask t x).evr = s.evr := rfl
@[simp] theorem State.setTask_bus (s : State) {t} {x} : (s.setTask t x).bus = s.bus := rfl
@[simp] theorem State.setTask_outbox (s : State) {t} {x} : (s.setTask t x).outbox = s.outbox := rfl
@[simp] theorem State.setTask_sys (s : State) {t} {x} : (s.setTask t x).sys = s.sys := rfl
@[simp] theorem State.setTask_pat (s : State) {t} {x} : (s.setTask t x).pat = s.pat := rfl
@[simp] theorem State.setTask_prg (s : State) {t} {x} : (s.setTask t x).prg = s.prg := rfl
@[simp] theorem State.setTask_chan (s : State) {t} {x} : (s.setTask t x).chan = s.chan := rfl
@[simp] theorem State.setTask_cru (s : State) {t} {x} : (s.setTask t x).cru = s.cru := rfl
@[simp] theorem State.setTask_fox (s : State) {t} {x} : (s.setTask t x).fox = s.fox := rfl
@[simp] theorem State.setTask_saf (s : State) {t} {x} : (s.setTask t x).saf = s.saf := rfl
@[simp] theorem State.setTask_safNv (s : State) {t} {x} : (s.setTask t x).safNv = s.safNv := rfl
@[simp] theorem State.setTask_mgd (s : State) {t} {x} : (s.setTask t x).mgd = s.mgd := rfl
@[simp] theorem State.setTask_can (s : State) {t} {x} : (s.setTask t x).can = s.can := rfl
@[simp] theorem State.setTask_net (s : State) {t} {x} : (s.setTask t x).net = s.net := rfl
@[simp] theorem State.setTask_run (s : State) {t} {x} : (s.setTask t x).run = s.run := rfl
@[simp] theorem State.setTask_ldl (s : State) {t} {x} : (s.setTask t x).ldl = s.ldl := rfl
@[simp] theorem State.setTask_pmc (s : State) {t} {x} : (s.setTask t x).pmc = s.pmc := rfl
@[simp] theorem State.setTask_cope (s : State) {t} {x} : (s.setTask t x).cope = s.cope := rfl
@[simp] theorem State.setTask_pwr (s : State) {t} {x} : (s.setTask t x).pwr = s.pwr := rfl
@[simp] theorem State.setTask_pending (s : State) {t} {x} : (s.setTask t x).pending = s.pending := rfl
@[simp] theorem State.setSub_regs (s : State) {n} {x} : (s.setSub n x).regs = s.regs := rfl
@[simp] theorem State.setSub_mem (s : State) {n} {x} : (s.setSub n x).mem = s.mem := rfl
@[simp] theorem State.setSub_mono (s : State) {n} {x} : (s.setSub n x).mono = s.mono := rfl
@[simp] theorem State.setSub_mgdNs (s : State) {n} {x} : (s.setSub n x).mgdNs = s.mgdNs := rfl
@[simp] theorem State.setSub_free (s : State) {n} {x} : (s.setSub n x).free = s.free := rfl
@[simp] theorem State.setSub_evr (s : State) {n} {x} : (s.setSub n x).evr = s.evr := rfl
@[simp] theorem State.setSub_bus (s : State) {n} {x} : (s.setSub n x).bus = s.bus := rfl
@[simp] theorem State.setSub_outbox (s : State) {n} {x} : (s.setSub n x).outbox = s.outbox := rfl
@[simp] theorem State.setSub_sys (s : State) {n} {x} : (s.setSub n x).sys = s.sys := rfl
@[simp] theorem State.setSub_pat (s : State) {n} {x} : (s.setSub n x).pat = s.pat := rfl
@[simp] theorem State.setSub_pour (s : State) {n} {x} : (s.setSub n x).pour = s.pour := rfl
@[simp] theorem State.setSub_prg (s : State) {n} {x} : (s.setSub n x).prg = s.prg := rfl
@[simp] theorem State.setSub_chan (s : State) {n} {x} : (s.setSub n x).chan = s.chan := rfl
@[simp] theorem State.setSub_cru (s : State) {n} {x} : (s.setSub n x).cru = s.cru := rfl
@[simp] theorem State.setSub_fox (s : State) {n} {x} : (s.setSub n x).fox = s.fox := rfl
@[simp] theorem State.setSub_saf (s : State) {n} {x} : (s.setSub n x).saf = s.saf := rfl
@[simp] theorem State.setSub_safNv (s : State) {n} {x} : (s.setSub n x).safNv = s.safNv := rfl
@[simp] theorem State.setSub_mgd (s : State) {n} {x} : (s.setSub n x).mgd = s.mgd := rfl
@[simp] theorem State.setSub_can (s : State) {n} {x} : (s.setSub n x).can = s.can := rfl
@[simp] theorem State.setSub_run (s : State) {n} {x} : (s.setSub n x).run = s.run := rfl
@[simp] theorem State.setSub_ldl (s : State) {n} {x} : (s.setSub n x).ldl = s.ldl := rfl
@[simp] theorem State.setSub_pmc (s : State) {n} {x} : (s.setSub n x).pmc = s.pmc := rfl
@[simp] theorem State.setSub_cope (s : State) {n} {x} : (s.setSub n x).cope = s.cope := rfl
@[simp] theorem State.setSub_pwr (s : State) {n} {x} : (s.setSub n x).pwr = s.pwr := rfl
@[simp] theorem State.setSub_pending (s : State) {n} {x} : (s.setSub n x).pending = s.pending := rfl
@[simp] theorem State.setBucket_regs (s : State) {k} {b} : (s.setBucket k b).regs = s.regs := rfl
@[simp] theorem State.setBucket_mem (s : State) {k} {b} : (s.setBucket k b).mem = s.mem := rfl
@[simp] theorem State.setBucket_mono (s : State) {k} {b} : (s.setBucket k b).mono = s.mono := rfl
@[simp] theorem State.setBucket_mgdNs (s : State) {k} {b} : (s.setBucket k b).mgdNs = s.mgdNs := rfl
@[simp] theorem State.setBucket_free (s : State) {k} {b} : (s.setBucket k b).free = s.free := rfl
@[simp] theorem State.setBucket_bus (s : State) {k} {b} : (s.setBucket k b).bus = s.bus := rfl
@[simp] theorem State.setBucket_outbox (s : State) {k} {b} : (s.setBucket k b).outbox = s.outbox := rfl
@[simp] theorem State.setBucket_sys (s : State) {k} {b} : (s.setBucket k b).sys = s.sys := rfl
@[simp] theorem State.setBucket_pat (s : State) {k} {b} : (s.setBucket k b).pat = s.pat := rfl
@[simp] theorem State.setBucket_pour (s : State) {k} {b} : (s.setBucket k b).pour = s.pour := rfl
@[simp] theorem State.setBucket_prg (s : State) {k} {b} : (s.setBucket k b).prg = s.prg := rfl
@[simp] theorem State.setBucket_chan (s : State) {k} {b} : (s.setBucket k b).chan = s.chan := rfl
@[simp] theorem State.setBucket_cru (s : State) {k} {b} : (s.setBucket k b).cru = s.cru := rfl
@[simp] theorem State.setBucket_fox (s : State) {k} {b} : (s.setBucket k b).fox = s.fox := rfl
@[simp] theorem State.setBucket_saf (s : State) {k} {b} : (s.setBucket k b).saf = s.saf := rfl
@[simp] theorem State.setBucket_safNv (s : State) {k} {b} : (s.setBucket k b).safNv = s.safNv := rfl
@[simp] theorem State.setBucket_mgd (s : State) {k} {b} : (s.setBucket k b).mgd = s.mgd := rfl
@[simp] theorem State.setBucket_can (s : State) {k} {b} : (s.setBucket k b).can = s.can := rfl
@[simp] theorem State.setBucket_net (s : State) {k} {b} : (s.setBucket k b).net = s.net := rfl
@[simp] theorem State.setBucket_run (s : State) {k} {b} : (s.setBucket k b).run = s.run := rfl
@[simp] theorem State.setBucket_ldl (s : State) {k} {b} : (s.setBucket k b).ldl = s.ldl := rfl
@[simp] theorem State.setBucket_pmc (s : State) {k} {b} : (s.setBucket k b).pmc = s.pmc := rfl
@[simp] theorem State.setBucket_cope (s : State) {k} {b} : (s.setBucket k b).cope = s.cope := rfl
@[simp] theorem State.setBucket_pwr (s : State) {k} {b} : (s.setBucket k b).pwr = s.pwr := rfl
@[simp] theorem State.setBucket_pending (s : State) {k} {b} : (s.setBucket k b).pending = s.pending := rfl
@[simp] theorem State.setCan_regs (s : State) {n} {c} : (s.setCan n c).regs = s.regs := rfl
@[simp] theorem State.setCan_mem (s : State) {n} {c} : (s.setCan n c).mem = s.mem := rfl
@[simp] theorem State.setCan_mono (s : State) {n} {c} : (s.setCan n c).mono = s.mono := rfl
@[simp] theorem State.setCan_mgdNs (s : State) {n} {c} : (s.setCan n c).mgdNs = s.mgdNs := rfl
@[simp] theorem State.setCan_free (s : State) {n} {c} : (s.setCan n c).free = s.free := rfl
@[simp] theorem State.setCan_evr (s : State) {n} {c} : (s.setCan n c).evr = s.evr := rfl
@[simp] theorem State.setCan_bus (s : State) {n} {c} : (s.setCan n c).bus = s.bus := rfl
@[simp] theorem State.setCan_outbox (s : State) {n} {c} : (s.setCan n c).outbox = s.outbox := rfl
@[simp] theorem State.setCan_sys (s : State) {n} {c} : (s.setCan n c).sys = s.sys := rfl
@[simp] theorem State.setCan_pat (s : State) {n} {c} : (s.setCan n c).pat = s.pat := rfl
@[simp] theorem State.setCan_pour (s : State) {n} {c} : (s.setCan n c).pour = s.pour := rfl
@[simp] theorem State.setCan_prg (s : State) {n} {c} : (s.setCan n c).prg = s.prg := rfl
@[simp] theorem State.setCan_chan (s : State) {n} {c} : (s.setCan n c).chan = s.chan := rfl
@[simp] theorem State.setCan_cru (s : State) {n} {c} : (s.setCan n c).cru = s.cru := rfl
@[simp] theorem State.setCan_fox (s : State) {n} {c} : (s.setCan n c).fox = s.fox := rfl
@[simp] theorem State.setCan_saf (s : State) {n} {c} : (s.setCan n c).saf = s.saf := rfl
@[simp] theorem State.setCan_safNv (s : State) {n} {c} : (s.setCan n c).safNv = s.safNv := rfl
@[simp] theorem State.setCan_mgd (s : State) {n} {c} : (s.setCan n c).mgd = s.mgd := rfl
@[simp] theorem State.setCan_net (s : State) {n} {c} : (s.setCan n c).net = s.net := rfl
@[simp] theorem State.setCan_run (s : State) {n} {c} : (s.setCan n c).run = s.run := rfl
@[simp] theorem State.setCan_ldl (s : State) {n} {c} : (s.setCan n c).ldl = s.ldl := rfl
@[simp] theorem State.setCan_pmc (s : State) {n} {c} : (s.setCan n c).pmc = s.pmc := rfl
@[simp] theorem State.setCan_cope (s : State) {n} {c} : (s.setCan n c).cope = s.cope := rfl
@[simp] theorem State.setCan_pwr (s : State) {n} {c} : (s.setCan n c).pwr = s.pwr := rfl
@[simp] theorem State.setCan_pending (s : State) {n} {c} : (s.setCan n c).pending = s.pending := rfl
@[simp] theorem State.setCanBuf_regs (s : State) {n} {b} {x} : (s.setCanBuf n b x).regs = s.regs := rfl
@[simp] theorem State.setCanBuf_mem (s : State) {n} {b} {x} : (s.setCanBuf n b x).mem = s.mem := rfl
@[simp] theorem State.setCanBuf_mono (s : State) {n} {b} {x} : (s.setCanBuf n b x).mono = s.mono := rfl
@[simp] theorem State.setCanBuf_mgdNs (s : State) {n} {b} {x} : (s.setCanBuf n b x).mgdNs = s.mgdNs := rfl
@[simp] theorem State.setCanBuf_free (s : State) {n} {b} {x} : (s.setCanBuf n b x).free = s.free := rfl
@[simp] theorem State.setCanBuf_evr (s : State) {n} {b} {x} : (s.setCanBuf n b x).evr = s.evr := rfl
@[simp] theorem State.setCanBuf_bus (s : State) {n} {b} {x} : (s.setCanBuf n b x).bus = s.bus := rfl
@[simp] theorem State.setCanBuf_outbox (s : State) {n} {b} {x} : (s.setCanBuf n b x).outbox = s.outbox := rfl
@[simp] theorem State.setCanBuf_sys (s : State) {n} {b} {x} : (s.setCanBuf n b x).sys = s.sys := rfl
@[simp] theorem State.setCanBuf_pat (s : State) {n} {b} {x} : (s.setCanBuf n b x).pat = s.pat := rfl
@[simp] theorem State.setCanBuf_pour (s : State) {n} {b} {x} : (s.setCanBuf n b x).pour = s.pour := rfl
@[simp] theorem State.setCanBuf_prg (s : State) {n} {b} {x} : (s.setCanBuf n b x).prg = s.prg := rfl
@[simp] theorem State.setCanBuf_chan (s : State) {n} {b} {x} : (s.setCanBuf n b x).chan = s.chan := rfl
@[simp] theorem State.setCanBuf_cru (s : State) {n} {b} {x} : (s.setCanBuf n b x).cru = s.cru := rfl
@[simp] theorem State.setCanBuf_fox (s : State) {n} {b} {x} : (s.setCanBuf n b x).fox = s.fox := rfl
@[simp] theorem State.setCanBuf_saf (s : State) {n} {b} {x} : (s.setCanBuf n b x).saf = s.saf := rfl
@[simp] theorem State.setCanBuf_safNv (s : State) {n} {b} {x} : (s.setCanBuf n b x).safNv = s.safNv := rfl
@[simp] theorem State.setCanBuf_mgd (s : State) {n} {b} {x} : (s.setCanBuf n b x).mgd = s.mgd := rfl
@[simp] theorem State.setCanBuf_net (s : State) {n} {b} {x} : (s.setCanBuf n b x).net = s.net := rfl
@[simp] theorem State.setCanBuf_run (s : State) {n} {b} {x} : (s.setCanBuf n b x).run = s.run := rfl
@[simp] theorem State.setCanBuf_ldl (s : State) {n} {b} {x} : (s.setCanBuf n b x).ldl = s.ldl := rfl
@[simp] theorem State.setCanBuf_pmc (s : State) {n} {b} {x} : (s.setCanBuf n b x).pmc = s.pmc := rfl
@[simp] theorem State.setCanBuf_cope (s : State) {n} {b} {x} : (s.setCanBuf n b x).cope = s.cope := rfl
@[simp] theorem State.setCanBuf_pwr (s : State) {n} {b} {x} : (s.setCanBuf n b x).pwr = s.pwr := rfl
@[simp] theorem State.setCanBuf_pending (s : State) {n} {b} {x} : (s.setCanBuf n b x).pending = s.pending := rfl
@[simp] theorem State.setCursor_regs (s : State) {k} {c} : (s.setCursor k c).regs = s.regs := rfl
@[simp] theorem State.setCursor_mem (s : State) {k} {c} : (s.setCursor k c).mem = s.mem := rfl
@[simp] theorem State.setCursor_mono (s : State) {k} {c} : (s.setCursor k c).mono = s.mono := rfl
@[simp] theorem State.setCursor_mgdNs (s : State) {k} {c} : (s.setCursor k c).mgdNs = s.mgdNs := rfl
@[simp] theorem State.setCursor_free (s : State) {k} {c} : (s.setCursor k c).free = s.free := rfl
@[simp] theorem State.setCursor_bus (s : State) {k} {c} : (s.setCursor k c).bus = s.bus := rfl
@[simp] theorem State.setCursor_outbox (s : State) {k} {c} : (s.setCursor k c).outbox = s.outbox := rfl
@[simp] theorem State.setCursor_sys (s : State) {k} {c} : (s.setCursor k c).sys = s.sys := rfl
@[simp] theorem State.setCursor_pat (s : State) {k} {c} : (s.setCursor k c).pat = s.pat := rfl
@[simp] theorem State.setCursor_pour (s : State) {k} {c} : (s.setCursor k c).pour = s.pour := rfl
@[simp] theorem State.setCursor_prg (s : State) {k} {c} : (s.setCursor k c).prg = s.prg := rfl
@[simp] theorem State.setCursor_chan (s : State) {k} {c} : (s.setCursor k c).chan = s.chan := rfl
@[simp] theorem State.setCursor_cru (s : State) {k} {c} : (s.setCursor k c).cru = s.cru := rfl
@[simp] theorem State.setCursor_fox (s : State) {k} {c} : (s.setCursor k c).fox = s.fox := rfl
@[simp] theorem State.setCursor_saf (s : State) {k} {c} : (s.setCursor k c).saf = s.saf := rfl
@[simp] theorem State.setCursor_safNv (s : State) {k} {c} : (s.setCursor k c).safNv = s.safNv := rfl
@[simp] theorem State.setCursor_mgd (s : State) {k} {c} : (s.setCursor k c).mgd = s.mgd := rfl
@[simp] theorem State.setCursor_can (s : State) {k} {c} : (s.setCursor k c).can = s.can := rfl
@[simp] theorem State.setCursor_net (s : State) {k} {c} : (s.setCursor k c).net = s.net := rfl
@[simp] theorem State.setCursor_run (s : State) {k} {c} : (s.setCursor k c).run = s.run := rfl
@[simp] theorem State.setCursor_ldl (s : State) {k} {c} : (s.setCursor k c).ldl = s.ldl := rfl
@[simp] theorem State.setCursor_pmc (s : State) {k} {c} : (s.setCursor k c).pmc = s.pmc := rfl
@[simp] theorem State.setCursor_cope (s : State) {k} {c} : (s.setCursor k c).cope = s.cope := rfl
@[simp] theorem State.setCursor_pwr (s : State) {k} {c} : (s.setCursor k c).pwr = s.pwr := rfl
@[simp] theorem State.setCursor_pending (s : State) {k} {c} : (s.setCursor k c).pending = s.pending := rfl
@[simp] theorem State.setLine_regs (s : State) {p} {l} {x} : (s.setLine p l x).regs = s.regs := rfl
@[simp] theorem State.setLine_mem (s : State) {p} {l} {x} : (s.setLine p l x).mem = s.mem := rfl
@[simp] theorem State.setLine_mono (s : State) {p} {l} {x} : (s.setLine p l x).mono = s.mono := rfl
@[simp] theorem State.setLine_mgdNs (s : State) {p} {l} {x} : (s.setLine p l x).mgdNs = s.mgdNs := rfl
@[simp] theorem State.setLine_free (s : State) {p} {l} {x} : (s.setLine p l x).free = s.free := rfl
@[simp] theorem State.setLine_evr (s : State) {p} {l} {x} : (s.setLine p l x).evr = s.evr := rfl
@[simp] theorem State.setLine_bus (s : State) {p} {l} {x} : (s.setLine p l x).bus = s.bus := rfl
@[simp] theorem State.setLine_outbox (s : State) {p} {l} {x} : (s.setLine p l x).outbox = s.outbox := rfl
@[simp] theorem State.setLine_sys (s : State) {p} {l} {x} : (s.setLine p l x).sys = s.sys := rfl
@[simp] theorem State.setLine_pat (s : State) {p} {l} {x} : (s.setLine p l x).pat = s.pat := rfl
@[simp] theorem State.setLine_pour (s : State) {p} {l} {x} : (s.setLine p l x).pour = s.pour := rfl
@[simp] theorem State.setLine_chan (s : State) {p} {l} {x} : (s.setLine p l x).chan = s.chan := rfl
@[simp] theorem State.setLine_cru (s : State) {p} {l} {x} : (s.setLine p l x).cru = s.cru := rfl
@[simp] theorem State.setLine_fox (s : State) {p} {l} {x} : (s.setLine p l x).fox = s.fox := rfl
@[simp] theorem State.setLine_saf (s : State) {p} {l} {x} : (s.setLine p l x).saf = s.saf := rfl
@[simp] theorem State.setLine_safNv (s : State) {p} {l} {x} : (s.setLine p l x).safNv = s.safNv := rfl
@[simp] theorem State.setLine_mgd (s : State) {p} {l} {x} : (s.setLine p l x).mgd = s.mgd := rfl
@[simp] theorem State.setLine_can (s : State) {p} {l} {x} : (s.setLine p l x).can = s.can := rfl
@[simp] theorem State.setLine_net (s : State) {p} {l} {x} : (s.setLine p l x).net = s.net := rfl
@[simp] theorem State.setLine_run (s : State) {p} {l} {x} : (s.setLine p l x).run = s.run := rfl
@[simp] theorem State.setLine_ldl (s : State) {p} {l} {x} : (s.setLine p l x).ldl = s.ldl := rfl
@[simp] theorem State.setLine_pmc (s : State) {p} {l} {x} : (s.setLine p l x).pmc = s.pmc := rfl
@[simp] theorem State.setLine_cope (s : State) {p} {l} {x} : (s.setLine p l x).cope = s.cope := rfl
@[simp] theorem State.setLine_pwr (s : State) {p} {l} {x} : (s.setLine p l x).pwr = s.pwr := rfl
@[simp] theorem State.setLine_pending (s : State) {p} {l} {x} : (s.setLine p l x).pending = s.pending := rfl
@[simp] theorem State.setEntrySample_regs (s : State) {e} {k} : (s.setEntrySample e k).regs = s.regs := rfl
@[simp] theorem State.setEntrySample_mem (s : State) {e} {k} : (s.setEntrySample e k).mem = s.mem := rfl
@[simp] theorem State.setEntrySample_mono (s : State) {e} {k} : (s.setEntrySample e k).mono = s.mono := rfl
@[simp] theorem State.setEntrySample_mgdNs (s : State) {e} {k} : (s.setEntrySample e k).mgdNs = s.mgdNs := rfl
@[simp] theorem State.setEntrySample_free (s : State) {e} {k} : (s.setEntrySample e k).free = s.free := rfl
@[simp] theorem State.setEntrySample_evr (s : State) {e} {k} : (s.setEntrySample e k).evr = s.evr := rfl
@[simp] theorem State.setEntrySample_bus (s : State) {e} {k} : (s.setEntrySample e k).bus = s.bus := rfl
@[simp] theorem State.setEntrySample_outbox (s : State) {e} {k} : (s.setEntrySample e k).outbox = s.outbox := rfl
@[simp] theorem State.setEntrySample_sys (s : State) {e} {k} : (s.setEntrySample e k).sys = s.sys := rfl
@[simp] theorem State.setEntrySample_pat (s : State) {e} {k} : (s.setEntrySample e k).pat = s.pat := rfl
@[simp] theorem State.setEntrySample_pour (s : State) {e} {k} : (s.setEntrySample e k).pour = s.pour := rfl
@[simp] theorem State.setEntrySample_prg (s : State) {e} {k} : (s.setEntrySample e k).prg = s.prg := rfl
@[simp] theorem State.setEntrySample_chan (s : State) {e} {k} : (s.setEntrySample e k).chan = s.chan := rfl
@[simp] theorem State.setEntrySample_fox (s : State) {e} {k} : (s.setEntrySample e k).fox = s.fox := rfl
@[simp] theorem State.setEntrySample_saf (s : State) {e} {k} : (s.setEntrySample e k).saf = s.saf := rfl
@[simp] theorem State.setEntrySample_safNv (s : State) {e} {k} : (s.setEntrySample e k).safNv = s.safNv := rfl
@[simp] theorem State.setEntrySample_mgd (s : State) {e} {k} : (s.setEntrySample e k).mgd = s.mgd := rfl
@[simp] theorem State.setEntrySample_can (s : State) {e} {k} : (s.setEntrySample e k).can = s.can := rfl
@[simp] theorem State.setEntrySample_net (s : State) {e} {k} : (s.setEntrySample e k).net = s.net := rfl
@[simp] theorem State.setEntrySample_run (s : State) {e} {k} : (s.setEntrySample e k).run = s.run := rfl
@[simp] theorem State.setEntrySample_ldl (s : State) {e} {k} : (s.setEntrySample e k).ldl = s.ldl := rfl
@[simp] theorem State.setEntrySample_pmc (s : State) {e} {k} : (s.setEntrySample e k).pmc = s.pmc := rfl
@[simp] theorem State.setEntrySample_cope (s : State) {e} {k} : (s.setEntrySample e k).cope = s.cope := rfl
@[simp] theorem State.setEntrySample_pwr (s : State) {e} {k} : (s.setEntrySample e k).pwr = s.pwr := rfl
@[simp] theorem State.setEntrySample_pending (s : State) {e} {k} : (s.setEntrySample e k).pending = s.pending := rfl
@[simp] theorem State.busOk_regs (s : State) {d} : (s.busOk d).regs = s.regs := rfl
@[simp] theorem State.busOk_mem (s : State) {d} : (s.busOk d).mem = s.mem := rfl
@[simp] theorem State.busOk_mono (s : State) {d} : (s.busOk d).mono = s.mono := rfl
@[simp] theorem State.busOk_mgdNs (s : State) {d} : (s.busOk d).mgdNs = s.mgdNs := rfl
@[simp] theorem State.busOk_free (s : State) {d} : (s.busOk d).free = s.free := rfl
@[simp] theorem State.busOk_evr (s : State) {d} : (s.busOk d).evr = s.evr := rfl
@[simp] theorem State.busOk_outbox (s : State) {d} : (s.busOk d).outbox = s.outbox := rfl
@[simp] theorem State.busOk_sys (s : State) {d} : (s.busOk d).sys = s.sys := rfl
@[simp] theorem State.busOk_pat (s : State) {d} : (s.busOk d).pat = s.pat := rfl
@[simp] theorem State.busOk_pour (s : State) {d} : (s.busOk d).pour = s.pour := rfl
@[simp] theorem State.busOk_prg (s : State) {d} : (s.busOk d).prg = s.prg := rfl
@[simp] theorem State.busOk_chan (s : State) {d} : (s.busOk d).chan = s.chan := rfl
@[simp] theorem State.busOk_cru (s : State) {d} : (s.busOk d).cru = s.cru := rfl
@[simp] theorem State.busOk_fox (s : State) {d} : (s.busOk d).fox = s.fox := rfl
@[simp] theorem State.busOk_saf (s : State) {d} : (s.busOk d).saf = s.saf := rfl
@[simp] theorem State.busOk_safNv (s : State) {d} : (s.busOk d).safNv = s.safNv := rfl
@[simp] theorem State.busOk_mgd (s : State) {d} : (s.busOk d).mgd = s.mgd := rfl
@[simp] theorem State.busOk_can (s : State) {d} : (s.busOk d).can = s.can := rfl
@[simp] theorem State.busOk_net (s : State) {d} : (s.busOk d).net = s.net := rfl
@[simp] theorem State.busOk_run (s : State) {d} : (s.busOk d).run = s.run := rfl
@[simp] theorem State.busOk_ldl (s : State) {d} : (s.busOk d).ldl = s.ldl := rfl
@[simp] theorem State.busOk_pmc (s : State) {d} : (s.busOk d).pmc = s.pmc := rfl
@[simp] theorem State.busOk_cope (s : State) {d} : (s.busOk d).cope = s.cope := rfl
@[simp] theorem State.busOk_pwr (s : State) {d} : (s.busOk d).pwr = s.pwr := rfl
@[simp] theorem State.busOk_pending (s : State) {d} : (s.busOk d).pending = s.pending := rfl
@[simp] theorem State.busErr_regs (s : State) {n} : (s.busErr n).regs = s.regs := rfl
@[simp] theorem State.busErr_mem (s : State) {n} : (s.busErr n).mem = s.mem := rfl
@[simp] theorem State.busErr_mono (s : State) {n} : (s.busErr n).mono = s.mono := rfl
@[simp] theorem State.busErr_mgdNs (s : State) {n} : (s.busErr n).mgdNs = s.mgdNs := rfl
@[simp] theorem State.busErr_free (s : State) {n} : (s.busErr n).free = s.free := rfl
@[simp] theorem State.busErr_evr (s : State) {n} : (s.busErr n).evr = s.evr := rfl
@[simp] theorem State.busErr_outbox (s : State) {n} : (s.busErr n).outbox = s.outbox := rfl
@[simp] theorem State.busErr_sys (s : State) {n} : (s.busErr n).sys = s.sys := rfl
@[simp] theorem State.busErr_pat (s : State) {n} : (s.busErr n).pat = s.pat := rfl
@[simp] theorem State.busErr_pour (s : State) {n} : (s.busErr n).pour = s.pour := rfl
@[simp] theorem State.busErr_prg (s : State) {n} : (s.busErr n).prg = s.prg := rfl
@[simp] theorem State.busErr_chan (s : State) {n} : (s.busErr n).chan = s.chan := rfl
@[simp] theorem State.busErr_cru (s : State) {n} : (s.busErr n).cru = s.cru := rfl
@[simp] theorem State.busErr_fox (s : State) {n} : (s.busErr n).fox = s.fox := rfl
@[simp] theorem State.busErr_saf (s : State) {n} : (s.busErr n).saf = s.saf := rfl
@[simp] theorem State.busErr_safNv (s : State) {n} : (s.busErr n).safNv = s.safNv := rfl
@[simp] theorem State.busErr_mgd (s : State) {n} : (s.busErr n).mgd = s.mgd := rfl
@[simp] theorem State.busErr_can (s : State) {n} : (s.busErr n).can = s.can := rfl
@[simp] theorem State.busErr_net (s : State) {n} : (s.busErr n).net = s.net := rfl
@[simp] theorem State.busErr_run (s : State) {n} : (s.busErr n).run = s.run := rfl
@[simp] theorem State.busErr_ldl (s : State) {n} : (s.busErr n).ldl = s.ldl := rfl
@[simp] theorem State.busErr_pmc (s : State) {n} : (s.busErr n).pmc = s.pmc := rfl
@[simp] theorem State.busErr_cope (s : State) {n} : (s.busErr n).cope = s.cope := rfl
@[simp] theorem State.busErr_pwr (s : State) {n} : (s.busErr n).pwr = s.pwr := rfl
@[simp] theorem State.busErr_pending (s : State) {n} : (s.busErr n).pending = s.pending := rfl
@[simp] theorem State.unpair_regs (s : State) : (s.unpair).regs = s.regs := rfl
@[simp] theorem State.unpair_mem (s : State) : (s.unpair).mem = s.mem := rfl
@[simp] theorem State.unpair_mono (s : State) : (s.unpair).mono = s.mono := rfl
@[simp] theorem State.unpair_mgdNs (s : State) : (s.unpair).mgdNs = s.mgdNs := rfl
@[simp] theorem State.unpair_free (s : State) : (s.unpair).free = s.free := rfl
@[simp] theorem State.unpair_evr (s : State) : (s.unpair).evr = s.evr := rfl
@[simp] theorem State.unpair_bus (s : State) : (s.unpair).bus = s.bus := rfl
@[simp] theorem State.unpair_outbox (s : State) : (s.unpair).outbox = s.outbox := rfl
@[simp] theorem State.unpair_sys (s : State) : (s.unpair).sys = s.sys := rfl
@[simp] theorem State.unpair_pat (s : State) : (s.unpair).pat = s.pat := rfl
@[simp] theorem State.unpair_pour (s : State) : (s.unpair).pour = s.pour := rfl
@[simp] theorem State.unpair_prg (s : State) : (s.unpair).prg = s.prg := rfl
@[simp] theorem State.unpair_chan (s : State) : (s.unpair).chan = s.chan := rfl
@[simp] theorem State.unpair_fox (s : State) : (s.unpair).fox = s.fox := rfl
@[simp] theorem State.unpair_saf (s : State) : (s.unpair).saf = s.saf := rfl
@[simp] theorem State.unpair_safNv (s : State) : (s.unpair).safNv = s.safNv := rfl
@[simp] theorem State.unpair_mgd (s : State) : (s.unpair).mgd = s.mgd := rfl
@[simp] theorem State.unpair_can (s : State) : (s.unpair).can = s.can := rfl
@[simp] theorem State.unpair_net (s : State) : (s.unpair).net = s.net := rfl
@[simp] theorem State.unpair_run (s : State) : (s.unpair).run = s.run := rfl
@[simp] theorem State.unpair_ldl (s : State) : (s.unpair).ldl = s.ldl := rfl
@[simp] theorem State.unpair_pmc (s : State) : (s.unpair).pmc = s.pmc := rfl
@[simp] theorem State.unpair_cope (s : State) : (s.unpair).cope = s.cope := rfl
@[simp] theorem State.unpair_pwr (s : State) : (s.unpair).pwr = s.pwr := rfl
@[simp] theorem State.unpair_pending (s : State) : (s.unpair).pending = s.pending := rfl

@[simp] theorem State.cell_setCell_same (s : State) {n} {c} : (s.setCell n c).cell n = c := by
  simp [State.cell, State.setCell, tblGet_put_one]
theorem State.cell_setCell_ne (s : State) {n m} {c} (h : m ≠ n) : (s.setCell n c).cell m = s.cell m := by
  simp [State.cell, State.setCell, tblGet_put_one, h]
@[simp] theorem State.loop_setLoop_same (s : State) {n} {l} : (s.setLoop n l).loop n = l := by
  simp [State.loop, State.setLoop, tblGet_put_one]
theorem State.loop_setLoop_ne (s : State) {n m} {l} (h : m ≠ n) : (s.setLoop n l).loop m = s.loop m := by
  simp [State.loop, State.setLoop, tblGet_put_one, h]
@[simp] theorem State.task_setTask_same (s : State) {n} {x} : (s.setTask n x).task n = x := by
  simp [State.task, State.setTask, tblGet_put_one]
theorem State.task_setTask_ne (s : State) {n m} {x} (h : m ≠ n) : (s.setTask n x).task m = s.task m := by
  simp [State.task, State.setTask, tblGet_put_one, h]
@[simp] theorem State.subSt_setSub_same (s : State) {n} {x} : (s.setSub n x).subSt n = x := by
  simp [State.subSt, State.setSub, tblGet_put_one]
theorem State.subSt_setSub_ne (s : State) {n m} {x} (h : m ≠ n) : (s.setSub n x).subSt m = s.subSt m := by
  simp [State.subSt, State.setSub, tblGet_put_one, h]
@[simp] theorem State.canSt_setCan_same (s : State) {n} {c} : (s.setCan n c).canSt n = c := by
  simp [State.canSt, State.setCan, tblGet_put_one]
theorem State.canSt_setCan_ne (s : State) {n m} {c} (h : m ≠ n) : (s.setCan n c).canSt m = s.canSt m := by
  simp [State.canSt, State.setCan, tblGet_put_one, h]
@[simp] theorem State.cursor_setCursor_same (s : State) {n} {c} : (s.setCursor n c).cursor n = c := by
  simp [State.cursor, State.setCursor, tblGet_put_one]
theorem State.cursor_setCursor_ne (s : State) {n m} {c} (h : m ≠ n) : (s.setCursor n c).cursor m = s.cursor m := by
  simp [State.cursor, State.setCursor, tblGet_put_one, h]
@[simp] theorem State.bucket_setBucket_same (s : State) {k} {b} : (s.setBucket k b).bucket k = b := by
  simp [State.bucket, State.setBucket, tblGet_put_one]
@[simp] theorem State.line_setLine_same (s : State) {p l x} : (s.setLine p l x).line p l = x := by
  simp [State.line, State.setLine, tblSet, tblGet_put_one]
theorem State.line_setLine_ne (s : State) {p l q m x} (h : lineKey q m ≠ lineKey p l) :
    (s.setLine p l x).line q m = s.line q m := by
  simp [State.line, State.setLine, tblSet, tblGet_put_one, h]
@[simp] theorem State.busOk_bus (s : State) {d} : (s.busOk d).bus = ⟨d, false⟩ := rfl
@[simp] theorem State.busErr_bus (s : State) {n} : (s.busErr n).bus = ⟨List.replicate n 0, true⟩ := rfl

end Sys2Proof.Machine
end

