-- ==== Sys2Proof/Tests/Slice0.lean ====
section
/-! SUPPORT. Tests: the well-formedness checks refuse an ill-formed term each, a few checks against figures of the manual and of the standards it
names, and concrete states and operands that meet the hypotheses of each statement. -/

namespace Sys2Proof.Tests

set_option Elab.async false

open Sys2Proof.Machine

/-! ### One ill-formed command for each check of WellFormed.lean -/

theorem test_wf_read_empty : (Instr.memoryAccess .ap0 false 0 (.read 0) .none).wf = false := by decide
theorem test_wf_read_long : (Instr.memoryAccess .ap0 false 0 (.read 65) .none).wf = false := by decide
theorem test_wf_write_empty : (Instr.memoryAccess .ap0 false 0 (.write []) .none).wf = false := by decide
theorem test_wf_write_long : (Instr.memoryAccess .ap0 false 0 (.write (List.replicate 65 0)) .none).wf = false := by decide
theorem test_wf_key (b : List Byte) (h : b.length = 0x800001) :
    (Instr.powerGood 0 false false false (some ⟨1, b, []⟩)).wf = false := by
  simp [Instr.wf, keyInOk, h]
theorem test_wf_partner : (Instr.ctrlFrame (.status ⟨4, 0, false, false, 0, 0, 0, 0, 0, false⟩ false 0) true).wf = false := by decide
theorem test_wf_entry : (Instr.ctrlFrame (.queueEntry 16 0 [0] []) true).wf = false := by decide
theorem test_wf_entry_data : (Instr.ctrlFrame (.queueEntry 16 0 (List.replicate 16 0) (List.replicate 65 0)) true).wf = false := by decide
theorem test_wf_download (b : List Byte) (h : b.length = 0x800001) : (Instr.ctrlFrame (.download b) true).wf = false := by
  simp [Instr.wf, CtrlMsg.ok, h]
theorem test_wf_latch : (Instr.latchFrame (List.replicate 1009 0) true).wf = false := by decide +kernel
theorem test_wf_snap (b : List Byte) (h : b.length = 65537) : (Instr.snapFrame 0 0 b true).wf = false := by
  simp [Instr.wf, h]
theorem test_wf_ovec : (Instr.ovecFrame (List.replicate 161 0) true).wf = false := by decide +kernel
theorem test_wf_copy_line : (Instr.copyFrame ⟨0, 0⟩ [⟨0, [0]⟩] [] true).wf = false := by decide
theorem test_wf_copy_loop : (Instr.copyFrame ⟨0, 0⟩ [] [⟨0, 0, [0], [], false, []⟩] true).wf = false := by decide
theorem test_wf_cyclic : (Instr.cyclicFrameRx false (List.replicate 13 0)).wf = false := by decide
theorem test_wf_rx : (Instr.rxFrame false (List.replicate 1523 0)).wf = false := by decide +kernel
theorem test_wf_forward : (Instr.frameForward 1 [] 0 true).wf = false := by decide
theorem test_wf_can : (Instr.canFrameRx 0 0 false false false false false 9 ⟨List.replicate 9 0, false⟩).wf = false := by decide
theorem test_wf_can_fd : (Instr.canFrameRx 0 0 false false true false false 15 ⟨List.replicate 65 0, false⟩).wf = false := by decide
theorem test_wf_tick : (Instr.copeTick []).wf = false := by decide
theorem test_ill_formed_tick : exec (.copeTick []) State.reset = exec (.copeTick (List.replicate 32 none)) State.reset := rfl

/-! ### Figures -/

/-- The check value of CRC-32C (the polynomial of the CRCs of R8): of "123456789". -/
theorem test_crc32c : crc32c [0x31, 0x32, 0x33, 0x34, 0x35, 0x36, 0x37, 0x38, 0x39] = 0xE3069283 := by decide +kernel
/-- SHA-256 (FIPS 180-4) of "abc": its first four bytes. -/
theorem test_sha256 : (sha256 [0x61, 0x62, 0x63]).take 4 = [0xBA, 0x78, 0x16, 0xBF] := by decide +kernel
/-- SYS_ID (Table SYS-14) and SYS_QnSTAT (Table SYS-13) at reset. -/
theorem test_reset_values : State.reset.reg 0x20000000 = 0x96320100 ∧ State.reset.reg (qreg 63 0x14) = 8 := by decide

/-! ### States for the witnesses -/

/-- A module that is on, in NONE. -/
def on : State := { State.reset with pwr := { Pwr.reset with on := true } }

/-- Fields set one after another. -/
def put (s : State) (l : List (Fld × Nat)) : State := l.foldl (fun s e => s.setFld e.1 e.2) s

/-- The module in a mode. -/
def inMode (m : Nat) : State := on.setMode m

/-- A pattern slot of sections: header with SECTION_COUNT, directory, contents (Tables PAT-2, PAT-3). -/
def slotOf (secs : List (Nat × List Byte)) : Slot :=
  let n := secs.length
  let step (x : Nat × List Byte × List Byte) (e : Nat × List Byte) : Nat × List Byte × List Byte :=
    (x.1 + e.2.length,
      x.2.1 ++ leBytes 2 e.1 ++ leBytes 2 1 ++ leBytes 4 x.1 ++ leBytes 4 e.2.length ++ List.replicate 20 0, x.2.2 ++ e.2)
  let r := secs.foldl step (256 + 32 * n, [], [])
  ⟨0, List.replicate 20 0 ++ leBytes 2 n ++ List.replicate 234 0 ++ r.2.1 ++ r.2.2⟩

/-- With a pattern in force. -/
def withPat (s : State) (secs : List (Nat × List Byte)) : State := { s with pat := { s.pat with force := some (slotOf secs) } }

/-- A task record (Table POUR-2): number, type. -/
def taskOf (t type : Nat) : List Byte :=
  leBytes 1 t ++ [1] ++ leBytes 1 type ++ [0] ++ leBytes 4 1000 ++ leBytes 4 10 ++ leBytes 4 500 ++ List.replicate 48 0

/-- A TIMETABLE section with task 31 cyclic and task 3 an event task, and a Crucible and a publication entry. -/
def timetable : List Byte :=
  leBytes 4 1000 ++ [2, 0] ++ leBytes 2 2 ++ List.replicate 8 0 ++ taskOf 31 1 ++ taskOf 3 2
    ++ ([3, 0, 5, 0] ++ leBytes 4 1000 ++ leBytes 4 100 ++ leBytes 4 1) ++ ([5, 0, 0, 0] ++ leBytes 4 1000 ++ leBytes 4 0 ++ leBytes 4 0)

/-- A module with the timetable in force, in a mode, its sequencer running. -/
def pouring (m : Nat) : State := put (withPat (inMode m) [(SEC_TIMETABLE, timetable)]) [(POUR_STATE, 1)]
def cyclicTask : TaskRec := taskRecAt timetable 0
def eventTask : TaskRec := taskRecAt timetable 1

/-- Ring `q` of 2^log entries at `base` with its indices. -/
def ring (s : State) (q base cfg pidx cidx : Nat) : State :=
  (((s.setRegN (qreg q 0) base).setRegN (qreg q 8) (2 ^ 31 + cfg)).setRegN (qreg q 0x0C) pidx).setRegN (qreg q 0x10) cidx

/-! ### Witnesses: concrete states and operands that meet the hypotheses of each statement, clause by clause -/

theorem wit_FailingAccesses : on.up = true ∧ (windowOf (0x20000000 : BitVec 36).toNat).isSome = true
    ∧ (windowOf (0x20B0FFFF : BitVec 36).toNat).isSome = true
    ∧ windowOf (0x800000 : BitVec 36).toNat = none ∧ memKind (0x800000 : BitVec 36).toNat = none
    ∧ windowOf (0xFFFFFFFFF : BitVec 36).toNat = none ∧ memKind (0xFFFFFFFFF : BitVec 36).toNat = none := by
  decide +kernel

theorem wit_RegisterWriteFollowsAccessCode : on.up = true ∧ (inMode STOP).up = true ∧ (inMode STOP).mode = STOP
  ∧ (63 < 64)
    ∧ Initiator.cope ∈ [Initiator.ap0, .ap1, .cope] ∧ on.pmcIsolated = false
    ∧ (∃ w ∈ (windowOf (0x2090FFFC : BitVec 36).toNat).toList, on.winShut w (0x2090FFFC : BitVec 36).toNat = false)
    ∧ (let s := put on [(RGNSTAT 2, 1)]
       s.up = true ∧ s.mayIssue .ap0 = true
         ∧ ∃ w ∈ (windowOf (0x20500000 : BitVec 36).toNat).toList, s.winShut w (0x20500000 : BitVec 36).toNat = true)
    ∧ (windowOf (0x20000001 : BitVec 36).toNat).isSome = true ∧ (0x20000001 : BitVec 36).toNat % 4 ≠ 0
    ∧ windowOf (0x800000 : BitVec 36).toNat = none ∧ memKind (0x800000 : BitVec 36).toNat = none := by decide +kernel

theorem wit_MemoryAccess_Ecc : on.up = true ∧ on.sys.eccCe = [] ∧ on.sys.eccUe = []
    ∧ (0x7FFFC0 + (List.replicate 64 (7 : Byte)).length ≤ 0x800000) ∧ (0x7FFFFF : BitVec 36).toNat < 0x800000
    ∧ (pairOf .saf).toList = [] ∧ (∀ p ∈ (pairOf .ap1).toList, on.unmapped p 0x7FFFC0 64 = false
      ∧ on.cacheable 0x7FFFC0 64 = false)
    ∧ (∀ n ∈ [1, 64], 1 ∈ (pairOf .ap1).toList ∧ 0x700000 - n + n ≤ 0x700000 ∧ on.unmapped 1 (0x700000 - n) n = false
      ∧ on.cacheable (0x700000 - n) n = true ∧ on.cacheMode (0x700000 - n) = 2) := by decide +kernel

/-- LPDDR4X in a state of its domain. -/
def ddrIn (k : Nat) : State := put on [(PDST 12, k)]

theorem wit_MemoryAccess_mram : Reaches on .ap0 0x12FFFC0 64 true ∧ Reaches on .save 0x13BFFC0 64 true
    ∧ Reaches on .evr 0x1300000 1 true ∧ Reaches on .saf 0x13FFFC0 64 true ∧ Reaches on .ap1 0x13BFFC0 64 false
    ∧ Reaches on .saf 0x13FFFC0 64 false ∧ Barred on .ap0 0x12FFFE0 64 true ∧ Barred on .ap0 0x13BFFFF 2 false := by
  refine ⟨.inl ⟨by decide, by decide, ?_⟩, .inl ⟨by decide, by decide, ?_⟩, .inl ⟨by decide, by decide, ?_⟩,
    .inl ⟨by decide, by decide, ?_⟩, .inl ⟨by decide, by decide, .inl (by decide)⟩, .inl ⟨by decide, by decide, .inr rfl⟩,
    .inl ⟨by decide, by decide, 0x1300000, by decide, by decide, by simp [MramOpen]⟩,
    .inl ⟨by decide, by decide, by decide, by decide⟩⟩ <;>
  · intro b h1 h2
    simp [MramOpen] <;> omega

theorem wit_MemoryAccess_ddr : (∀ k ∈ [D_ON, D_GATED], ∀ w : Bool, Reaches (ddrIn k) .ap0 0x100000000 64 w
      ∧ Reaches (ddrIn k) .pour 0x1FEFFFFC0 64 w ∧ Reaches (ddrIn k) .cope 0x1FFFFFFFF 1 w)
    ∧ (∀ k ∈ [D_OFF, D_DRAINING], ∀ w : Bool, Barred (ddrIn k) .cope 0x100000000 1 w) ∧ ∀ w : Bool, Barred on .ap1 0x1FEFFFFFF 2 w := by
  have h : ∀ k ∈ [D_ON, D_GATED], (ddrIn k).domain 12 ≠ D_OFF ∧ (ddrIn k).domain 12 ≠ D_DRAINING := by decide +kernel
  have g : ∀ k ∈ [D_OFF, D_DRAINING], (ddrIn k).domain 12 = D_OFF ∨ (ddrIn k).domain 12 = D_DRAINING := by decide +kernel
  refine ⟨fun k hk w => ⟨?_, ?_, ?_⟩, fun k hk w => ?_, fun w => .inr ⟨by decide, by decide, .inr (.inr (by decide))⟩⟩
  · exact .inr ⟨by decide, by decide, (h k hk).1, (h k hk).2, .inl (by decide)⟩
  · exact .inr ⟨by decide, by decide, (h k hk).1, (h k hk).2, .inl (by decide)⟩
  · exact .inr ⟨by decide, by decide, (h k hk).1, (h k hk).2, .inr rfl⟩
  · exact .inr ⟨by decide, by decide, (g k hk).elim .inl (fun e => .inr (.inl e))⟩

theorem wit_MemoryAccess_cores : (∀ a ∈ [0x12FFFC0, 0x100000000], on.unmapped 0 a 64 = false ∧ on.cacheable a 64 = true)
    ∧ on.cacheMode 0x12FFFC0 = 1 ∧ on.cacheMode 0x100000000 = 2 ∧ (pairOf .save).toList = []
    ∧ (ddrIn D_GATED).sys.eccCe = [] ∧ (ddrIn D_GATED).sys.eccUe = [] ∧ (ddrIn D_GATED).up = true
    ∧ (ddrIn D_GATED).mayIssue .ap0 = true ∧ (ddrIn D_OFF).mayIssue .ap0 = true := by decide +kernel

theorem wit_MemoryAccess_no_lines (p l : Nat) : on.line p l = none ∧ (ddrIn D_OFF).line p l = none := ⟨rfl, rfl⟩

/-- The field region has been reset twice in the last 60 s. -/
def twiceReset : State := { on with mono := 9, sys := { on.sys with rgnHist := [(0, 1), (0, 0)] } }

theorem wit_ModuleAndRegionFaults : on.up = true ∧ Clock.tim ∈ [Clock.aon, .app, .fab, .tim] ∧ on.fld (RGNSTAT 4) ≠ 1
    ∧ twiceReset.up = true ∧ twiceReset.fld (RGNSTAT 0) ≠ 1
    ∧ 2 ≤ (twiceReset.sys.rgnHist.filter (fun e => decide (twiceReset.mono < e.2 + 60 * NS) && e.1 == 0)).length := by
  decide +kernel

def resetting : State := put on [(RGNSTAT 4, 1)]

theorem wit_RegionRunsAgainAndBlockIsolates : resetting.up = true ∧ resetting.fld (RGNSTAT (regionNo .cope)) = 1
    ∧ resetting.reg 0x20000028 = 0 ∧ resetting.sys.rgnWait = [] ∧ resetting.dragUp = false
    ∧ on.bit 0x20000028 22 = false ∧ on.fld (RGNSTAT (regionOfBlock 22)) = 0 ∧ on.fld (RGNSTAT 0) = 0 := by
  decide +kernel

/-- The field region is in reset on a started drag plane, with these sections in force. -/
def rereading (secs : List (Nat × List Byte)) (l : List (Fld × Nat)) : State :=
  put (withPat (inMode RUN) secs) ([(RGNSTAT 0, 1)] ++ l)

theorem wit_RegionRunsAgain_rereads : (∀ w ∈ [0, 1], let s := rereading [] [(PAT_WCOPY, w)]
      s.up = true ∧ s.fld (RGNSTAT (regionNo .field)) = 1 ∧ s.reg 0x20000028 = 0 ∧ s.sys.rgnWait = [] ∧ s.dragUp = true
        ∧ (s.flag PAT_WCOPY = true ↔ w = 1) ∧ s.pat.force.isSome = true
        ∧ s.pat.force.all (fun sl => !s.rereadFails sl SEC_CHANNELS) = true)
    ∧ (let s := rereading [(SEC_CHANNELS, [])] []
       s.pat.force.all (fun sl => s.rereadFails sl SEC_CHANNELS) = true) := by decide +kernel

def gated : State := put on [(PDST 13, D_GATED)]
def draining : State := put on [(PDST 13, D_DRAINING)]
def drainingOff : State := { draining with sys := { draining.sys with drainOff := [13] } }

theorem wit_DomainsGateAndDrain : on.up = true ∧ on.domain 13 = D_ON ∧ on.gates 13 = true ∧ on.ladleInFlight 13 = false
    ∧ gated.up = true ∧ gated.domain 13 = D_GATED ∧ draining.up = true ∧ draining.domain 13 = D_DRAINING
    ∧ drainingOff.domain 13 = D_DRAINING ∧ drainingOff.sys.drainOff.contains 13 = true := by decide +kernel

theorem wit_GatingDrainLapses : draining.up = true ∧ draining.domain 13 = D_DRAINING
    ∧ draining.sys.drainOff.contains 13 = false := by decide +kernel

theorem wit_DomainRequestsAndBlockResets : on.up = true ∧ on.dragStarted = false ∧ (inMode RUN).up = true
    ∧ (inMode RUN).dragStarted = true ∧ (inMode RUN).domain 12 = D_ON ∧ (0x1000 : BitVec 14).getLsbD 12 = true
    ∧ (inMode RUN).sys.drainOff.contains 12 = false ∧ (drainingOff.setMode RUN).dragStarted = true
    ∧ (drainingOff.setMode RUN).domain 13 = D_DRAINING ∧ (0 : BitVec 14).getLsbD 13 = false
    ∧ (let p := { on with sys := { on.sys with powering := [12] } }
       p.up = true ∧ p.sys.powering.contains 12 = true ∧ p.bit 0x20000040 12 = false)
    ∧ (inMode STOP).mode = STOP ∧ (inMode RUN).mode ≠ STOP ∧ 2 ≤ (2 : BitVec 2).toNat := by decide +kernel

theorem wit_IndexWritesAreTested : on.up = true ∧ on.qLog 60 ≤ 16 ∧ queueSide 60 true .ap1 = true
    ∧ queueSide 60 false .saf = true ∧ (let r := ring on 60 0x700000 0x44 16 0
      r.qLog 60 ≤ 16 ∧ r.qSize 60 - r.qFill 60 = 0 ∧ r.qFill 60 = 16) := by decide +kernel

/-- RST_IN# held low with the module in reset and its supply good. -/
def heldInReset : State :=
  put { on with pwr := { on.pwr with inReset := true, rstHeld := true } } [(PWR_STATE, 1)]

theorem wit_PowerGoodAndResetInput : State.reset.pwr.on = false ∧ keyInOk none = true
    ∧ { State.reset with pwr := { Pwr.reset with rstHeld := true } }.pwr.on = false
    ∧ (99 : Word).toNat < 100 ∧ 100 ≤ (100 : Word).toNat ∧ on.up = true ∧ heldInReset.pwr.on = true
    ∧ heldInReset.pwr.inReset = true ∧ heldInReset.pwr.rstHeld = true ∧ heldInReset.fld PWR_STATE = 1 := by
  decide +kernel

def starting (p : Nat) : State := put (inMode STARTING) [(RUNSTAT_PHASE, p)]

theorem wit_StartupReloadAndStop : (∀ p ∈ [1, 4, 5], (starting p).up = true ∧ (starting p).mode = STARTING
      ∧ (starting p).fld RUNSTAT_PHASE = p)
    ∧ (put (inMode STOP) [(RUNSTAT_RELOAD_BUSY, 1)]).flag RUNSTAT_RELOAD_BUSY = true
    ∧ (put (inMode STOP) [(RUNSTAT_RELOAD_BUSY, 1)]).up = true
    ∧ (put (inMode RUN) [(POUR_STATE, 2)]).up = true ∧ (put (inMode RUN) [(POUR_STATE, 2)]).fld POUR_STATE = 2
    ∧ (put (inMode RUN) [(POUR_STATE, 2)]).noPour = true := by decide +kernel

def checking : State := put (inMode STOP) [(RUNSTAT_CHECK_BUSY, 1), (RUN_ROLE, 1)]

theorem wit_LoadsAndChecksEnd : (starting 2).up = true ∧ (starting 2).mode = STARTING
  ∧ (starting 2).fld RUNSTAT_PHASE = 2
    ∧ (starting 2).pat.tried = [] ∧ (starting 2).pat.unauth = none ∧ (starting 2).pat.keyFault = none
    ∧ checking.up = true ∧ checking.mode = STOP ∧ checking.flag RUNSTAT_CHECK_BUSY = true ∧ checking.fld DL_STATE = 0
    ∧ checking.fld RUN_ROLE = 1 := by decide +kernel

theorem wit_RunControlRequests : (inMode STOP).up = true ∧ Initiator.cope ∈ [Initiator.ap0, .ap1, .cope]
    ∧ (inMode STOP).isStandby = false ∧ (inMode STOP).mode = STOP ∧ (inMode STOP).runctlFree = true
    ∧ (pouring RUN).up = true ∧ (pouring RUN).isStandby = false ∧ (pouring RUN).mode = RUN
      ∧ (pouring RUN).fld POUR_STATE = 1
    ∧ checking.isStandby = false ∧ checking.flag RUNSTAT_CHECK_BUSY = true ∧ checking.fld DL_STATE = 0 := by
  decide +kernel

theorem wit_WatchdogsReset : (let s := put on [(PWR_STATE, 1), (POUR_WDARM, 1)]
    s.up = true ∧ s.fld PWR_STATE = 1 ∧ s.pwr.rstHeld = false ∧ s.flag POUR_WDARM = true)
    ∧ on.flag POUR_WDARM = false := by decide +kernel

theorem wit_SnapshotStartsOrSkips : ∀ k ∈ [1, 3, 5], let s := put (pouring RUN) [(TSTATE 31, k)]
    s.up = true ∧ s.isStandby = false ∧ s.fld POUR_STATE = 1 ∧ cyclicTask ∈ s.taskRecs ∧ s.taskRec? 31 = some cyclicTask
      ∧ cyclicTask.task = 31 ∧ cyclicTask.cyclic = true ∧ s.tstate 31 = k := by decide +kernel

theorem wit_ReleaseExecutionAndBudget : ∀ k ∈ [2, 3, 4, 5], let s := put (pouring RUN) [(TSTATE 31, k)]
    s.up = true ∧ s.isStandby = false ∧ s.pourActive = true ∧ s.tstate (31 : BitVec 5).toNat = k
      ∧ cyclicTask ∈ (s.taskRec? (31 : BitVec 5).toNat).toList
      ∧ (s.runningPour cyclicTask.pair = some (31 : BitVec 5).toNat ↔ k = 3 ∨ k = 5) := by decide +kernel

theorem wit_CommitOrOverrun : ∀ k ∈ [2, 3, 4], let s := put (pouring RUN) [(TSTATE 31, k)]
    s.up = true ∧ s.pourActive = true ∧ s.isStandby = false ∧ s.sys.eccUe = [] ∧ cyclicTask ∈ s.taskRecs
      ∧ s.taskRec? cyclicTask.task = some cyclicTask ∧ cyclicTask.task < 32 ∧ s.tstate 31 = k
        ∧ cyclicTask.fbCount = 0 := by
  decide +kernel

/-- An entry for task 3 waits in Q56. -/
def triggered : State := (ring (pouring RUN) 56 0x700000 4 1 0).mput 0x700004 [3]
/-- One for a task without a record. -/
def badlyTriggered : State := (ring (pouring RUN) 56 0x700000 4 1 0).mput 0x700004 [7]
/-- Task 3 holds a trigger. -/
def holding : State := triggered.setTask 3 { TaskSt.reset with held := some ⟨5, 1, 2, 3⟩ }

theorem wit_Triggers : (let s := ring on 59 0x700000 4 0xFFFFFFFF 0xFFFFFFFF
      s.up = true ∧ s.qUsable 59 = true ∧ s.qFill 59 < s.qSize 59)
    ∧ (∀ s ∈ [triggered, holding, badlyTriggered], s.up = true ∧ s.isStandby = false ∧ s.mode = RUN
      ∧ s.fld POUR_STATE = 1
      ∧ s.trigQueue = some 56)
    ∧ fieldAt (triggered.mread (triggered.qEntry 56 (triggered.cidx 56)) 16) 4 1 = 3
    ∧ eventTask ∈ triggered.taskRecs ∧ triggered.taskRec? 3 = some eventTask ∧ eventTask.event = true
    ∧ (triggered.task 3).held = none ∧ triggered.eventBusy 3 = false ∧ (triggered.task 3).prevAccept = none
    ∧ (put triggered [(TSTATE 3, 2)]).eventBusy 3 = true
    ∧ badlyTriggered.taskRec? 7 = none ∧ (holding.task 3).held.isSome = true
      ∧ holding.taskRec? eventTask.task = some eventTask
    ∧ holding.eventBusy 3 = false ∧ (holding.task 3).prevAccept = none := by decide +kernel

theorem wit_SlewReanchorAndSwaps : (put on [(POUR_SLEW, 1)]).flag POUR_SLEW = true ∧ (put on [(POUR_SLEW, 1)]).up = true
    ∧ (pouring RUN).up = true ∧ (pouring RUN).pourActive = true ∧ (pouring RUN).isPrimary = false
    ∧ (put (pouring RUN) [(POUR_REANCHOR_PEND, 1)]).flag POUR_REANCHOR_PEND = true
    ∧ (put (pouring RUN) [(POUR_REANCHOR_PEND, 1)]).blind = false
    ∧ (pouring RUN).flag POUR_REANCHOR_PEND = false ∧ on.swapOwner 7 = false
    ∧ (withPat on [(SEC_EVENTS, [])]).up = true ∧ (withPat on [(SEC_EVENTS, [])]).swapOwner 6 = true := by decide +kernel

theorem wit_ModeControlAndTraps : (∀ m ∈ [RUN, SAFE, HALT], (inMode m).up = true ∧ (inMode m).isStandby = false
  ∧ (inMode m).mode = m)
    ∧ (inMode SAFE).flag SAF_SAFEDEM = false ∧ (put (inMode SAFE) [(SAF_SAFEDEM, 1)]).flag SAF_SAFEDEM = true
    ∧ (pouring SAFE).mode = SAFE ∧ (pouring SAFE).fld POUR_STATE = 1 ∧ (pouring RUN).pourActive = true
    ∧ (inMode HALT).fld HALT_CAUSE ≠ 1 := by decide +kernel

theorem wit_ForcesAndDownloads : (inMode STOP).up = true ∧ (inMode STOP).isStandby = false
  ∧ (inMode STOP).isPrimary = false
    ∧ (inMode STOP).mode = STOP ∧ (inMode SAFE).mode ≠ STOP ∧ (inMode SAFE).mode ≠ RUN ∧ (inMode STOP).runctlFree = true
    ∧ ∀ k ∈ [1, 2, 3], (put (inMode STOP) [(DL_STATE, k)]).fld DL_STATE = k
      ∧ (put (inMode STOP) [(DL_STATE, k)]).up = true := by
  decide +kernel

/-- Loop 6 enabled in MAN, its evaluation ended or not. -/
def looping (d : Bool) : State :=
  ((put (pouring RUN) [(CRU_STATE, 1), (LMODE 6, 1)]).setRegN (lreg 6 4) 1).setLoop 6 { LoopSt.reset with done := d }

theorem wit_CrucibleStagesAndSamples : ∀ d : Bool, let s := looping d
    s.up = true ∧ s.fld CRU_STATE = 1 ∧ s.blind = false ∧ s.isStandby = false ∧ entryAt timetable 0 ∈ s.entries
      ∧ s.entries[(0 : BitVec 9).toNat]? = some (entryAt timetable 0) ∧ (entryAt timetable 0).kind = KIND_CRUCIBLE
      ∧ 6 ∈ groupLoops (entryAt timetable 0) ∧ s.loopEn 6 = true ∧ s.loopMode 6 ≠ LM_OFF ∧ (s.loop 6).done = d := by
  decide +kernel

theorem wit_CrucibleRequests : (∀ k ∈ [D_ON, D_GATED], let s := put on [(LS_PLAUS 255, 1), (PDST 2, k)]
      s.up = true ∧ s.mayIssue .ap1 = true ∧ s.domainShut 2 = false ∧ s.isStandby = false ∧ s.flag (LS_PLAUS 255) = true)
    ∧ on.domainShut 2 = false ∧ on.flag (LS_PLAUS 255) = false ∧ Initiator.ldl ∈ [Initiator.saf, .cope, .pour, .ldl]
    ∧ (let s := put on [(PDST 2, D_OFF)]
       s.up = true ∧ s.mayIssue .ap0 = true ∧ s.domainShut 2 = true)
    ∧ (let s := put on [(RUN_ROLE, 3)]
       s.up = true ∧ s.domainShut 2 = false ∧ s.isStandby = true) := by decide +kernel

/-- A module in STOP whose cell 0 has a mode, WIRING 0, field fault OPEN to LEAD enabled and the open-wire test on. -/
def celled (mode : Nat) (m : Nat) : State :=
  let r : List Byte := leBytes 1 mode ++ [0, 0, 0, 0, 0xFF, 0, 0] ++ leBytes 4 200000 ++ List.replicate 52 0 ++ [31, 1] ++ List.replicate 62 0
  let s := withPat (inMode m) [(SEC_CHANNELS, List.replicate 16 0 ++ r)]
  { s with chan := { s.chan with conv := true, outLive := true } }

theorem wit_InputCellsDeliver : (∀ m ∈ [M_AI_V, M_DI, M_WAVE], (celled m STOP).blockRuns ((0 : BitVec 5).toNat / 8) = true
      ∧ (celled m STOP).chan.conv = true ∧ (celled m STOP).flag (CFAULT 0) = false ∧ (celled m STOP).cellMode 0 = m)
    ∧ isGridIn M_AI_V = true ∧ 40 < crGrid ((celled M_AI_V STOP).cellRec 0) - windowLen ((celled M_AI_V STOP).cellRec 0)
    ∧ (put (celled M_AI_V STOP) [(CFAULT 0, 1)]).flag (CFAULT 0) = true
    ∧ ((put (celled M_AI_V STOP) [(CFAULT 0, 1)]).cell 0).stageFault = false
    ∧ ((celled M_DI STOP).cell 0).diSeen = false
    ∧ (let s := (celled M_DI STOP).setCell 0 { CellSt.reset with diSeen := true }
       (s.cell 0).diSeen = true ∧ s.bit (cSTAT 0) B_DI = false ∧ diLevel (s.cellRec 0) false 0 = false) := by
  decide +kernel

theorem wit_OutputCellsAndFieldFaults : (∀ m ∈ [M_AO_I, M_AO_V, M_DO, M_AI_V], (celled m STOP).blockRuns 0 = true
      ∧ (celled m STOP).chan.conv = true ∧ (celled m STOP).cellMode 0 = m ∧ (celled m STOP).domain 4 = D_ON)
    ∧ fieldAt ((celled M_AI_V STOP).cellRec 0) 65 1 = 1 ∧ crFfEn ((celled M_AI_V STOP).cellRec 0) 0 = true
    ∧ flt (milli 50) (fabs (fsub (0x3FF0000000000000 : BitVec 64) 0)) = true
    ∧ crFfEn ((celled M_AI_V STOP).cellRec 0) 3 = true ∧ ffTimed ((celled M_AI_V STOP).cellRec 0) 3 = true
    ∧ (celled M_AI_V STOP).bit (cFFLT 0) 3 = false ∧ (celled M_AI_V STOP).bit (cFFLT 0) 5 = false
    ∧ (let s := (celled M_DO STOP).setCell 0 { CellSt.reset with driven := some f1 }
       s.cellMode 0 = M_DO ∧ (s.cell 0).driven = some f1 ∧ s.fld (TRIM_POINT 0) = 0)
    ∧ (let s := (celled M_DO STOP).setCell 0 { CellSt.reset with doProt := true }
       (s.cell 0).doProt = true ∧ s.fld (TRIM_POINT 0) = 0)
    ∧ (∀ k ∈ [6, 7], let s := (celled M_DO STOP).setCell 0 { CellSt.reset with stageFault := true, passRun := k }
       (s.cell 0).stageFault = true ∧ s.cellMode 0 = M_DO ∧ (s.cell 0).passRun = k)
    ∧ Initiator.cope ∈ [Initiator.ap0, .ap1, .cope] ∧ (celled M_AO_I STOP).exciting = true
    ∧ 5 ≤ (celled M_AO_I STOP).driveLine 0 ∧ (celled M_AO_I RUN).mode ≠ STOP := by decide +kernel

/-- A locked lattice whose timer 3 runs on source 2. -/
def timing : State :=
  let s := (put on [(FOX_LOCKED, 1)]).setRegN (0x20210280 + 4 * 3) (2 * 256 + 5 * 65536)
  { s with fox := { s.fox with src := 4, tin := 8, started := [(3, some 0)] } }

theorem wit_LatticeFollowsItsSources : on.up = true ∧ on.flag FOX_LOCKED = false
  ∧ oget on.fox.started (15 : BitVec 4).toNat = none
    ∧ timing.up = true ∧ timing.flag FOX_LOCKED = true ∧ timing.flag FOX_SUPTRIP = false
    ∧ (oget timing.fox.started 3).isSome = true ∧ bitsOf (timing.regN (0x20210280 + 4 * 3)) 7 0 = 0
    ∧ bitsOf (timing.regN (0x20210280 + 4 * 3)) 15 8 < 18 ∧ 0 < bitsOf (timing.regN (0x20210280 + 4 * 3)) 23 16
    ∧ timing.fox.src.testBit (bitsOf (timing.regN (0x20210280 + 4 * 3)) 15 8) = true
      ∧ timing.fox.tin.testBit 3 = true := by
  decide +kernel

/-- The safety processor in a state. -/
def safe (k : Nat) : State := { inMode STOP with saf := { (inMode STOP).saf with st := k } }

theorem wit_SafetyProcessorCycles : (∀ k ∈ [S_SELFTEST, S_CONFIG, S_OPERATE], (safe k).up = true ∧ (safe k).safState = k
    ∧ (safe k).saf.mism = 0) := by decide +kernel

/-- Output 0 is energised, with the off-pulse test configured and every TP source in use. -/
def energised : State :=
  let s := safe S_OPERATE
  { put s [(PL_PRESENT, 1)] with mono := 20000000, saf := { s.saf with cfg := List.replicate 816 1, stopped := false, hsSw := 1, lsSw := 1, preAt := [(0, some 0)] } }
def pulsing : State := { energised with saf := { energised.saf with pulse := some (0, true) } }

theorem wit_SafetyOutputTests : on.up = true ∧ on.verdicts = false ∧ energised.up = true ∧ energised.verdicts = true
    ∧ tpEn energised.saf.cfg 3 = true ∧ 0 ∈ (oget energised.saf.preAt 0).toList ∧ 0 + 200000 ≤ energised.mono
    ∧ energised.saf.lfLow = false ∧ { energised with saf := { energised.saf with lfLow := true } }.saf.lfLow = true
    ∧ energised.saf.pulse = none ∧ energised.ownsSafety = true ∧ energised.energised 0 = true
    ∧ fieldAt (sdoRec energised.saf.cfg 0) 2 1 = 1 ∧ (0, true) ∈ pulsing.saf.pulse.toList ∧ pulsing.up = true
    ∧ energised.saf.hsSw.testBit 0 = true ∧ energised.saf.fault.testBit 0 = false := by decide +kernel

/-- A command of code `k` and a password of eight letters waits in Q60; with or without a password set. -/
def asking (k : Nat) (pw : Bool) : State :=
  let s := (ring (safe S_OPERATE) 60 0x700000 0x44 1 0).mput 0x700000 (leBytes 1 k ++ [8] ++ List.replicate 22 0 ++ List.replicate 8 0x61)
  { s with safNv := { s.safNv with pw := if pw then some ([], []) else none, setPw := some 0 } }

theorem wit_SafetyAuthorisation : (∀ k ∈ [1, 2, 3, 4], ∀ pw ∈ [false, true], let s := asking k pw
      s.up = true ∧ s.mode = STOP ∧ s.safNv.locked = false ∧ s.safNv.pw.isSome = pw
        ∧ (∃ e ∈ s.q60Head.toList, pwOk e = true ∧ fieldAt e 0 1 = k ∧ s.safNv.setPw = some (fieldAt e 2 2)))
    ∧ (let s := { asking 1 true with safNv := { (asking 1 true).safNv with locked := true } }
       s.up = true ∧ s.safNv.locked = true) := by decide +kernel

def standby (l : List (Fld × Nat)) : State := put (pouring RUN) ([(RUN_ROLE, R_STANDBY), (RUN_UP, 1)] ++ l)

/-- A synchronised standby whose lines agree with what the running partner reports. -/
def partnerInRun : Partner := ⟨2, 0, false, true, RUN, 0, 0, 0, 0, false⟩
def syncedStandby (l : List (Fld × Nat)) : State :=
  let s := standby ([(RUN_SSTATE, SS_SYNCED), (PL_ALIVE, AL_ALIVE), (PL_OWNIN, OW_OWNED)] ++ l)
  { s with run := { s.run with partner := some partnerInRun, aliveOut := 1 } }

/-- A primary in RUN whose link is up. -/
def primary : State := put (inMode RUN) [(RUN_ROLE, R_PRIMARY), (RUN_UP, 1), (PL_ALIVE, AL_ALIVE)]

theorem wit_PairLinesAndLink : on.pwr.on = true ∧ State.reset.pwr.on = false
    ∧ (let s := syncedStandby []
       s.up = true ∧ s.pwr.on = true ∧ s.synced = true ∧ s.run.taking = none ∧ s.sideA = false)
    ∧ (let s := put { on with run := { on.run with aliveOut := 1 } } [(PL_CLAIMABLE, 1), (RUN_ROLE, R_SOLO)]
       s.up = true ∧ s.flag PL_CLAIMABLE = true ∧ s.flag RUN_OWN = false ∧ s.run.aliveOut = 1 ∧ s.role = R_SOLO
         ∧ s.run.taking = none
         ∧ s.fld PL_OWNIN ≠ OW_OWNED)
    ∧ (let s := put { on with run := { on.run with aliveOut := 1, taking := some (1, 0, false) } } [(PL_CLAIMABLE, 1), (RUN_ROLE, 3)]
       s.up = true ∧ s.flag PL_CLAIMABLE = true ∧ s.flag RUN_OWN = false ∧ s.run.aliveOut = 1 ∧ s.fld PL_OWNIN ≠ OW_OWNED
         ∧ s.isStandby = true ∧ s.run.taking.isSome = true)
    ∧ { on with run := { on.run with fellAt := some 1 } }.run.fellAt.isSome = true
    ∧ (let s := put on [(COPE_STATE, 1)]
       s.up = true ∧ s.linkUp = false ∧ s.fld COPE_STATE ≠ 0 ∧ s.bit 0x20000028 22 = false ∧ s.fld (RGNSTAT 2) ≠ 1)
    ∧ (standby []).linkUp = true ∧ (standby []).isStandby = true ∧ (standby []).sstate ≠ SS_OFFLINE := by decide +kernel

theorem wit_RunnerFrames : (standby []).up = true ∧ (standby []).linkUp = true ∧ (standby []).bit 0x20000028 22 = false
    ∧ (∀ k ∈ [0, 6, 7], let s := { syncedStandby [] with run := { (syncedStandby []).run with crcRun := k } }
       s.up = true ∧ s.linkUp = true ∧ s.synced = true ∧ (s.run.crcRun + 1 < 8 ↔ k < 7))
    ∧ partnerInRun.ok = true ∧ (⟨3, 0, false, true, RUN, 0, 0, 0, 0, false⟩ : Partner).role = R_STANDBY
    ∧ (let s := put (inMode RUN) [(RUN_ROLE, R_SOLO), (RUN_UP, 1)]
       s.up = true ∧ s.linkUp = true ∧ s.role = R_SOLO ∧ s.pairPresent = true)
    ∧ (standby []).isStandby = true ∧ extendTs32 (standby []).now (0 : Word).toNat ≤ (standby []).now
    ∧ ¬ (extendTs32 (standby []).now (9 : Word).toNat ≤ (standby []).now)
    ∧ (standby []).fabShut issRunner ((0x700040 : BitVec 32).toNat / 64 * 64) 64 true = false
    ∧ (∀ b : Bool, let s := { primary with run := { primary.run with pdl := (b, b) } }
       s.isPrimary = true ∧ s.run.pdl.1 = b)
    ∧ (∀ m ∈ [RUN, SAFE, STOP, HALT], let s := (standby []).setMode m
       s.up = true ∧ s.linkUp = true ∧ s.mode = m ∧ s.isStandby = true ∧ s.fld POUR_STATE = 1 ∧ s.fld HALT_CAUSE ≠ 1)
    ∧ ((standby []).setMode STOP).runctlFree = true
    ∧ (let s := ring (standby []) 16 0x700000 0x4 1 0
       s.up = true ∧ s.isStandby = true ∧ s.qUsable (16 : BitVec 6).toNat = true
         ∧ s.qFill (16 : BitVec 6).toNat < s.qSize (16 : BitVec 6).toNat)
    ∧ primary.up = true ∧ primary.linkUp = true ∧ primary.bit 0x20000028 22 = false ∧ primary.role = R_PRIMARY
    ∧ primary.isPrimary = true
    ∧ (syncedStandby []).eligible = true ∧ (syncedStandby []).fld (RGNSTAT 0) ≠ 1
    ∧ (List.replicate 1008 (1 : Byte)).length ≤ 1008 ∧ 1 ≤ fieldAt (List.replicate 1008 (1 : Byte)) 1 1
    ∧ (standby []).blind = false ∧ (standby []).pourActive = true
    ∧ cyclicTask ∈ (standby []).taskRecs ∧ (standby []).taskRec? cyclicTask.task = some cyclicTask
    ∧ (standby [(TSTATE 31, 1)]).tstate 31 ≠ 0 ∧ (List.replicate 160 (1 : Byte)).length ≤ 160
    ∧ (standby [(TSTATE 31, 3)]).inProgress (31 : BitVec 8).toNat = true
    ∧ ts32Of ((standby [(TSTATE 31, 3)]).task 31).commitAt = 0 ∧ memKind ((0x700040 : BitVec 32).toNat / 64 * 64) ≠ none
    ∧ (standby []).sstate = SS_SYNCING ∧ (⟨255, 7, List.replicate 11 0, [1], true, []⟩ : LoopCopy).ok = true := by
  decide +kernel

theorem wit_StandbyAndSwitch : (let s := standby [(TSTATE 31, 2)]
      s.up = true ∧ s.fld (RGNSTAT 2) ≠ 1 ∧ s.isStandby = true ∧ s.blind = false ∧ s.tstate (31 : BitVec 5).toNat = 2
        ∧ (s.taskRec? (31 : BitVec 5).toNat).isSome = true ∧ s.snapHere (31 : BitVec 5).toNat = false
        ∧ { s with run := { s.run with snaps := [(31, some 0)] } }.snapHere 31 = true)
    ∧ (let s := standby []
       s.up = true ∧ s.isStandby = true ∧ s.sstate = SS_SYNCING ∧ s.linkUp = true
         ∧ { s with run := { s.run with resync := true } }.run.resync = true)
    ∧ (let s := syncedStandby [(RUN_CHECKING, 1)]
       s.up = true ∧ s.fld (RGNSTAT 2) ≠ 1 ∧ s.flag RUN_CHECKING = true ∧ s.synced = true ∧ s.eligible = true
         ∧ (s.ownCheck false 31 false 0 0).1 = true ∧ (s.ownCheck true 31 true 0 0).1 = true
         ∧ (s.ownCheck true 31 false 0 0).1 = false)
    ∧ on.linkUp = false ∧ (standby []).run.partner = none
    ∧ (let s := syncedStandby []
       s.up = true ∧ partnerInRun ∈ s.run.partner.toList ∧ s.linkUp = true ∧ partnerInRun.mode = s.mode ∧ s.synced = true
         ∧ s.eligible = true)
    ∧ (let q : Partner := ⟨3, SS_SYNCED, false, true, RUN, 0, 0, 0, 0, false⟩
       let s := { primary with run := { primary.run with partner := some q } }
       s.up = true ∧ q ∈ s.run.partner.toList ∧ s.linkUp = true ∧ q.mode = s.mode ∧ s.role = R_PRIMARY
         ∧ q.role = R_STANDBY
         ∧ q.sstate = SS_SYNCED) := by decide +kernel

/-- A module with a TIME section, in a clock state, with a master on P1 or none. -/
def timed (g : Nat) (par : Bool) (l : List (Fld × Nat)) : State :=
  let s := put (withPat (inMode RUN) [(SEC_TIME, List.replicate 27 0 ++ [1] ++ List.replicate 36 0)]) ([(MGD_STATE, g)] ++ l)
  { s with mgd := { s.mgd with holding := true, parent := if par then some (1, ⟨0, 0, 0, 0, 0, 0, 0, 0, 0⟩) else none } }

/-- A clock of a class, which is to be a slave only or not. -/
def slaving (cls only : Nat) : State :=
  withPat (inMode RUN) [(SEC_TIME, List.replicate 5 0 ++ leBytes 1 only ++ List.replicate 4 0 ++ [5, 0] ++ leBytes 1 cls
    ++ List.replicate 51 0)]

theorem wit_Marigold_announces : ∀ c ∈ [127, 128], let s := slaving c 0
    s.blockRuns 17 = true ∧ s.hasSec SEC_TIME = true ∧ s.mgdState = G_FREERUN ∧ s.slaveOnly = false ∧ s.mgd.ann = []
      ∧ s.regN 0x20400054 ≠ 0x33
      ∧ keyLt (announceOf ⟨0, 4, 6, 33, 0, 1, 5, 0, 5⟩).key s.ownAnnounce.key = true
      ∧ keyLt (announceOf ⟨0, 6, 6, 33, 0, 1, 5, 0, 5⟩).key s.ownAnnounce.key = false := by decide +kernel

theorem wit_MarigoldDisciplineAndAlarms : (∀ g ∈ [G_FREERUN, G_LOCKED, G_HOLDOVER], ∀ b ∈ [false, true], let s := timed g b []
      s.blockRuns 17 = true ∧ s.hasSec SEC_TIME = true ∧ s.mgdState = g ∧ s.mgd.ann = [] ∧ s.regN 0x20400054 ≠ 0x33
        ∧ s.mgd.holding = true ∧ s.mgd.parent.isSome = b)
    ∧ (∃ p ∈ (timed G_LOCKED true []).mgd.parent.toList, p.1 = (if false then 2 else 1))
    ∧ (announceOf ⟨0, 1, 6, 33, 0, 1, 5, 0, 5⟩).domain = fieldAt (timed 0 false []).timeSec 2 1
    ∧ (timed 0 false []).slaveOnly = false ∧ (timed 0 false []).ownAnnounce.cls ≤ 127
    ∧ (slaving 128 0).ownAnnounce.cls = 128 ∧ (slaving 128 1).slaveOnly = true
    ∧ (timed 0 false [(MGD_REFOK, 1)]).flag MGD_REFOK = true ∧ (timed 0 false []).flag MGD_REFOK = false
    ∧ (timed 0 false []).refsel 0 = true ∧ (timed 0 false []).now ≤ (timed 0 false []).almTarget (3 : BitVec 2).toNat
    ∧ (let s := ring (timed 0 false [(ALM_ARM 3, 1)]) 58 0x700000 4 3 3
       s.blockRuns 17 = true ∧ s.hasSec SEC_TIME = true ∧ s.flag (ALM_ARM 3) = true ∧ s.almTarget 3 ≤ s.now
         ∧ s.qUsable 58 = true
         ∧ s.qFill 58 < s.qSize 58 ∧ s.regN (almReg 3 8) = 0) := by decide +kernel

/-- A module in RUN with a CAN section: MODE `k` for controller 3, whose state is `c`; more fields; buffer 31 as given.
-/
def canned (k c : Nat) (l : List (Fld × Nat)) (x : CanBuf) : State :=
  let r : List Byte := leBytes 1 k ++ [1, 0, 2] ++ List.replicate 60 0
  let s := put (withPat (inMode RUN) [(SEC_CAN, List.replicate 208 0 ++ r)]) ([(CAN_STATE 3, c)] ++ l)
  let s := s.setCan 3 { CanSt.reset with recovering := true }
  s.setCanBuf 3 31 x

def canBusy (x : CanBuf) : State := canned 1 C_NORMAL [(⟨canr 3 0x28, 31, 31⟩, 1)] x

theorem wit_CanControllers : (∀ c ∈ [C_OFF, C_NORMAL, C_LISTEN, C_DETECT], let s := canned 1 c [] CanBuf.reset
      s.blockRuns (18 + (3 : BitVec 2).toNat) = true ∧ s.canState 3 = c ∧ s.canBusOff 3 = false ∧ s.isStandby = false
        ∧ (s.canSt 3).good = 0)
    ∧ (Instr.canFrameRx 3 5 false false true false false 15 ⟨List.replicate 64 0, true⟩).wf = true
    ∧ (Instr.canFrameRx 3 5 false false false false false 8 ⟨List.replicate 8 0, false⟩).wf = true
    ∧ (((canned 3 C_DETECT [] CanBuf.reset).setCan 3 { CanSt.reset with good := 1 }).canSt 3).good ≠ 0
    ∧ (let s := canBusy CanBuf.reset
       s.blockRuns 21 = true ∧ s.canPending 3 31 = true ∧ s.canState 3 = C_NORMAL ∧ tcOneshot (s.canBuf 3 31).ctl = false
         ∧ s.bit (canr 3 0x2C) 31 = false)
    ∧ (canned 1 C_NORMAL [(⟨canr 3 0x28, 31, 31⟩, 1), (⟨canr 3 0x2C, 31, 31⟩, 1)] CanBuf.reset).bit (canr 3 0x2C) 31 = true
    ∧ (let s := { canned 1 C_NORMAL [] CanBuf.reset with can := { (canned 1 C_NORMAL [] CanBuf.reset).can with
         sched := [3, 31, 0, 0] ++ List.replicate 12 0 } }
       s.blockRuns 21 = true ∧ (s.schedRec 3 31).isSome = true ∧ s.mode = RUN ∧ s.canBusOff 3 = false
         ∧ s.isStandby = false
         ∧ canInvalid (s.canBuf 3 31).ctl = false)
    ∧ ((canBusy { CanBuf.reset with sched := true }).canBuf 3 31).sched = true
    ∧ ((canBusy { CanBuf.reset with admitted := true }).canBuf 3 31).admitted = true
    ∧ (let s := canned 1 C_NORMAL [(CAN_ERRSTATE 3, 2)] CanBuf.reset
       s.blockRuns 21 = true ∧ s.canBusOff 3 = true ∧ (s.canSt 3).recovering = true)
    ∧ (((canned 1 C_OFF [] CanBuf.reset).setCan 3 { CanSt.reset with wait := 2 }).canSt 3).wait = C_LISTEN
    ∧ (∀ k ∈ [247, 248], let s := (canBusy CanBuf.reset).setCan 3 { CanSt.reset with tec := k }
       (s.canSt 3).tec = k ∧ s.canState 3 = C_NORMAL ∧ s.canBusOff 3 = false) := by decide +kernel

theorem wit_CanRequests : (let s := canned 1 C_LISTEN [] CanBuf.reset
      s.up = true ∧ s.fld (RGNSTAT 2) ≠ 1 ∧ s.domainShut (8 + (3 : BitVec 2).toNat) = false ∧ s.canState 3 = C_LISTEN
        ∧ s.isStandby = false ∧ canMode (s.canRec 3) = 1)
    ∧ canMode ((canned 3 C_LISTEN [] CanBuf.reset).canRec 3) = 3
    ∧ (canned 1 C_NORMAL [(CAN_ERRSTATE 3, 2)] CanBuf.reset).canBusOff 3 = true
    ∧ bitOf (0x105 : Word).toNat 8 = true ∧ (canned 1 C_NORMAL [] CanBuf.reset).flag (FLT_READY 3) = false
    ∧ (canned 1 C_NORMAL [(FLT_READY 3, 1)] CanBuf.reset).flag (FLT_READY 3) = true
    ∧ (∀ v ∈ [8, 15, 8 + 2 ^ 14], let s := canned 1 C_NORMAL [] { CanBuf.reset with ctl := v }
       s.canPending 3 31 = false ∧ s.bit (canr 3 0x30) 31 = false ∧ s.isStandby = false ∧ s.canState 3 = C_NORMAL
         ∧ (canInvalid (s.canBuf 3 31).ctl = true ↔ v = 15) ∧ (tcAdmit (s.canBuf 3 31).ctl = true ↔ v = 8 + 2 ^ 14))
    ∧ (canBusy CanBuf.reset).canPending 3 31 = true := by decide +kernel

/-- A descriptor (Table LDL-1) that copies or compares 16 bytes. -/
def descr (op : Nat) : List Byte :=
  leBytes 4 op ++ leBytes 4 16 ++ leBytes 8 0x702000 ++ leBytes 8 0x703000 ++ leBytes 8 0

/-- Channel 31, of a kind, in a state, its chain at an address, with LDL_STAT fields; the sequencer runs. -/
def ladled (kind st head : Nat) (l : List (Fld × Nat)) (cur : Option LdlDesc) : State :=
  let sec : List Byte := List.replicate 1008 0 ++ leBytes 1 kind ++ [0] ++ leBytes 1 255 ++ [0] ++ leBytes 4 1000 ++ List.replicate 24 0
  let s := put (withPat (inMode RUN) [(SEC_LADLE, sec)]) ([(POUR_STATE, P_RUN), (LC_STATE 31, st)] ++ l)
  { s.setRegN (ldlr 31 4) head with ldl := { s.ldl with cur := cur } }

theorem wit_LadleChains : (let s := ladled 1 0 0 [] none
      s.up = true ∧ s.ldlIsolated = false ∧ s.fld POUR_STATE = P_RUN ∧ s.ldlKind (31 : BitVec 5).toNat = 1
        ∧ s.ldlState 31 = 0
        ∧ s.flag LDL_HALT = false)
    ∧ (ladled 1 0 0 [(LDL_HALT, 1)] none).flag LDL_HALT = true
    ∧ (∀ a ∈ [0, 0x702000], let s := ladled 1 1 a [] none
       31 ∈ s.ldlFirst.toList ∧ s.flag LDL_ACTIVE = false ∧ s.flag LDL_HALT = false ∧ s.ldlHead 31 = a
         ∧ s.ldReadFails a = false ∧ s.ldReadFails (a + 16) = false)
    ∧ (∀ p ∈ [(1, LS_DONE), (3, LS_EQUAL)],
       let s := ladled 1 2 0x702000 [(LDL_ACTIVE, 1), (LDL_ACTCH, 31)] (some ⟨0x702000, descr p.1, p.2⟩)
       s.up = true ∧ s.fld LDL_ACTCH = 31 ∧ s.ldlState 31 = 2 ∧ (s.ldlCh 31).stop = 0 ∧ 16 ≤ fieldAt (s.ldlRec 31) 2 1
         ∧ s.ldFirstUe (descr p.1) = none ∧ ldNext (descr p.1) = 0
         ∧ ldDstArea (ldDst (descr p.1)) (ldCount (descr p.1)) ≠ 0)
    ∧ (ladled 2 0 0 [] none).domainShut 3 = false ∧ (ladled 2 0 0 [] none).ldlKind 31 = 2
    ∧ (let s := (withPat (ladled 2 0 0 [] none) [(SEC_LADLE, (ladled 2 0 0 [] none).sec SEC_LADLE),
          (SEC_TIMETABLE, leBytes 4 1000 ++ [0, 0] ++ leBytes 2 1 ++ List.replicate 8 0 ++ [8, 0, 0, 0] ++ leBytes 4 1000 ++ leBytes 4 0 ++ leBytes 4 500)]).setRegN
          (ldlr 31 0x14) 2000000
       s.ldlKind 31 = 2 ∧ s.ldlState 31 = 0 ∧ s.flag LDL_HALT = false ∧ s.fld POUR_STATE = P_RUN
         ∧ (s.ladleFind (s.regN (ldlr 31 0x10)) (s.regN (ldlr 31 0x14))).isSome = true)
    ∧ (ladled 2 1 0 [] none).ldlState 31 = 1 ∧ (ladled 2 2 0 [] none).ldlState 31 = 2 := by decide +kernel

theorem wit_CounterCollector : (let s := put on [(PMC_RUNNING, 1)]
      s.up = true ∧ s.pmcIsolated = false ∧ s.flag PMC_RUNNING = true ∧ (s.mono - s.pmc.since) / 1000 < 10
        ∧ ¬ (({ s with mono := 10000 }.mono - s.pmc.since) / 1000 < 10))
    ∧ (10 ≤ (10000000 : Word).toNat ∧ (10000000 : Word).toNat ≤ 10000000)
    ∧ pmcSelOk ((127 : BitVec 7).toNat / 8) 0 0 = true ∧ (0xFFC : BitVec 16).toNat < 0x1000 := by decide +kernel

def anyRec : Record := ⟨5, 3, 2, 0, 0, 10, 5, 1, [], 0⟩
def recording : State :=
  let s := put on [(EVR_RUNNING, 1)]
  { s with mono := 10000000000, evr := { s.evr with
      hold := false, layout := [1, 1, 1, 1], port := [leBytes 2 5 ++ List.replicate 62 0], staging := [anyRec], tail := [anyRec]
      buckets := [(62, some ⟨0, 0, 7, 0, 0⟩)] } }

theorem wit_RecorderAccepts : recording.up = true ∧ recording.flag EVR_RUNNING = true ∧ recording.evrIsolated = false
    ∧ recording.evrNext recording.evr.turn = some 4 ∧ codeOwned 5 = true
    ∧ codeOwned 0 = false ∧ postOwner 2 .cope = true ∧ postOwner 2 .ap0 = false
    ∧ (62 : BitVec 6) ≠ 63 ∧ (recording.bucket 62).supp ≠ 0 ∧ (recording.bucket 62).acc + 10000000 ≤ recording.monoUs
    ∧ anyRec ∈ recording.evr.staging.head?.toList ∧ recording.evr.hold = false
    ∧ recsLen recording.evr.tail + recLen anyRec.payload + 28 ≤ TAIL_BYTES ∧ recording.evr.tail ≠ []
    ∧ (∀ n ∈ [23, 24], let g := (recording.setRegN (evrPostBuf 2) (n + 0x170 * 65536)).regBytes (evrPostBuf 2) 256
       fieldAt g 0 2 = n ∧ fieldAt g 2 2 = 0x170 ∧ postCodeOk 2 (fieldAt g 2 2) = true ∧ fieldAt g 0 2 ≤ 1024)
    ∧ (recording.codeClass 0x170 = 63 ∨ NS ≤ min ((recording.classRate (recording.codeClass 0x170)).2 * NS)
        ((recording.bucket (recording.codeClass 0x170)).tok
          + (recording.monoUs - (recording.bucket (recording.codeClass 0x170)).last) * (recording.classRate (recording.codeClass 0x170)).1)) := by
  decide +kernel

def reading (k : Nat) : State :=
  let s := put recording [(CK_READY k, 1)]
  { s with evr := { s.evr with cursors := [(k, ⟨0, 0, true⟩)] } }

theorem wit_RecorderReads : recording.up = true ∧ cursorOwner (3 : Fin 4).val .ap0 = false
  ∧ cursorOwner (1 : Fin 4).val .cope = false
    ∧ cursorOwner (3 : Fin 4).val .cope = true ∧ recording.flag (CK_READY 3) = false ∧ (reading 3).up = true
    ∧ (reading 3).flag (CK_READY 3) = true ∧ ((reading 3).cursor 3).filling = true
    ∧ (0x8 : BitVec 4).toNat.testBit (3 : BitVec 2).toNat = true
      ∧ recording.partUsed (3 : BitVec 2).toNat = true := by decide +kernel

theorem wit_SupplyAndRiser : on.pwr.on = true ∧ on.up = true
    ∧ (put on [(FEED 1, 1)]).flag (FEED (ofBool true)) = true ∧ on.flag (FREV (ofBool true)) = false
    ∧ (∀ k ∈ [W_NORMAL, W_HOLDUP], (put on [(PWR_STATE, k)]).fld PWR_STATE = k) ∧ on.pwr.save = none
    ∧ (∀ k ∈ [R_CHARGING, R_TESTING, R_CHARGED, R_FAULT], (put on [(PWR_RSTATE, k)]).fld PWR_RSTATE = k)
    ∧ (put (inMode STOP) [(PWR_RSTATE, R_CHARGED)]).mode = STOP := by decide +kernel

def saving (c : Nat) (held : Bool) : State :=
  { on with pwr := { on.pwr with save := some ⟨c, 0, 0, 0, 0⟩, rstHeld := held } }

theorem wit_SavesEnd : (∀ c ∈ [1, 3, 4], ∀ h ∈ [false, true], (saving c h).pwr.on = true ∧ (saving c h).pwr.rstHeld = h
      ∧ (⟨c, 0, 0, 0, 0⟩ : SaveSt) ∈ (saving c h).pwr.save.toList)
    ∧ heldInReset.fld PWR_STATE = W_NORMAL ∧ (put heldInReset [(PWR_STATE, W_HOLDUP)]).fld PWR_STATE ≠ W_NORMAL
    ∧ heldInReset.pwr.rstHeld = true ∧ heldInReset.pwr.inReset = true ∧ heldInReset.pwr.on = true := by decide +kernel

theorem wit_whole_machine : Inv on ∧ (∃ t, step { on with pending := [.fabricTimeout] } = .next t)
    ∧ on.pending = [] ∧ on.pwr.on = true ∧ State.reset.pwr.on = false ∧ on.linkUp = false
    ∧ (∀ n, n < 32 → (on.cell n).wavePend = none) :=
  ⟨⟨by decide, by decide⟩, ⟨_, rfl⟩, by decide, by decide, by decide, by decide, by decide⟩

theorem wit_IllFormedFrames : (CtrlMsg.queueEntry 16 0 [] []).ok = false ∧ frameOk (List.replicate 13 0) = false
    ∧ 1008 < (List.replicate 1009 (0 : Byte)).length ∧ 65536 < (List.replicate 65537 (0 : Byte)).length
    ∧ 160 < (List.replicate 161 (0 : Byte)).length
    ∧ (([⟨0, []⟩] : List CopyLine).all CopyLine.ok && ([] : List LoopCopy).all LoopCopy.ok) = false :=
  ⟨by decide, by decide, by rw [List.length_replicate]; decide, by rw [List.length_replicate]; decide,
    by rw [List.length_replicate]; decide, by decide⟩

theorem wit_fields_and_times : (RGNSTAT 4).hi < 32 ∧ (RGNSTAT 4).lo ≤ (RGNSTAT 4).hi ∧ (RGNSTAT 3).hi < (RGNSTAT 4).lo
    ∧ 5000000000 ≤ 5000000000 + 2 ^ 31 ∧ 5000000000 < 5000000000 + 2 ^ 31
    ∧ 2 ^ 31 ≤ 0 + 2 ^ 31 ∧ 2 ^ 48 * NS - 1 < 2 ^ 48 * NS := by decide

/-- An untagged frame of an EtherType from an address to all. -/
def etherFrame (t : Nat) (body : List Byte) : List Byte :=
  List.replicate 6 0xFF ++ [0, 0x11, 0x22, 0x33, 0x44, 0x55] ++ beBytes 2 t ++ body
/-- The same with a tag of PCP 2 and the VID of Pourline. -/
def taggedFrame (t : Nat) (body : List Byte) : List Byte :=
  List.replicate 6 0xFF ++ [0, 0x11, 0x22, 0x33, 0x44, 0x55] ++ [0x81, 0, 0x40, 0] ++ beBytes 2 t ++ body

/-- A module with its network blocks and both ports up; pattern sections as given. -/
def netted (secs : List (Nat × List Byte)) : State :=
  put (withPat (inMode RUN) secs) [(NET_UP 1, 1), (NET_UP 2, 1), (PLN_SENDING, 1)]

theorem wit_SwitchForwards : (netted []).blockRuns 15 = true ∧ (netted []).redMode ≠ 2
    ∧ (netted [(SEC_NETWORK, [1] ++ List.replicate 63 0)]).redMode ≠ 0
    ∧ (Instr.frameForward 1 (etherFrame 0x800 (List.replicate 46 0)) 0 true).wf = true
    ∧ (Instr.frameForward 2 (etherFrame 0x800 []) 0 false).wf = true
    ∧ ((netted []).vidPorts ((netted []).frTci (etherFrame 0x800 (List.replicate 46 0))).2).testBit 1 = true
    ∧ ptpOff (etherFrame 0x800 (List.replicate 46 0)) = none
    ∧ ((netted [(SEC_NETWORK, List.replicate 64 0)]).vidPorts 5).testBit 1 = false := by decide +kernel

/-- A POURLINE section with one publication, one subscription and one safety connection. -/
def plnSection : List Byte :=
  List.replicate 6 0 ++ [1, 1, 1, 1, 0, 0] ++ leBytes 2 7 ++ List.replicate 50 0 ++ List.replicate 32 0 ++ List.replicate 32 0
    ++ ([0, 0] ++ leBytes 2 3 ++ List.replicate 12 1)
/-- The subscription: station 3, publication 1, 4 bytes, CRC 77, SAFE on loss. -/
def subscription : List Byte :=
  [0, 1] ++ leBytes 2 3 ++ [1, 3] ++ leBytes 2 1 ++ leBytes 4 1000 ++ leBytes 4 0 ++ leBytes 4 77 ++ [0, 0, 0, 0] ++ leBytes 2 4 ++ List.replicate 6 0
def pourlining : State :=
  let s := netted [(SEC_TIMETABLE, timetable), (SEC_POURLINE, plnSection)]
  { s with net := { s.net with subList := subscription, pubList := List.replicate 32 0 } }
def freshened : State :=
  pourlining.setSub 0 { SubSt.reset with fresh := true }
def cyclicHdr : List Byte :=
  [1, 1] ++ leBytes 2 3 ++ leBytes 4 0 ++ leBytes 4 9 ++ leBytes 4 0 ++ [1, 0] ++ leBytes 2 4 ++ leBytes 4 77 ++ [1, 2, 3, 4]
def cyclicFrame (e : Nat) : List Byte :=
  taggedFrame 0x88B5 (cyclicHdr ++ leBytes 4 (crc32c cyclicHdr + e) ++ List.replicate 20 0)

/-- A frame of 60 bytes waits in Q40; or an entry of length 0. -/
def sending (n : Nat) : State :=
  (ring pourlining 40 0x700000 0x24 1 0).mput 0x700000
    (leBytes 8 0x710000 ++ leBytes 2 n ++ [3, 0] ++ leBytes 2 0 ++ List.replicate 18 0)

theorem wit_PourlineExchanges : pourlining.blockRuns 16 = true
  ∧ pourlining.entries[(1 : BitVec 9).toNat]? = some (entryAt timetable 1)
    ∧ pourlining.flag PLN_SENDING = true ∧ (entryAt timetable 1).kind = KIND_PLN_PUB
    ∧ (entryAt timetable 1).object < pourlining.pubCount ∧ pourlining.isStandby = false ∧ pourlining.portUp 1 = true
    ∧ (put pourlining [(NET_UP 1, 0), (NET_UP 2, 0)]).portUp 1 = false
      ∧ (put pourlining [(NET_UP 1, 0), (NET_UP 2, 0)]).portUp 2 = false
    ∧ pourlining.redMode = 0
    ∧ (∀ e ∈ [0, 1], let f := cyclicFrame e
       (Instr.cyclicFrameRx false f).wf = true ∧ stripRed pourlining.redMode f = f ∧ pourlining.plnHeader f = some 18
         ∧ (plnCrcOk f 18 = true ↔ e = 0)
         ∧ fieldAt f 19 1 = 1 ∧ fieldAt f 20 2 % 1024 = (pourlining.subRec 0).station
           ∧ fieldAt f 34 1 = (pourlining.subRec 0).pub
         ∧ fieldAt f 38 4 = (pourlining.subRec 0).crc ∧ fieldAt f 36 2 = (pourlining.subRec 0).bytes)
    ∧ 0 < pourlining.subCount ∧ (pourlining.subSt 0).fresh = false ∧ (freshened.subSt 0).fresh = true
      ∧ freshened.blockRuns 16 = true
    ∧ (freshened.subRec 0).owd = true ∧ freshened.mode = RUN ∧ (pourlining.sconns[0]?).isSome = true
    ∧ (∀ n ∈ [59, 60], (sending n).blockRuns 16 = true ∧ (sending n).qUsable 40 = true ∧ (sending n).qFill 40 ≠ 0
        ∧ fieldAt ((sending n).mread ((sending n).qEntry 40 ((sending n).cidx 40)) 32) 8 2 = n)
    ∧ (let s := sending 60
       let e := s.mread (s.qEntry 40 (s.cidx 40)) 32
       let f := s.mread (fieldAt e 0 8) (fieldAt e 8 2)
       fieldAt e 0 8 + fieldAt e 8 2 ≤ 0x800000 ∧ 0x700000 ≤ fieldAt e 0 8 ∧ 1 ≤ fieldAt e 10 1
         ∧ fieldAt e 10 1 ≤ 3 ∧ fieldAt e 11 1 = 0
         ∧ fieldAt e 20 12 = 0 ∧ s.redMode = 0 ∧ s.plnHeader f = none ∧ s.portUp 1 = true ∧ s.portUp 2 = true
         ∧ txGood (0 : Fin 7).val e = true)
    ∧ txGood 0 ((sending 59).mread ((sending 59).qEntry 40 ((sending 59).cidx 40)) 32) = false
    ∧ (pourlining.dedupe 1 (cyclicFrame 0)).1 = true ∧ frameOk (cyclicFrame 0) = true := by decide +kernel

theorem wit_PourlineReceives : let net : List Byte := List.replicate 14 0 ++ [1, 0] ++ leBytes 4 0x720000 ++ List.replicate 108 0
      ++ [0, 0, 7, 0, 0, 0, 0, 0]
    let s := ring (netted [(SEC_POURLINE, plnSection), (SEC_NETWORK, net)]) 32 0x700000 4 0 0
    let f := etherFrame 0x806 (List.replicate 46 0)
    s.blockRuns 16 = true ∧ (Instr.rxFrame false f).wf = true ∧ s.redMode = 0 ∧ stripRed 0 f = f ∧ s.plnHeader f = none
      ∧ (s.frTci f).1 = 0 ∧ s.ptpOwn f = false ∧ ptpOff f = none ∧ fieldAt s.netSec 16 4 ≠ 0 ∧ s.qUsable 32 = true
      ∧ s.qFill 32 < s.qSize 32 ∧ (s.dedupe 1 f).1 = true ∧ (s.vidPorts (s.frTci f).2).testBit 0 = true := by
  decide +kernel

/-- A service-port frame that carries a command (Table COPE-4). -/
def portFrame (k arg : Nat) (d : List Byte) : List Byte :=
  let b : List Byte := [1, 2, 0, 0] ++ (leBytes 1 k ++ [0] ++ leBytes 2 9 ++ leBytes 2 0 ++ leBytes 2 d.length ++ leBytes 8 arg ++ d)
  b ++ leBytes 4 (crc32c b)
def aPassword : List Byte := List.replicate 12 0x61
/-- The cope processor runs in mode `m`, with a password, with or without a session. -/
def coping (m : Nat) (ses : Bool) : State :=
  let s := put (inMode m) [(COPE_STATE, 1), (COPE_SESSION, ofBool ses)]
  { s with cope := { s.cope with pw := some ([], sha256 aPassword) } }

theorem portCommand_of (k : Nat) (b : List Byte) (s : State) (h : s.fld COPE_STATE = 1 ∧ srcFramed (.port b) = true
    ∧ layoutBad (.port b) (portLayout b) = false ∧ fieldAt (portLayout b) 0 1 = k) : PortCommand k b s :=
  ⟨h.1, h.2.1, h.2.2.1, h.2.2.2⟩

theorem wit_PortCommand : ∀ k ∈ [0x01, 0x02, 0x03, 0x10, 0x20, 0x21, 0x30, 0x31, 0x32, 0x40, 0x41, 0x42, 0x43, 0x50, 0x51, 0x52,
    0x61, 0x62, 0x70, 0x71], ∀ ses : Bool, PortCommand k (portFrame k 1 aPassword) (coping STOP ses) := by
  intro k hk ses
  refine portCommand_of _ _ _ ?_
  revert k ses
  decide +kernel

theorem wit_CopeSessions : (coping STOP false).up = true ∧ (Instr.copeTick (List.replicate 32 (some 5))).wf = true
    ∧ (coping STOP false).fld COPE_STATE = 1 ∧ on.fld COPE_STATE ≠ 1 ∧ (coping STOP false).fld (RGNSTAT 4) ≠ 1
    ∧ (coping STOP false).sys.rgnHist = [] ∧ (coping STOP true).flag COPE_SESSION = true
      ∧ (coping STOP false).flag COPE_SESSION = false
    ∧ { coping STOP false with cope := { (coping STOP false).cope with locked := true } }.cope.locked = true
    ∧ (coping STOP false).cope.locked = false ∧ (coping STOP false).mgmtMatch aPassword = true
    ∧ (coping STOP false).mgmtMatch [1, 2] = false ∧ (coping STOP false).cope.pw.isSome = true
    ∧ splitPw (aPassword ++ [0] ++ List.replicate 12 0x62) = some (aPassword, List.replicate 12 0x62)
    ∧ mgmtPwOk (List.replicate 12 0x62) = true ∧ srcFramed (.port []) = false
    ∧ srcFramed (.port ([0, 0, 0, 0] ++ [0x10] ++ List.replicate 19 0)) = false
    ∧ fieldAt (portLayout ([0, 0, 0, 0] ++ [0x10] ++ List.replicate 19 0)) 0 1 = 0x10
    ∧ (let s := ring ((ring (coping STOP false) 52 0x700000 0x44 1 0).mput 0x700000 [0x10]) 54 0x701000 0x44 0 0
       s.fld COPE_STATE = 1 ∧ s.qUsable 52 = true ∧ s.qFill 52 ≠ 0
         ∧ fieldAt (s.mread (s.qEntry 52 (s.cidx 52)) 64) 0 1 = 0x10
         ∧ layoutBad .q52 (s.mread (s.qEntry 52 (s.cidx 52)) 64) = false ∧ s.qUsable 54 = true
           ∧ s.qFill 54 < s.qSize 54) := by
  decide +kernel

theorem wit_CopeCommands : (coping STOP false).flag COPE_SESSION = false ∧ (coping STOP true).flag COPE_SESSION = true
    ∧ (coping STOP true).up = true ∧ (coping STOP true).pwr.save = none ∧ (coping STOP true).isStandby = false
    ∧ (coping STOP true).isPrimary = false ∧ (coping STOP true).mode = STOP ∧ (coping STOP true).runctlFree = true
    ∧ (∀ m ∈ [RUN, SAFE, HALT], (coping m true).mode = m) ∧ (put (coping RUN true) [(POUR_STATE, 1)]).fld POUR_STATE = 1
    ∧ (coping HALT true).fld HALT_CAUSE ≠ 1 ∧ (coping STOP true).flag PAT_KEYWS = false
    ∧ (∀ a ∈ [1, 2, 3, 4, 5], cmdArg (portLayout (portFrame 0x21 a [])) % 16 = a)
    ∧ (put (coping STOP true) [(PAT_KEYWS, 1)]).flag PAT_KEYWS = true
    ∧ (let s := { coping STOP true with pat := { (coping STOP true).pat with keyId := 5 } }
       s.keyPresent = true ∧ s.pat.force = none)
    ∧ cmdArg (portLayout (portFrame 0x31 0x7FFFFF [1])) + (cmdData (portLayout (portFrame 0x31 0x7FFFFF [1]))).length ≤ 0x800000
    ∧ cmdArg (portLayout (portFrame 0x31 0xFFFFFF [1])) % 0x800000
      + (cmdData (portLayout (portFrame 0x31 0xFFFFFF [1]))).length ≤ 0x800000
    ∧ cmdArg (portLayout (portFrame 0x31 0xFFFFFF [1])) < 0x1000000
    ∧ (put (coping STOP true) [(DL_STATE, DL_STAGING)]).fld DL_STATE = DL_STAGING
    ∧ { coping STOP true with cope := { (coping STOP true).cope with fwOpen := true } }.cope.fwOpen = true
    ∧ bitOf (cmdArg (portLayout (portFrame 0x52 2 []))) 0 = false
    ∧ cmdArg (portLayout (portFrame 0x60 3 (List.replicate 64 7))) < 4
    ∧ fieldAt (portLayout (portFrame 0x60 3 (List.replicate 64 7))) 6 2 = 64 ∧ (coping STOP true).keyState 3 = 0
    ∧ (let s := { coping STOP true with cope := { (coping STOP true).cope with keys := [(3, (1, []))] } }
       s.keyState 3 = 1)
    ∧ (let s := put (coping STOP true) [(EVR_RUNNING, 1)]
       s.flag EVR_RUNNING = true ∧ recsLen s.evr.staging + 128 ≤ 0x10000) := by decide +kernel

/-- Station 5 runs Pourline; station 7 is an engineering station. -/
def serving (m : Nat) (l : List (Fld × Nat)) : State :=
  let s := put (withPat (inMode m) [(SEC_POURLINE, plnSection)]) ([(NET_UP 1, 1), (NET_UP 2, 1), (RUN_ROLE, R_SOLO), (COPE_STATE, 1)] ++ l)
  { s with pat := { s.pat with straps := 5 } }
def request (sender : BitVec 10) (d : List Byte) : SvcReq := ⟨0x665544332211, 3, 0, false, sender, 9, 5, 0, d⟩

theorem serviceAnswers_of (q : SvcReq) (s : State) (h : s.blockRuns 16 = true ∧ s.svcMine q = true
    ∧ q.sender.toNat ≠ s.stationId ∧ s.goes 1 5 = true ∧ s.vidPl < 4096 ∧ (s.vidPorts s.vidPl).testBit 1 = true
    ∧ s.fdbFind (leVal (stationAddr q.sender.toNat)) s.vidPl = none) : ServiceAnswers q s :=
  ⟨h.1, h.2.1, h.2.2.1, h.2.2.2.1, h.2.2.2.2.1, .inr h.2.2.2.2.2⟩

theorem wit_ServiceAnswers : ∀ m ∈ [STOP, RUN, SAFE, HALT], ∀ n ∈ [0, 4, 12, 300],
    ServiceAnswers (request 7 (List.replicate n 0)) (serving m [])
      ∧ ServiceAnswers (request 3 (List.replicate n 0)) (serving m []) := by
  intro m hm n hn
  have h : ∀ m ∈ [STOP, RUN, SAFE, HALT], ∀ n ∈ [0, 4, 12, 300], ∀ k ∈ [(7 : BitVec 10), 3],
    let s := serving m []
    s.blockRuns 16 = true ∧ s.svcMine (request k (List.replicate n 0)) = true
      ∧ (request k (List.replicate n 0)).sender.toNat ≠ s.stationId ∧ s.goes 1 5 = true ∧ s.vidPl < 4096
      ∧ (s.vidPorts s.vidPl).testBit 1 = true
      ∧ s.fdbFind (leVal (stationAddr (request k (List.replicate n 0)).sender.toNat)) s.vidPl = none := by decide +kernel
  exact ⟨serviceAnswers_of _ _ (h m hm n hn 7 (by decide)), serviceAnswers_of _ _ (h m hm n hn 3 (by decide))⟩

/-- A program image with one symbol, 0x11, of type BOOL's width. -/
def imageOf : List Byte :=
  List.replicate 48 0 ++ leBytes 4 64 ++ leBytes 4 1 ++ leBytes 8 0 ++ (leBytes 4 0x11 ++ [5, 0, 0, 0] ++ leBytes 8 0x700000 ++ leBytes 4 4 ++ leBytes 4 0 ++ leBytes 8 0)

theorem wit_PourlineServices : svcKnown (9 : BitVec 8).toNat = false
    ∧ (∀ k ∈ [1, 2, 3, 4, 5], svcKnown k = true ∧ subKnown k 6 = false ∧ subKnown k 0 = false)
    ∧ (serving STOP []).svcEng (request 3 []) = false ∧ (serving STOP []).svcEng (request 7 []) = true
    ∧ (serving STOP []).fld COPE_STATE = 1 ∧ (serving STOP []).isStandby = false ∧ (serving STOP []).isPrimary = false
    ∧ (findSym { serving STOP [] with prg := { (serving STOP []).prg with image := imageOf } }.prg.image
        (fieldAt (leBytes 4 0x11) 0 4)).isSome = true
    ∧ (serving STOP []).mode = STOP ∧ (serving STOP []).runctlFree = true
    ∧ (serving STOP [(DL_STATE, DL_STAGING)]).fld DL_STATE = DL_STAGING
    ∧ (serving RUN [(POUR_STATE, 1)]).mode = RUN ∧ (serving RUN [(POUR_STATE, 1)]).fld POUR_STATE = 1
    ∧ (serving SAFE []).mode = SAFE ∧ (serving HALT []).mode = HALT
      ∧ (serving HALT []).fld HALT_CAUSE ≠ 1 := by decide +kernel

/-! ### Further clauses of the statements, at the values where they meet -/

theorem wit_RunControlRequests_recovery : (put (inMode STOP) [(COPE_STATE, 3)]).up = true
    ∧ (put (inMode STOP) [(COPE_STATE, 3)]).isStandby = false ∧ (put (inMode STOP) [(COPE_STATE, 3)]).fld COPE_STATE = 3
    ∧ (inMode STOP).fld COPE_STATE ≠ 3 ∧ (inMode NONE).mode = NONE ∧ (inMode NONE).runctlFree = true := by decide +kernel

/-- Task 3, an event task, in a state, with or without an accepted trigger. -/
def eventful (k : Nat) (g : Option Trig) (l : List (Fld × Nat)) : State :=
  (put (pouring RUN) ((TSTATE 3, k) :: l)).setTask 3 { TaskSt.reset with trig := g }

theorem wit_SnapshotStartsOrSkips_events : (pouring RUN).sys.eccUe = [] ∧ (pouring RUN).pour.openAt ≤ (pouring RUN).seqNow
    ∧ (pouring RUN).tstate (31 : BitVec 5).toNat = 0
    ∧ (let s := eventful 1 (some ⟨5, 1, 2, 3⟩) []
       s.up = true ∧ s.isStandby = false ∧ s.fld POUR_STATE = 1 ∧ s.taskRec? (3 : BitVec 5).toNat = some eventTask
         ∧ eventTask.cyclic = false ∧ s.tstate 3 = 1 ∧ (s.task 3).trig.isSome = true)
    ∧ ((eventful 1 none []).task 3).trig = none := by decide +kernel

theorem wit_ReleaseExecutionAndBudget_demoted : (put (pouring RUN) [(TSTATE 31, 3), (TDEMOTED 31, 1)]).flag (TDEMOTED 31) = true
    ∧ (put (pouring RUN) [(TSTATE 31, 3), (TDEMOTED 31, 1)]).tstate 31 = 3 ∧ (pouring RUN).tstate 31 ≠ 3
    ∧ (pouring RUN).tstate 31 ≠ 5 := by decide +kernel

/-- The task of the entry in Q56 had its trigger before accepted at an instant. -/
def after (s : State) (a : Nat) (h : Option Trig) : State := s.setTask 3 { TaskSt.reset with prevAccept := some a, held := h }

theorem wit_Triggers_period : (let s := ring on 59 0x700000 5 0xFFFFFFFF 0xFFFFFFFF
      s.up = true ∧ s.qUsable 59 = true
        ∧ s.qFill 59 + ((List.range 32).filter (fun n => bitOf (0xFFFFFFFF : Word).toNat n)).length = s.qSize 59)
    ∧ Initiator.saf ∉ [Initiator.ap0, .ap1] ∧ triggered.sys.eccUe = [] ∧ eventTask.period = 1000
    ∧ (let s := { after triggered 0 none with mgdNs := 1000000 }
       let e := s.mread (s.qEntry 56 (s.cidx 56)) 16
       s.up = true ∧ s.isStandby = false ∧ s.fld POUR_STATE = 1 ∧ s.trigQueue = some 56 ∧ (s.task 3).held = none
         ∧ s.eventBusy 3 = false ∧ (s.task 3).prevAccept.any (fun a => decide (s.trigTs e < a + eventTask.period * 1000)) = true)
    ∧ (let s := { (after triggered 0 none).mput 0x700000 (leBytes 4 1000000) with mgdNs := 1000000 }
       let e := s.mread (s.qEntry 56 (s.cidx 56)) 16
       s.trigQueue = some 56 ∧ (s.task 3).held = none ∧ s.eventBusy 3 = false ∧ s.trigTs e = 0 + eventTask.period * 1000
         ∧ (s.task 3).prevAccept.all (fun a => decide (a + eventTask.period * 1000 ≤ s.trigTs e)) = true)
    ∧ (let s := after triggered 7 (some ⟨5, 1, 2, 3⟩)
       s.taskRec? (3 : BitVec 5).toNat = some eventTask ∧ (s.task 3).held = some ⟨5, 1, 2, 3⟩ ∧ s.eventBusy 3 = false
         ∧ (s.task 3).prevAccept = some 7) := by decide +kernel

theorem wit_ForcesAndDownloads_loads : ∀ k ∈ [1, 2, 3], let s := put (inMode STOP) [(DL_STATE, k)]
    s.mayIssue .cope = true ∧ s.isPrimary = false ∧ s.isStandby = false ∧ s.fld DL_STATE = k ∧ s.mode = STOP
      ∧ s.sys.eccUe = [] := by decide +kernel

theorem wit_RunnerFrames_take : primary.fld PL_ALIVE = AL_ALIVE
    ∧ (let s := put primary [(PL_ALIVE, 2)]
       s.up = true ∧ s.linkUp = true ∧ s.bit 0x20000028 22 = false ∧ s.role = R_PRIMARY ∧ s.fld PL_ALIVE ≠ AL_ALIVE)
    ∧ (let s := ring (standby []) 27 0x700000 0x4 0 5
       s.qUsable (27 : BitVec 6).toNat = true ∧ ((20 : Word) - s.reg (qreg 27 0x10)).toNat + 1 = s.qSize 27) := by
  decide +kernel

theorem wit_StandbyAndSwitch_events : (standby []).sys.eccUe = [] ∧ (standby []).pourActive = true
    ∧ (let s := standby [(TSTATE 3, 1)]
       s.up = true ∧ s.fld (RGNSTAT 2) ≠ 1 ∧ s.isStandby = true ∧ s.blind = false ∧ s.pourActive = true
         ∧ eventTask ∈ (s.taskRec? (3 : BitVec 5).toNat).toList ∧ eventTask.event = true ∧ s.tstate 3 ≠ 2 ∧ s.tstate 3 ≠ 0
         ∧ tblGet (fun _ => none) s.run.snaps 3 = none)
    ∧ (let s := syncedStandby [(RUN_CHECKING, 1)]
       s.synced = true ∧ (s.ownCheck true 31 false 0 0).1 = false ∧ (s.ownCheck false 31 true 0 1).1 = false) := by
  decide +kernel

theorem wit_MarigoldDisciplineAndAlarms_set : (timed G_LOCKED true []).stepNs < ((timed G_LOCKED true []).stepNs + 1 : Int).natAbs
    ∧ (timed G_MASTER false []).mgdState = G_MASTER ∧ (timed 0 false []).regN 0x20400040 < NS
    ∧ ¬ (((timed 0 false []).setRegN 0x20400040 NS).regN 0x20400040 < NS) ∧ (timed 0 false []).mgd.parent = none := by
  decide +kernel

/-- Controller 3 in LISTEN with a filter list of one element of a CTRL byte, which takes identifier 5. -/
def filtering (ctl : Nat) : State :=
  let r : List Byte := [1, 1, 0, 2] ++ List.replicate 20 0 ++ leBytes 4 0x6F0000 ++ leBytes 4 0x6F1000 ++ leBytes 4 0x6E0000
    ++ leBytes 4 0x6E1000 ++ List.replicate 24 0
  let s := put (withPat (inMode RUN) [(SEC_CAN, List.replicate 208 0 ++ r)]) [(CAN_STATE 3, C_LISTEN), (FLT_COUNT 3, 1)]
  s.mput 0x6F0000 (leBytes 4 ctl ++ leBytes 4 5 ++ leBytes 4 5)

theorem wit_CanControllers_filters : (∀ ctl ∈ [0, 8, 16], let s := filtering ctl
      s.blockRuns 21 = true ∧ s.canState 3 = C_LISTEN ∧ s.canBusOff 3 = false ∧ s.isStandby = false ∧ s.sys.eccUe = []
        ∧ s.canList 3 false = (0x6F0000, 1)
        ∧ ∀ i ∈ [4, 5], let hit := ((List.range 1).map (fun k => s.mread (0x6F0000 + 16 * k) 16)).find? (fun e => filterMatch e i false)
          (hit.isSome = true ↔ i = 5) ∧ (hit.all (fun e => bitOf (fieldAt e 0 1) 4) = true ↔ i = 4 ∨ ctl = 16)
            ∧ hit.all (fun e => bitOf (fieldAt e 0 1) 3 == decide (ctl = 8)) = true)
    ∧ (canned 1 C_LISTEN [] CanBuf.reset).canList 3 true = (0, 0) := by decide +kernel

theorem wit_CanControllers_receives : (∀ k ∈ [0, 1], ∀ c ∈ [C_NORMAL, C_LISTEN], ∀ tec ∈ [0, 127],
      let s := ring ((put (filtering (8 * k)) [(CAN_STATE 3, c)]).setCan 3 { CanSt.reset with tec := tec }) (22 + k) 0x700000 4 15 0
      s.blockRuns 21 = true ∧ s.canState 3 = c ∧ (s.canSt 3).tec ≤ 127 ∧ s.canBusOff 3 = false ∧ s.isStandby = false
        ∧ s.canList 3 false = (0x6F0000, 1) ∧ s.qUsable (22 + k) = true ∧ s.qFill (22 + k) < s.qSize (22 + k)
        ∧ fieldAt (s.canRec 3) (32 + 4 * k) 4 + s.qSize (22 + k) * 64 ≤ 0x700000
        ∧ s.mread 0x6F0000 1 = [BitVec.ofNat 8 (8 * k)])
    ∧ bitOf 8 5 = false := by decide +kernel

/-- Buffer 31 of controller 3 has an occurrence of a length code, in a state of the controller. -/
def occurring (len c : Nat) : State :=
  { canned 1 c [] CanBuf.reset with can := { (canned 1 c [] CanBuf.reset).can with
      sched := [3, 31, 0] ++ leBytes 1 len ++ List.replicate 12 0 } }

theorem wit_CanControllers_occurrences : ∀ c ∈ [C_NORMAL, C_LISTEN, C_OFF], ∀ len ∈ [8, 15], let s := occurring len c
    s.blockRuns 21 = true ∧ s.canState 3 = c ∧ s.mode = RUN ∧ s.canBusOff 3 = false ∧ s.isStandby = false
      ∧ (s.schedRec 3 31).map (fun r => (fieldAt r 2 1, fieldAt r 3 1)) = some (0, len)
      ∧ (canInvalid (len % 128) = true ↔ len = 15) := by decide +kernel

theorem wit_CanControllers_offers : (let s := canBusy CanBuf.reset
      (∀ k ∈ [0, 5], (s.canOffer 3).canStarted 3 31 k = true) ∧ (s.canBuf 3 31).slotOver = false ∧ (s.canSt 3).leaving = false)
    ∧ (let s := put (canBusy CanBuf.reset) [(⟨canr 3 0x28, 30, 30⟩, 1)]
       s.canPending 3 30 = true ∧ s.canPending 3 31 = true
         ∧ (s.canOffer 3).canStarted 3 30 0 ≠ (s.canOffer 3).canStarted 3 31 0)
    ∧ (((canned 1 C_NORMAL [] CanBuf.reset).setCan 3 { CanSt.reset with leaving := true }).canSt 3).leaving = true
    ∧ (∀ w ∈ [0, C_NORMAL, C_LISTEN, C_DETECT], let s := (canned 1 C_OFF [] CanBuf.reset).setCan 3 { CanSt.reset with wait := w }
       (s.canSt 3).wait = w ∧ (s.canSt 3).leaving = false ∧ s.blockRuns 21 = true) := by decide +kernel

theorem wit_CanRequests_cancels : (let s := (canBusy CanBuf.reset).setCan 3 { CanSt.reset with offered := [(some 31, 0)] }
      s.canPending 3 31 = true ∧ bitOf (0x80000000 : Word).toNat 31 = true ∧ s.canWasOffered 3 31 = true)
    ∧ bitOf (0 : Word).toNat 31 = false ∧ (canBusy CanBuf.reset).canWasOffered 3 31 = false
    ∧ (canBusy CanBuf.reset).bit (canr 3 0x30) 31 = false
    ∧ (canned 1 C_NORMAL [(⟨canr 3 0x30, 31, 31⟩, 1)] CanBuf.reset).bit (canr 3 0x30) 31 = true
    ∧ bitOf (0x100 : Word).toNat 8 = true ∧ bitOf (0 : Word).toNat 8 = false := by decide +kernel

theorem wit_LadleChains_halts : (ladled 1 1 0x702000 [] none).domain 3 ≠ D_OFF ∧ (ladled 1 1 0x702000 [] none).flag LDL_HALT = false
    ∧ (ladled 1 1 0x702000 [] none).ldlState 31 = 1 ∧ (ladled 1 0 0 [] none).ldlKind 31 ≠ 2
    ∧ (ladled 2 0 0 [(LDL_HALT, 1)] none).flag LDL_HALT = true ∧ (ladled 2 0 0 [(LDL_HALT, 1)] none).ldlState 31 = 0
    ∧ (put (ladled 2 0 0 [] none) [(POUR_STATE, 0)]).fld POUR_STATE ≠ P_RUN := by decide +kernel

theorem wit_CounterCollector_access : pmcSelOk ((127 : BitVec 7).toNat / 8) 0xFF 0 = false
    ∧ ((9 : Word).toNat < 10 ∧ 10 ≤ (10 : Word).toNat ∧ 10000000 < (10000001 : Word).toNat)
    ∧ Initiator.ldl ∉ [Initiator.ap0, .ap1, .cope]
    ∧ [0, 0x9FC, 0xFFC, 0x1000, 0x13F8, 0x1400, 0x23FC].map pmcGrant = [16, 15, 16, 0, 15, 16, 15]
    ∧ (∀ k ∈ [0, 15, 16], on.bit PMC_ACCESS k = false ∧ (on.setRegN PMC_ACCESS 0x1FFFF).bit PMC_ACCESS k = true)
    ∧ (0x13F8 : BitVec 16).toNat % 8 = 0 ∧ 0x1400 ≤ (0x1400 : BitVec 16).toNat := by decide +kernel

/-- A post of buffer 2 is in progress, and the port is empty; the image in the buffer has a length and a code. -/
def posted (len code : Nat) : State :=
  { (put recording [(POST_BUSY 2, 1)]).setRegN (evrPostBuf 2) (len + code * 65536) with evr := { recording.evr with port := [], posts := [(2, some (5, true))] } }

theorem wit_RecorderAccepts_posts : (∀ p ∈ [(20, 0x170), (24, 0x170), (26, 0x170), (1024, 0x170), (1028, 0x170), (24, 0x100)], let s := posted p.1 p.2
      let g := s.regBytes (evrPostBuf (2 : Fin 3).val) 256
      s.up = true ∧ s.flag EVR_RUNNING = true ∧ s.evrIsolated = false ∧ s.evrNext s.evr.turn = some (5 + (2 : Fin 3).val)
        ∧ recsLen s.evr.staging + 1024 ≤ 0x10000
        ∧ ((postCodeOk 2 (fieldAt g 2 2) = false ∨ fieldAt g 0 2 < 24 ∨ 1024 < fieldAt g 0 2 ∨ fieldAt g 0 2 % 4 ≠ 0)
          ↔ ¬ (p = (24, 0x170) ∨ p = (1024, 0x170))))
    ∧ (posted 24 0x170).flag (POST_BUSY 2) = true ∧ recording.flag (POST_BUSY 2) = false
    ∧ recording.sys.eccUe = [] ∧ recsLen recording.evr.staging + 1024 ≤ 0x10000
    ∧ recording.evr.lossRun = 0 ∧ recsLen recording.evr.tail + 28 + recLen anyRec.payload ≤ TAIL_BYTES
    ∧ { recording with evr := { recording.evr with lossRun := 2 } }.evr.lossRun ≠ 0
    ∧ 1 ≤ recording.evr.layout.getD 0 0 := by decide +kernel

/-- A NETWORK section (Table PLN-2) of a redundancy mode, enabled ports and one VLAN; class 0 is shut at both ports. -/
def networkOf (mode ports gates : Nat) : List Byte :=
  leBytes 1 mode ++ leBytes 1 ports ++ leBytes 2 0 ++ leBytes 2 1500 ++ leBytes 1 gates ++ leBytes 1 gates ++ leBytes 4 1000 ++ leBytes 2 0 ++ [1, 0]
    ++ (List.range 8).flatMap (fun i => leBytes 4 (if i = 5 then 0x730000 else 0)) ++ List.replicate 80 0 ++ [0, 0, 7, 2, 0, 0, 0, 0]
    ++ (List.range (2 * gates)).flatMap (fun _ => leBytes 4 1000 ++ [0xFE, 0, 0, 0])

theorem wit_SwitchForwards_gates : (let s := netted [(SEC_NETWORK, networkOf 0 1 0)]
      s.blockRuns 15 = true ∧ s.portEn 1 = true ∧ s.portEn 2 = false)
    ∧ (let s := netted [(SEC_NETWORK, networkOf 0 3 1)]
       let f := etherFrame 0x800 (List.replicate 46 0)
       s.blockRuns 15 = true ∧ s.redMode = 0 ∧ s.portEn 1 = true ∧ frameOk f = true ∧ s.hasSec SEC_TIME = false
         ∧ (s.vidPorts (s.frTci f).2).testBit 1 = true ∧ ((s.learn 1 f).forwardMask 1 f).testBit 2 = true
         ∧ s.portUp 2 = true ∧ s.goes 2 (s.frTci f).1 = false ∧ s.goes 2 3 = true)
    ∧ (∀ m ∈ [1, 2], (netted [(SEC_NETWORK, networkOf m 3 0)]).redMode = m)
    ∧ (let s := { netted [] with net := { (netted []).net with wait := [⟨1, 0, [3], .plain⟩, ⟨1, 7, [1], .health⟩] } }
       s.net.wait.find? (fun w => w.port == 1 && w.cls == 7) = some ⟨1, 7, [1], .health⟩
         ∧ s.net.wait.find? (fun w => w.port == 2 && w.cls == 7) = none)
    ∧ (put (netted []) [(NET_UP 1, 0)]).flag (NET_UP 1) = false := by decide +kernel

/-- An HSR module that has the address from which etherFrame comes. -/
def ringed : State := ((netted [(SEC_NETWORK, networkOf 2 3 0)]).setRegN 0x20500008 0x33221100).setRegN 0x2050000C 0x5544

theorem wit_SwitchForwards_own : ringed.redMode = 2 ∧ frSa (etherFrame 0x800 (List.replicate 46 0)) = ringed.macBytes := by
  have h : ringed.macBytes = leBytes 4 0x33221100 ++ leBytes 2 0x5544 := by
    simp [ringed, State.macBytes, State.regN, State.setRegN]
  rw [h]
  decide +kernel

/-- An entry of the acyclic class waits in Q45. -/
def sendingAcyclic : State :=
  (ring pourlining 45 0x700000 0x24 1 0).mput 0x700000 (leBytes 8 0x710000 ++ leBytes 2 60 ++ [3, 2] ++ leBytes 2 0 ++ List.replicate 18 0)
/-- The subscription's newest frame had sequence number 9. -/
def sequenced (n : Nat) : State := pourlining.setSub 0 { SubSt.reset with fresh := true, seq := some n }
theorem wit_PourlineExchanges_clauses : (pourlining.portUp 2 = true ∧ (pourlining.outMask (cyclicFrame 0)).testBit 1 = true)
    ∧ pourlining.dupHeader (etherFrame 0x800 (List.replicate 46 0)) = none
    ∧ pourlining.plnHeader (etherFrame 0x800 (List.replicate 46 0)) = none
    ∧ (∀ p ∈ [(8, true), (9, false), (9 + 2 ^ 31 - 1, false), (9 + 2 ^ 31, false)], let s := sequenced p.1
       (s.subSt 0).fresh = true ∧ (s.subSt 0).seq.isSome = true
         ∧ decide (1 ≤ (9 + 2 ^ 32 - (s.subSt 0).seq.getD 0) % 2 ^ 32 ∧ (9 + 2 ^ 32 - (s.subSt 0).seq.getD 0) % 2 ^ 32 < 2 ^ 31)
           = (p.2 || p.1 == 9 + 2 ^ 31 + 1))
    ∧ (let s := sendingAcyclic
       s.blockRuns 16 = true ∧ s.qUsable 45 = true ∧ s.qFill 45 ≠ 0 ∧ s.sys.eccUe = []
         ∧ txGood 5 (s.mread (s.qEntry 45 (s.cidx 45)) 32) = true
         ∧ (s.acyclicAdmit .pourline (s.cidx 45) 7 0).1.isSome = false)
    ∧ (sending 60).fabShut issPlnAcyclic 0x710000 60 false = false ∧ (sending 60).fabShut issPlnAcyclic 0x13C0000 60 false = true
    ∧ (sending 60).fabShut issPlnAcyclic 0x720000 64 true = false
    ∧ (let s := put (sending 60) [(RUN_ROLE, R_STANDBY)]
       s.isStandby = true ∧ s.standbySends 0 (s.mread 0x710000 60) = false)
    ∧ (freshened.bit SYS_BLKISO 16 = false ∧ 0 < freshened.subCount)
    ∧ (put freshened [(RGNSTAT 2, 1)]).up = true
    ∧ (∀ e ∈ [0, 1], let g := cyclicFrame e
       plnCrcOk g 18 = decide (e = 0))
    ∧ (∀ m ∈ [1, 2], let s := netted [(SEC_POURLINE, plnSection), (SEC_NETWORK, networkOf m 3 0)]
       let d := s.dedupe 1 (redWrap m 1 5 (cyclicFrame 0))
       d.1 = true ∧ stripRed m (redWrap m 1 5 (cyclicFrame 0)) = cyclicFrame 0 ∧ d.2.blockRuns 16 = true
         ∧ (d.2.dedupe 2 (redWrap m 2 5 (cyclicFrame 0))).1 = false) := by decide +kernel

/-- Station 5 with receive buffers for Q37, or with a partner on the other side. -/
def served (m : Nat) (l : List (Fld × Nat)) : State :=
  let s := put (withPat (inMode m) [(SEC_POURLINE, plnSection), (SEC_NETWORK, networkOf 0 3 0)])
    ([(NET_UP 1, 1), (NET_UP 2, 1), (RUN_ROLE, R_SOLO), (COPE_STATE, 1)] ++ l)
  ring { s with pat := { s.pat with straps := 5 } } 37 0x740000 4 0 0

theorem wit_PourlineServices_runtime : (∀ m ∈ [STOP, RUN], ∀ n ∈ [0, 4, 256, 260, 1024], ∀ k ∈ [(7 : BitVec 10), 3], let s := served m []
      s.blockRuns 16 = true ∧ s.svcMine (request k (List.replicate n 0)) = true ∧ s.goes 1 5 = true ∧ s.vidPl < 4096
        ∧ (s.vidPorts s.vidPl).testBit 1 = true ∧ s.takesRequests = true
        ∧ s.fdbFind (leVal (stationAddr (request k (List.replicate n 0)).sender.toNat)) s.vidPl = none)
    ∧ (serving STOP []).takesRequests = false
    ∧ (let s := served STOP [(RUN_ROLE, R_STANDBY)]
       s.isStandby = true ∧ s.svcMine { request 7 [] with target := 5 + 1024 } = true ∧ s.svcEng { request 7 [] with target := 5 + 1024 } = true)
    ∧ (serving HALT []).pour.offsetPs = 0 ∧ (serving SAFE [(SAF_SAFEDEM, 1)]).flag SAF_SAFEDEM = true
    ∧ (∀ m ∈ [STOP, RUN], (served m []).mode = m) ∧ (served STOP []).isStandby = false := by decide +kernel

/-! ### The clauses on commits, swaps, pairs, frames and services at their boundary values -/

/-- The TIMETABLE with a cyclic task 31 of FB_COUNT, FB_ACTION and RECOVER, whose output region is 0x702000 to 0x70203F. -/
def fallTimetable (count action recover : Nat) : List Byte :=
  leBytes 4 1000 ++ [2, 0] ++ leBytes 2 0 ++ List.replicate 8 0
    ++ (leBytes 1 31 ++ [1, 1, 0] ++ leBytes 4 1000 ++ leBytes 4 10 ++ leBytes 4 500 ++ leBytes 2 0 ++ leBytes 1 count ++ leBytes 1 action
      ++ leBytes 1 recover ++ List.replicate 11 0 ++ leBytes 4 0x702000 ++ leBytes 4 64 ++ List.replicate 24 0)
/-- Task 31, in a state, commands output cell 0 with the first word of its output region. -/
def outing (k count action recover m : Nat) (l : List (Fld × Nat)) : State :=
  let r : List Byte := leBytes 1 M_AO_I ++ [0, 0, 0, 0, 0xFF, 0, 0] ++ leBytes 4 200000 ++ List.replicate 8 0 ++ leBytes 4 0x41200000 ++ List.replicate 104 0
  let s := put (withPat (inMode m) [(SEC_TIMETABLE, fallTimetable count action recover), (SEC_CHANNELS, List.replicate 16 0 ++ r)])
    ([(POUR_STATE, 1), (TSTATE 31, k)] ++ l)
  let s := { s with chan := { s.chan with conv := true, outLive := true },
                    prg := { s.prg with image := List.replicate 56 0 ++ leBytes 4 64 ++ leBytes 4 1
                      ++ (leBytes 4 4 ++ [31, 2, 1, 2] ++ List.replicate 16 0) } }
  s.mput 0x702000 (leBytes 4 0x3F800000)
def fallTask (count action recover : Nat) : TaskRec := taskRecAt (fallTimetable count action recover) 0

theorem wit_CommitOrOverrun_outputs : (let s := outing 4 0 0 0 RUN []
      let e : IoEnt := ⟨4, 31, 2, 1, 2, 0, 0, 0⟩
      s.up = true ∧ s.pourActive = true ∧ s.isStandby = false ∧ s.sys.eccUe = [] ∧ fallTask 0 0 0 ∈ s.taskRecs
        ∧ s.taskRec? 31 = some (fallTask 0 0 0) ∧ s.tstate 31 = 4 ∧ s.flag (TFB 31) = false ∧ s.ioOf 31 2 = [e]
        ∧ s.subCause 0 = false ∧ (s.commitClean (fallTask 0 0 0)).mnat 0x702000 4 = 0x3F800000
        ∧ ffin32 (cellCmdVal e 0x3F800000) = true ∧ ffin32 (cellCmdVal e 0x7F800000) = false)
    ∧ (let s := outing 4 0 0 0 SAFE []
       s.mode = SAFE ∧ s.taskCells 31 = [0] ∧ s.subCause 0 = true)
    ∧ (∀ k ∈ [0, 1], let s := outing 4 1 1 2 RUN [(TFB 31, 1), (TRECOV 31, k)]
       s.flag (TFB 31) = true ∧ (min (s.fld (TRECOV 31) + 1) 255 < (fallTask 1 1 2).recover ↔ k = 0)) := by decide +kernel

theorem wit_CommitOrOverrun_fallback : (∀ a ∈ [0, 1, 2], ∀ k ∈ [2, 3], ∀ n ∈ [0, 1, 2], let s := outing k 2 a 1 RUN [(TOVR_CONSEC 31, n)]
      s.taskRec? 31 = some (fallTask 2 a 1) ∧ (fallTask 2 a 1).fbCount = 2 ∧ (fallTask 2 a 1).fbAction = a ∧ s.tstate 31 = k
        ∧ (((fallTask 2 a 1).fbCount != 0 && decide ((fallTask 2 a 1).fbCount ≤ min (s.fld (TOVR_CONSEC 31) + 1) 255) && !s.flag (TFB 31)) = true
          ↔ n ≠ 0))
    ∧ (let s := outing 3 2 1 1 RUN [(TOVR_CONSEC 31, 2), (TFB 31, 1)]
       ((fallTask 2 1 1).fbCount != 0 && decide ((fallTask 2 1 1).fbCount ≤ min (s.fld (TOVR_CONSEC 31) + 1) 255) && !s.flag (TFB 31)) = false)
    ∧ (outing 3 2 1 1 RUN []).taskCells 31 = [0] ∧ (outing 3 2 2 1 RUN []).mode = RUN ∧ (outing 3 2 2 1 SAFE []).mode = SAFE := by
  decide +kernel

/-- Table `b` is pending and ready; its shadow lies where the pattern has it. -/
def swapping (b : Nat) : State :=
  let tt : List Byte := leBytes 4 1000 ++ [0, 0] ++ List.replicate 10 0
  let can : List Byte := leBytes 4 0 ++ leBytes 4 0x740000 ++ List.replicate 200 0 ++ (leBytes 1 1 ++ [1, 0, 2] ++ List.replicate 60 0)
  put (withPat (inMode RUN) [(SEC_TIMETABLE, tt), (SEC_CAN, can), (SEC_EVENTS, []), (SEC_POURLINE, List.replicate 64 0)])
    [(POUR_STATE, 1), (⟨POUR_SWAPREQ, b, b⟩, 1), (⟨POUR_SWAPSTAT, b, b⟩, 1)]
/-- The scheduled list in force has one record, and the shadow has it changed. -/
def rescheduling : State := { swapping 7 with can := { (swapping 7).can with sched := [3, 31, 0, 0] ++ List.replicate 12 0 } }

theorem wit_SlewReanchorAndSwaps_tables : (∀ b ∈ [4, 5, 6, 7], let s := swapping b
      s.up = true ∧ s.pourActive = true ∧ s.blind = false ∧ s.bit POUR_SWAPREQ b = true ∧ s.bit POUR_SWAPSTAT b = true
        ∧ (∀ k, k < 8 → k ≠ b → (s.bit POUR_SWAPREQ k && s.bit POUR_SWAPSTAT k) = false)
        ∧ ((s.shadow b).1.filter (fun l => (s.shadow b).2.swapOk b l)).isSome = true)
    ∧ (let s := rescheduling
       s.bit POUR_SWAPREQ 7 = true ∧ s.bit POUR_SWAPSTAT 7 = true
         ∧ (s.shadow 7).1.filter (fun l => (s.shadow 7).2.swapOk 7 l) = none)
    ∧ ({ swapping 6 with evr := { (swapping 6).evr with codeTbl := some [1, 2] } }).evr.codeTbl.isSome = true
    ∧ (put (swapping 4) [(POUR_STATE, 0)]).pourActive = false
    ∧ (put (swapping 4) [(RUN_ROLE, R_STANDBY), (RUN_SSTATE, SS_BLIND)]).blind = true
    ∧ (List.range 8).all (fun k => !((pouring RUN).bit POUR_SWAPREQ k && (pouring RUN).bit POUR_SWAPSTAT k)) = true := by
  decide +kernel

/-- A BLIND standby. -/
def blinded : State := standby [(RUN_SSTATE, SS_BLIND)]
/-- A standby whose event task has a trigger of its own, accepted or held. -/
def ownTrigger (g h : Option Trig) : State := (standby [(TSTATE 3, 1)]).setTask 3 { TaskSt.reset with trig := g, held := h }

theorem wit_standby_has_no_own_events : (let s := blinded
      s.up = true ∧ s.blind = true ∧ s.ldlIsolated = false)
    ∧ (let s := ownTrigger (some ⟨5, 1, 2, 3⟩) none
       s.up = true ∧ s.isStandby = true ∧ s.blind = false ∧ s.fld POUR_STATE = 1 ∧ s.tstate 3 ≠ 0 ∧ s.tstate 3 ≠ 2
         ∧ (s.task 3).trig.isSome = true ∧ s.taskRec? 3 = some eventTask ∧ eventTask.event = true)
    ∧ (let s := ownTrigger none (some ⟨5, 1, 2, 3⟩)
       s.up = true ∧ s.isStandby = true ∧ s.fld POUR_STATE = 1 ∧ (s.taskRec? 3).isSome = true ∧ (s.task 3).held.isSome = true
         ∧ s.eventBusy 3 = false) := by decide +kernel

theorem wit_PowerGoodAndResetInput_holdup : (∀ k ∈ [1, 2], let s := put { on with pwr := { on.pwr with inReset := true } } [(PWR_STATE, k)]
      s.pwr.on = true ∧ s.pwr.inReset = true ∧ s.pwr.save = none ∧ s.fld PWR_STATE = k)
    ∧ { State.reset with pwr := { Pwr.reset with rstHeld := true } }.pwr.rstHeld = true ∧ State.reset.pwr.rstHeld = false := by
  decide +kernel

theorem wit_IndexWritesAreTested_sides : queueSide 60 true .saf = false ∧ queueSide 60 false .ap1 = false := by decide +kernel

/-- A primary with a running self-check and a partner in a state of synchronisation. -/
def checkingPrimary (k : Nat) : State :=
  let s := put primary [(RUN_CHECKING, 1)]
  { s with run := { s.run with partner := some ⟨3, k, false, true, RUN, 0, 0, 0, 0, false⟩ } }

theorem wit_StandbyAndSwitch_checks : (∀ k ∈ [SS_SYNCED, SS_SYNCING], let s := checkingPrimary k
      s.up = true ∧ s.fld (RGNSTAT 2) ≠ 1 ∧ s.flag RUN_CHECKING = true ∧ s.isStandby = false
        ∧ (s.ownCheck true 31 false 0 0).1 = false ∧ (s.run.partner.any (fun q => q.sstate == SS_SYNCED) = true ↔ k = SS_SYNCED))
    ∧ (let s := standby [(RUN_CHECKING, 1)]
       s.flag RUN_CHECKING = true ∧ s.isStandby = true ∧ s.synced = false)
    ∧ (let s := syncedStandby [(RUN_CHECKING, 1)]
       s.synced = true ∧ s.eligible = true ∧ (s.ownCheck true 31 false 0 0).1 = false)
    ∧ (let s := { syncedStandby [] with run := { (syncedStandby []).run with partner := some { partnerInRun with mode := SAFE } } }
       s.up = true ∧ s.linkUp = true ∧ s.run.partner.all (fun q => q.mode != s.mode) = true)
    ∧ (let s := standby []
       s.isStandby = true ∧ s.sstate ≠ SS_SYNCED)
    ∧ (checkingPrimary SS_SYNCING).run.partner.all (fun q => q.role != R_STANDBY || q.sstate != SS_SYNCED) = true
    ∧ (primary.flag SAF_SAFEDEM = false) := by decide +kernel

theorem wit_SafetyOutputTests_low : (let s := { energised with saf := { energised.saf with hsSw := 0 } }
      s.saf.hsSw.testBit 0 = false ∧ s.saf.lsSw.testBit 0 = true ∧ s.saf.fault.testBit 0 = false) := by decide +kernel

theorem wit_PairLinesAndLink_up : (put on [(COPE_STATE, 1)]).faultHalt = false
    ∧ (put (inMode HALT) [(HALT_CAUSE, 1)]).faultHalt = true := by decide +kernel

theorem wit_CanControllers_starts : (let s := (canBusy CanBuf.reset).setCan 3 { CanSt.reset with offered := [(some 5, 9), (some 31, 4)] }
      let s := { s with mono := 10 }
      s.canStarted 3 5 0 = true ∧ s.canStarted 3 5 1 = true ∧ s.canStarted 3 31 2 = true ∧ s.canStarted 3 31 6 = true
        ∧ s.canStarted 3 31 7 = false ∧ s.canStarted 3 5 2 = false ∧ s.canWasOffered 3 31 = true ∧ s.canWasOffered 3 6 = false)
    ∧ (canned 1 C_NORMAL [] CanBuf.reset).canTimed 3 = false ∧ (canBusy { CanBuf.reset with admitted := true }).canTimed 3 = true := by
  decide +kernel

/-- The staging buffer is full. -/
def crammed : State := { recording with evr := { recording.evr with staging := List.replicate 65 { anyRec with payload := List.replicate 1000 0 } } }

theorem wit_RecorderAccepts_full : 0x10000 < recsLen crammed.evr.staging + 1024
    ∧ crammed.up = true ∧ crammed.flag EVR_RUNNING = true ∧ crammed.evrIsolated = false
    ∧ recsLen recording.evr.staging + 128 ≤ 0x10000 ∧ 1 ≤ recording.evr.layout.getD 3 0 := by decide +kernel

theorem wit_RecorderReads_full : (let s := crammed
      s.up = true ∧ s.flag EVR_RUNNING = true ∧ s.partUsed 3 = true ∧ (0x8 : BitVec 4).toNat = 2 ^ 3
        ∧ 0x10000 < recsLen (s.evr.staging.filter (fun r => r.part != 3)) + 32) := by decide +kernel

theorem wit_SupplyAndRiser_extension : (let s := { on with pwr := { on.pwr with extAt := some 0 } }
      0 ∈ s.pwr.extAt.toList ∧ s.flag PWR_EXTOK = false ∧ 40000 ≤ (40000 : BitVec 16).toNat)
    ∧ (starting 5).dragUp = true ∧ (starting 4).dragUp = false ∧ (inMode STOP).dragUp = true := by
  decide +kernel

/-- Q31 is empty, and a module fault holds HALT. -/
def stamping : State := ring (netted [(SEC_POURLINE, plnSection)]) 31 0x700000 5 0 0
/-- A PTP Sync message of a domain, to the group address. -/
def ptpSync (d : Nat) : List Byte :=
  [0x01, 0x1B, 0x19, 0, 0, 0] ++ [0, 0x11, 0x22, 0x33, 0x44, 0x55] ++ [0x88, 0xF7] ++ ([0, 2, 0, 44] ++ leBytes 1 d ++ List.replicate 41 0)

theorem wit_PourlineExchanges_events : (let s := stamping
      s.blockRuns 15 = true ∧ frameOk (ptpSync 5) = true ∧ (s.dedupe 1 (ptpSync 5)).1 = true ∧ stripRed 0 (ptpSync 5) = ptpSync 5
        ∧ s.ptpOwn (ptpSync 5) = false ∧ (ptpOff (ptpSync 5)).isSome = true ∧ s.qUsable 31 = true ∧ s.qFill 31 < s.qSize 31)
    ∧ (put stamping [(⟨SYS_BLKISO, 16, 16⟩, 1)]).bit SYS_BLKISO 16 = true
    ∧ (put stamping [(⟨SYS_BLKISO, 16, 16⟩, 1)]).blockRuns 15 = true
    ∧ (let s := put ((sending 60).setMode HALT) [(HALT_CAUSE, 1)]
       s.faultHalt = true ∧ s.blockRuns 16 = true ∧ s.qUsable 40 = true ∧ s.qFill 40 ≠ 0 ∧ s.sys.eccUe = []) := by decide +kernel

/-- The service port's frame of a command, from the address of etherFrame to the one that follows. -/
def portEther (b : List Byte) : List Byte :=
  [0, 0x22, 0x44, 0x66, 0x88, 0xAA] ++ [0, 0x11, 0x22, 0x33, 0x44, 0x55] ++ [0x88, 0xB6] ++ b
/-- A module that has the address to which portEther goes. -/
def addressed (s : State) : State :=
  { s with regs := s.regs.filter (fun e => decide (e.1 < 0x20500008)) ++ [(0x20500008, 0x66442200), (0x2050000C, 0xAA88)]
             ++ s.regs.filter (fun e => decide (0x2050000C < e.1)) }

theorem wit_CopeSessions_frames : (addressed (coping STOP false)).portBody (portEther (portFrame 0x10 0 [])) = some (portFrame 0x10 0 [])
    ∧ (addressed (coping STOP false)).portBody (etherFrame 0x88B6 (portFrame 0x10 0 [])) = none
    ∧ (addressed (coping STOP false)).portBody (portEther (portFrame 0x10 0 []) ++ List.replicate 18 0) = some (portFrame 0x10 0 []) := by
  decide +kernel

/-- A request that bears the own station ID, from an address that is not the own one. -/
theorem wit_PourlineServices_duplicate : (let s := addressed (served STOP [])
      s.blockRuns 16 = true ∧ s.hasSec SEC_NETWORK = true ∧ (request 5 []).sender.toNat = s.stationId ∧ s.partnerMac = 0)
    ∧ (request 5 []).mac.toNat ≠ leVal (addressed (served STOP [])).macBytes
    ∧ (request 7 []).sender.toNat ≠ (served STOP []).stationId := by
  decide +kernel

theorem wit_PourlineServices_passed : (∀ k ∈ [(3, 6), (4, 0)], svcKnown k.1 = true ∧ subKnown k.1 k.2 = false)
    ∧ (let s := served STOP []
       s.svcEng (request 7 []) = true ∧ s.fld COPE_STATE = 1 ∧ s.takesRequests = true ∧ s.isStandby = false)
    ∧ (served STOP []).svcEng (request 3 []) = false := by decide +kernel

theorem wit_IdleStepIsOneMicrosecond : on.net.dupTab = [] ∧ on.net.wait = [] ∧ on.redMode = 0 ∧ on.hasSec SEC_TIME = false
    ∧ (∀ n, n < 4 → on.canTimed n = false) := by decide +kernel

/-- Every initiator may issue transactions in the states above that the statements on accesses name. -/
theorem wit_mayIssue : ∀ who ∈ [Initiator.ap0, .ap1, .cope, .saf, .pour, .cru, .ldl, .pln, .can, .evr, .save, .runner, .pmc, .mgd],
    ∀ s ∈ [on, inMode STOP, inMode RUN, inMode SAFE, inMode HALT, ring on 60 0x700000 0x44 16 0, drainingOff.setMode RUN, pouring RUN,
      put (pouring RUN) [(TSTATE 31, 3)], checking, ring on 59 0x700000 4 0xFFFFFFFF 0xFFFFFFFF, looping true, celled M_AO_I STOP,
      standby [], syncedStandby [], primary, timed G_LOCKED true [], canned 1 C_NORMAL [] CanBuf.reset, ladled 2 0 0 [] none,
      put on [(PMC_RUNNING, 1)], recording, reading 3, put (inMode STOP) [(COPE_STATE, 3)], inMode NONE, put (inMode STOP) [(DL_STATE, 1)],
      ring on 59 0x700000 5 0xFFFFFFFF 0xFFFFFFFF, standby [(TSTATE 3, 1)], canBusy CanBuf.reset, ladled 1 1 0x702000 [] none,
      on.setRegN PMC_ACCESS 0x1FFFF, posted 24 0x170,
      checkingPrimary SS_SYNCED, standby [(RUN_CHECKING, 1)], crammed], s.mayIssue who = true := by decide +kernel

end Sys2Proof.Tests
end

section
/-! PROOF. Numbers in bytes of memory (R8), and the two forms of a Marigold time (R9 to R11). -/

namespace Sys2Proof.Machine

@[simp] theorem leBytes_length (n v : Nat) : (leBytes n v).length = n := by
  induction n generalizing v with
  | zero => rfl
  | succ n ih => simp [leBytes, ih]

/-- The bytes of a number, lowest first, spell the number modulo their range. -/
theorem leVal_leBytes (n v : Nat) : leVal (leBytes n v) = v % 256 ^ n := by
  induction n generalizing v with
  | zero => simp [leBytes, leVal, Nat.mod_one]
  | succ n ih =>
    have low : (BitVec.ofNat 8 v).toNat = v % 256 := BitVec.toNat_ofNat v 8
    rw [leBytes, leVal, ih, low, Nat.pow_succ', Nat.mod_mul]

/-- A word's four bytes spell the word. -/
theorem ofNat_leVal_leBytes (v : Word) : BitVec.ofNat 32 (leVal (leBytes 4 v.toNat)) = v := by
  rw [leVal_leBytes, Nat.mod_eq_of_lt (b := 256 ^ 4) v.isLt, BitVec.ofNat_toNat, BitVec.setWidth_eq]

/-- A number's bytes inside other bytes are a field that reads as the number. -/
theorem fieldAt_leBytes (pre post : List Byte) (n v : Nat) :
    fieldAt (pre ++ leBytes n v ++ post) pre.length n = v % 256 ^ n := by
  simp [fieldAt, slice, List.append_assoc, leVal_leBytes]

/-- Bytes read back as they were written. -/
theorem State.mread_mput_same (s : State) (a : Nat) (bs : List Byte) : (s.mput a bs).mread a bs.length = bs := by
  refine List.ext_getElem (by simp [State.mread]) fun i _ hi => ?_
  simp [State.mread, s.mget_mput_in (Nat.le_add_right a i) (Nat.add_lt_add_left hi a)]

theorem signedOf_of_lt {m : Nat} (h : m < 2 ^ 31) : signedOf 32 m = m := by
  have e : m % 2 ^ 32 = m := Nat.mod_eq_of_lt (by omega)
  simp only [signedOf, e]
  exact if_pos (by omega)

theorem signedOf_of_ge {m : Nat} (lo : 2 ^ 31 ≤ m) (hi : m < 2 ^ 32) : signedOf 32 m = (m : Int) - 2 ^ 32 := by
  have e : m % 2 ^ 32 = m := Nat.mod_eq_of_lt hi
  simp only [signedOf, e]
  exact if_neg (by omega)

/-- The fields of a stored ts80 (R9): seconds in six bytes, a zero halfword, nanoseconds in four bytes. -/
theorem ts80Bytes_fields (t : Nat) :
    fieldAt (ts80Bytes t) 0 4 = t / NS % 2 ^ 32 ∧ fieldAt (ts80Bytes t) 4 2 = t / NS / 2 ^ 32 % 2 ^ 16
      ∧ fieldAt (ts80Bytes t) 6 2 = 0 ∧ fieldAt (ts80Bytes t) 8 4 = t % NS := by
  have secLo := fieldAt_leBytes [] (leBytes 2 (t / NS / 2 ^ 32) ++ leBytes 2 0 ++ leBytes 4 (t % NS)) 4 (t / NS % 2 ^ 32)
  have secHi := fieldAt_leBytes (leBytes 4 (t / NS % 2 ^ 32)) (leBytes 2 0 ++ leBytes 4 (t % NS)) 2 (t / NS / 2 ^ 32)
  have zero := fieldAt_leBytes (leBytes 4 (t / NS % 2 ^ 32) ++ leBytes 2 (t / NS / 2 ^ 32)) (leBytes 4 (t % NS)) 2 0
  have ns := fieldAt_leBytes (leBytes 4 (t / NS % 2 ^ 32) ++ leBytes 2 (t / NS / 2 ^ 32) ++ leBytes 2 0) [] 4 (t % NS)
  have lo : t / NS % 2 ^ 32 % 256 ^ 4 = t / NS % 2 ^ 32 := Nat.mod_mod (t / NS) (2 ^ 32)
  have nanos : t % NS % 256 ^ 4 = t % NS := Nat.mod_eq_of_lt (Nat.lt_trans (Nat.mod_lt t (by decide : 0 < NS)) (by decide))
  rw [List.append_nil] at ns
  exact ⟨secLo.trans lo, secHi, zero, ns.trans nanos⟩

end Sys2Proof.Machine

open Sys2Proof.Machine

/-- Settles O10: the bytes laid down read back, and `leVal` inverts `leBytes`. -/
theorem memoryIsLittleEndian : Obligations.MemoryIsLittleEndian := by
  intro s a n v
  refine ⟨?_, fun b hb => s.mget_mput_out (by simpa using hb), s.reg_mput a _⟩
  have h := s.mread_mput_same a (leBytes n v)
  rw [leBytes_length] at h
  rw [State.mnat, h, leVal_leBytes]

/-- Settles O11: a register is its fields, bit by bit. -/
theorem fieldsAreIndependent : Obligations.FieldsAreIndependent := fun s f v hf _ =>
  ⟨s.fld_setFld_same f v hf, fun g d => s.fld_setFld_other f g v hf d, fun _ h => s.reg_setFld_ne h⟩

/-- Settles O12: the difference modulo 2^32, read as signed, is the difference itself inside the window. -/
theorem ts32Extends : Obligations.Ts32Extends := by
  intro ref t hlo hhi
  rcases Nat.lt_or_ge t ref with before | after
  · have diff : (ts32Of t + 2 ^ 32 - ref % 2 ^ 32) % 2 ^ 32 = t + 2 ^ 32 - ref := by rw [ts32Of]; omega
    rw [extendTs32, diff, signedOf_of_ge (by omega) (by omega)]
    omega
  · have diff : (ts32Of t + 2 ^ 32 - ref % 2 ^ 32) % 2 ^ 32 = t - ref := by rw [ts32Of]; omega
    rw [extendTs32, diff, signedOf_of_lt (by omega)]
    omega

/-- Settles O13: each field reads as it was laid, and seconds below 2^48 fit their six bytes. -/
theorem ts80RoundTrip : Obligations.Ts80RoundTrip := by
  intro t ht
  obtain ⟨secLo, secHi, zero, ns⟩ := ts80Bytes_fields t
  have seconds : t / NS < 2 ^ 48 := Nat.div_lt_of_lt_mul (Nat.mul_comm _ NS ▸ ht)
  have whole : t / NS % 2 ^ 32 + 2 ^ 32 * (t / NS / 2 ^ 32 % 2 ^ 16) = t / NS := by
    generalize t / NS = q at seconds ⊢
    omega
  refine ⟨by simp [ts80Bytes], zero, ns ▸ Nat.mod_lt t (by decide), ?_⟩
  rw [ts80Val, secLo, secHi, ns, whole, Nat.div_add_mod]
end

section
/-! PROOF. Frames, and what a transaction on the fabric leaves alone (R29, R30, R435). -/

namespace Sys2Proof.Machine

open Sys2Proof.Laws

/-! ### Frames -/

theorem Frame.of_eq {R M : Nat → Prop} {s t : State} (hr : t.regs = s.regs) (hm : t.mem = s.mem) : Frame R M s t :=
  ⟨fun a _ => State.reg_congr hr a, fun a _ => State.mget_congr hm a⟩

theorem Frame.trans {R M : Nat → Prop} {s t u : State} (h : Frame R M s t) (k : Frame R M t u) : Frame R M s u :=
  ⟨fun a ha => (k.regs a ha).trans (h.regs a ha), fun a ha => (k.mem a ha).trans (h.mem a ha)⟩

/-- What leaves registers and memory as they are keeps a frame. -/
theorem Frame.congr {R M : Nat → Prop} {s t u : State} (h : Frame R M s t) (hr : u.regs = t.regs) (hm : u.mem = t.mem) :
    Frame R M s u := h.trans (Frame.of_eq hr hm)

theorem Frame.mono {R R' M : Nat → Prop} {s t : State} (h : Frame R M s t) (hR : ∀ a, R a → R' a) : Frame R' M s t :=
  ⟨fun a ha => h.regs a (mt (hR a) ha), h.mem⟩

/-- A field outside the frame's registers is kept. -/
theorem Frame.fld {R M : Nat → Prop} {s t : State} (h : Frame R M s t) (f : Fld) (hf : ¬ R f.addr) : t.fld f = s.fld f := by
  simp [State.fld, State.regN, h.regs _ hf]

theorem State.setReg_frame {R M : Nat → Prop} (s : State) {a : Nat} (v : Word) (h : R a) : Frame R M s (s.setReg a v) :=
  ⟨fun _ hb => s.reg_setReg_ne v fun e => hb (e ▸ h), fun _ _ => rfl⟩

/-! ### Counting -/

/-- `t` is `s` after counting: only the collector differs, and of the registers those of `R`. -/
structure Counted (R : Nat → Prop) (s t : State) : Prop where
  only : t = { s with pmc := t.pmc, regs := t.regs }
  frame : Frame R (fun _ => False) s t

theorem Counted.trans {R : Nat → Prop} {s t u : State} (h : Counted R s t) (k : Counted R t u) : Counted R s u :=
  ⟨k.only.trans (by rw [h.only]), h.frame.trans k.frame⟩

theorem Counted.mono {R R' : Nat → Prop} {s t : State} (h : Counted R s t) (hR : ∀ a, R a → R' a) : Counted R' s t :=
  ⟨h.only, h.frame.mono hR⟩

theorem Counted.of_pmc {R : Nat → Prop} {s : State} {p : Pmc} : Counted R s { s with pmc := p } :=
  ⟨rfl, Frame.of_eq rfl rfl⟩

theorem State.pmcAdd_counted {R : Nat → Prop} (s : State) {n : Nat} (k : Nat) (h : R (pmcSel n)) :
    Counted R s (s.pmcAdd n k) := by
  simp only [State.pmcAdd]
  split
  · exact Counted.of_pmc
  · exact Counted.of_pmc.trans ⟨rfl, State.setReg_frame _ _ h⟩

/-- The selection words of the eight counters of group `g`; group 16, which counts nothing, has words behind the last
PMC_CnSEL. -/
def GroupSel (g r : Nat) : Prop := pmcSel (8 * g) ≤ r ∧ r < pmcSel (8 * g + 8)

theorem GroupSel.countSel {g r : Nat} (hg : g < 16) (h : GroupSel g r) : CountSel r := by
  simp only [GroupSel, CountSel, pmcSel] at *
  omega

theorem State.pmcCount_counted (s : State) (g ev m k : Nat) : Counted (GroupSel g) s (s.pmcCount g ev m k) := by
  unfold State.pmcCount
  split
  · refine List.foldlRecOn _ _ (Counted.of_pmc (p := s.pmc)) fun t ht i hi => ?_
    have hi : i < 8 := List.mem_range.1 hi
    dsimp only
    split
    · exact ht.trans (t.pmcAdd_counted k (by simp only [GroupSel, pmcSel]; omega))
    · exact ht
  · exact Counted.of_pmc (p := s.pmc)

theorem State.pmcBytes_counted {R : Nat → Prop} (s : State) (p r w : Nat) (hi : Bool) :
    Counted R s (s.pmcBytes p r w hi) := by
  simp only [State.pmcBytes]
  split
  · exact Counted.of_pmc
  · exact Counted.of_pmc (p := s.pmc)

theorem windowGroup_lt {a g u : Nat} (h : windowGroup a = some (g, u)) : g < 16 := by
  simp only [windowGroup] at h
  grind

/-- A register access that is served changes nothing but counts (R435, R437). -/
theorem State.served_counted (s : State) (who : Initiator) (a : Nat) (write : Bool) :
    Counted CountSel s (s.served who a write) := by
  simp only [State.served]
  split
  · next g u h =>
    exact (s.pmcBytes_counted ..).trans ((State.pmcCount_counted ..).mono fun _ => GroupSel.countSel (windowGroup_lt h))
  · exact s.pmcBytes_counted ..

/-! ### A transaction of an initiator -/

/-- The selection words that a transaction of `who` may write: the OVF of a PMC_CnSEL, and the words of its own group. -/
def TrafficSel (who : Initiator) (r : Nat) : Prop := CountSel r ∨ GroupSel (issuerOf who).grp r

/-- An initiator with a counter group writes no other selections than those of counters. -/
theorem TrafficSel.countSel {who : Initiator} {r : Nat} (hw : (issuerOf who).grp < 16) (h : TrafficSel who r) : CountSel r :=
  h.elim id (GroupSel.countSel hw)

/-- No transaction writes a register outside the collector's window. -/
theorem not_trafficSel {who : Initiator} {r : Nat} (h : r < 0x20900800 ∨ 0x20900A20 ≤ r) : ¬ TrafficSel who r := by
  have hg : (issuerOf who).grp ≤ 16 := by cases who <;> decide
  simp only [TrafficSel, CountSel, GroupSel, pmcSel]
  omega

/-- The promotion of a port of class 2 or 3 is used up (R30). -/
def State.usePromotion (s : State) (i : Issuer) : State :=
  { s with sys := { s.sys with
      promoted := if 2 ≤ i.cls then s.sys.promoted.filter (· != i.port) else s.sys.promoted } }

theorem State.usePromotion_eq_ite (s : State) (i : Issuer) :
    s.usePromotion i = if s.promotedFor i then
      { s with sys := { s.sys with promoted := s.sys.promoted.filter (· != i.port) } } else s := by
  by_cases hc : 2 ≤ i.cls
  · by_cases hp : i.port ∈ s.sys.promoted
    · simp [State.usePromotion, State.promotedFor, hc, hp]
    · have hf : s.sys.promoted.filter (· != i.port) = s.sys.promoted := by
        rw [List.filter_eq_self]
        rintro _ ha
        exact bne_iff_ne.2 (ne_of_mem_of_not_mem ha hp)
      simp [State.usePromotion, State.promotedFor, hc, hp, hf]
  · simp [State.usePromotion, State.promotedFor, hc]

/-- A grant uses a promotion and counts (R30, R435). -/
theorem State.granted_counted (s : State) (who : Initiator) :
    Counted (TrafficSel who) (s.usePromotion (issuerOf who)) (s.granted who) := by
  simp only [State.granted, State.grant, ← State.usePromotion_eq_ite]
  exact ((State.pmcCount_counted ..).mono fun _ h => .inl (h.countSel (by decide))).trans
    ((State.pmcCount_counted ..).mono fun _ => .inr)

end Sys2Proof.Machine
end

section
/-! PROOF. How the bus answers (R4, R5, R32), and the two statements that fail for initiators without a counter group. -/

namespace Sys2Proof.Machine

theorem State.issue_of_mayIssue {s : State} {who : Initiator} (h : s.mayIssue who = true) (n : Nat) (f : State → State) :
    s.issue who n f = f s := by
  simp only [State.mayIssue, Bool.and_eq_true, Bool.not_eq_true'] at h
  simp [State.issue, h.1, h.2]

theorem State.whileUp_of_up {s : State} (h : s.up = true) (f : State → State) : s.whileUp f = f s := if_pos h

/-- An access to an address that nothing answers is granted and ends in a slave error (R32). -/
theorem State.access_unmapped {s : State} {who : Initiator} {a n : Nat} {wr : Option (List Byte)} (priv : Bool) (e : Ecc)
    (hmay : s.mayIssue who = true) (hw : windowOf a = none) (hm : memKind a = none) (hn : n ≠ 0) :
    s.access who priv a n wr e = (s.unpair.granted who).busErr (if wr.isSome then 0 else n) := by
  rw [State.access, if_neg hn, State.issue_of_mayIssue hmay]
  cases wr <;> simp [hw, State.readFrom, State.writeTo, State.memDenied, hm]

/-- An access of other than four bytes to a register window is granted and ends in a slave error (R4). -/
theorem State.access_subword {s : State} {who : Initiator} {a n : Nat} {wr : Option (List Byte)} (priv : Bool) (e : Ecc)
    (hmay : s.mayIssue who = true) (hw : (windowOf a).isSome = true) (hn : n ≠ 0) (h4 : n ≠ 4)
    (hl : ∀ bs ∈ wr, bs.length = n) :
    s.access who priv a n wr e = ((s.granted who).busErr (if wr.isSome then 0 else n)).unpair := by
  rw [State.access, if_neg hn, State.issue_of_mayIssue hmay]
  cases wr with
  | none => simp [hw, h4]
  | some bs => simp [hw, hl bs rfl, h4]

/-- A word written to a register window is granted and acts as the window's write. -/
theorem State.access_word {s : State} {who : Initiator} {a : Nat} (priv : Bool) (v : Word) (e : Ecc)
    (hmay : s.mayIssue who = true) (hw : (windowOf a).isSome = true) :
    s.access who priv a 4 (some (leBytes 4 v.toNat)) e = (s.granted who).regWrite who priv a v := by
  rw [State.access, if_neg (by decide), State.issue_of_mayIssue hmay]
  simp only [hw, if_true, leBytes_length, ofNat_leVal_leBytes]

theorem State.granted_frame (s : State) (who : Initiator) : Frame (TrafficSel who) (fun _ => False) s (s.granted who) :=
  (Frame.of_eq rfl rfl : Frame _ _ s (s.usePromotion (issuerOf who))).trans (s.granted_counted who).frame

/-- A granted request that ends in a slave error changes no register but selection words, and no memory. -/
theorem State.granted_busErr_frame (s : State) (who : Initiator) (n : Nat) :
    Frame (TrafficSel who) (fun _ => False) s ((s.unpair.granted who).busErr n) :=
  (((Frame.of_eq rfl rfl : Frame _ _ s s.unpair).trans (s.unpair.granted_frame who)).congr rfl rfl)

/-- O14 for a byte or halfword access, with the selection words of the initiator's own group in the frame. -/
theorem subWordAccess_errs (s : State) (who : Initiator) (half : Bool) (write : Option (BitVec 16)) (addr : BitVec 36)
    (hup : s.up = true) (hmay : s.mayIssue who = true) (hw : (windowOf addr.toNat).isSome = true) :
    ∃ t, exec (.subWordAccess who half write addr) s = .next t
      ∧ t.bus = ⟨if write.isSome then [] else List.replicate (if half then 2 else 1) 0, true⟩
      ∧ t.cru = { s.cru with liPair := none }
      ∧ t.sys = (s.usePromotion (issuerOf who)).sys
      ∧ Frame (TrafficSel who) (fun _ => False) s t := by
  have act := State.access_subword (n := if half then 2 else 1)
    (wr := write.map fun v => leBytes (if half then 2 else 1) v.toNat) false .none hmay hw
    (by cases half <;> decide) (by cases half <;> decide) (by simp [Option.mem_def])
  have counts := s.granted_counted who
  refine ⟨_, congrArg Host.Outcome.next ((State.whileUp_of_up hup _).trans act), ?_, ?_, ?_, ?_⟩
  · cases write <;> simp
  · change ({ (s.granted who).cru with liPair := none } : Cru) = _
    rw [counts.only]
    rfl
  · change (s.granted who).sys = _
    rw [counts.only]
  · exact (s.granted_frame who).congr rfl rfl

/-- O14's read of an unmapped address (R32). -/
theorem memoryAccess_read_unmapped {s : State} {who : Initiator} {a : BitVec 36} (priv : Bool) (e : Ecc) (hup : s.up = true)
    (hmay : s.mayIssue who = true) (hw : windowOf a.toNat = none) (hm : memKind a.toNat = none) {n : Nat} (hn : 1 ≤ n) :
    exec (.memoryAccess who priv a (.read n) e) s = .next ((s.unpair.granted who).busErr n) :=
  congrArg Host.Outcome.next
    ((State.whileUp_of_up hup _).trans (State.access_unmapped priv e hmay hw hm (Nat.ne_zero_of_lt hn)))

/-- O14's write to an unmapped address (R32). -/
theorem memoryAccess_write_unmapped {s : State} {who : Initiator} {a : BitVec 36} (priv : Bool) (e : Ecc) (hup : s.up = true)
    (hmay : s.mayIssue who = true) (hw : windowOf a.toNat = none) (hm : memKind a.toNat = none) {bs : List Byte}
    (hn : 1 ≤ bs.length) :
    exec (.memoryAccess who priv a (.write bs) e) s = .next ((s.unpair.granted who).busErr 0) :=
  congrArg Host.Outcome.next
    ((State.whileUp_of_up hup _).trans (State.access_unmapped priv e hmay hw hm (Nat.ne_zero_of_lt hn)))

theorem State.winShut_frame {R M : Nat → Prop} {s t : State} (h : Frame R M s t) (rgn : ¬ R 0x20000020)
    (pd : ¬ R 0x20000044) (w : BusWin) (a : Nat) : t.winShut w a = s.winShut w a := by
  have region (r : Nat) : t.fld (RGNSTAT r) = s.fld (RGNSTAT r) := h.fld _ rgn
  have domain (d : Nat) : t.fld (PDST d) = s.fld (PDST d) := h.fld _ pd
  simp only [State.winShut, State.domainShut, State.domain, region, domain]

theorem State.winShut_granted (s : State) (who : Initiator) (w : BusWin) (a : Nat) :
    (s.granted who).unpair.winShut w a = s.winShut w a :=
  State.winShut_frame ((s.granted_frame who).congr rfl rfl) (not_trafficSel (by decide))
    (not_trafficSel (by decide)) w a

/-- The state in which a window that answers takes the write: granted, its domain awake, served. -/
def State.answered (s : State) (who : Initiator) (a : Nat) : State :=
  (((s.granted who).unpair.wakeFor a).served who a true).busOk []

section
variable {s : State} {who : Initiator} (priv : Bool) (v : Word)

/-- A word written to a window: REGISTER_WRITE is a grant and the window's answer. -/
theorem registerWrite_granted {a : BitVec 36} (hup : s.up = true) (hmay : s.mayIssue who = true)
    (hw : (windowOf a.toNat).isSome = true) :
    exec (.registerWrite who priv a v) s = .next ((s.granted who).regWrite who priv a.toNat v) :=
  congrArg Host.Outcome.next ((State.whileUp_of_up hup _).trans (State.access_word priv v .none hmay hw))

theorem registerWrite_answered {a : BitVec 36} {w : BusWin} (hup : s.up = true) (hmay : s.mayIssue who = true)
    (hw : windowOf a.toNat = some w) (ha : a.toNat % 4 = 0) (hs : s.winShut w a.toNat = false) :
    exec (.registerWrite who priv a v) s = .next ((s.answered who a.toNat).winWrite w who priv a.toNat v) := by
  rw [registerWrite_granted priv v hup hmay (Option.isSome_of_eq_some hw)]
  simp [State.regWrite, hw, ha, State.winShut_granted, hs, State.answered]

/-- A write that is not aligned, or to a window that does not answer, is granted and ends in a slave error. -/
theorem registerWrite_barred {a : BitVec 36} {w : BusWin} (hup : s.up = true) (hmay : s.mayIssue who = true)
    (hw : windowOf a.toNat = some w) (h : a.toNat % 4 ≠ 0 ∨ s.winShut w a.toNat = true) :
    exec (.registerWrite who priv a v) s = .next ((s.granted who).unpair.busErr 0) := by
  rw [registerWrite_granted priv v hup hmay (Option.isSome_of_eq_some hw)]
  simp only [State.regWrite, hw, State.winShut_granted]
  exact congrArg Host.Outcome.next (if_pos (by simpa using h))

theorem registerWrite_unmapped {a : BitVec 36} (hup : s.up = true) (hmay : s.mayIssue who = true)
    (hw : windowOf a.toNat = none) (hm : memKind a.toNat = none) :
    exec (.registerWrite who priv a v) s = .next ((s.unpair.granted who).busErr 0) :=
  congrArg Host.Outcome.next ((State.whileUp_of_up hup _).trans (State.access_unmapped priv .none hmay hw hm (by decide)))

end

/-- The answer of a window whose block lies in no domain that can be shut. -/
theorem State.answered_frame (s : State) (who : Initiator) {a : Nat} (hd : domainOf a = none) :
    Frame (TrafficSel who) (fun _ => False) s (s.answered who a) := by
  have woken : (s.granted who).unpair.wakeFor a = (s.granted who).unpair := by simp [State.wakeFor, hd]
  have served := ((s.granted who).unpair.served_counted who a true).frame.mono (R' := TrafficSel who) fun _ => .inl
  rw [State.answered, woken]
  exact (((s.granted_frame who).congr (u := (s.granted who).unpair) rfl rfl).trans served).congr rfl rfl

theorem windowOf_sys {a : Nat} (h1 : 0x20000000 ≤ a) (h2 : a < 0x20010000) : windowOf a = some .sys := by
  have hw : (a - 0x20000000) / 0x10000 = 0 := by omega
  simp only [windowOf, hw]
  rw [if_neg (by omega)]
  rfl

theorem domainOf_sys {a : Nat} (h1 : 0x20000000 ≤ a) (h2 : a < 0x20010000) : domainOf a = none := by
  rw [domainOf, if_neg, if_neg, if_neg, if_neg, if_neg] <;> omega

/-- A write to an aligned address of the SYS window acts on a state that has answered and otherwise only counted. -/
theorem registerWrite_sys {s : State} {who : Initiator} (priv : Bool) (v : Word) {a : Nat} (hup : s.up = true)
    (hmay : s.mayIssue who = true) (h1 : 0x20000000 ≤ a) (h2 : a < 0x20010000) (h4 : a % 4 = 0) :
    ∃ u, exec (.registerWrite who priv (BitVec.ofNat 36 a) v) s = .next (u.sysWrite who (a % 0x10000) a v)
      ∧ u.bus = ⟨[], false⟩ ∧ Frame (TrafficSel who) (fun _ => False) s u := by
  have ha : (BitVec.ofNat 36 a).toNat = a := Nat.mod_eq_of_lt (by omega)
  have hs : s.winShut .sys a = false := by simp [State.winShut, winRegion, domainOf_sys h1 h2]
  have act := registerWrite_answered (a := BitVec.ofNat 36 a) priv v hup hmay (ha.symm ▸ windowOf_sys h1 h2) (ha.symm ▸ h4)
    (ha.symm ▸ hs)
  rw [ha] at act
  exact ⟨_, act, rfl, s.answered_frame who (domainOf_sys h1 h2)⟩

/-- O15's W1C register, SYS_RGNFLT. -/
theorem registerWrite_w1c {s : State} {who : Initiator} (priv : Bool) (v : Word) (hup : s.up = true)
    (hmay : s.mayIssue who = true) :
    ∃ t, exec (.registerWrite who priv 0x20000024 v) s = .next t ∧ t.bus = ⟨[], false⟩
      ∧ t.reg 0x20000024 = s.reg 0x20000024 &&& ~~~(v &&& 0x1F)
      ∧ Frame (fun a => a = 0x20000024 ∨ TrafficSel who a) (fun _ => False) s t := by
  obtain ⟨u, act, bus, frame⟩ := registerWrite_sys priv v hup hmay (a := 0x20000024) (by decide) (by decide) (by decide)
  refine ⟨_, act, bus, ?_, ?_⟩
  · rw [← frame.regs _ (not_trafficSel (by decide))]
    exact u.reg_setReg_same _ _
  · exact (frame.mono fun _ => .inr).trans (u.setReg_frame _ (.inl rfl))

theorem State.sysWrite_qCfg (u : State) (who : Initiator) {q : Nat} (hq : q < 64) (v : Word) :
    u.sysWrite who (qreg q 8 % 0x10000) (qreg q 8) v = u.rwl (qreg q 8) 0x8000007F v := by
  have ho : qreg q 8 % 0x10000 = 0x1000 + q * 0x20 + 8 := by simp only [qreg]; omega
  have hn : (0x1000 + q * 0x20 + 8) % 0x20 = 8 := by omega
  unfold State.sysWrite
  rw [ho, if_pos (by omega)]
  simp only [State.queueWrite, hn]

/-- O15's RWL registers, SYS_QnCFG. -/
theorem registerWrite_qCfg {s : State} {who : Initiator} (priv : Bool) (v : Word) (hup : s.up = true)
    (hmay : s.mayIssue who = true) {q : Nat} (hq : q < 64) :
    ∃ t, exec (.registerWrite who priv (BitVec.ofNat 36 (qreg q 8)) v) s = .next t ∧ t.bus = ⟨[], false⟩
      ∧ t.reg (qreg q 8) = (if s.mode = STOP
          then (s.reg (qreg q 8) &&& ~~~0x8000007F) ||| (v &&& 0x8000007F) else s.reg (qreg q 8))
      ∧ Frame (fun a => a = qreg q 8 ∨ TrafficSel who a) (fun _ => False) s t := by
  obtain ⟨lo, hi, aligned⟩ : 0x20001000 ≤ qreg q 8 ∧ qreg q 8 < 0x20001800 ∧ qreg q 8 % 4 = 0 := by
    simp only [qreg]; omega
  obtain ⟨u, act, bus, frame⟩ := registerWrite_sys priv v hup hmay (a := qreg q 8) (by omega) (by omega) aligned
  have reg : u.reg (qreg q 8) = s.reg (qreg q 8) := frame.regs _ (not_trafficSel (by omega))
  have mode : u.mode = s.mode := frame.fld RUNSTAT_MODE (not_trafficSel (by decide))
  have frame' : Frame (fun a => a = qreg q 8 ∨ TrafficSel who a) (fun _ => False) s u := frame.mono fun _ => .inr
  refine ⟨_, act, ?_⟩
  rw [State.sysWrite_qCfg _ _ hq, State.rwl, mode]
  split
  · exact ⟨bus, (u.reg_setReg_same _ _).trans (by rw [reg]; rfl), frame'.trans (u.setReg_frame _ (.inl rfl))⟩
  · exact ⟨bus, reg, frame'⟩

/-- O15's RO and RS registers of the SYS window. -/
theorem registerWrite_readOnly {s : State} {who : Initiator} (priv : Bool) (v : Word) (hup : s.up = true)
    (hmay : s.mayIssue who = true) {a : BitVec 36}
    (ha : a ∈ [0x20000000, 0x20000014, 0x20000020, 0x20000028, 0x20000030, 0x20000034, 0x20000044]) :
    ∃ t, exec (.registerWrite who priv a v) s = .next t ∧ t.bus = ⟨[], false⟩
      ∧ Frame (TrafficSel who) (fun _ => False) s t := by
  simp only [List.mem_cons, List.not_mem_nil, or_false] at ha
  rcases ha with rfl | rfl | rfl | rfl | rfl | rfl | rfl <;>
    exact registerWrite_sys priv v hup hmay (by decide) (by decide) (by decide)

theorem State.pmcWrite_access (u : State) {who : Initiator} (hwho : who ∈ [Initiator.ap0, .ap1, .cope]) (v : Word)
    (hiso : u.pmcIsolated = false) :
    u.pmcWrite who true 0xC v.toNat = { u.setReg PMC_ACCESS (v &&& 0x1FFFF) with bus := ⟨[], false⟩ } := by
  have value : BitVec.ofNat 32 (v.toNat % 2 ^ 17) = v &&& 0x1FFFF := by
    refine BitVec.eq_of_toNat_eq ?_
    rw [BitVec.toNat_and, ← Nat.and_two_pow_sub_one_eq_mod]
    simp
  have stage : u.pmcStage 0xC v.toNat = u.setReg PMC_ACCESS (v &&& 0x1FFFF) := by
    rw [← value]; rfl
  simp only [List.mem_cons, List.not_mem_nil, or_false] at hwho
  rcases hwho with rfl | rfl | rfl <;> simp [State.pmcWrite, hiso, stage]

/-- O15's RW register, PMC_ACCESS. -/
theorem registerWrite_pmcAccess {s : State} {who : Initiator} (v : Word) (hup : s.up = true)
    (hmay : s.mayIssue who = true) (hwho : who ∈ [Initiator.ap0, .ap1, .cope]) (hiso : s.pmcIsolated = false) :
    ∃ t, exec (.registerWrite who true 0x2090000C v) s = .next t ∧ t.bus = ⟨[], false⟩
      ∧ t.reg 0x2090000C = v &&& 0x1FFFF ∧ Frame (fun a => a = 0x2090000C ∨ TrafficSel who a) (fun _ => False) s t := by
  have domain : domainOf 0x2090000C = none := by decide
  have act := registerWrite_answered (a := 0x2090000C) (w := .pmc) true v hup hmay (by decide) (by decide)
    (by simp [State.winShut, winRegion, domain])
  have frame := s.answered_frame who domain
  have iso : (s.answered who 0x2090000C).pmcIsolated = false := by
    rwa [State.pmcIsolated, State.bit, State.regN, frame.regs 0x20000028 (not_trafficSel (by decide))]
  refine ⟨_, act.trans (congrArg _ (State.pmcWrite_access _ hwho v iso)), rfl, State.reg_setReg_same _ _ _, ?_⟩
  exact ((frame.mono fun _ => .inr).trans (State.setReg_frame _ _ (.inl rfl))).congr rfl rfl

/-! ### The initiators without a counter group -/

/-- A module that is on, its collector running. The word behind the last PMC_CnSEL, which no register table lists, holds
what in a PMC_CnSEL selects event 0x02; the count that the model keeps for it is at its largest value. -/
def strayCount : State :=
  { State.reset with
    pwr := { Pwr.reset with on := true }
    regs := [(0x20900000, 1), (0x20900A00, 2)]
    pmc := { Pmc.reset with cnt := [(128, 2 ^ 48 - 1)] } }

/-- What both statements suppose: the module runs, the safety processor may issue, and nothing answers at 0x800000. -/
theorem strayCount_unmapped : strayCount.up = true ∧ strayCount.mayIssue .saf = true
    ∧ windowOf (0x800000 : BitVec 36).toNat = none ∧ memKind (0x800000 : BitVec 36).toNat = none := by decide +kernel

/-- A request of the safety processor, of group 16, raises the stray count past 2^48, and OVF is set in the stray word. -/
theorem strayCount_granted : strayCount.reg 0x20900A00 = 2
    ∧ (strayCount.unpair.granted .saf).reg 0x20900A00 = 0x10002 := by decide +kernel

/-- The stray word is no counter selection, so no frame of the counter selections holds here. -/
theorem strayCount_not_frame (n : Nat) :
    ¬ Frame CountSel (fun _ => False) strayCount ((strayCount.unpair.granted .saf).busErr n) := by
  intro frame
  have kept : (strayCount.unpair.granted .saf).reg 0x20900A00 = strayCount.reg 0x20900A00 :=
    frame.regs 0x20900A00 fun h => absurd h.2 (by decide)
  rw [strayCount_granted.1, strayCount_granted.2] at kept
  exact absurd kept (by decide)

end Sys2Proof.Machine

open Sys2Proof.Machine

/-- Refutes O14: the safety processor, the cope processor, the save engine and the collector have no counter group
(group 16), and the model looks for the selections of that group in the eight words behind the last PMC_CnSEL. In a state
where the first of these, 0x20900A00, holds 2 and its count is 2^48 - 1, a read of 0x800000 by the safety processor sets
bit 16 of that word, which is no PMC_CnSEL. With those words allowed too (TrafficSel) the clauses hold:
subWordAccess_errs, and memoryAccess_read_unmapped and memoryAccess_write_unmapped with State.granted_busErr_frame. -/
theorem not_failingAccesses : ¬ Obligations.FailingAccesses := by
  rintro ⟨-, unmapped⟩
  obtain ⟨hup, hmay, hw, hm⟩ := strayCount_unmapped
  obtain ⟨t, act, -, frame⟩ := (unmapped strayCount .saf false 0x800000 .none hup hmay hw hm).1 1 (by decide) (by decide)
  rw [memoryAccess_read_unmapped false .none hup hmay hw hm (Nat.le_refl 1)] at act
  injection act with act
  exact strayCount_not_frame 1 (act ▸ frame)

/-- Refutes O15, as O14: a write of the safety processor to 0x800000 sets bit 16 of the word 0x20900A00. The equation for a
window that answers holds (registerWrite_answered); the other clauses hold with the words of TrafficSel in the frame:
registerWrite_w1c, registerWrite_qCfg, registerWrite_readOnly, registerWrite_pmcAccess; registerWrite_barred with
State.granted_frame; registerWrite_unmapped with State.granted_busErr_frame. -/
theorem not_registerWriteFollowsAccessCode : ¬ Obligations.RegisterWriteFollowsAccessCode := by
  intro all
  obtain ⟨hup, hmay, hw, hm⟩ := strayCount_unmapped
  obtain ⟨-, -, -, -, -, unmapped⟩ := all strayCount .saf false 0 hup hmay
  obtain ⟨t, act, -, frame⟩ := unmapped 0x800000 hw hm
  rw [registerWrite_unmapped false 0 hup hmay hw hm] at act
  injection act with act
  exact strayCount_not_frame 0 (act ▸ frame)
end
